-- ==== Sys2Proof/Word.lean ====
section
/-! DEFINITION. Word.lean: the word types of the model. A register is 32 bits (spec/16_register_map.md R385); memories
are bytes; multi-byte fields are little-endian (spec/00_scope.md R5). -/

namespace Sys2Proof

/-- A register word (R385). -/
abbrev Word := BitVec 32

/-- A byte of a memory, a frame or a packet. -/
abbrev Byte := BitVec 8

end Sys2Proof
end

