-- ==== Sys2Proof/Machine/PixTypes.lean ====
section
/-! DEFINITION. Machine/PixTypes.lean: the state of a channel's image path that is no register: the sensor timing
schedule, lanes and SPI port (spec/03_sensor_timing_lanes.md), the lines in flight and the colour alignment buffers
(spec/04_pixel_pipeline.md), the resampler, edge unit and packer (spec/05_resampling_edges_packets.md), and the output
FIFO with its spill engine and dovetail control (spec/09_pacing_fifo_seams.md). -/

namespace Sys2Proof.Machine

/-- Four like things: the channels of a device, the axes of a channel, the DRAM controllers (R7). -/
structure Quad (α : Type) where
  q0 : α
  q1 : α
  q2 : α
  q3 : α
  deriving DecidableEq, Repr

/-- Element n, 0 to 3. -/
def Quad.get {α : Type} (q : Quad α) : Nat → α
  | 0 => q.q0
  | 1 => q.q1
  | 2 => q.q2
  | _ => q.q3

/-- q with element n replaced. -/
def Quad.set {α : Type} (q : Quad α) (n : Nat) (x : α) : Quad α :=
  match n with
  | 0 => { q with q0 := x }
  | 1 => { q with q1 := x }
  | 2 => { q with q2 := x }
  | _ => { q with q3 := x }

/-- Four copies of one thing. -/
def Quad.all {α : Type} (x : α) : Quad α := ⟨x, x, x, x⟩

/-- One run of a lane-map entry (R74). -/
structure LaneRun where
  seg : Nat
  desc : Bool
  colour : Nat
  count : Nat
  first : Nat
  deriving DecidableEq, Repr

/-- One lane-map entry (R74): the sensor lane ID expected and the runs; no run means the lane is not in use. -/
structure LaneMap where
  id : Nat
  runs : List LaneRun
  deriving DecidableEq, Repr

/-- One SPI transaction entry of a schedule (R74). -/
structure SpiTx where
  data : Nat
  expect : Nat
  mask : Nat
  len : Nat
  compare : Bool
  nospoil : Bool
  deriving DecidableEq, Repr

/-- One edge of a schedule (R74): the level driven, the SN_n_CTL pin and the time in ns after t0. -/
structure SnsEdge where
  level : Bool
  pin : Nat
  time : Nat
  deriving DecidableEq, Repr

/-- A sensor timing schedule (R73, R74), read from the bytes of its section. -/
structure Schedule where
  mclk : Nat
  pmin : Nat
  iOpen : Nat
  iClose : Nat
  rdStart : Nat
  rdDur : Nat
  slotStart : Nat
  slotEnd : Nat
  pixels : Nat
  idle : Nat
  lsPin : Nat
  lsActive : Bool
  width : Nat
  segs : Nat
  lanesUsed : Nat
  spares : Nat
  steerWord : Nat
  steerLane : Nat
  steerSpare : Nat
  steerLen : Nat
  offs : List Nat
  edges : List SnsEdge
  inits : List SpiTx
  switches : List SpiTx
  lanes : List LaneMap
  deriving DecidableEq, Repr

/-- The schedule of a channel that has none yet: nothing in use. -/
def Schedule.none : Schedule :=
  { mclk := 0, pmin := 0, iOpen := 0, iClose := 0, rdStart := 0, rdDur := 0, slotStart := 0, slotEnd := 0,
    pixels := 0, idle := 0, lsPin := 0, lsActive := false, width := 12, segs := 0, lanesUsed := 0, spares := 0,
    steerWord := 0, steerLane := 0, steerSpare := 0, steerLen := 0, offs := [0, 0, 0], edges := [], inits := [],
    switches := [], lanes := [] }

/-- Who a transaction of the sensor SPI port belongs to (R79, R91, R92). -/
inductive SpiSrc where
  | init (k : Nat)
  | switchList
  | steer (lane spare : Nat)
  | host
  deriving DecidableEq, Repr

/-- A transaction in progress: the entry, its owner and the trigger in whose slot it is sent (none: sent at once). -/
structure SpiJob where
  tx : SpiTx
  src : SpiSrc
  slotOf : Option Nat
  deriving DecidableEq, Repr

/-- What a trigger latches (R22): the line number, position count, time-stamp and the time of t0. -/
structure TrigInfo where
  line : Nat
  pos : BitVec 64
  ts : BitVec 64
  t0 : Nat
  deriving DecidableEq, Repr

/-- The kind of a trigger and its line (R177, R179, R241). -/
inductive LineKind where
  | normal
  | overlap
  | capture
  deriving DecidableEq, Repr

/-- A trigger before its line start (R77), with its numbers among all triggers and among the alignment slots. -/
structure WaitTrig where
  info : TrigInfo
  kind : LineKind
  trig : Nat
  slot : Nat
  gap : Bool                     -- a gap line (R252)
  lineA : Bool                   -- the activation line A (R252)
  deriving DecidableEq, Repr

/-- A line lost while a trigger waits: its kerf cause, the number of further lost lines just before it that have no data of
their own, and whether it is the activation line A. -/
structure LostTrig where
  info : TrigInfo
  cause : Nat
  extra : Nat
  lineA : Bool
  deriving DecidableEq, Repr

/-- One lane's receiver between trainings: lock, the sensor lane ID and training counter last received, and, of a data lane, what its line
tags are ahead of the count of line starts. -/
structure LanePhy where
  lock : Bool
  id : Option Nat
  ctr : Nat
  arrival : Nat
  skewOk : Bool
  tagOff : Nat
  deriving DecidableEq, Repr

def LanePhy.idle : LanePhy := { lock := false, id := none, ctr := 0, arrival := 0, skewOk := false, tagOff := 0 }

/-- The sensor timing unit of a channel beside its registers. -/
structure SnsSt where
  sched : Schedule               -- the active schedule
  schedBytes : List Byte         -- its section, as SNS_n_SCHED shows it
  hasSched : Bool
  job : Option SpiJob            -- the transaction in progress
  hostWait : Option SpiTx        -- a host transaction waiting for a slot
  steerWait : List (Nat × Nat)   -- (data lane, spare) steers waiting for a slot
  switchWait : List SpiTx        -- switch-list transactions still to send
  slotTrig : Option Nat          -- the trigger whose slot is open
  slotLeft : Nat                 -- ns left of that slot
  slotSteers : Nat               -- steers decided before that slot began and not yet sent (R91)
  lastStart : Option Nat         -- time of the last line start
  prevPmin : Nat                 -- P_min of the schedule of the last line start
  waiting : Option WaitTrig      -- the deferred trigger (R77)
  behind : List LostTrig         -- lines lost while it waits, oldest first
  spoilNext : Nat                -- spoil lines still to mark from the next triggers (R93)
  spoilTrigs : List Nat          -- trigger numbers marked as spoil lines (R79, R91)
  laneFrom : List (Nat × Nat × Nat) -- (data lane, spare, first trigger it is read from the spare)
  phys : List LanePhy            -- lanes 0-25
  outputsOn : Bool               -- MCLK and CTL driven (R70, R92)
  ctl : Nat                      -- levels of SN_n_CTL[7:0]
  retraining : Bool              -- step 4 of R92 repeated alone
  edges : Nat                    -- line starts since training ended (R83)
  deriving DecidableEq, Repr

/-- Reception of one line on one data lane (R83 to R90). -/
structure LaneRx where
  lane : Nat
  started : Bool
  ended : Bool
  words : List (BitVec 64)       -- data blocks, newest first
  crc : BitVec 16
  framing : Bool
  missing : Bool                 -- its LHDR did not come (R90)
  deriving DecidableEq, Repr

/-- A tile of a line in one logical slice: its corrected samples and where its check stands. -/
inductive TilePhase where
  | recomputing
  | done
  deriving DecidableEq, Repr

structure TileSt where
  slice : Nat
  tile : Nat
  vals : List Nat                -- corrected samples, pixel by pixel, RD GN BU
  phase : TilePhase
  shdFail : Bool                 -- recomputed for a shading parity failure
  deriving DecidableEq, Repr

/-- The set of values a trigger's samples are computed with (R100). -/
structure GainSet where
  offs : List Int
  gains : List Nat
  geff : List Nat
  ggain : Nat                    -- GAIN of PIPE_n_GGAIN
  limit : Nat                    -- LIMIT of PIPE_n_GGAIN
  follow : List Nat              -- the follow factors F_RD, F_GN, F_BU (R101)
  pvalid : Bool
  bank : Nat
  deriving DecidableEq, Repr

/-- First or last line of a kerf span. -/
structure SpanEnd where
  line : Nat
  pos : BitVec 64
  ts : BitVec 64
  deriving DecidableEq, Repr

/-- An open or closed span of dropped lines (R220, R221). -/
structure Span where
  cause : Nat
  first : SpanEnd
  last : SpanEnd
  count : Nat
  sheet : Nat
  mixed : Bool
  jig : Nat                      -- jig in force for the last line
  recs : List (List Byte)        -- sheet records of dropped lines, to follow the marker
  deriving DecidableEq, Repr

/-- A line in flight, from its trigger to its packet. -/
structure LineRec where
  kind : LineKind
  trig : Nat                     -- count of the channel's triggers of every kind
  slot : Nat                     -- its alignment slot (R113): the count of normal triggers
  info : TrigInfo
  start : Nat                    -- line start (deferred start under R77)
  jig : Nat
  sched : Schedule
  gains : GainSet
  spareFor : Option Nat          -- logical slice computed by physical slice 8
  rough : Nat                    -- 0 normal, 1 rough-cut, 2 rough-cut with alignment off
  spoil : Bool
  uncorr : Bool
  derate : Bool
  poison : Bool
  recomp : Bool
  recN : Nat
  poiN : Nat
  granted : Bool
  kerf : Option Span             -- the span of dropped lines that this line's grant closes (R220)
  gap : Bool                     -- a gap line of R252
  capUse : Bool                  -- taken by a capture in progress (R241)
  pipePoison : Bool              -- poisoned by the pipeline (R108)
  lineA : Bool                   -- the activation line A of R252
  joinLine : Bool                -- the first line after a dovetail restart (R227)
  lambda : List Nat              -- relative light of RD, GN, BU (R157)
  edge : Nat                     -- line starts before its own since training ended (R83)
  hold : List (Int × Nat)        -- photodiode results since its trigger, per group: sum and count (R161)
  rx : List LaneRx
  tiles : List TileSt
  deriving DecidableEq, Repr

/-- One row of an alignment slot: its samples and marks (R111). -/
structure RowSt where
  valid : Bool
  vals : List Nat
  poison : Bool
  recomp : Bool
  uncorr : Bool
  derate : Bool
  deriving DecidableEq, Repr

structure AlignSlot where
  trig : Nat
  rows : List RowSt              -- RD, GN, BU
  deriving DecidableEq, Repr

/-- What an internal list or the host waits for at the spare slice (R114). -/
inductive KatUse where
  | waiting
  | lasting (slice : Nat)
  | force (slice : Nat)
  deriving DecidableEq, Repr

/-- A gain write that waits for its effect line (R100). -/
structure GainWrite where
  addr : Nat
  value : Word
  at_ : Nat                      -- when the write completed
  eff : Option (Nat × Nat)       -- its effect line once that trigger has come: trigger number and line
  deriving DecidableEq, Repr

/-- The spare slice has passed its test and is to serve a logical slice (R114 step 4). -/
structure SpareIn where
  slice : Nat
  at_ : Nat                      -- when its test passed
  eff : Option (Nat × Nat)       -- the first trigger served by it, once it has come: trigger number and line
  deriving DecidableEq, Repr

/-- The pixel pipeline of a channel beside its registers. -/
structure PipeSt where
  trigCtr : Nat                  -- triggers of every kind so far
  slotCtr : Nat                  -- triggers counted by slot (R113)
  validFrom : Nat                -- slots before this one are invalid
  slots : List AlignSlot         -- newest first, at most 33
  lines : List LineRec           -- lines in flight, oldest first
  bank : Nat                     -- which profile bank is active
  prof0 : List (Nat × Byte)      -- profile bank 0 (table window bytes)
  prof1 : List (Nat × Byte)      -- profile bank 1
  swapPend : Option (Bool × Nat) -- pending host swap: SWVALID at the write and when it was written
  gainsIn : List (Nat × Word)    -- gain words in force for the next trigger, by register address
  gainWait : List GainWrite
  lag : List (Nat × Nat)         -- per physical slice: lag count and until when it stands (recomputations are no idle clocks)
  interpLagAt : Nat
  kat : Option (KatUse × Bool)   -- known-answer test in progress; true on the repeat
  spareIn : Option SpareIn
  badShd : List (Nat × Nat × Nat) -- (slice, tile, profile bank) whose entries fail until reloaded
  deriving DecidableEq, Repr

/-- A cross-resampled line kept for the vertical filter (R126). -/
structure VLine where
  line : Nat
  vals : List (List Nat)         -- RD, GN, BU
  spoil : Bool
  uncorr : Bool
  derate : Bool
  poison : Bool
  recomp : Bool
  deriving DecidableEq, Repr

/-- A column of the edge unit in sheet mode (R136). -/
structure ColSt where
  prev : Option Int              -- column value on the line before, after polarity
  covered : Bool
  lead : Option (Nat × Int)      -- line t and numerator part of the leading edge: (line t, sixteenths past t - 1)
  deriving DecidableEq, Repr

/-- An open sheet (R136). -/
structure SheetSt where
  num : Nat
  first : SpanEnd
  last : SpanEnd
  lastIdx : Nat
  below : Nat                    -- consecutive lines with fewer than MINCOL columns
  lost : Nat                     -- lines dropped or not captured
  lines : Nat
  deriving DecidableEq, Repr

/-- The resampler and edge unit of a channel beside its registers. -/
structure RsmpSt where
  yInit : Bool                   -- y is set at the next trigger (R127)
  yAt : Option Nat               -- line B0 of the trigger that sets y
  y : Int                        -- position in 1/65,536 line
  stored : List VLine            -- newest first, at most three
  spoilOut : Nat                 -- output lines still to carry SPOIL (R127)
  lag : Nat
  lagAt : Nat
  noedge : Nat
  noedgeArmed : Bool
  centre : Option Int
  wanderArmed : Bool
  sheet : Option SheetSt
  sheetCtr : Nat
  cols : List ColSt
  deriving DecidableEq, Repr

/-- Where a packet of the output FIFO is (R211). -/
inductive PktPlace where
  | tail
  | reserve                      -- in the tail, written from the kerf reserve
  | spilled
  | head
  deriving DecidableEq, Repr

/-- A packet of the output FIFO, or the space granted to a line not yet written. -/
structure Pkt where
  kind : Nat
  info : SpanEnd
  bytes : List Byte
  len : Nat
  complete : Bool
  place : PktPlace
  granted : Bool                 -- its bytes were granted to a line (they count in the fill)
  poisoned : Bool                -- a read of its payload failed before it was complete
  flips : List (Nat × Fin 8)     -- bits delivered wrong before it was complete
  extra : Nat                    -- bytes granted with a cut-through packet for records to follow it
  dataOff : Nat                  -- offset in the data ring while spilled
  idxOff : Nat                   -- offset in the index ring while spilled
  handed : Nat                   -- bytes handed to the DMA engine
  cut : Bool                     -- handed over as cut-through (R214)
  offered : Bool                 -- the read side has begun it
  discard : Bool                 -- what the packer still writes of it is discarded (R268, R290)
  deriving DecidableEq, Repr

/-- A request that the read side offers the DMA engine (R215): where in the packet its bytes lie. -/
structure Offer where
  off : Nat
  bytes : List Byte
  last : Bool                    -- it ends the packet
  deriving DecidableEq, Repr

/-- A trailing-row profile kept for the join correlator (R228). -/
structure JoinRow where
  line : Nat
  means : List Nat
  usable : Bool
  deriving DecidableEq, Repr

/-- The outcome of a join check (R228 to R230). -/
structure JoinRes where
  off : Int                      -- s*
  ovl : Nat                      -- usable overlap lines at s*
  nocheck : Bool                 -- fewer than 8 normal triggers retained
  ran : Bool
  misfit : Bool
  res : Nat
  deriving DecidableEq, Repr

/-- The output FIFO, pace controller and dovetail control of a channel beside their registers. -/
structure FifoSt where
  pkts : List Pkt                -- oldest first
  offer : Option Offer
  dataWr : Nat
  idxWr : Nat
  span : Option Span
  kerfCtr : Nat
  spillFullArmed : Bool
  hold : Bool                    -- the watermarks hold HOLD_N low (R222)
  fillWas : Nat                  -- the fill when the watermarks were last judged
  runTrigs : Nat                 -- normal triggers captured since RUN was set from 0
  joinTrigs : Nat                -- of these, those up to N (R228)
  joinWait : Bool                -- N + 1 is triggered and the join's result awaited (R227)
  lastTrig : Option SpanEnd      -- the last normal trigger
  lastOut : Option SpanEnd       -- last line packet handed to the DMA engine
  lastJig : Nat
  stopPad : Bool                 -- RUN was cleared and the padding of R215 is due
  target : BitVec 32             -- feed target recorded at the stop
  stopLine : Option SpanEnd      -- N of R226
  resumeHeld : Bool              -- RESUME waits for HOLDING or for LOW
  lowDue : Bool                  -- the fill fell to LOW while the feed was stopping
  joinDue : Bool                 -- the next line packet from joinFrom on carries JOIN
  joinFrom : Nat
  joinRes : Option JoinRes       -- its result, once in
  joinMark : Option Bool         -- the record is written already; the next line packet carries JOIN, and JOINMIS if true
  normal : List JoinRow          -- last 8 normal triggers, newest first
  overlap : List JoinRow
  feedWas : Bool                 -- the feed axis moved at the last look
  deriving DecidableEq, Repr

end Sys2Proof.Machine
end

