-- ==== Sys2Proof/Machine/CtlTypes.lean ====
section
/-! DEFINITION. Machine/CtlTypes.lean: the state of a channel's lamp controller (spec/06_illumination.md), position interface
(spec/07_position_feedback.md), motion controller (spec/08_transport_motion.md) and calibration controller
(spec/10_shading_calibration.md) that is no register. -/

namespace Sys2Proof.Machine

/-- A staged change of one lamp group (R156, R159): target, fade length, WHEN at the write, the staged line, when the
write completed, and the time of the LD_SYNC edge it waits behind (WHEN = 2). -/
structure LvStage where
  level : Nat
  fade : Nat
  when_ : Nat
  line : Nat
  at_ : Nat
  edge : Option Nat
  deriving DecidableEq, Repr

/-- A fade in progress (R156). -/
structure Fade where
  lv0 : Nat
  target : Nat
  len : Nat
  k : Nat
  deriving DecidableEq, Repr

/-- What the drive die last measured on a sink at a check (R162): voltage in mV and current as an amplitude code. -/
structure SinkSense where
  v : Nat
  i : Option Nat                 -- none: the sink regulates to its amplitude
  deriving DecidableEq, Repr

/-- Diagnosis and drive of one sink (R152, R153, R162, R163). -/
structure SinkSt where
  amp : Nat
  width : Nat                    -- pulse width in ticks of 2.5 ns
  sense : SinkSense
  v : Nat                        -- voltage in mV and current at the last check, as the next status refresh shows them
  i : Nat
  fails : Nat                    -- failed checks since the last status refresh
  mode : Nat                     -- diagnosis mode in use
  openRun : Nat                  -- consecutive checks with an open
  shortRun : Nat
  openSince : Option Nat
  optRun : Nat                   -- consecutive lines below 80 % in mode 2
  testing : Bool                 -- self-test in progress
  dead : Bool                    -- off for a sink fault
  shortOff : Bool                -- turned off for a short
  relight : Option Nat           -- FAULT bit cleared: back at the next effect line
  deriving DecidableEq, Repr

def SinkSt.init : SinkSt :=
  { amp := 0, width := 0, sense := ⟨0, none⟩, v := 0, i := 0, fails := 0, mode := 0, openRun := 0, shortRun := 0, openSince := none, optRun := 0,
    testing := false, dead := false, shortOff := false, relight := none }

/-- A hold measurement of one group over the current period (R161). -/
structure HoldSt where
  sum : Int
  cnt : Nat
  good : Nat                     -- lines of the period that count
  lines : Nat                    -- lines of the period
  lastGood : Bool                -- the last line that left counts
  new : Option (Nat × Nat)       -- new trim and when it was computed
  deriving DecidableEq, Repr

structure LmpSt where
  staged : List (Option LvStage) -- per group RD GN BU WH
  fades : List (Option Fade)
  hold : List HoldSt
  sinks : List SinkSt            -- sinks 0-11
  diagCount : Nat                -- 48-bit diagnosis mark count
  vmin : Option Nat              -- lowest voltage since the last headroom update
  hdTop : Nat                    -- consecutive headroom updates at the limit
  lastMark : Nat                 -- time of the last internal mark
  overTemp : Bool
  theta : BitVec 16              -- the last light-bar temperature in range, in 1/16 °C
  tempBad : Bool                 -- the last NTC reading was out of range
  deriving DecidableEq, Repr

/-- The test generator of R181: the halves of its phase accumulator's overflows that have still to be given as count changes, the place
in the quadrature sequence, the place in the present cycle of A, the cycles since the last reference tooth, an index to give. -/
structure PosGen where
  acc : Nat                      -- in 2⁻³¹ of half a count change
  due : Nat
  phase : Nat                    -- 0 to 3: A and B low, A high, both high, B high
  place : Nat
  cycle : Nat
  index : Bool
  deriving DecidableEq, Repr

def PosGen.init : PosGen := { acc := 0, due := 0, phase := 0, place := 0, cycle := 0, index := false }

/-- The drift check, count and divider of R171 to R179; NT in units of 2⁻³². -/
structure PosSt where
  a : Bool                       -- levels last sampled from the source that is counted
  b : Bool
  pinA : Bool                    -- levels of PS_n_A and PS_n_B
  pinB : Bool
  gen : PosGen
  count : Int
  line : Nat                     -- number of the next normal trigger
  nt : Int
  hwm : Int
  gateArmed : Bool               -- count within one pitch of HWM since the last EV_POS_GATE
  ovlArmed : Bool                -- overlap capture armed (R179)
  overlap : List (Nat × Int)     -- armed overlap thresholds: line repeated and threshold in 2⁻³² counts
  corr : Option Int              -- pending correction
  refBase : Int                  -- count at the last reference, or where the displacement is measured from
  refLost : Bool                 -- EV_POS_REFLOST raised since the last reference
  rise : Option Nat              -- tick of the last rising edge of A
  riseFwd : Bool
  gap : Option Nat               -- tooth interval before
  wTick : Option Nat             -- tick of the window start W
  changes : List (Nat × Int)     -- count changes since W: tick and count, newest first
  lastChange : Option Nat
  overSpeed : Bool
  divCtr : Nat
  divLevel : Bool
  divEnd : Option Nat            -- tick at which the trigger pulse on PS_n_DIV ends
  cmpPulse : List (Option Nat)   -- per output: tick at which the running pulse ends
  absAt : Option Nat             -- read in progress: tick of its latch instant
  absFree : Nat                  -- tick at which the clock has idled for WAIT since the last SSI frame
  absLat : Option Int
  absGood : Option Int           -- m of the last good read
  deriving DecidableEq, Repr

/-- What a motion axis is doing (R192, R197, R198, R199). -/
inductive MoveMode where
  | still
  | ramp
  | halt
  | estop
  | follow
  | home (phase : Nat)
  deriving DecidableEq, Repr

/-- Who started a move: a host write, a MOVE of a list runner, the dovetail control, boot homing or parking. -/
inductive MoveBy where
  | host
  | seq (runner : Nat)
  | dovetail
  | boot
  | park
  deriving DecidableEq, Repr

/-- The values of R190 that a running move uses, in register units. -/
structure RampSet where
  vstart : Nat
  vstop : Nat
  v1 : Nat
  vmax : Nat
  a1 : Nat
  a2 : Nat
  d1 : Nat
  d2 : Nat
  dlim : Nat
  deriving DecidableEq, Repr

def RampSet.zero : RampSet := ⟨0, 0, 0, 0, 0, 0, 0, 0, 0⟩

/-- One stepper axis (R191, R196, R199, R204, R205). Position and speed in 2⁻⁴⁰ microstep. -/
structure AxisSt where
  p : Int
  v : Nat
  tgt : Int                      -- target in microsteps
  fwd : Bool
  mode : MoveMode
  by_ : MoveBy
  first : Bool                   -- the first tick is still to come
  braking : Bool
  ovr : Bool
  dstar : Nat                    -- D* of R196, in register units
  beyond : Bool                  -- D* exceeded DLIM: the axis stops beyond its target
  set : RampSet                  -- the parameters in force: a master's limited by its followers (R198)
  own : RampSet                  -- the axis's own parameters in force (R194)
  testDec : Bool                 -- a deceleration write waits for its test at the next tick
  startP : Int                   -- start position (R198)
  delta : Int                    -- distance to the target at the start
  refRun : Nat                   -- consecutive ticks with the reference as awaited
  homeRun : Nat                  -- distance run in step 1, or in steps 2 and 3 together (R199)
  pLatch : Option Int
  c0 : Int
  p0 : Int
  slipRun : Nat
  offAfter : Bool                -- turn the bridges off once stopped (R204)
  bridgesOff : Bool              -- off until re-enabled by the next move (R204, R207)
  vPrev : Nat
  sumOwn : Int                   -- pixel die: position at the last homing or reset, for the sum check
  dPos : Int                     -- drive die: last position received
  dLead : Nat
  dSum : Int                     -- drive die: sum of steps received
  jumpOff : Bool                 -- drive die: bridges off after a jump
  dDir : Bool
  dSat : Bool
  satNew : Nat                   -- limited duties since the last status refresh
  dA : Int
  dB : Int
  refIn : Bool                   -- level of MT_n_a_REF
  tableWait : Bool               -- a switched sine table waits for standstill (R200)
  deriving DecidableEq, Repr

/-- An axis at reset.
[DESIGN CHOICE, unsafe: log entry 2] -/
def AxisSt.init : AxisSt :=
  { p := 0, v := 0, tgt := 0, fwd := true, mode := .still, by_ := .host, first := false, braking := false,
    ovr := false, dstar := 0, beyond := false, set := RampSet.zero, own := RampSet.zero, testDec := false, startP := 0, delta := 0,
    refRun := 0, homeRun := 0, pLatch := none, c0 := 0, p0 := 0, slipRun := 0, offAfter := false,
    bridgesOff := true, vPrev := 0, sumOwn := 0, dPos := 0, dLead := 0, dSum := 0, jumpOff := false, dDir := true,
    dSat := false, satNew := 0, dA := 0, dB := 0, refIn := true, tableWait := false }

structure MotSt where
  axes : Quad AxisSt
  master : Option Nat            -- master of the running coordinated move
  vsupAt : Option Nat            -- when VM was last updated
  oldSine : List (Nat × Byte)    -- sine tables still in force for axes that wait (R200)
  deriving DecidableEq, Repr

/-- A capture in progress (R241). -/
structure CaptureSt where
  store : Nat
  kind : Nat
  want : Nat
  taken : Nat
  repl : Nat
  invalid : Bool
  sums : List Nat                -- pixel by pixel, RD GN BU
  lambda : Option (List Nat)
  writing : Bool                 -- lines done, store being written
  deriving DecidableEq, Repr

/-- The last evaluation of a calibration list (R245 to R247): its outcome and the strip references it will record. -/
structure EvalSt where
  accepted : Bool
  srefs : List (Nat × Nat)
  deriving DecidableEq, Repr

structure CalSt where
  capture : Option CaptureSt
  eval : Option EvalSt           -- last completed evaluation of the list
  evalBusy : Bool
  retried : Bool
  anyInvalid : Bool              -- a capture of this attempt ended invalid
  lambdas : List (List Nat)      -- the different λ of the white and strip lines of this attempt
  lampEvent : Bool               -- a lamp event since the dark capture began
  whiteTemp : Option Nat         -- TNOW at the first white line
  tempRun : Nat
  reqFirst : Bool                -- the request is a first-use request
  reqAt : Nat
  lastStart : Option Nat
  listOn : Bool                  -- a calibration list that opened or continued the gap runs
  gapOpenTs : BitVec 64
  gapOpenPos : BitVec 64
  gapOpenAt : Nat
  gapFirst : Option SpanEnd
  gapLast : Option SpanEnd
  closedAt : Option Nat          -- gap closed, awaiting A
  closeTs : BitVec 64
  recResult : Nat
  recCause : Nat
  actDue : Bool                  -- an accepted evaluation waits for A
  parkTried : Bool               -- the park move runs
  abandoned : Bool               -- the list's result was counted as abandoned
  copying : Option (Bool × Nat)  -- STORE (true) or LOAD (false) in progress and its slot
  reload : List (Nat × Nat × Nat) -- (slice, tile, profile bank) reloads asked of the controller (R109)
  gapRec : Option (List Byte)    -- payload of a calibration-gap record waiting for line A's packet
  calgapNext : Bool              -- the next line packet carries CALGAP (R219, R253)
  deriving DecidableEq, Repr

end Sys2Proof.Machine
end

