-- ==== Sys2Proof/Machine/HostTypes.lean ====
section
/-! DEFINITION. Machine/HostTypes.lean: the state of the event unit (spec/15_events_faults_availability.md) and of the host link
and DMA engine (spec/11_host_link_dma.md) that is no register. -/

namespace Sys2Proof.Machine

/-- A unit that the event unit counts (R362): the event, its instance, and the DRAM row where it is one. -/
structure EvUnit where
  ev : Nat
  kind : Nat
  idx : Nat
  row : Nat
  deriving DecidableEq, Repr

/-- A window being counted (R362), with the table values in force when its occurrence arrived. -/
structure Tracker where
  unit : EvUnit
  opened : Nat
  win : Nat                      -- ms
  count : Nat
  deriving DecidableEq, Repr

/-- A log entry or message held back (R366): the entry's first 0x1C bytes, if it has one, and the vector of its message. -/
structure LogWait where
  entry : Option (List Byte)
  msi : Option Nat
  deriving DecidableEq, Repr

structure EvtSt where
  trackers : List Tracker
  lasting : List EvUnit
  held : List LogWait
  seq : Nat                      -- sequence number of the next entry
  msiLast : List (Nat × Nat)     -- vector and time of its last message
  msiMerge : List Nat            -- vectors with a merged message due at the end of their hold
  stretchAt : Option Nat         -- when EV_CLK_STRETCH was last raised
  stretchOn : Option Nat         -- when the stretch in progress began
  scrub : List (Nat × Option Nat) -- registers read clean, and the line of the first trigger since (R376)
  deriving DecidableEq, Repr

/-- A control request of the DMA engine (R281). -/
inductive CtlReq where
  | fetch (q addr : Nat)
  | sgl (q addr : Nat)
  | barrier (q id addr : Nat)
  | write (addr : Nat) (bytes : List Byte)
  deriving DecidableEq, Repr

/-- A descriptor (R270, R271), or the transfer of register mode (R285). -/
structure Desc where
  at_ : Nat
  next : Nat
  buf : Nat
  len : Nat
  dev : Nat
  pattern : Nat
  incr : Nat
  tag : Nat
  one : Bool
  irq : Bool
  swap : Nat
  sgl : Bool
  kind : Nat
  seq : Nat
  rm : Bool
  deriving DecidableEq, Repr

/-- A completion record before its PHASE is known (R279). -/
structure Rec where
  seq : Nat
  psn : Nat
  status : Nat
  kind : Nat
  off : Nat
  bytes : Nat
  tag : Nat
  line : Nat
  irq : Bool                     -- its descriptor is closed by it and has IRQ
  deriving DecidableEq, Repr

/-- A burst in a staging buffer (R275): the bytes still to write and where in the buffer they go. -/
structure Burst where
  off : Nat
  bytes : List Byte
  fin : Option Rec               -- the packet's record, when this burst ends it
  deriving DecidableEq, Repr

/-- Records that a barrier releases, or that need none but follow those before them (R278, R279). -/
structure Barrier where
  id : Nat                       -- the barrier's number; 0 where none is needed
  addr : Nat                     -- the DW that it reads
  recs : List Rec
  desc : Nat                     -- descriptor and offset of the first write it covers
  off : Nat
  pseq : Nat
  rm : Option Nat                -- end of a register-mode transfer, with its result code
  done : Bool                    -- it has completed, or none is needed
  deriving DecidableEq, Repr

/-- A read that waits for its data. -/
inductive ReadWhat where
  | desc
  | sgl
  | data
  | barrier
  deriving DecidableEq, Repr

structure ReadSt where
  what : ReadWhat
  id : Nat                       -- the barrier's number, where it is one
  tries : Nat                    -- retries made
  cause : Nat
  backoff : Bool                 -- waiting for its back-off
  deriving DecidableEq, Repr

/-- A halted queue: what RESUME does. -/
inductive HaltSt where
  | read (what : ReadWhat)
  | desc
  | drain                        -- a barrier failed while the queue was aborted
  deriving DecidableEq, Repr

/-- A packet being taken from the FIFO. -/
structure PktIn where
  place : Nat
  len : Nat
  psn : Nat
  line : Nat
  done : Nat                     -- where in the packet the last request taken ends
  deriving DecidableEq, Repr

/-- Underlying state of a queue (R294). -/
inductive QMode where
  | idle
  | run
  | notReady
  | end_
  | halted
  | reg
  | abort                        -- aborted; reads and barriers in flight still end (R290)
  deriving DecidableEq, Repr

structure DmaQ where
  mode : QMode
  desc : Option Desc
  ahead : Option Desc
  bad : Option (Nat × Nat)       -- a descriptor fetched ahead that halts the queue at its turn: cause and address
  cont : Bool                    -- the descriptor being fetched is taken up where it halted (R289)
  fetching : Bool
  again : Bool
  refetch : Nat                  -- address of the fetch in flight
  chain : Nat
  els : List (Nat × Nat)         -- scatter elements read: address and length
  elAddr : Nat
  elSeg : Nat
  elEnd : Bool
  elFetch : Bool
  elCount : Nat                  -- elements read, links among them
  off : Nat                      -- FIFO kind: where the next packet goes; memory kinds: bytes done
  pkt : Option PktIn
  staged : List Burst
  closeDue : Bool                -- the buffer closes once its staged bursts are written
  deficit : Nat
  reading : Option (Nat × Nat)   -- the data read in flight: bytes before the buffer's, and bytes of the buffer
  grp : List Byte                -- compare: bytes read of an 8-byte group that is not complete
  flying : List ReadWhat         -- reads issued and not yet returned
  retry : List ReadSt            -- failing reads, by what they are
  barriers : List Barrier        -- oldest first
  trk : Nat                      -- write TLPs since the last barrier was issued
  lastAddr : Nat                 -- host address of the last byte written
  mark : Nat × Nat               -- descriptor and offset of the first write since then
  recs : List Rec                -- records waiting for a slot
  coalCnt : Nat
  coalAt : Option Nat
  halt : HaltSt
  deriving DecidableEq, Repr

def DmaQ.idle : DmaQ :=
  { mode := .idle, desc := none, ahead := none, bad := none, cont := false, fetching := false, again := false, refetch := 0, chain := 0, els := [],
    elAddr := 0, elSeg := 0, elEnd := false, elFetch := false, elCount := 0, off := 0, pkt := none, staged := [], closeDue := false, deficit := 0,
    reading := none, grp := [], flying := [], retry := [], barriers := [], trk := 0, lastAddr := 0, mark := (0, 0), recs := [],
    coalCnt := 0, coalAt := none, halt := .desc }

/-- What configuration writes set beside DMA_LINK (R261, R263, R266, R267): Memory Space Enable, the base addresses of BAR 0 and BAR 2 in
units of their sizes, the requester tag enables, Max_Payload_Size and Max_Read_Request_Size, and MSI-X enable and function mask. -/
structure CfgSpace where
  mse : Bool
  bar0 : BitVec 42
  bar2 : BitVec 38
  tag10 : Bool
  tag14 : Bool
  mps : Nat
  mrrs : Nat
  msixEn : Bool
  fmask : Bool
  deriving DecidableEq, Repr

/-- The configuration space at power-on.
[PRESUMED, unsafe: log entry 56] -/
def CfgSpace.init : CfgSpace :=
  { mse := false, bar0 := 0, bar2 := 0, tag10 := false, tag14 := false, mps := 128, mrrs := 512, msixEn := false, fmask := false }

structure DmaSt where
  qs : List DmaQ                 -- queues 0-15
  ctl : List CtlReq              -- ready control requests, oldest first
  cur : List Nat                 -- per level: the queue last served
  cfg : CfgSpace
  tlps : Nat                     -- write TLPs since the last barrier was issued, of every queue (R278)
  flight : List (Nat × Nat)      -- barriers in flight, in the order of issue: number (0: it failed), and write TLPs since the one before
  barCtr : Nat                   -- barriers made so far
  perst : Bool                   -- PERST_N low
  deriving DecidableEq, Repr

/-- Who asks a DRAM controller (R314). -/
inductive DrcWho where
  | spill
  | staging
  | engine
  | bar2
  | calibration
  | dma (q : Fin 16)
  deriving DecidableEq, Repr

/-- A queued request of a DRAM controller (R307 to R309): its class now, the class whose share it holds, the burst
address, and its place in the order of arrival. -/
structure DrcReq where
  cls : Nat
  share : Nat
  who : DrcWho
  addr : Nat                     -- controller byte address of the burst
  write : Bool
  at_ : Nat
  seq : Nat
  delayed : Bool                 -- counted in HAMMER.THROTTLED
  deriving DecidableEq, Repr

/-- A row under throttling (R314). -/
structure Throttle where
  bank : Nat
  row : Nat
  who : DrcWho
  last : Nat                     -- when it last activated the row
  deriving DecidableEq, Repr

/-- A DRAM controller beside its registers and contents (spec/12_dram_controller.md). Banks are numbered 64 × rank + 32 ×
subchannel + 4 × bank group + bank. -/
structure DrcSt where
  queue : List DrcReq            -- in order of service within a class
  waiting : List DrcReq          -- beyond their class's share
  nextSeq : Nat
  openRows : List (Nat × Nat)    -- bank and open row
  frame : Nat                    -- number of the 1 µs frame that `used` counts
  used : Nat                     -- class 2 and 3 bursts of that frame
  hammer : List (Nat × Nat × Nat) -- bank, row, counter
  throttles : List Throttle
  raa : List (Nat × Nat)         -- bank and rolling activation count
  raaimt : Nat
  raammt : Nat
  refDec : Nat                   -- what one refresh takes off the rolling count
  mr4 : List Nat                 -- last MR4 reading per rank
  dbl : List Bool                -- rank asks for double rate
  capLim : Nat                   -- CAPLIM in GiB, 0 none
  spillWant : Option Nat         -- spill size of the boot jig; none: the largest
  trainAt : Option Nat           -- start of the last periodic training
  dead : List Nat                -- library bursts that this copy failed to give and nothing has written since (R305)
  deriving DecidableEq, Repr

/-- A DRAM controller at reset.
[DESIGN CHOICE, unsafe: log entry 6] -/
def DrcSt.init : DrcSt :=
  { queue := [], waiting := [], nextSeq := 0, openRows := [], frame := 0, used := 0, hammer := [], throttles := [],
    raa := [], raaimt := 0, raammt := 0, refDec := 0, mr4 := [0, 0], dbl := [false, false], capLim := 0,
    spillWant := none, trainAt := none, dead := [] }

/-- The live accumulator of a converter input (R330, R332, R333), and its latest results. -/
structure MonIn where
  sum : Int
  count : Nat
  mn : Int
  mx : Int
  sat : Bool
  ovr : Bool
  inv : Bool
  limlo : Bool
  limhi : Bool
  ovrCnt : Nat
  invCnt : Nat
  ovrArmed : Bool
  limArmed : Bool
  latest : Option (Int × Nat)    -- latest valid result and when
  bad : Bool                     -- the latest conversion was overrange or invalid
  deriving DecidableEq, Repr

def MonIn.init : MonIn :=
  { sum := 0, count := 0, mn := 0x7FFFFFFF, mx := -0x80000000, sat := false, ovr := false, inv := false, limlo := false,
    limhi := false, ovrCnt := 0, invCnt := 0, ovrArmed := true, limArmed := true, latest := none, bad := false }

/-- What a conversion is for (R327, R329, R335). -/
inductive ConvKind where
  | regular
  | injected
  | test
  deriving DecidableEq, Repr

/-- A conversion under way: its input, purpose, whether it is the settling one, its window in ticks and its start. -/
structure ConvJob where
  input : Nat
  kind : ConvKind
  settle : Bool
  k : Nat
  start : Nat
  deriving DecidableEq, Repr

/-- A self-test under way (R335, R336): whether it takes the DAC steps, its step, and what it has measured. -/
structure ConvTest where
  full : Bool
  step : Nat
  us : List Int
  failed : Bool                  -- some conversion of this attempt was overrange
  again : Bool                   -- this is the repeat
  deriving DecidableEq, Repr

structure MonConv where
  job : Option ConvJob
  prev : Option Nat              -- input of the previous conversion
  pos : Nat                      -- place in its regular entries
  test : Option ConvTest
  testDue : Option Bool          -- a self-test (full or not) starts at the next conversion
  scal : Bool                    -- a self-calibration has completed
  deriving DecidableEq, Repr

def MonConv.init : MonConv := { job := none, prev := none, pos := 0, test := none, testDue := none, scal := false }

/-- A system calibration step (R337). -/
structure SysCal where
  input : Nat
  full : Bool
  want : Nat
  cnt : Nat
  sum : Int
  deriving DecidableEq, Repr

/-- The monitoring converter (spec/13_monitoring_converter.md) beside its registers. -/
structure MonSt where
  ins : List MonIn               -- inputs 0-31
  c0 : MonConv
  c1 : MonConv
  startUp : Bool                 -- the self-calibration of RUN is still to end on some converter
  diagNext : Bool                -- converter 1's full self-test follows converter 0's
  inj : List Nat                 -- injected entries not yet started
  injDue : Bool                  -- the injected request is due
  sync : Option Nat              -- last edge seen at the MAINS_SYNC pin (R416)
  edge : Option Nat              -- last rising edge that the period is measured from
  period : Option Nat            -- period before, in ticks
  okRun : Nat                    -- consecutive accepted periods
  kMains : Nat                   -- last accepted period
  sys : Option SysCal
  deriving DecidableEq, Repr

/-- The monitoring converter at reset.
[DESIGN CHOICE, unsafe: log entry 6] -/
def MonSt.init : MonSt :=
  { ins := List.replicate 32 MonIn.init, c0 := MonConv.init, c1 := MonConv.init, startUp := false, diagNext := false,
    inj := [], injDue := false, sync := none, edge := none, period := none, okRun := 0, kMains := 0, sys := none }

/-- A report that waits on the drive die for the inter-die link (R16). -/
inductive DriveReport where
  | thermal
  | stepJump (n a : Fin 4)
  | limited (n a : Fin 4)
  | lampShort (n : Fin 4) (i : Fin 12)
  | lampOpen (n : Fin 4) (i : Fin 12)
  | sinkFault (n : Fin 4) (i : Fin 12)
  deriving DecidableEq, Repr

/-- The drive die and the inter-die link (R16, R410): the writes on their way to it, its own copy of their registers, its
reports on their way back. -/
structure DrvSt where
  linkUp : Bool
  under : Bool                   -- undervoltage state of R410
  fwd : List (Nat × Word)
  image : List (Nat × Word)
  reports : List DriveReport
  deriving DecidableEq, Repr

/-- The drive die at reset.
[DESIGN CHOICE, unsafe: log entry 6] -/
def DrvSt.init : DrvSt := { linkUp := false, under := false, fwd := [], image := [], reports := [] }

/-- A TICK whose age has still to reach D (R349): its fields and the instant of t0. -/
structure TickWait where
  line : Nat
  pos : BitVec 64
  ts : BitVec 64
  due : Nat
  deriving DecidableEq, Repr

/-- A command that a node has still to answer (R353). -/
structure UmdOut where
  id : Nat
  code : Nat
  node : Nat
  tries : Nat
  body : List Byte
  deriving DecidableEq, Repr

/-- A system switch on the manager (R354). -/
structure UmdSys where
  jig : Nat
  line : Nat
  mask : Nat
  waiting : List Nat             -- nodes that have not replied armed
  committed : Bool
  deriving DecidableEq, Repr

/-- A CAL command to come (R353): its line, the channels that have still to start, and what refused the others. -/
structure UmdCal where
  id : Nat
  line : Nat
  left : Nat
  reasons : List Nat             -- per channel
  deriving DecidableEq, Repr

/-- The Umade link beside its registers (spec/14_multi_device_umade.md). -/
structure UmdSt where
  numbered : Bool
  above : Nat                    -- source number of the node above
  ids : List (Nat × List Byte)   -- commands executed, newest first, each with its reply once sent
  nextId : Nat
  ticks : List TickWait          -- oldest first
  taken : List (Option Nat)      -- per channel: line of the last TICK since RUN was set
  latest : Option Nat            -- line of the latest system tick
  slew : Int                     -- ns the time base has still to lose
  slewAt : Nat                   -- when it was last corrected
  echo : Option Nat              -- transmit count of the ECHO that waits for its reply
  outs : List UmdOut
  sys : Option UmdSys
  prep : Option (Nat × Nat)      -- PREPARE in staging: its id and own channels
  user : Option Nat              -- id of the command that UMD_CMDCTL follows
  cals : List UmdCal             -- CAL commands to come
  tx : List (Bool × Nat × List Byte) -- frames of the command in progress: port, type and bytes; empty between commands (R346)
  deriving DecidableEq, Repr

/-- The Umade link at reset.
[DESIGN CHOICE, unsafe: log entry 6] -/
def UmdSt.init : UmdSt :=
  { numbered := false, above := 0, ids := [], nextId := 0, ticks := [], taken := [none, none, none, none], latest := none,
    slew := 0, slewAt := 0, echo := none, outs := [], sys := none, prep := none, user := none, cals := [], tx := [] }

end Sys2Proof.Machine
end

