-- ==== Sys2Proof/Machine/SeqTypes.lean ====
section
/-! DEFINITION. Machine/SeqTypes.lean: the state of the boot and sequence engine that is no register
(spec/02_jigs_boot_job_switch.md): the five runners (R33, R50), switch requests (R58 to R64), the boot (R54 to R56), the flash
and the library update (R37, R65). -/

namespace Sys2Proof.Machine

/-- One runner of the sequence engine (R50, R51): its list's words, and what it waits for. -/
structure Runner where
  words : List (BitVec 64)
  boot : Bool                    -- the boot goes on when this list ends
  ev : Nat                       -- event that a WAITEV waits for
  until_ : Option Nat            -- end of a WAITT, or timeout of a WAITEV
  axis : Nat                     -- axis that a MOVE with WAIT waits for
  capturing : Bool               -- a CAPTURE is under way
  deriving DecidableEq, Repr

def Runner.idle : Runner := { words := [], boot := false, ev := 0, until_ := none, axis := 0, capturing := false }

/-- A switch request that is staging, armed, awaiting a commit or committed (R58 to R63). -/
structure SwReq where
  src : Nat                      -- 0 host, 1 pins, 2 Umade
  jig : Nat
  mask : Nat                     -- channels that have still to switch
  all : Nat                      -- every channel of the request
  line : Nat
  armed : Nat
  go : Bool                      -- the manager's commit has come, or none is needed
  committed : Bool
  profs : List (Nat × Bool)      -- channels with a staged profile, and its slot's valid bit when staging ended
  devDone : Bool                 -- the device section has been applied
  tgts : List Nat                -- per channel: GLB_SW_n_TGT before the request, which a cancel shows again (R68)
  deriving DecidableEq, Repr

/-- Where a channel stands in boot step 7 (R54). -/
inductive ChPhase where
  | off
  | march
  | homing (axes : List Nat)
  | bootList
  | startList
  | idle
  | failed
  deriving DecidableEq, Repr

/-- What starts the boot's channel steps (R54, R56). -/
structure ChBoot where
  phase : ChPhase
  jig : Nat
  deriving DecidableEq, Repr

/-- Where the boot stands: steps 1 to 8 of R54. -/
inductive BootPhase where
  | held                         -- step 1: waiting for BOOT_RELEASE
  | training                     -- step 3
  | library                      -- step 4
  | hostWait                     -- host boot: waiting for GLB_LIBCTL.BOOT
  | devList                      -- step 6
  | channels                     -- step 7
  | done
  | failed
  | maintenance
  deriving DecidableEq, Repr

/-- The boot's state (R54 to R56).
[DESIGN CHOICE, safe: log entry 75] -/
structure BootSt where
  phase : BootPhase
  trained : Nat                  -- controllers whose training has ended, as a mask
  slots : List Nat               -- library slots still to try, in order (1 A, 2 B)
  warm : Bool                    -- the boot follows a warm reset
  chs : Quad ChBoot
  autorun : Bool
  verify : Option Nat            -- jig being verified (R49)
  signed : Bool                  -- the report of R36: the image checked last with blank fuses carries a signature block of algorithm 0x01
  deriving DecidableEq, Repr

/-- A write that waits at the register port (R33): whose it is (0 the host, 1 + r the list of runner r), the control clock in which it
reached the port, its register, its value, the bits it changes, and the words of its list command. -/
structure PortReq where
  src : Nat
  clock : Nat
  addr : Nat
  value : Word
  mask : Word
  words : Nat
  deriving DecidableEq, Repr

/-- Content of a switch that the resampler, edge unit, packer, FIFO and pace table, and the device section, take with the
packet of line L (R61): its trigger, register values by address, tables, and whether the vertical unit starts afresh at L
(R62, R127). -/
structure LateSet where
  trig : Nat
  line : Nat
  regs : List (Nat × Nat)
  tabs : List (Nat × Byte)
  vert : Bool
  dev : Bool                     -- the device section too
  deriving DecidableEq, Repr

/-- The library update (R65). -/
structure UpdSt where
  image : List Byte              -- the image as fetched
  list : Nat                     -- address of the scatter list
  addr : Nat
  len : Nat
  deriving DecidableEq, Repr

end Sys2Proof.Machine
end

