-- ==== Sys2Proof/Machine/CmdTypes.lean ====
section
/-! DEFINITION. Machine/CmdTypes.lean: what a command brings from outside beside plain numbers: errors in the pipeline, of memories and
of links, and what sensors, components and nodes answer. -/

namespace Sys2Proof.Machine

/-- How a host request of BAR 0 arrives (R264): a write that is whole, has byte enables missing, or is poisoned, malformed or across a
64-byte block; or a read of some DWs more than one.
[DESIGN CHOICE, safe: log entry 54] -/
inductive BarReq where
  | whole
  | part
  | bad
  | read (more : Fin 16)
  deriving DecidableEq, Repr

/-- What configuration writes set of the BARs: base addresses in units of their sizes (R263). -/
structure CfgBars where
  bar0 : BitVec 42
  bar2 : BitVec 38
  deriving DecidableEq, Repr

/-- What configuration writes set of the requests: tag modes, and payload and read sizes as powers of two of 128 (R261, R267). -/
structure CfgDev where
  tag10 : Bool
  tag14 : Bool
  mps : Fin 3
  mrrs : Fin 6
  deriving DecidableEq, Repr

/-- What configuration writes set of MSI-X (R266). -/
structure CfgMsix where
  msixEn : Bool
  fmask : Bool
  deriving DecidableEq, Repr

/-- A configuration write (R261, R263, R266, R267): what it sets. -/
structure CfgWrite extends CfgBars, CfgDev, CfgMsix where
  bme : Bool
  mse : Bool
  d3hot : Bool
  deriving DecidableEq, Repr

/-- What reads of host memory return while the library update fetches its image (R65): pieces of host memory by address. -/
abbrev HostMem := List (Nat × List Byte)

/-- The stages of R98 and R101 at which a slice's arithmetic can go wrong, the remainders its residue check uses, and the values that
the two comparisons with LIMIT and the two comparators of the clamp see (R105). -/
inductive Stage where
  | scale | dark | white | whiteRem | offset | gain | gainRem | effGain | effGainRem | limitA | limitB
  | global | globalRem | clampA | clampB | clamp
  deriving DecidableEq, Repr

/-- One transient or permanent error in a slice: the size it adds to the result of a stage for one sample of a tile. -/
structure Upset where
  pixel : Fin 64
  colour : Fin 3
  stage : Stage
  delta : Int
  deriving DecidableEq, Repr

/-- An error seen while a line passes the alignment stage or the resampler: its tile, whether the recomputation fails as
well, and what it then adds to one sample of the tile. -/
structure LineUpset where
  tile : Nat
  again : Bool
  pixel : Fin 64
  colour : Fin 3
  delta : Int
  deriving DecidableEq, Repr

/-- Where the resampler's arithmetic can go wrong, and the remainders and comparators that its checks use (R130): of binning, of the
cross filter and of the vertical filter. -/
inductive RsmpPart where
  | bin | binRem | cross | crossRem | crossA | crossB | crossClamp | vert | vertRem | vertA | vertB | vertClamp
  deriving DecidableEq, Repr

/-- One error in the resampler: the output tile, its pixel and colour, the part and the size added to its result, and whether a
recomputation brings it again. A binning error is at the binned pixel where the output pixel's filter is based. -/
structure RsmpUpset where
  tile : Nat
  again : Bool
  pixel : Fin 64
  colour : Fin 3
  part : RsmpPart
  delta : Int
  deriving DecidableEq, Repr

/-- What goes wrong while a line is composed and packed: alignment-buffer words that fail parity twice (slot distance
back from the line and colour), errors of the interpolation and of the resampler, and edge results on which the two units
disagree. -/
structure LineFaults where
  align : List (Nat × Fin 3)
  interp : List LineUpset
  rsmp : List RsmpUpset
  edgeL : Bool
  edgeR : Bool
  cols : List (Fin 16)
  deriving DecidableEq, Repr

/-- What an absolute frame brings (R182, R183): the position bits, the nE and nW bits as sent (active low), the CRC as sent, and
whether the idle line, Ack and Start were seen. -/
structure AbsFrame where
  raw : BitVec 48
  nE : Bool
  nW : Bool
  crc : BitVec 16
  sound : Bool
  deriving DecidableEq, Repr

/-- Bursts of a spilled packet that fail their CRC twice (R217). -/
structure SpillBad where
  payload : Bool
  header : Bool
  trailer : Bool
  index : Bool
  deriving DecidableEq, Repr

/-- Bits that a request finds wrong in both reads of the FIFO SRAM (R216), by byte offset in the packet: in the packet, and in the second
staging copy of a cut-through packet's header and trailer (R214). -/
structure SramBad where
  flips : List (Nat × Fin 8)
  copies : List (Nat × Fin 8)
  deriving DecidableEq, Repr

/-- Stores that a march test found faulty (R28, R373). -/
structure MarchFault where
  shading : Bool
  retention : Bool
  align : Bool
  fifo : Bool
  deriving DecidableEq, Repr

/-- A phase of the update ends: whether the flash did its part, and what the phase's reads of host memory return. -/
structure UpdPhase where
  flash : Bool
  fetched : HostMem
  deriving DecidableEq, Repr

/-- One read of a burst as the components answer it (R303): the address whose cells answer, where it is not the one asked for, and the
bits that arrive flipped, of the 64 data bytes and the 16 check bytes after them. -/
structure BurstRead where
  cells : Option Nat
  flips : List (Nat × Fin 8)
  deriving DecidableEq, Repr

/-- A burst's read, its re-read where the first fails, and the new bytes where the read is that of a read-modify-write (R304, R305). -/
structure BurstReads where
  first : BurstRead
  again : BurstRead
  merge : Option (List (Fin 64 × Byte))
  deriving DecidableEq, Repr

/-- A request as it arrives. -/
structure DrcAsk where
  cls : Fin 4
  who : DrcWho
  addr : Nat
  write : Bool
  deriving DecidableEq, Repr

/-- What full training finds in the components (R295, R312). -/
structure DramParts where
  dens : Fin 2                   -- 0: 16 Gbit, 1: 24 Gbit
  rank2 : Bool
  rfm : Bool
  raaimt : Nat
  raammt : Nat
  refDec : Nat
  deriving DecidableEq, Repr

/-- What a conversion window gave (R322): the two counts, or an overload. -/
structure ConvCount where
  a : Nat
  b : Nat
  overload : Bool
  deriving DecidableEq, Repr

/-- What is wrong with a frame: its CRC, or single positions (R204). -/
structure FrameBad where
  crc : Bool
  errs : List (Fin 4 × Fin 4 × Int)
  deriving DecidableEq, Repr

/-- Which PLL lost lock. -/
inductive Pll where
  | pixel
  | control
  | dram
  deriving DecidableEq, Repr

end Sys2Proof.Machine
end

