-- ==== Sys2Proof/Syntax.lean ====
section
/-! DEFINITION. Syntax.lean: the commands of the device, one constructor to each row of spec/opcode_table.json. n is a channel, a an axis,
r a list runner (0 the device, 1 + n channel n), q a DMA queue, k a DRAM controller. -/

namespace Sys2Proof

open Machine

/-- A command: an access by the host, something that arrives on a pin or a link, or the end of what a block has begun.
[DESIGN CHOICE, safe: log entry 70] -/
inductive Instr where
  /-- REGISTER_WRITE (R33). -/
  | registerWrite (dw : BitVec 20) (value : Word) (how : BarReq)
  /-- DRIVE_DIE_WRITE_APPLY (R16). -/
  | driveDieWriteApply
  /-- DRIVE_DIE_STATUS_REFRESH (R16). -/
  | driveDieStatusRefresh (refs : BitVec 16) (senses : List (Fin 4 × Fin 12 × SinkSense))
  /-- DRIVE_DIE_REPORT (R16). -/
  | driveDieReport (thermal : Bool)
  /-- DIE_LINK_FRAME (R204). -/
  | dieLinkFrame (bad : FrameBad)
  /-- DIE_LINK_TIMEOUT (R16). -/
  | dieLinkTimeout
  /-- DIE_LINK_REESTABLISH (R16). -/
  | dieLinkReestablish
  /-- TIME_BASE_TICK (R23). -/
  | timeBaseTick (clocks : Nat)
  /-- POWER_ON_RESET (R410). -/
  | powerOnReset
  /-- RAIL_DIP (R410). -/
  | railDip
  /-- DRIVE_UNDERVOLTAGE (R410). -/
  | driveUndervoltage
  /-- DRIVE_UNDERVOLTAGE_END (R410). -/
  | driveUndervoltageEnd
  /-- PIN_RESET (R416). -/
  | pinReset
  /-- WARM_RESET (R56). -/
  | warmReset
  /-- CHANNEL_RESET (R56). -/
  | channelReset (n : Fin 4)
  /-- FUNCTION_LEVEL_RESET (R268). -/
  | functionLevelReset
  /-- PERST_N_ASSERT (R268). -/
  | perstNAssert
  /-- PERST_N_RELEASE (R268). -/
  | perstNRelease
  /-- BOOT_RELEASE (R54). -/
  | bootRelease (mode : Fin 4) (role : Bool)
  /-- DRAM_TRAINING_DONE (R296). -/
  | dramTrainingDone (k : Fin 4) (bin : Fin 6) (parts : DramParts) (repair : Bool)
  /-- LIBRARY_STREAM_DONE (R54). -/
  | libraryStreamDone
  /-- BOOT_HOMING_DONE (R54). -/
  | bootHomingDone (n : Fin 4)
  /-- MARCH_TEST_DONE (R373). -/
  | marchTestDone (n : Fin 4) (faults : MarchFault)
  /-- JIG_VERIFY (R49). -/
  | jigVerify (jig : Fin 64)
  /-- JIG_VERIFY_DONE (R49). -/
  | jigVerifyDone
  /-- LIBCTL_BOOT (R55). -/
  | libctlBoot (jig : Fin 64)
  /-- BAR2_READ (R48). -/
  | bar2Read (addr : BitVec 26) (len : Nat)
  /-- BAR2_WRITE (R48). -/
  | bar2Write (addr : BitVec 26) (bytes : List (Byte × Bool))
  /-- LIB_UPDATE_START (R65). -/
  | libUpdateStart (mem : HostMem)
  /-- LIB_UPDATE_ABORT (R65). -/
  | libUpdateAbort
  /-- LIB_UPDATE_STEP_DONE (R65). -/
  | libUpdateStepDone (phase : UpdPhase)
  /-- SWITCH_REQUEST (R59). -/
  | switchRequest (jig : Fin 64) (mask : BitVec 4) (next : Bool)
  /-- SWITCH_CANCEL (R64). -/
  | switchCancel (mask : BitVec 4)
  /-- JOB_STB (R58). -/
  | jobStb (sel : Fin 64)
  /-- STAGING_DONE (R60). -/
  | stagingDone (n : Fin 4) (readFail : Bool)
  /-- RUN_SET (R69). -/
  | runSet (n : Fin 4)
  /-- RUN_CLEAR (R68). -/
  | runClear (n : Fin 4)
  /-- RUNNING_END (R402). -/
  | runningEnd (n : Fin 4)
  /-- SEQ_START (R53). -/
  | seqStart (n : Fin 4) (type : Fin 8)
  /-- SEQ_ABORT (R53). -/
  | seqAbort (n : Fin 4)
  /-- SEQ_END (R51). -/
  | seqEnd (r : Fin 5)
  /-- SEQ_WRITE (R426). -/
  | seqWrite (r : Fin 5)
  /-- SEQ_WRITEM (R51). -/
  | seqWritem (r : Fin 5)
  /-- SEQ_WAITEV (R51). -/
  | seqWaitev (r : Fin 5)
  /-- SEQ_WAITEV_SATISFIED (R51). -/
  | seqWaitevSatisfied (r : Fin 5)
  /-- SEQ_WAITEV_TIMEOUT (R52). -/
  | seqWaitevTimeout (r : Fin 5)
  /-- SEQ_WAITT (R51). -/
  | seqWaitt (r : Fin 5)
  /-- SEQ_WAITT_EXPIRE (R51). -/
  | seqWaittExpire (r : Fin 5)
  /-- SEQ_MOVE (R51). -/
  | seqMove (r : Fin 5)
  /-- SEQ_MOVE_STANDSTILL (R192). -/
  | seqMoveStandstill (r : Fin 5)
  /-- SEQ_CAPTURE (R241). -/
  | seqCapture (r : Fin 5)
  /-- SEQ_CMP (R51). -/
  | seqCmp (r : Fin 5)
  /-- SEQ_JUMP (R51). -/
  | seqJump (r : Fin 5)
  /-- SEQ_MARK (R51). -/
  | seqMark (r : Fin 5)
  /-- SEQ_ILLEGAL (R52). -/
  | seqIllegal (r : Fin 5)
  /-- ENCODER_COUNT_CHANGE (R169). -/
  | encoderCountChange (n : Fin 4) (a b gen : Bool) (sub : Fin 6)
  /-- COMPARE_PULSE_END (R180). -/
  | comparePulseEnd (n c : Fin 4) (sub : Fin 6)
  /-- DIV_PULSE_END (R180). -/
  | divPulseEnd (n : Fin 4) (sub : Fin 6)
  /-- INDEX_EDGE (R173). -/
  | indexEdge (n : Fin 4) (gen : Bool)
  /-- DRIFT_CORRECTION_APPLY (R175). -/
  | driftCorrectionApply (n : Fin 4)
  /-- POS_PRESET (R172). -/
  | posPreset (n : Fin 4)
  /-- ABS_READ (R183). -/
  | absRead (n : Fin 4)
  /-- ABS_READ_TIMER (R183). -/
  | absReadTimer (n : Fin 4)
  /-- ABS_READ_COMPLETE (R183). -/
  | absReadComplete (n : Fin 4) (frame : AbsFrame)
  /-- ABS_LOAD (R183). -/
  | absLoad (n : Fin 4)
  /-- POS_CLRCNT (R186). -/
  | posClrcnt (n : Fin 4)
  /-- SPEED_UPDATE (R181). -/
  | speedUpdate (n : Fin 4)
  /-- DEFERRED_LINE_START (R77). -/
  | deferredLineStart (n : Fin 4)
  /-- SNS_UP (R92). -/
  | snsUp (n : Fin 4)
  /-- BAR_DEBOUNCE_END (R92). -/
  | barDebounceEnd (n : Fin 4) (low : Bool)
  /-- BAR_POWER_WAIT_END (R92). -/
  | barPowerWaitEnd (n : Fin 4)
  /-- BAR_INIT_WAIT_END (R92). -/
  | barInitWaitEnd (n : Fin 4)
  /-- LANE_TRAINING_END (R87). -/
  | laneTrainingEnd (n : Fin 4)
  /-- SNS_DOWN (R94). -/
  | snsDown (n : Fin 4)
  /-- SNS_RETRAIN (R92). -/
  | snsRetrain (n : Fin 4)
  /-- SNS_CLRCNT (R97). -/
  | snsClrcnt (n : Fin 4)
  /-- BAR_REMOVED (R94). -/
  | barRemoved (n : Fin 4)
  /-- BAR_PRESENT (R94). -/
  | barPresent (n : Fin 4)
  /-- LANE_LHDR (R83). -/
  | laneLhdr (n : Fin 4) (lane : Fin 26) (payload : BitVec 64)
  /-- LANE_DATA_BLOCK (R85). -/
  | laneDataBlock (n : Fin 4) (lane : Fin 26) (payload : BitVec 64)
  /-- LANE_LEND (R90). -/
  | laneLend (n : Fin 4) (lane : Fin 26) (payload : BitVec 64)
  /-- LANE_TRAIN_BLOCK (R87). -/
  | laneTrainBlock (n : Fin 4) (lane : Fin 26) (payload : BitVec 64) (arrival : Nat)
  /-- LANE_IDLE_BLOCK (R83). -/
  | laneIdleBlock (n : Fin 4) (lane : Fin 26)
  /-- LANE_LOCK_GAIN (R87). -/
  | laneLockGain (n : Fin 4) (lane : Fin 26)
  /-- LANE_LOCK_LOSS (R87). -/
  | laneLockLoss (n : Fin 4) (lane : Fin 26)
  /-- LHDR_MISSING (R90). -/
  | lhdrMissing (n : Fin 4) (lane : Fin 26)
  /-- SNS_SPARE_FORCE (R91). -/
  | snsSpareForce (n : Fin 4) (lane : Fin 24)
  /-- SPI_SLOT (R79). -/
  | spiSlot (n : Fin 4)
  /-- SPI_GO (R78). -/
  | spiGo (n : Fin 4) (nospoil : Bool) (len : Fin 64)
  /-- SPI_TRANSACTION_DONE (R78). -/
  | spiTransactionDone (n : Fin 4) (miso : BitVec 32)
  /-- TILE_VERDICT (R106). -/
  | tileVerdict (n : Fin 4) (slice : Fin 8) (tile : Fin 64) (upsets : List Upset) (rawPar : Bool) (shdPar : Fin 3)
  /-- TILE_RECOMPUTE_DONE (R107). -/
  | tileRecomputeDone (n : Fin 4) (slice : Fin 8) (tile : Fin 64) (upsets : List Upset) (rawPar : Bool) (shdPar : Fin 3)
  /-- SHADING_RELOAD_DONE (R109). -/
  | shadingReloadDone (n : Fin 4) (slice : Fin 8) (tile : Fin 64)
  /-- LINE_COMPLETE (R27). -/
  | lineComplete (n : Fin 4) (faults : LineFaults)
  /-- PROFILE_WINDOW_WRITE (R102). -/
  | profileWindowWrite (n : Fin 4) (off : Nat) (value : Word)
  /-- PROFILE_SWAP_REQ (R103). -/
  | profileSwapReq (n : Fin 4) (swvalid : Bool)
  /-- PROFILE_SWAP_APPLY (R103). -/
  | profileSwapApply (n : Fin 4)
  /-- PIPE_CLRCNT (R118). -/
  | pipeClrcnt (n : Fin 4)
  /-- SLICE_SPARE_FORCE (R114). -/
  | sliceSpareForce (n : Fin 4) (slice : Fin 8)
  /-- SPARE_KAT_TIMER (R114). -/
  | spareKatTimer (n : Fin 4)
  /-- SPARE_KAT_DONE (R114). -/
  | spareKatDone (n : Fin 4) (pass : Bool)
  /-- LAMP_LEVEL_WRITE (R156). -/
  | lampLevelWrite (n g : Fin 4) (level fade : BitVec 16)
  /-- LAMP_FADESTOP (R156). -/
  | lampFadestop (n : Fin 4)
  /-- LAMP_OFF_WRITE (R158). -/
  | lampOffWrite (n : Fin 4) (off : Bool)
  /-- LMP_CLRCNT (R168). -/
  | lmpClrcnt (n : Fin 4)
  /-- LAMP_INTERNAL_MARK (R154). -/
  | lampInternalMark (n : Fin 4)
  /-- LAMP_TEMP_SAMPLE (R158). -/
  | lampTempSample (n : Fin 4) (theta : Option (BitVec 16))
  /-- COLOUR_HOLD_UPDATE (R161). -/
  | colourHoldUpdate (n g : Fin 4)
  /-- SINK_SELF_TEST_DONE (R163). -/
  | sinkSelfTestDone (n : Fin 4) (sink : Fin 12) (regulates : Bool)
  /-- CONTINUOUS_SINK_CHECK (R162). -/
  | continuousSinkCheck (n : Fin 4) (sink : Fin 12) (sense : SinkSense)
  /-- LAMP_FAULT_CLEAR (R163). -/
  | lampFaultClear (n : Fin 4) (bits : Word)
  /-- HEADROOM_UPDATE (R165). -/
  | headroomUpdate (n : Fin 4)
  /-- LD_SYNC_EDGE (R159). -/
  | ldSyncEdge
  /-- LD_SYNC_PULSE (R159). -/
  | ldSyncPulse (out : Bool)
  /-- LD_SYNC_PULSE_END (R159). -/
  | ldSyncPulseEnd
  /-- AXIS_GO (R192). -/
  | axisGo (n a : Fin 4) (rel : Bool)
  /-- AXIS_HALT (R197). -/
  | axisHalt (n a : Fin 4)
  /-- AXIS_ESTOP (R197). -/
  | axisEstop (n a : Fin 4)
  /-- AXIS_HOME (R199). -/
  | axisHome (n a : Fin 4)
  /-- AXIS_CLRFLT (R206). -/
  | axisClrflt (n a : Fin 4)
  /-- MOT_GO (R198). -/
  | motGo (n : Fin 4) (mask : BitVec 4)
  /-- MOT_HALTALL (R210). -/
  | motHaltall (n : Fin 4)
  /-- MOT_ESTOPALL (R210). -/
  | motEstopall (n : Fin 4)
  /-- MOT_CLRCNT (R210). -/
  | motClrcnt (n : Fin 4)
  /-- MOTION_PARAM_WRITE (R194). -/
  | motionParamWrite (n a : Fin 4) (param : Fin 8) (value : Word)
  /-- RAMP_TICK (R191). -/
  | rampTick (n : Fin 4)
  /-- STEP_SUM_CHECK (R204). -/
  | stepSumCheck (errs : List (Fin 4 × Fin 4 × Int))
  /-- PWM_PERIOD (R203). -/
  | pwmPeriod (n a : Fin 4)
  /-- SPILL_WRITE_DONE (R212). -/
  | spillWriteDone (n : Fin 4)
  /-- SPILL_READ_DONE (R217). -/
  | spillReadDone (n : Fin 4) (bad : SpillBad)
  /-- TAIL_TO_HEAD_MOVE (R212). -/
  | tailToHeadMove (n : Fin 4)
  /-- FIFO_READ_REQUEST (R215). -/
  | fifoReadRequest (n : Fin 4) (bad : SramBad)
  /-- FIFO_FLUSH (R215). -/
  | fifoFlush (n : Fin 4)
  /-- FIFO_CLRCNT (R236). -/
  | fifoClrcnt (n : Fin 4)
  /-- STOP_PADDING (R215). -/
  | stopPadding (n : Fin 4)
  /-- PACE_UPDATE (R224). -/
  | paceUpdate (n : Fin 4)
  /-- DT_STOP (R226). -/
  | dtStop (n : Fin 4)
  /-- DT_RESUME (R227). -/
  | dtResume (n : Fin 4)
  /-- JOIN_RESULT (R228). -/
  | joinResult (n : Fin 4)
  /-- CAL_START (R248). -/
  | calStart (n : Fin 4)
  /-- CAL_ABORT (R256). -/
  | calAbort (n : Fin 4)
  /-- CAL_EVAL (R242). -/
  | calEval (n : Fin 4)
  /-- CAL_EVAL_DONE (R245). -/
  | calEvalDone (n : Fin 4) (again : Nat) (stop : Option Nat)
  /-- CAL_STORE (R239). -/
  | calStore (n : Fin 4)
  /-- CAL_LOAD (R239). -/
  | calLoad (n : Fin 4) (slot : Fin 16)
  /-- PROFILE_COPY_DONE (R239). -/
  | profileCopyDone (n : Fin 4)
  /-- CAL_CLRCNT (R260). -/
  | calClrcnt (n : Fin 4)
  /-- CAPTURE_INTERNAL_TRIGGER (R241). -/
  | captureInternalTrigger (n : Fin 4)
  /-- CAPTURE_DONE (R241). -/
  | captureDone (n : Fin 4)
  /-- CAL_TEMP_READ (R248). -/
  | calTempRead (n : Fin 4)
  /-- CAL_AUTO_START (R249). -/
  | calAutoStart (n : Fin 4)
  /-- CAL_GAP_CLOSE (R252). -/
  | calGapClose (n : Fin 4)
  /-- DMA_START (R272). -/
  | dmaStart (q : Fin 16)
  /-- DMA_GO (R285). -/
  | dmaGo (q : Fin 16)
  /-- DMA_RESUME (R289). -/
  | dmaResume (q : Fin 16)
  /-- DMA_ABORT (R290). -/
  | dmaAbort (q : Fin 16)
  /-- DMA_PAUSE (R282). -/
  | dmaPause (q : Fin 16)
  /-- DMA_UNPAUSE (R282). -/
  | dmaUnpause (q : Fin 16)
  /-- DMA_CLRCNT (R294). -/
  | dmaClrcnt (q : Fin 16)
  /-- DMA_DOORBELL (R272). -/
  | dmaDoorbell (q : Fin 16)
  /-- DESCRIPTOR_FETCH_DONE (R272). -/
  | descriptorFetchDone (q : Fin 16) (bytes : List Byte)
  /-- SGL_FETCH_DONE (R274). -/
  | sglFetchDone (q : Fin 16) (bytes : List Byte)
  /-- DMA_BURST (R275). -/
  | dmaBurst (q : Fin 16)
  /-- DMA_BEAT_ARBITRATION (R281). -/
  | dmaBeatArbitration
  /-- DMA_READ_COMPLETION (R283). -/
  | dmaReadCompletion (q : Fin 16) (bytes : List Byte)
  /-- DMA_READ_FAIL (R288). -/
  | dmaReadFail (q : Fin 16) (what : ReadWhat) (cause : Fin 4)
  /-- DMA_RETRY_BACKOFF (R288). -/
  | dmaRetryBackoff (q : Fin 16)
  /-- BARRIER_COMPLETE (R278). -/
  | barrierComplete (q : Fin 16)
  /-- CRHEAD_WRITE (R280). -/
  | crheadWrite (q : Fin 16) (slot : BitVec 16)
  /-- COAL_TIMER (R280). -/
  | coalTimer (q : Fin 16)
  /-- PCIE_LINK_CHANGE (R267). -/
  | pcieLinkChange (up : Bool) (speed : Fin 7) (width : Fin 17) (flit : Bool)
  /-- PCIE_AER_ERROR (R293). -/
  | pcieAerError (corr : Bool)
  /-- BUS_MASTER_ENABLE_CHANGE (R267). -/
  | busMasterEnableChange (bme mse d3hot : Bool) (bars : CfgBars) (dev : CfgDev) (msix : CfgMsix)
  /-- DRC_CLRCNT (R321). -/
  | drcClrcnt (k : Fin 4)
  /-- DRC_PPRNOW (R317). -/
  | drcPprnow (k : Fin 4)
  /-- PPR_WINDOW_END (R317). -/
  | pprWindowEnd (k : Fin 4) (oks : List Bool)
  /-- DRC_RETRAIN (R315). -/
  | drcRetrain (k : Fin 4)
  /-- DRAM_PERIODIC_TRAIN (R315). -/
  | dramPeriodicTrain (k : Fin 4)
  /-- DRAM_SCHEDULE (R308). -/
  | dramSchedule (k : Fin 4) (asks : List DrcAsk) (busy : List Nat)
  /-- DRAM_AGE_PROMOTE (R308). -/
  | dramAgePromote (k : Fin 4)
  /-- DRAM_READ_RETURN (R305). -/
  | dramReadReturn (k : Fin 4) (addr : Nat) (reads : BurstReads)
  /-- DRAM_REFRESH (R311). -/
  | dramRefresh (k : Fin 4) (bank : Fin 128)
  /-- DRAM_MR4_READ (R311). -/
  | dramMr4Read (k : Fin 4) (rank : Fin 2) (mr4 : BitVec 8) (double beyond : Bool)
  /-- RH_WINDOW_CLEAR (R313). -/
  | rhWindowClear (k : Fin 4)
  /-- MON_RUN_SET (R327). -/
  | monRunSet
  /-- MON_RUN_CLEAR (R327). -/
  | monRunClear
  /-- MON_SNAP (R331). -/
  | monSnap (rst : Bool)
  /-- MON_DIAGNOW (R335). -/
  | monDiagnow
  /-- MON_CLRCNT (R341). -/
  | monClrcnt
  /-- MON_CONVERSION_END (R325). -/
  | monConversionEnd (c : Fin 2) (count : ConvCount)
  /-- MON_STALL (R336). -/
  | monStall (c : Fin 2)
  /-- MON_DIAG_TIMER (R335). -/
  | monDiagTimer
  /-- MAINS_SYNC_EDGE (R324). -/
  | mainsSyncEdge
  /-- MAINS_TIMEOUT (R324). -/
  | mainsTimeout
  /-- MON_INJ_GO (R329). -/
  | monInjGo
  /-- MON_INJ_TIMER (R329). -/
  | monInjTimer
  /-- MON_INJ_DUE (R329). -/
  | monInjDue
  /-- MON_SYSCAL_ZERO (R337). -/
  | monSyscalZero (input : Fin 32) (count : BitVec 16)
  /-- MON_SYSCAL_FULL (R337). -/
  | monSyscalFull (input : Fin 32) (count : BitVec 16)
  /-- UMD_PORT_UP (R344). -/
  | umdPortUp (up : Bool) (above : Fin 16)
  /-- UMD_PORT_DOWN (R344). -/
  | umdPortDown (up : Bool)
  /-- UMD_TICK (R349). -/
  | umdTick (frame : List Byte) (lag : Nat)
  /-- UMD_TICK_T0 (R349). -/
  | umdTickT0
  /-- UMD_TIME (R352). -/
  | umdTime (frame : List Byte) (lag : Nat)
  /-- UMD_CMD (R353). -/
  | umdCmd (frame : List Byte)
  /-- UMD_REPLY (R354). -/
  | umdReply (frame : List Byte)
  /-- UMD_STATUS (R355). -/
  | umdStatus (frame : List Byte)
  /-- UMD_EVENT (R355). -/
  | umdEvent (frame : List Byte)
  /-- UMD_ECHO (R347). -/
  | umdEcho (up : Bool) (frame : List Byte) (measured : Nat)
  /-- UMD_ECHO_TIMER (R347). -/
  | umdEchoTimer
  /-- UMD_KEEPALIVE (R344). -/
  | umdKeepalive (up : Bool)
  /-- UMD_TIME_SEND (R352). -/
  | umdTimeSend
  /-- UMD_STATUS_SEND (R355). -/
  | umdStatusSend
  /-- UMD_CMD_GO (R353). -/
  | umdCmdGo (code : Fin 8) (group : Fin 4)
  /-- UMD_REPLY_TIMEOUT (R353). -/
  | umdReplyTimeout (id : BitVec 8) (node : Fin 16)
  /-- UMD_NODE_TIMEOUT (R356). -/
  | umdNodeTimeout (node : Fin 16)
  /-- UMD_CNT_CLEAR (R358). -/
  | umdCntClear
  /-- TRACKER_WINDOW_LAPSE (R362). -/
  | trackerWindowLapse
  /-- EVT_FORCE (R365). -/
  | evtForce (event : Fin 1024)
  /-- EVT_STAT_CLEAR (R365). -/
  | evtStatClear (w : Fin 32) (bits : Word)
  /-- EVT_LAST_CLEAR (R365). -/
  | evtLastClear (w : Fin 32) (bits : Word)
  /-- EVT_LOG_ENABLE (R366). -/
  | evtLogEnable
  /-- EVT_CLRCNT (R383). -/
  | evtClrcnt
  /-- EVT_LOGHEAD_WRITE (R366). -/
  | evtLogheadWrite (slot : BitVec 16)
  /-- MSI_HOLD_EXPIRE (R368). -/
  | msiHoldExpire (vec : Fin 64)
  /-- REGISTER_SCRUB (R376). -/
  | registerScrub (dw : BitVec 20) (fail : Bool)
  /-- DROOP_DETECT (R377). -/
  | droopDetect
  /-- STRETCH_END (R377). -/
  | stretchEnd
  /-- PLL_LOCK_LOSS (R360). -/
  | pllLockLoss (pll : Pll)
  /-- SYSCLK_LOSS (R360). -/
  | sysclkLoss
  /-- DIE_TEMP_READ (R383). -/
  | dieTempRead (temp : BitVec 16)
  deriving DecidableEq, Repr

end Sys2Proof
end

