-- ==== Sys2Proof/Decode.lean ====
section
/-! DEFINITION. Decode.lean: the commands that a word spells by the bits of spec/opcode_table.json. The table gives no row any bits: the device
takes its commands at its ports and pins, each with the operands that it brings there, and no word encodes one. -/

namespace Sys2Proof

/-- The command that a word spells: none, as no row of the table has bits.
[DESIGN CHOICE, safe: log entry 5] -/
def decodeTableWord (_nbits _w : Nat) : Option Instr := none

end Sys2Proof
end

