-- ==== Sys2Proof/Machine/EvMap.lean ====
section
/-! DEFINITION. Machine/EvMap.lean: the event numbers in use (spec/15_events_faults_availability.md R359, R360 and the event
table of every chapter), and the defaults of the event table (R364, R368, R369). Channel n owns events 224 + 200n on
(spec/00_scope.md R12). -/

namespace Sys2Proof.Machine

/-- The event number of channel event r of channel n (R12). -/
def chEv (n r : Nat) : Nat := 224 + 200 * n + r

def EV_CLK_LOCK : Nat := 0
def EV_CLK_SYSCLK : Nat := 1
def EV_CLK_STRETCH : Nat := 2
def EV_CLK_DROOP_LONG : Nat := 3
def EV_CLK_TEMP : Nat := 4
def EV_CLK_THERM : Nat := 5
def EV_DIE_LINK_CRC : Nat := 6
def EV_DIE_LINK_LOST : Nat := 7
def EV_EVT_LOGFULL : Nat := 8
def EV_EVT_LASTING : Nat := 9
def EV_EVT_SELF : Nat := 10
def EV_REG_PAR : Nat := 11
def EV_SAFE : Nat := 12
def EV_BOOT_DONE : Nat := 16
def EV_LIB_FALLBACK : Nat := 17
def EV_LIB_NONE : Nat := 18
def EV_JIG_BAD : Nat := 19
def EV_JOB_REFUSED : Nat := 20
def EV_JOB_CANCEL : Nat := 21
def EV_JOB_DONE : Nat := 22
def EV_LIB_BUSY : Nat := 23
def EV_UPD_DONE : Nat := 24
def EV_UPD_FAIL : Nat := 25
def EV_SEQ_FAIL : Nat := 26
def EV_SEQ_MARK : Nat := 27
def EV_HOME_FAIL : Nat := 28
def EV_RUN_REFUSED : Nat := 29
def EV_DMA_CMPL (q : Nat) : Nat := 32 + q
def EV_DMA_NOTREADY (q : Nat) : Nat := 48 + q
def EV_DMA_HALT (q : Nat) : Nat := 64 + q
def EV_DMA_LOOP (q : Nat) : Nat := 80 + q
def EV_DMA_CMPFAIL (q : Nat) : Nat := 96 + q
def EV_PCIE_LINK : Nat := 112
def EV_PCIE_CORR : Nat := 113
def EV_PCIE_UNCORR : Nat := 114
def EV_PCIE_FLR : Nat := 115
def EV_HOST_BADACC : Nat := 116
def EV_DMA_CFG : Nat := 117
def EV_DRC_TRAIN_FAIL (k : Nat) : Nat := 128 + 8 * k
def EV_DRC_CRC (k : Nat) : Nat := 129 + 8 * k
def EV_DRC_CRC_FAIL (k : Nat) : Nat := 130 + 8 * k
def EV_DRC_HAMMER (k : Nat) : Nat := 131 + 8 * k
def EV_DRC_PPR_PEND (k : Nat) : Nat := 132 + 8 * k
def EV_DRC_PPR_DONE (k : Nat) : Nat := 133 + 8 * k
def EV_DRC_PPR_FAIL (k : Nat) : Nat := 134 + 8 * k
def EV_DRC_TEMP (k : Nat) : Nat := 135 + 8 * k
def EV_DRC_SLOW (k : Nat) : Nat := 160 + k
def EV_DRC_MAP : Nat := 164
def EV_MON_LIMIT : Nat := 176
def EV_MON_OVR : Nat := 177
def EV_MON_DIAG : Nat := 178
def EV_MON_CHK : Nat := 179
def EV_MON_MAINS : Nat := 180
def EV_MON_SAT : Nat := 181
def EV_MON_INJOVR : Nat := 182
def EV_MON_SYSCAL : Nat := 183
def EV_MON_CONV_FLT : Nat := 184
def EV_MON_STALL : Nat := 185
def EV_UMD_LINK : Nat := 192
def EV_UMD_NODE_UP : Nat := 193
def EV_UMD_NODE_LOST : Nat := 194
def EV_UMD_CRC : Nat := 195
def EV_UMD_LATE : Nat := 196
def EV_UMD_TICKGAP : Nat := 197
def EV_UMD_CFG : Nat := 198
def EV_UMD_WORKER_EVT : Nat := 199
def EV_UMD_SYS_SW : Nat := 200
def EV_UMD_TIME : Nat := 201
def EV_SNS_PRESENT (n : Nat) : Nat := chEv n 0
def EV_SNS_ABSENT (n : Nat) : Nat := chEv n 1
def EV_SNS_READY (n : Nat) : Nat := chEv n 2
def EV_SNS_FAULT (n : Nat) : Nat := chEv n 3
def EV_SNS_SCHED_BAD (n : Nat) : Nat := chEv n 4
def EV_SNS_LOCK (n : Nat) : Nat := chEv n 5
def EV_SNS_MISSING (n : Nat) : Nat := chEv n 6
def EV_SNS_TAG (n : Nat) : Nat := chEv n 7
def EV_SNS_CRC (n : Nat) : Nat := chEv n 8
def EV_SNS_LANE_FLT (n : Nat) : Nat := chEv n 9
def EV_SNS_SPARE_IN (n : Nat) : Nat := chEv n 10
def EV_SNS_NOSPARE (n : Nat) : Nat := chEv n 11
def EV_SNS_DEFER (n : Nat) : Nat := chEv n 12
def EV_SNS_TRIGLOST (n : Nat) : Nat := chEv n 13
def EV_SNS_SPI_ERR (n : Nat) : Nat := chEv n 14
def EV_PIPE_RESIDUE (n : Nat) : Nat := chEv n 20
def EV_PIPE_POISON (n : Nat) : Nat := chEv n 21
def EV_PIPE_SLICE_FLT (n : Nat) : Nat := chEv n 22
def EV_PIPE_SPARE_IN (n : Nat) : Nat := chEv n 23
def EV_PIPE_NOSPARE (n : Nat) : Nat := chEv n 24
def EV_PIPE_SPARE_KAT (n : Nat) : Nat := chEv n 25
def EV_PIPE_SHD_PAR (n : Nat) : Nat := chEv n 26
def EV_PIPE_RAW_PAR (n : Nat) : Nat := chEv n 27
def EV_PIPE_ALIGN_PAR (n : Nat) : Nat := chEv n 28
def EV_PIPE_SRAM_FLT (n : Nat) : Nat := chEv n 29
def EV_PIPE_LAGFULL (n : Nat) : Nat := chEv n 30
def EV_PIPE_FOLLOW_LIM (n : Nat) : Nat := chEv n 31
def EV_PIPE_SHD_BUSY (n : Nat) : Nat := chEv n 32
def EV_PIPE_ROUGH (n : Nat) : Nat := chEv n 33
def EV_RSMP_TABLE_BAD (n : Nat) : Nat := chEv n 40
def EV_RSMP_RESIDUE (n : Nat) : Nat := chEv n 41
def EV_RSMP_LAGFULL (n : Nat) : Nat := chEv n 42
def EV_RSMP_EDGE_CHK (n : Nat) : Nat := chEv n 43
def EV_RSMP_NOEDGE (n : Nat) : Nat := chEv n 44
def EV_RSMP_WANDER (n : Nat) : Nat := chEv n 45
def EV_RSMP_SHEET_TRUNC (n : Nat) : Nat := chEv n 46
def EV_RSMP_SKEW (n : Nat) : Nat := chEv n 47
def EV_LMP_OPEN (n : Nat) : Nat := chEv n 60
def EV_LMP_SHORT (n : Nat) : Nat := chEv n 61
def EV_LMP_SINK_FLT (n : Nat) : Nat := chEv n 62
def EV_LMP_CFG (n : Nat) : Nat := chEv n 63
def EV_LMP_HOLD_LIM (n : Nat) : Nat := chEv n 64
def EV_LMP_DERATE (n : Nat) : Nat := chEv n 65
def EV_LMP_OVERTEMP (n : Nat) : Nat := chEv n 66
def EV_LMP_TEMP_FLT (n : Nat) : Nat := chEv n 67
def EV_LMP_ISAT (n : Nat) : Nat := chEv n 68
def EV_LMP_HDRM (n : Nat) : Nat := chEv n 69
def EV_LMP_FADE_DONE (n : Nat) : Nat := chEv n 70
def EV_POS_QERR (n : Nat) : Nat := chEv n 80
def EV_POS_DRIFT (n : Nat) : Nat := chEv n 81
def EV_POS_CORR (n : Nat) : Nat := chEv n 82
def EV_POS_REFLOST (n : Nat) : Nat := chEv n 83
def EV_POS_ABS_ERR (n : Nat) : Nat := chEv n 84
def EV_POS_ABS_MISMATCH (n : Nat) : Nat := chEv n 85
def EV_POS_GATE (n : Nat) : Nat := chEv n 86
def EV_POS_OVERSPEED (n : Nat) : Nat := chEv n 87
def EV_MOT_END (n : Nat) : Nat := chEv n 100
def EV_MOT_REFUSED (n : Nat) : Nat := chEv n 101
def EV_MOT_OVERRIDE (n : Nat) : Nat := chEv n 102
def EV_MOT_OVERSHOOT (n : Nat) : Nat := chEv n 103
def EV_MOT_HOMED (n : Nat) : Nat := chEv n 104
def EV_MOT_HOME_FAIL (n : Nat) : Nat := chEv n 105
def EV_MOT_STEP_CHK (n : Nat) : Nat := chEv n 106
def EV_MOT_SLIP (n : Nat) : Nat := chEv n 107
def EV_MOT_SAT (n : Nat) : Nat := chEv n 108
def EV_MOT_SUPPLY (n : Nat) : Nat := chEv n 109
def EV_MOT_TABLE_BAD (n : Nat) : Nat := chEv n 110
def EV_FIFO_HIGH (n : Nat) : Nat := chEv n 120
def EV_FIFO_LOW (n : Nat) : Nat := chEv n 121
def EV_FIFO_SPILL (n : Nat) : Nat := chEv n 122
def EV_FIFO_SPILLFULL (n : Nat) : Nat := chEv n 123
def EV_FIFO_KERF (n : Nat) : Nat := chEv n 124
def EV_FIFO_PAR (n : Nat) : Nat := chEv n 125
def EV_FIFO_SPILL_ERR (n : Nat) : Nat := chEv n 126
def EV_FIFO_SRAM_FLT (n : Nat) : Nat := chEv n 127
def EV_FIFO_DT_STOP (n : Nat) : Nat := chEv n 128
def EV_FIFO_JOIN (n : Nat) : Nat := chEv n 129
def EV_FIFO_JOINMIS (n : Nat) : Nat := chEv n 130
def EV_FIFO_FEEDLOST (n : Nat) : Nat := chEv n 131
def EV_FIFO_CFG_BAD (n : Nat) : Nat := chEv n 132
def EV_CAL_START (n : Nat) : Nat := chEv n 140
def EV_CAL_ACCEPT (n : Nat) : Nat := chEv n 141
def EV_CAL_REJECT (n : Nat) : Nat := chEv n 142
def EV_CAL_ABANDON (n : Nat) : Nat := chEv n 143
def EV_CAL_TEMP (n : Nat) : Nat := chEv n 144
def EV_CAL_EVAL (n : Nat) : Nat := chEv n 145
def EV_CAL_SLIDE (n : Nat) : Nat := chEv n 146
def EV_CAL_CHK (n : Nat) : Nat := chEv n 147
def EV_CAL_BUSY (n : Nat) : Nat := chEv n 148
def EV_CH_ROUGH (n : Nat) : Nat := chEv n 180
def EV_CH_REG_PAR (n : Nat) : Nat := chEv n 181

/-- Device-level event numbers in use (R359). -/
def devEvInUse (e : Nat) : Bool :=
  e ≤ 12 || (16 ≤ e && e ≤ 29) || (32 ≤ e && e ≤ 117) || (128 ≤ e && e ≤ 164) || (176 ≤ e && e ≤ 185) ||
  (192 ≤ e && e ≤ 201)

/-- Channel event offsets r in use (R359). -/
def chEvInUse (r : Nat) : Bool :=
  r ≤ 14 || (20 ≤ r && r ≤ 33) || (40 ≤ r && r ≤ 47) || (60 ≤ r && r ≤ 70) || (80 ≤ r && r ≤ 87) ||
  (100 ≤ r && r ≤ 110) || (120 ≤ r && r ≤ 132) || (140 ≤ r && r ≤ 148) || r == 180 || r == 181

/-- The event numbers in use (R359); every other number is reserved. -/
def evInUse (e : Nat) : Bool :=
  if e < 224 then devEvInUse e else if e < 1024 then chEvInUse ((e - 224) % 200) else false


/-- Class, THR and WIN (ms) of a device-level event by default (R364). A window the table does not give is 0, which
acts as 1 (R361). -/
def devEvDefault (e : Nat) : Nat × Nat × Nat :=
  if e = 0 ∨ e = 1 ∨ e = 5 ∨ e = 7 ∨ e = 10 ∨ e = 11 then (5, 1, 0)
  else if e = 2 then (1, 100, 1000)
  else if e = 3 ∨ e = 4 ∨ e = 6 then (1, 1, 0)
  else if e = 114 then (5, 4, 1000)
  else if 128 ≤ e ∧ e < 160 then
    (if (e - 128) % 8 = 2 then (2, 2, 3600000)
     else if (e - 128) % 8 = 4 ∨ (e - 128) % 8 = 0 then (1, 1, 0) else (0, 0, 0))
  else if e = 178 ∨ e = 185 then (2, 3, 600000)
  else if e = 194 then (1, 1, 0)
  else (0, 0, 0)

/-- Class, THR and WIN (ms) of channel event r by default (R364). -/
def chEvDefault (r : Nat) : Nat × Nat × Nat :=
  if r = 8 then (2, 16, 1000)
  else if r = 9 then (2, 1, 0)
  else if r = 11 ∨ r = 3 then (1, 1, 0)
  else if r = 20 then (2, 32, 100)
  else if r = 26 ∨ r = 27 ∨ r = 28 then (2, 8, 1000)
  else if r = 29 ∨ r = 24 then (3, 1, 0)
  else if r = 41 then (3, 64, 100)
  else if r = 125 then (2, 8, 1000)
  else if r = 127 then (3, 1, 0)
  else if r = 60 ∨ r = 61 ∨ r = 62 then (1, 1, 0)
  else if r = 106 ∨ r = 107 then (1, 1, 0)
  else if r = 181 then (4, 1, 0)
  else (0, 0, 0)

def evDefault (e : Nat) : Nat × Nat × Nat :=
  if e < 224 then devEvDefault e else chEvDefault ((e - 224) % 200)

/-- The default MSI-X vector of an event (R368). -/
def evDefaultVec (e : Nat) : Nat :=
  if 3 ≤ (evDefault e).1 ∨ e = 8 ∨ e = 9 ∨ e = 12 then 0
  else if 32 ≤ e ∧ e < 48 then 1 + (e - 32)
  else if 48 ≤ e ∧ e ≤ 117 then 17
  else if 224 ≤ e then 18 + (e - 224) / 200
  else 22

/-- The default EVT_N routing of an event (R369): class 2 to 5 events of channel n appear on EVT_N[n]. -/
def evDefaultPins (e : Nat) : Nat :=
  if 224 ≤ e ∧ 2 ≤ (evDefault e).1 then 2 ^ ((e - 224) / 200) else 0

/-- Default word 0 of an event-table entry (R361, R364); reserved events read zero (R359). -/
def evDefaultWord0 (e : Nat) : Word :=
  if evInUse e then BitVec.ofNat 32 ((evDefault e).1 * 2 ^ 29 + (evDefault e).2.2) else 0

/-- Default word 1 of an event-table entry (R361, R364, R368, R369). -/
def evDefaultWord1 (e : Nat) : Word :=
  if evInUse e then
    BitVec.ofNat 32 ((evDefault e).2.1 * 2 ^ 24 + evDefaultVec e * 2 ^ 18 + 2 ^ 17 +
      (if 32 ≤ e ∧ e < 48 then 0 else 2 ^ 16) + evDefaultPins e * 2 ^ 12)
  else 0

end Sys2Proof.Machine
end

