-- ==== Sys2Proof/Config.lean ====
section
/-! DEFINITION. Config.lean: what one device has fixed and the spec leaves open. Every constant here has no body, so no
proof can lean on a value of it. -/

namespace Sys2Proof

/-- The 64-bit unique identifier of R386, less one (the identifier is never zero). -/
opaque Config.uidPred : Fin (0xFFFFFFFFFFFFFFFE + 1)

/-- A free value: the spec leaves the value open and the machine goes on. Applied to the tag that says which value it
is and to the counter `freeCtr` of State, which every use advances.
[DESIGN CHOICE, safe: log entry 7] -/
opaque Config.freeValue : Nat → Nat → Nat

/-- The requester field of an EV_DRC_HAMMER log entry (R367): four bits, whose coding the spec does not give. Applied to
the requester's number in the order of R314, a DMA queue q as 8 + q.
[DESIGN CHOICE, safe: log entry 7] -/
opaque Config.requesterCode : Nat → BitVec 4

/-- The fixed scaling of converter inputs 24 to 28 (R323): the result in 1/16 °C or mV of a normalised value, applied to
the input and the value. The spec gives its unit and no formula.
[DESIGN CHOICE, safe: log entry 7; DEDUCED, unsafe: log entry 60] -/
opaque Config.monFixed : Nat → Int → BitVec 32

/-- The identifier of R386: never zero.
[DESIGN CHOICE, unsafe: log entry 2] -/
def Config.uid : Nat := Config.uidPred.val + 1

end Sys2Proof
end

