-- ==== Sys2Proof/Machine/RegMap.lean ====
section
/-! DEFINITION. Machine/RegMap.lean: every register field of BAR 0 by name (spec/16_register_map.md R384 to R400 and
each owning chapter's register tables), its absolute byte address, bit range, access code and reset value, and the
fields of the register at an address. Fields that the spec resets from pins or fuses stand here with reset 0 and are
set by the commands that sample the pins, or read through `State.readWord`. -/

namespace Sys2Proof.Machine

/-- Access codes of R9. -/
inductive Acc where
  | ro | rw | wo | w1c | rws | rwl
  deriving DecidableEq, Repr

/-- One register field: the register's BAR 0 byte address, the bits hi down to lo, access code and reset value. -/
structure Fld where
  addr : Nat
  hi : Nat
  lo : Nat
  acc : Acc
  rst : Nat
  deriving DecidableEq, Repr

/-- The BAR 0 base of channel n (R8). -/
def chBase (n : Nat) : Nat := 0x80000 + 0x40000 * n

/-! Block GLB (R386, R387). -/

def GLB_ID_DEVICE : Fld := ⟨0x0, 31, 16, .ro, 0x4096⟩
def GLB_ID_VENDOR : Fld := ⟨0x0, 15, 0, .ro, 0x1E9D⟩
def GLB_REV_STEPPING : Fld := ⟨0x4, 31, 24, .ro, 0xB0⟩
def GLB_REV_MAPVER : Fld := ⟨0x4, 23, 16, .ro, 0x01⟩
def GLB_REV_FMTVER : Fld := ⟨0x4, 15, 8, .ro, 0x01⟩
def GLB_UID_LO_UID : Fld := ⟨0x8, 31, 0, .ro, 0⟩
def GLB_UID_HI_UID : Fld := ⟨0xC, 31, 0, .ro, 0⟩
def GLB_CAP_CHANNELS : Fld := ⟨0x10, 31, 28, .ro, 4⟩
def GLB_CAP_SLICES : Fld := ⟨0x10, 27, 24, .ro, 9⟩
def GLB_CAP_QUEUES : Fld := ⟨0x10, 23, 16, .ro, 0x10⟩
def GLB_CAP_VECTORS : Fld := ⟨0x10, 15, 8, .ro, 0x40⟩
def GLB_CAP_WORKERS : Fld := ⟨0x10, 7, 4, .ro, 0xF⟩
def GLB_CAP_SPARELANES : Fld := ⟨0x10, 3, 0, .ro, 2⟩
def GLB_SCRATCH_DATA : Fld := ⟨0x14, 31, 0, .rws, 0⟩
def GLB_KEYHASH_HASH (w : Nat) : Fld := ⟨0x20 + 0x4 * w, 31, 0, .ro, 0⟩
def GLB_BOOTSTAT_PHASE : Fld := ⟨0x40, 31, 28, .ro, 0⟩
def GLB_BOOTSTAT_DRAMOK : Fld := ⟨0x40, 27, 24, .ro, 0⟩
def GLB_BOOTSTAT_CHOK : Fld := ⟨0x40, 23, 20, .ro, 0⟩
def GLB_BOOTSTAT_SLOT : Fld := ⟨0x40, 19, 18, .ro, 0⟩
def GLB_BOOTSTAT_FALLBACK : Fld := ⟨0x40, 17, 17, .ro, 0⟩
def GLB_BOOTSTAT_FUSE : Fld := ⟨0x40, 16, 16, .ro, 0⟩
def GLB_BOOTSTAT_MODE : Fld := ⟨0x40, 15, 14, .ro, 0⟩
def GLB_BOOTSTAT_ROLE : Fld := ⟨0x40, 13, 13, .ro, 0⟩
def GLB_BOOTSTAT_BOOTJIG : Fld := ⟨0x40, 5, 0, .ro, 0⟩
def GLB_LIBGEN_GEN : Fld := ⟨0x44, 31, 0, .ro, 0⟩
def GLB_LIBVALID_LO_VALID : Fld := ⟨0x48, 31, 0, .ro, 0⟩
def GLB_LIBVALID_HI_VALID : Fld := ⟨0x4C, 31, 0, .ro, 0⟩
def GLB_LIBCTL_VERIFY : Fld := ⟨0x50, 31, 31, .wo, 0⟩
def GLB_LIBCTL_BOOT : Fld := ⟨0x50, 30, 30, .wo, 0⟩
def GLB_LIBCTL_BUSY : Fld := ⟨0x50, 7, 7, .ro, 0⟩
def GLB_LIBCTL_JIG : Fld := ⟨0x50, 5, 0, .rw, 0⟩
def GLB_SWREQ_GO : Fld := ⟨0x60, 31, 31, .wo, 0⟩
def GLB_SWREQ_NEXT : Fld := ⟨0x60, 30, 30, .rw, 1⟩
def GLB_SWREQ_CANCEL : Fld := ⟨0x60, 29, 29, .wo, 0⟩
def GLB_SWREQ_MASK : Fld := ⟨0x60, 11, 8, .rw, 0⟩
def GLB_SWREQ_JIG : Fld := ⟨0x60, 5, 0, .rw, 0⟩
def GLB_SWLINE_LO_LINE : Fld := ⟨0x64, 31, 0, .rw, 0⟩
def GLB_SWLINE_HI_LINE : Fld := ⟨0x68, 15, 0, .rw, 0⟩
def GLB_PINSW_EN : Fld := ⟨0x6C, 31, 31, .rw, 0⟩
def GLB_PINSW_MASK : Fld := ⟨0x6C, 11, 8, .rw, 0⟩
def GLB_SW_STAT_STATE (n : Nat) : Fld := ⟨0x70 + 0x4 * n, 31, 28, .ro, 0⟩
def GLB_SW_STAT_REASON (n : Nat) : Fld := ⟨0x70 + 0x4 * n, 27, 24, .ro, 0⟩
def GLB_SW_STAT_SRC (n : Nat) : Fld := ⟨0x70 + 0x4 * n, 15, 14, .ro, 0⟩
def GLB_SW_STAT_PEND (n : Nat) : Fld := ⟨0x70 + 0x4 * n, 13, 8, .ro, 0⟩
def GLB_SW_STAT_NOJIG (n : Nat) : Fld := ⟨0x70 + 0x4 * n, 7, 7, .ro, 1⟩
def GLB_SW_STAT_ACTIVE (n : Nat) : Fld := ⟨0x70 + 0x4 * n, 5, 0, .ro, 0⟩
def GLB_SW_TGT_LO_LINE (n : Nat) : Fld := ⟨0x80 + 0x8 * n, 31, 0, .ro, 0⟩
def GLB_SW_TGT_HI_LINE (n : Nat) : Fld := ⟨0x84 + 0x8 * n, 15, 0, .ro, 0⟩
def GLB_UPDADDR_LO_ADDR : Fld := ⟨0xA0, 31, 0, .rw, 0⟩
def GLB_UPDADDR_HI_ADDR : Fld := ⟨0xA4, 31, 0, .rw, 0⟩
def GLB_UPDLEN_LEN : Fld := ⟨0xA8, 31, 0, .rw, 0⟩
def GLB_UPDCTL_START : Fld := ⟨0xAC, 31, 31, .wo, 0⟩
def GLB_UPDCTL_ABORT : Fld := ⟨0xAC, 30, 30, .wo, 0⟩
def GLB_UPDSTAT_STATE : Fld := ⟨0xB0, 31, 28, .ro, 0⟩
def GLB_UPDSTAT_CAUSE : Fld := ⟨0xB0, 27, 24, .ro, 0⟩
def GLB_UPDSTAT_PROG : Fld := ⟨0xB0, 23, 0, .ro, 0⟩
def GLB_WARMJIG_V3 : Fld := ⟨0xC0, 31, 31, .rws, 0⟩
def GLB_WARMJIG_JIG3 : Fld := ⟨0xC0, 29, 24, .rws, 0⟩
def GLB_WARMJIG_V2 : Fld := ⟨0xC0, 23, 23, .rws, 0⟩
def GLB_WARMJIG_JIG2 : Fld := ⟨0xC0, 21, 16, .rws, 0⟩
def GLB_WARMJIG_V1 : Fld := ⟨0xC0, 15, 15, .rws, 0⟩
def GLB_WARMJIG_JIG1 : Fld := ⟨0xC0, 13, 8, .rws, 0⟩
def GLB_WARMJIG_V0 : Fld := ⟨0xC0, 7, 7, .rws, 0⟩
def GLB_WARMJIG_JIG0 : Fld := ⟨0xC0, 5, 0, .rws, 0⟩
def GLB_CHCTL_RUN : Fld := ⟨0xC4, 3, 0, .rw, 0⟩
def GLB_CHSTAT_RUNNING : Fld := ⟨0xC8, 3, 0, .ro, 0⟩
def GLB_LDSYNC_PULSE : Fld := ⟨0xD0, 31, 31, .wo, 0⟩
def GLB_LDSYNC_OUT : Fld := ⟨0xD0, 0, 0, .rw, 0⟩
def GLB_TIME_LO_NS : Fld := ⟨0xD8, 31, 0, .ro, 0⟩
def GLB_TIME_HI_NS : Fld := ⟨0xDC, 31, 0, .ro, 0⟩

def fieldsGLB_2 (off : Nat) : List Fld :=
  if off = 0xC0 then [GLB_WARMJIG_V3, GLB_WARMJIG_JIG3, GLB_WARMJIG_V2, GLB_WARMJIG_JIG2, GLB_WARMJIG_V1, GLB_WARMJIG_JIG1, GLB_WARMJIG_V0, GLB_WARMJIG_JIG0] else
  if off = 0xC4 then [GLB_CHCTL_RUN] else
  if off = 0xC8 then [GLB_CHSTAT_RUNNING] else
  if off = 0xD0 then [GLB_LDSYNC_PULSE, GLB_LDSYNC_OUT] else
  if off = 0xD8 then [GLB_TIME_LO_NS] else
  if off = 0xDC then [GLB_TIME_HI_NS] else
  []

def fieldsGLB_1 (off : Nat) : List Fld :=
  if off = 0x60 then [GLB_SWREQ_GO, GLB_SWREQ_NEXT, GLB_SWREQ_CANCEL, GLB_SWREQ_MASK, GLB_SWREQ_JIG] else
  if off = 0x64 then [GLB_SWLINE_LO_LINE] else
  if off = 0x68 then [GLB_SWLINE_HI_LINE] else
  if off = 0x6C then [GLB_PINSW_EN, GLB_PINSW_MASK] else
  if 0x70 ≤ off ∧ off < 0x80 ∧ (off - 0x70) % 0x4 = 0 then let n := (off - 0x70) / 0x4; [GLB_SW_STAT_STATE n, GLB_SW_STAT_REASON n, GLB_SW_STAT_SRC n, GLB_SW_STAT_PEND n, GLB_SW_STAT_NOJIG n, GLB_SW_STAT_ACTIVE n] else
  if 0x80 ≤ off ∧ off < 0xA0 ∧ (off - 0x80) % 0x8 = 0 then let n := (off - 0x80) / 0x8; [GLB_SW_TGT_LO_LINE n] else
  if 0x84 ≤ off ∧ off < 0xA4 ∧ (off - 0x84) % 0x8 = 0 then let n := (off - 0x84) / 0x8; [GLB_SW_TGT_HI_LINE n] else
  if off = 0xA0 then [GLB_UPDADDR_LO_ADDR] else
  if off = 0xA4 then [GLB_UPDADDR_HI_ADDR] else
  if off = 0xA8 then [GLB_UPDLEN_LEN] else
  if off = 0xAC then [GLB_UPDCTL_START, GLB_UPDCTL_ABORT] else
  if off = 0xB0 then [GLB_UPDSTAT_STATE, GLB_UPDSTAT_CAUSE, GLB_UPDSTAT_PROG] else
  fieldsGLB_2 off

/-- The fields at an offset of block GLB (empty: reserved, R385). -/
def fieldsGLB (off : Nat) : List Fld :=
  if off = 0x0 then [GLB_ID_DEVICE, GLB_ID_VENDOR] else
  if off = 0x4 then [GLB_REV_STEPPING, GLB_REV_MAPVER, GLB_REV_FMTVER] else
  if off = 0x8 then [GLB_UID_LO_UID] else
  if off = 0xC then [GLB_UID_HI_UID] else
  if off = 0x10 then [GLB_CAP_CHANNELS, GLB_CAP_SLICES, GLB_CAP_QUEUES, GLB_CAP_VECTORS, GLB_CAP_WORKERS, GLB_CAP_SPARELANES] else
  if off = 0x14 then [GLB_SCRATCH_DATA] else
  if 0x20 ≤ off ∧ off < 0x40 ∧ (off - 0x20) % 0x4 = 0 then let w := (off - 0x20) / 0x4; [GLB_KEYHASH_HASH w] else
  if off = 0x40 then [GLB_BOOTSTAT_PHASE, GLB_BOOTSTAT_DRAMOK, GLB_BOOTSTAT_CHOK, GLB_BOOTSTAT_SLOT, GLB_BOOTSTAT_FALLBACK, GLB_BOOTSTAT_FUSE, GLB_BOOTSTAT_MODE, GLB_BOOTSTAT_ROLE, GLB_BOOTSTAT_BOOTJIG] else
  if off = 0x44 then [GLB_LIBGEN_GEN] else
  if off = 0x48 then [GLB_LIBVALID_LO_VALID] else
  if off = 0x4C then [GLB_LIBVALID_HI_VALID] else
  if off = 0x50 then [GLB_LIBCTL_VERIFY, GLB_LIBCTL_BOOT, GLB_LIBCTL_BUSY, GLB_LIBCTL_JIG] else
  fieldsGLB_1 off

/-! Block SEQ (R387). -/

def SEQ_DEV_STAT_STATE : Fld := ⟨0x4000, 31, 29, .ro, 0⟩
def SEQ_DEV_STAT_TYPE : Fld := ⟨0x4000, 28, 26, .ro, 0⟩
def SEQ_DEV_STAT_CAUSE : Fld := ⟨0x4000, 25, 22, .ro, 0⟩
def SEQ_DEV_STAT_JIG : Fld := ⟨0x4000, 21, 16, .ro, 0⟩
def SEQ_DEV_STAT_PC : Fld := ⟨0x4000, 12, 0, .ro, 0⟩
def SEQ_STAT_STATE (n : Nat) : Fld := ⟨0x4010 + 0x10 * n, 31, 29, .ro, 0⟩
def SEQ_STAT_TYPE (n : Nat) : Fld := ⟨0x4010 + 0x10 * n, 28, 26, .ro, 0⟩
def SEQ_STAT_CAUSE (n : Nat) : Fld := ⟨0x4010 + 0x10 * n, 25, 22, .ro, 0⟩
def SEQ_STAT_JIG (n : Nat) : Fld := ⟨0x4010 + 0x10 * n, 21, 16, .ro, 0⟩
def SEQ_STAT_PC (n : Nat) : Fld := ⟨0x4010 + 0x10 * n, 12, 0, .ro, 0⟩
def SEQ_CTL_START (n : Nat) : Fld := ⟨0x4014 + 0x10 * n, 31, 31, .wo, 0⟩
def SEQ_CTL_ABORT (n : Nat) : Fld := ⟨0x4014 + 0x10 * n, 30, 30, .wo, 0⟩
def SEQ_CTL_TYPE (n : Nat) : Fld := ⟨0x4014 + 0x10 * n, 2, 0, .rw, 2⟩

/-- The fields at an offset of block SEQ (empty: reserved, R385). -/
def fieldsSEQ (off : Nat) : List Fld :=
  if off = 0x0 then [SEQ_DEV_STAT_STATE, SEQ_DEV_STAT_TYPE, SEQ_DEV_STAT_CAUSE, SEQ_DEV_STAT_JIG, SEQ_DEV_STAT_PC] else
  if 0x10 ≤ off ∧ off < 0x50 ∧ (off - 0x10) % 0x10 = 0 then let n := (off - 0x10) / 0x10; [SEQ_STAT_STATE n, SEQ_STAT_TYPE n, SEQ_STAT_CAUSE n, SEQ_STAT_JIG n, SEQ_STAT_PC n] else
  if 0x14 ≤ off ∧ off < 0x54 ∧ (off - 0x14) % 0x10 = 0 then let n := (off - 0x14) / 0x10; [SEQ_CTL_START n, SEQ_CTL_ABORT n, SEQ_CTL_TYPE n] else
  []

/-! Block EVT (R388). -/

def EVT_CTL_CLRCNT : Fld := ⟨0x8000, 31, 31, .wo, 0⟩
def EVT_CTL_LOGEN : Fld := ⟨0x8000, 0, 0, .rw, 0⟩
def EVT_LOGBASE_LO_ADDR : Fld := ⟨0x8008, 31, 0, .rw, 0⟩
def EVT_LOGBASE_HI_ADDR : Fld := ⟨0x800C, 31, 0, .rw, 0⟩
def EVT_LOGSIZE_LOG2 : Fld := ⟨0x8010, 4, 0, .rw, 0x0A⟩
def EVT_LOGHEAD_SLOT : Fld := ⟨0x8014, 15, 0, .rw, 0⟩
def EVT_LOGTAIL_PHASE : Fld := ⟨0x8018, 31, 31, .ro, 1⟩
def EVT_LOGTAIL_SLOT : Fld := ⟨0x8018, 15, 0, .ro, 0⟩
def EVT_LOST_COUNT : Fld := ⟨0x801C, 31, 0, .ro, 0⟩
def EVT_MSIHOLD_HOLD : Fld := ⟨0x8020, 15, 0, .rw, 0⟩
def EVT_SAFE_SAFE : Fld := ⟨0x8028, 31, 31, .ro, 0⟩
def EVT_SAFE_CAUSE : Fld := ⟨0x8028, 9, 0, .ro, 0⟩
def EVT_ROUGH_ROUGH (n : Nat) : Fld := ⟨0x8030 + 0x4 * n, 31, 31, .ro, 0⟩
def EVT_ROUGH_STOP (n : Nat) : Fld := ⟨0x8030 + 0x4 * n, 30, 30, .ro, 0⟩
def EVT_ROUGH_CAUSE (n : Nat) : Fld := ⟨0x8030 + 0x4 * n, 9, 0, .ro, 0⟩
def EVT_TRK_FULL : Fld := ⟨0x8040, 31, 16, .ro, 0⟩
def EVT_TRK_USED : Fld := ⟨0x8040, 11, 0, .ro, 0⟩
def EVT_FORCE_GO : Fld := ⟨0x8044, 31, 31, .wo, 0⟩
def EVT_FORCE_EVENT : Fld := ⟨0x8044, 9, 0, .rw, 0⟩
def EVT_STAT_STAT (w : Nat) : Fld := ⟨0x8100 + 0x4 * w, 31, 0, .w1c, 0⟩
def EVT_LAST_LAST (w : Nat) : Fld := ⟨0x8180 + 0x4 * w, 31, 0, .w1c, 0⟩

def fieldsEVT_1 (off : Nat) : List Fld :=
  if 0x100 ≤ off ∧ off < 0x180 ∧ (off - 0x100) % 0x4 = 0 then let w := (off - 0x100) / 0x4; [EVT_STAT_STAT w] else
  if 0x180 ≤ off ∧ off < 0x200 ∧ (off - 0x180) % 0x4 = 0 then let w := (off - 0x180) / 0x4; [EVT_LAST_LAST w] else
  []

/-- The fields at an offset of block EVT (empty: reserved, R385). -/
def fieldsEVT (off : Nat) : List Fld :=
  if off = 0x0 then [EVT_CTL_CLRCNT, EVT_CTL_LOGEN] else
  if off = 0x8 then [EVT_LOGBASE_LO_ADDR] else
  if off = 0xC then [EVT_LOGBASE_HI_ADDR] else
  if off = 0x10 then [EVT_LOGSIZE_LOG2] else
  if off = 0x14 then [EVT_LOGHEAD_SLOT] else
  if off = 0x18 then [EVT_LOGTAIL_PHASE, EVT_LOGTAIL_SLOT] else
  if off = 0x1C then [EVT_LOST_COUNT] else
  if off = 0x20 then [EVT_MSIHOLD_HOLD] else
  if off = 0x28 then [EVT_SAFE_SAFE, EVT_SAFE_CAUSE] else
  if 0x30 ≤ off ∧ off < 0x40 ∧ (off - 0x30) % 0x4 = 0 then let n := (off - 0x30) / 0x4; [EVT_ROUGH_ROUGH n, EVT_ROUGH_STOP n, EVT_ROUGH_CAUSE n] else
  if off = 0x40 then [EVT_TRK_FULL, EVT_TRK_USED] else
  if off = 0x44 then [EVT_FORCE_GO, EVT_FORCE_EVENT] else
  fieldsEVT_1 off

/-! Block CLK (R388). -/

def CLK_RSTCTL_WARM : Fld := ⟨0xC000, 31, 31, .wo, 0⟩
def CLK_RSTCTL_CHRST : Fld := ⟨0xC000, 3, 0, .wo, 0⟩
def CLK_STAT_PIXLOCK : Fld := ⟨0xC004, 31, 31, .ro, 0⟩
def CLK_STAT_CTLLOCK : Fld := ⟨0xC004, 30, 30, .ro, 0⟩
def CLK_STAT_DRAMLOCK : Fld := ⟨0xC004, 29, 29, .ro, 0⟩
def CLK_STAT_SYSCLK : Fld := ⟨0xC004, 28, 28, .ro, 0⟩
def CLK_STAT_STRETCH : Fld := ⟨0xC004, 27, 27, .ro, 0⟩
def CLK_STAT_LINK : Fld := ⟨0xC004, 26, 26, .ro, 0⟩
def CLK_DROOP_THR : Fld := ⟨0xC008, 7, 0, .rw, 0x0C⟩
def CLK_STRCNT_COUNT : Fld := ⟨0xC00C, 31, 0, .ro, 0⟩
def CLK_STRTIME_NS : Fld := ⟨0xC010, 31, 0, .ro, 0⟩
def CLK_TEMP_LIM : Fld := ⟨0xC014, 31, 16, .rw, 0x0690⟩
def CLK_TEMP_TJ : Fld := ⟨0xC014, 15, 0, .ro, 0⟩

/-- The fields at an offset of block CLK (empty: reserved, R385). -/
def fieldsCLK (off : Nat) : List Fld :=
  if off = 0x0 then [CLK_RSTCTL_WARM, CLK_RSTCTL_CHRST] else
  if off = 0x4 then [CLK_STAT_PIXLOCK, CLK_STAT_CTLLOCK, CLK_STAT_DRAMLOCK, CLK_STAT_SYSCLK, CLK_STAT_STRETCH, CLK_STAT_LINK] else
  if off = 0x8 then [CLK_DROOP_THR] else
  if off = 0xC then [CLK_STRCNT_COUNT] else
  if off = 0x10 then [CLK_STRTIME_NS] else
  if off = 0x14 then [CLK_TEMP_LIM, CLK_TEMP_TJ] else
  []

/-! Block DMA (R389). -/

def DMA_LINK_SPEED : Fld := ⟨0x10000, 31, 28, .ro, 0⟩
def DMA_LINK_WIDTH : Fld := ⟨0x10000, 27, 22, .ro, 0⟩
def DMA_LINK_FLIT : Fld := ⟨0x10000, 21, 21, .ro, 0⟩
def DMA_LINK_UP : Fld := ⟨0x10000, 20, 20, .ro, 0⟩
def DMA_LINK_BME : Fld := ⟨0x10000, 19, 19, .ro, 0⟩
def DMA_LINK_DSTATE : Fld := ⟨0x10000, 18, 17, .ro, 0⟩
def DMA_CFG_RLXO : Fld := ⟨0x10004, 31, 31, .rw, 0⟩
def DMA_TRACK_TRK : Fld := ⟨0x10008, 31, 16, .ro, 0⟩
def DMA_TRACK_TAGS : Fld := ⟨0x10008, 12, 0, .ro, 0⟩
def DMA_HOSTERR_BADACC : Fld := ⟨0x1000C, 31, 16, .ro, 0⟩
def DMA_HOSTERR_POISONRX : Fld := ⟨0x1000C, 15, 0, .ro, 0⟩

/-- The fields at an offset of block DMA (empty: reserved, R385). -/
def fieldsDMA (off : Nat) : List Fld :=
  if off = 0x0 then [DMA_LINK_SPEED, DMA_LINK_WIDTH, DMA_LINK_FLIT, DMA_LINK_UP, DMA_LINK_BME, DMA_LINK_DSTATE] else
  if off = 0x4 then [DMA_CFG_RLXO] else
  if off = 0x8 then [DMA_TRACK_TRK, DMA_TRACK_TAGS] else
  if off = 0xC then [DMA_HOSTERR_BADACC, DMA_HOSTERR_POISONRX] else
  []

/-! Block DMAQ (R389). -/

def DMAQ_CTL_GO (q : Nat) : Fld := ⟨0x11000 + 0x100 * q, 31, 31, .wo, 0⟩
def DMAQ_CTL_START (q : Nat) : Fld := ⟨0x11000 + 0x100 * q, 30, 30, .wo, 0⟩
def DMAQ_CTL_RESUME (q : Nat) : Fld := ⟨0x11000 + 0x100 * q, 29, 29, .wo, 0⟩
def DMAQ_CTL_ABORT (q : Nat) : Fld := ⟨0x11000 + 0x100 * q, 28, 28, .wo, 0⟩
def DMAQ_CTL_PAUSE (q : Nat) : Fld := ⟨0x11000 + 0x100 * q, 27, 27, .rw, 0⟩
def DMAQ_CTL_CLRCNT (q : Nat) : Fld := ⟨0x11000 + 0x100 * q, 26, 26, .wo, 0⟩
def DMAQ_CFG_RDRND (q : Nat) : Fld := ⟨0x11004 + 0x100 * q, 9, 9, .rw, 1⟩
def DMAQ_CFG_NS (q : Nat) : Fld := ⟨0x11004 + 0x100 * q, 8, 8, .rw, 0⟩
def DMAQ_CFG_SRC (q : Nat) : Fld := ⟨0x11004 + 0x100 * q, 2, 0, .rw, 0⟩
def DMAQ_STAT_STATE (q : Nat) : Fld := ⟨0x11008 + 0x100 * q, 31, 28, .ro, 0⟩
def DMAQ_STAT_CAUSE (q : Nat) : Fld := ⟨0x11008 + 0x100 * q, 27, 24, .ro, 0⟩
def DMAQ_STAT_RMDONE (q : Nat) : Fld := ⟨0x11008 + 0x100 * q, 23, 23, .w1c, 0⟩
def DMAQ_STAT_RMRES (q : Nat) : Fld := ⟨0x11008 + 0x100 * q, 22, 20, .ro, 0⟩
def DMAQ_DOORBELL_ANY (q : Nat) : Fld := ⟨0x1100C + 0x100 * q, 31, 0, .wo, 0⟩
def DMAQ_NEXT_LO_ADDR (q : Nat) : Fld := ⟨0x11010 + 0x100 * q, 31, 6, .rw, 0⟩
def DMAQ_NEXT_HI_ADDR (q : Nat) : Fld := ⟨0x11014 + 0x100 * q, 31, 0, .rw, 0⟩
def DMAQ_DSEQ_PSEQ (q : Nat) : Fld := ⟨0x11018 + 0x100 * q, 31, 16, .ro, 0⟩
def DMAQ_DSEQ_EXP (q : Nat) : Fld := ⟨0x11018 + 0x100 * q, 15, 0, .rw, 0⟩
def DMAQ_CHAINLIM_LIM (q : Nat) : Fld := ⟨0x1101C + 0x100 * q, 31, 0, .rw, 0x10000⟩
def DMAQ_RETRY_BACKOFF (q : Nat) : Fld := ⟨0x11020 + 0x100 * q, 31, 16, .rw, 0x10⟩
def DMAQ_RETRY_COUNT (q : Nat) : Fld := ⟨0x11020 + 0x100 * q, 3, 0, .rw, 3⟩
def DMAQ_ARB_PRIO (q : Nat) : Fld := ⟨0x11024 + 0x100 * q, 31, 30, .rw, 0⟩
def DMAQ_ARB_WEIGHT (q : Nat) : Fld := ⟨0x11024 + 0x100 * q, 15, 0, .rw, 0x10⟩
def DMAQ_CRBASE_LO_ADDR (q : Nat) : Fld := ⟨0x11028 + 0x100 * q, 31, 0, .rw, 0⟩
def DMAQ_CRBASE_HI_ADDR (q : Nat) : Fld := ⟨0x1102C + 0x100 * q, 31, 0, .rw, 0⟩
def DMAQ_CRSIZE_LOG2 (q : Nat) : Fld := ⟨0x11030 + 0x100 * q, 4, 0, .rw, 0x0A⟩
def DMAQ_CRHEAD_SLOT (q : Nat) : Fld := ⟨0x11034 + 0x100 * q, 15, 0, .rw, 0⟩
def DMAQ_CRTAIL_PHASE (q : Nat) : Fld := ⟨0x11038 + 0x100 * q, 31, 31, .ro, 1⟩
def DMAQ_CRTAIL_SLOT (q : Nat) : Fld := ⟨0x11038 + 0x100 * q, 15, 0, .ro, 0⟩
def DMAQ_COAL_TIME (q : Nat) : Fld := ⟨0x1103C + 0x100 * q, 31, 16, .rw, 0⟩
def DMAQ_COAL_COUNT (q : Nat) : Fld := ⟨0x1103C + 0x100 * q, 15, 0, .rw, 1⟩
def DMAQ_POSDESC_LO_ADDR (q : Nat) : Fld := ⟨0x11040 + 0x100 * q, 31, 0, .ro, 0⟩
def DMAQ_POSDESC_HI_ADDR (q : Nat) : Fld := ⟨0x11044 + 0x100 * q, 31, 0, .ro, 0⟩
def DMAQ_POSOFF_OFF (q : Nat) : Fld := ⟨0x11048 + 0x100 * q, 31, 0, .ro, 0⟩
def DMAQ_FAILINFO_CAUSE (q : Nat) : Fld := ⟨0x1104C + 0x100 * q, 31, 28, .ro, 0⟩
def DMAQ_FAILINFO_TRIES (q : Nat) : Fld := ⟨0x1104C + 0x100 * q, 27, 24, .ro, 0⟩
def DMAQ_FAILINFO_PSEQ (q : Nat) : Fld := ⟨0x1104C + 0x100 * q, 15, 0, .ro, 0⟩
def DMAQ_RM_HADDR_LO_ADDR (q : Nat) : Fld := ⟨0x11050 + 0x100 * q, 31, 0, .rw, 0⟩
def DMAQ_RM_HADDR_HI_ADDR (q : Nat) : Fld := ⟨0x11054 + 0x100 * q, 31, 0, .rw, 0⟩
def DMAQ_RM_DADDR_ADDR (q : Nat) : Fld := ⟨0x11058 + 0x100 * q, 25, 0, .rw, 0⟩
def DMAQ_RM_LEN_LEN (q : Nat) : Fld := ⟨0x1105C + 0x100 * q, 31, 0, .rw, 0⟩
def DMAQ_RM_CFG_SWAP (q : Nat) : Fld := ⟨0x11060 + 0x100 * q, 5, 4, .rw, 0⟩
def DMAQ_RM_CFG_KIND (q : Nat) : Fld := ⟨0x11060 + 0x100 * q, 2, 0, .rw, 3⟩
def DMAQ_PATTERN_LO_VALUE (q : Nat) : Fld := ⟨0x11068 + 0x100 * q, 31, 0, .rw, 0⟩
def DMAQ_PATTERN_HI_VALUE (q : Nat) : Fld := ⟨0x1106C + 0x100 * q, 31, 0, .rw, 0⟩
def DMAQ_INCR_LO_VALUE (q : Nat) : Fld := ⟨0x11070 + 0x100 * q, 31, 0, .rw, 0⟩
def DMAQ_INCR_HI_VALUE (q : Nat) : Fld := ⟨0x11074 + 0x100 * q, 31, 0, .rw, 0⟩
def DMAQ_CMPACT_LO_DATA (q : Nat) : Fld := ⟨0x11078 + 0x100 * q, 31, 0, .ro, 0⟩
def DMAQ_CMPACT_HI_DATA (q : Nat) : Fld := ⟨0x1107C + 0x100 * q, 31, 0, .ro, 0⟩
def DMAQ_CMPOFF_OFF (q : Nat) : Fld := ⟨0x11080 + 0x100 * q, 31, 0, .ro, 0⟩
def DMAQ_CNT_DROPPKT (q : Nat) : Fld := ⟨0x11084 + 0x100 * q, 31, 16, .ro, 0⟩
def DMAQ_CNT_RETRIES (q : Nat) : Fld := ⟨0x11084 + 0x100 * q, 15, 0, .ro, 0⟩
def DMAQ_BYTES_LO_COUNT (q : Nat) : Fld := ⟨0x11088 + 0x100 * q, 31, 0, .ro, 0⟩
def DMAQ_BYTES_HI_COUNT (q : Nat) : Fld := ⟨0x1108C + 0x100 * q, 31, 0, .ro, 0⟩

def fieldsDMAQ_2 (q off : Nat) : List Fld :=
  if off = 0x60 then [DMAQ_RM_CFG_SWAP q, DMAQ_RM_CFG_KIND q] else
  if off = 0x68 then [DMAQ_PATTERN_LO_VALUE q] else
  if off = 0x6C then [DMAQ_PATTERN_HI_VALUE q] else
  if off = 0x70 then [DMAQ_INCR_LO_VALUE q] else
  if off = 0x74 then [DMAQ_INCR_HI_VALUE q] else
  if off = 0x78 then [DMAQ_CMPACT_LO_DATA q] else
  if off = 0x7C then [DMAQ_CMPACT_HI_DATA q] else
  if off = 0x80 then [DMAQ_CMPOFF_OFF q] else
  if off = 0x84 then [DMAQ_CNT_DROPPKT q, DMAQ_CNT_RETRIES q] else
  if off = 0x88 then [DMAQ_BYTES_LO_COUNT q] else
  if off = 0x8C then [DMAQ_BYTES_HI_COUNT q] else
  []

def fieldsDMAQ_1 (q off : Nat) : List Fld :=
  if off = 0x30 then [DMAQ_CRSIZE_LOG2 q] else
  if off = 0x34 then [DMAQ_CRHEAD_SLOT q] else
  if off = 0x38 then [DMAQ_CRTAIL_PHASE q, DMAQ_CRTAIL_SLOT q] else
  if off = 0x3C then [DMAQ_COAL_TIME q, DMAQ_COAL_COUNT q] else
  if off = 0x40 then [DMAQ_POSDESC_LO_ADDR q] else
  if off = 0x44 then [DMAQ_POSDESC_HI_ADDR q] else
  if off = 0x48 then [DMAQ_POSOFF_OFF q] else
  if off = 0x4C then [DMAQ_FAILINFO_CAUSE q, DMAQ_FAILINFO_TRIES q, DMAQ_FAILINFO_PSEQ q] else
  if off = 0x50 then [DMAQ_RM_HADDR_LO_ADDR q] else
  if off = 0x54 then [DMAQ_RM_HADDR_HI_ADDR q] else
  if off = 0x58 then [DMAQ_RM_DADDR_ADDR q] else
  if off = 0x5C then [DMAQ_RM_LEN_LEN q] else
  fieldsDMAQ_2 q off

/-- The fields at an offset of block DMAQ (empty: reserved, R385). -/
def fieldsDMAQ (q off : Nat) : List Fld :=
  if off = 0x0 then [DMAQ_CTL_GO q, DMAQ_CTL_START q, DMAQ_CTL_RESUME q, DMAQ_CTL_ABORT q, DMAQ_CTL_PAUSE q, DMAQ_CTL_CLRCNT q] else
  if off = 0x4 then [DMAQ_CFG_RDRND q, DMAQ_CFG_NS q, DMAQ_CFG_SRC q] else
  if off = 0x8 then [DMAQ_STAT_STATE q, DMAQ_STAT_CAUSE q, DMAQ_STAT_RMDONE q, DMAQ_STAT_RMRES q] else
  if off = 0xC then [DMAQ_DOORBELL_ANY q] else
  if off = 0x10 then [DMAQ_NEXT_LO_ADDR q] else
  if off = 0x14 then [DMAQ_NEXT_HI_ADDR q] else
  if off = 0x18 then [DMAQ_DSEQ_PSEQ q, DMAQ_DSEQ_EXP q] else
  if off = 0x1C then [DMAQ_CHAINLIM_LIM q] else
  if off = 0x20 then [DMAQ_RETRY_BACKOFF q, DMAQ_RETRY_COUNT q] else
  if off = 0x24 then [DMAQ_ARB_PRIO q, DMAQ_ARB_WEIGHT q] else
  if off = 0x28 then [DMAQ_CRBASE_LO_ADDR q] else
  if off = 0x2C then [DMAQ_CRBASE_HI_ADDR q] else
  fieldsDMAQ_1 q off

/-! Block DRC (R390). -/

def DRC_STAT_STATE (k : Nat) : Fld := ⟨0x20000 + 0x4000 * k, 31, 29, .ro, 0⟩
def DRC_STAT_BIN (k : Nat) : Fld := ⟨0x20000 + 0x4000 * k, 28, 26, .ro, 0⟩
def DRC_STAT_DENS (k : Nat) : Fld := ⟨0x20000 + 0x4000 * k, 25, 24, .ro, 0⟩
def DRC_STAT_RANK2 (k : Nat) : Fld := ⟨0x20000 + 0x4000 * k, 23, 23, .ro, 0⟩
def DRC_STAT_MAPLOCK (k : Nat) : Fld := ⟨0x20000 + 0x4000 * k, 22, 22, .ro, 0⟩
def DRC_STAT_REF2X (k : Nat) : Fld := ⟨0x20000 + 0x4000 * k, 21, 21, .ro, 0⟩
def DRC_STAT_RFM (k : Nat) : Fld := ⟨0x20000 + 0x4000 * k, 20, 20, .ro, 0⟩
def DRC_STAT_CAPG (k : Nat) : Fld := ⟨0x20000 + 0x4000 * k, 5, 0, .ro, 0⟩
def DRC_CTL_CLRCNT (k : Nat) : Fld := ⟨0x20004 + 0x4000 * k, 31, 31, .wo, 0⟩
def DRC_CTL_PPRNOW (k : Nat) : Fld := ⟨0x20004 + 0x4000 * k, 30, 30, .wo, 0⟩
def DRC_CTL_RETRAIN (k : Nat) : Fld := ⟨0x20004 + 0x4000 * k, 29, 29, .wo, 0⟩
def DRC_MAP_SC_MASK (k : Nat) : Fld := ⟨0x20010 + 0x4000 * k, 16, 0, .rws, 0x0041⟩
def DRC_MAP_BG0_MASK (k : Nat) : Fld := ⟨0x20014 + 0x4000 * k, 16, 0, .rws, 0x0082⟩
def DRC_MAP_BG1_MASK (k : Nat) : Fld := ⟨0x20018 + 0x4000 * k, 16, 0, .rws, 0x0104⟩
def DRC_MAP_BG2_MASK (k : Nat) : Fld := ⟨0x2001C + 0x4000 * k, 16, 0, .rws, 0x0208⟩
def DRC_MAP_BA0_MASK (k : Nat) : Fld := ⟨0x20020 + 0x4000 * k, 16, 0, .rws, 0x0410⟩
def DRC_MAP_BA1_MASK (k : Nat) : Fld := ⟨0x20024 + 0x4000 * k, 16, 0, .rws, 0x0820⟩
def DRC_SPILL_SIZE (k : Nat) : Fld := ⟨0x20028 + 0x4000 * k, 15, 0, .ro, 0⟩
def DRC_AGE_A3 (k : Nat) : Fld := ⟨0x20030 + 0x4000 * k, 23, 16, .rw, 0x64⟩
def DRC_AGE_A2 (k : Nat) : Fld := ⟨0x20030 + 0x4000 * k, 15, 8, .rw, 0x64⟩
def DRC_AGE_A1 (k : Nat) : Fld := ⟨0x20030 + 0x4000 * k, 7, 0, .rw, 0x14⟩
def DRC_RHCFG_TINT (k : Nat) : Fld := ⟨0x20034 + 0x4000 * k, 23, 16, .rw, 1⟩
def DRC_RHCFG_THR (k : Nat) : Fld := ⟨0x20034 + 0x4000 * k, 15, 0, .rw, 0x0800⟩
def DRC_PTRAIN_PER (k : Nat) : Fld := ⟨0x20038 + 0x4000 * k, 15, 0, .rw, 0x80⟩
def DRC_CRCERR_FAIL (k : Nat) : Fld := ⟨0x20040 + 0x4000 * k, 31, 16, .ro, 0⟩
def DRC_CRCERR_REREAD (k : Nat) : Fld := ⟨0x20040 + 0x4000 * k, 15, 0, .ro, 0⟩
def DRC_FAILADDR_LO_ADDR (k : Nat) : Fld := ⟨0x20044 + 0x4000 * k, 31, 0, .ro, 0⟩
def DRC_FAILADDR_HI_ADDR (k : Nat) : Fld := ⟨0x20048 + 0x4000 * k, 2, 0, .ro, 0⟩
def DRC_HAMMER_THROTTLED (k : Nat) : Fld := ⟨0x2004C + 0x4000 * k, 31, 16, .ro, 0⟩
def DRC_HAMMER_CAUGHT (k : Nat) : Fld := ⟨0x2004C + 0x4000 * k, 15, 0, .ro, 0⟩
def DRC_TEMP_MR4 (k : Nat) : Fld := ⟨0x20050 + 0x4000 * k, 2, 0, .ro, 0⟩
def DRC_PPRCNT_COUNT (k : Nat) : Fld := ⟨0x20054 + 0x4000 * k, 15, 0, .ro, 0⟩
def DRC_PPR_V (k e : Nat) : Fld := ⟨0x20080 + 0x4000 * k + 0x4 * e, 31, 31, .rws, 0⟩
def DRC_PPR_FAIL (k e : Nat) : Fld := ⟨0x20080 + 0x4000 * k + 0x4 * e, 30, 30, .ro, 0⟩
def DRC_PPR_RANK (k e : Nat) : Fld := ⟨0x20080 + 0x4000 * k + 0x4 * e, 29, 29, .rws, 0⟩
def DRC_PPR_SC (k e : Nat) : Fld := ⟨0x20080 + 0x4000 * k + 0x4 * e, 28, 28, .rws, 0⟩
def DRC_PPR_BG (k e : Nat) : Fld := ⟨0x20080 + 0x4000 * k + 0x4 * e, 27, 25, .rws, 0⟩
def DRC_PPR_BA (k e : Nat) : Fld := ⟨0x20080 + 0x4000 * k + 0x4 * e, 24, 23, .rws, 0⟩
def DRC_PPR_ROW (k e : Nat) : Fld := ⟨0x20080 + 0x4000 * k + 0x4 * e, 16, 0, .rws, 0⟩

def fieldsDRC_1 (k off : Nat) : List Fld :=
  if off = 0x40 then [DRC_CRCERR_FAIL k, DRC_CRCERR_REREAD k] else
  if off = 0x44 then [DRC_FAILADDR_LO_ADDR k] else
  if off = 0x48 then [DRC_FAILADDR_HI_ADDR k] else
  if off = 0x4C then [DRC_HAMMER_THROTTLED k, DRC_HAMMER_CAUGHT k] else
  if off = 0x50 then [DRC_TEMP_MR4 k] else
  if off = 0x54 then [DRC_PPRCNT_COUNT k] else
  if 0x80 ≤ off ∧ off < 0xA0 ∧ (off - 0x80) % 0x4 = 0 then let e := (off - 0x80) / 0x4; [DRC_PPR_V k e, DRC_PPR_FAIL k e, DRC_PPR_RANK k e, DRC_PPR_SC k e, DRC_PPR_BG k e, DRC_PPR_BA k e, DRC_PPR_ROW k e] else
  []

/-- The fields at an offset of block DRC (empty: reserved, R385). -/
def fieldsDRC (k off : Nat) : List Fld :=
  if off = 0x0 then [DRC_STAT_STATE k, DRC_STAT_BIN k, DRC_STAT_DENS k, DRC_STAT_RANK2 k, DRC_STAT_MAPLOCK k, DRC_STAT_REF2X k, DRC_STAT_RFM k, DRC_STAT_CAPG k] else
  if off = 0x4 then [DRC_CTL_CLRCNT k, DRC_CTL_PPRNOW k, DRC_CTL_RETRAIN k] else
  if off = 0x10 then [DRC_MAP_SC_MASK k] else
  if off = 0x14 then [DRC_MAP_BG0_MASK k] else
  if off = 0x18 then [DRC_MAP_BG1_MASK k] else
  if off = 0x1C then [DRC_MAP_BG2_MASK k] else
  if off = 0x20 then [DRC_MAP_BA0_MASK k] else
  if off = 0x24 then [DRC_MAP_BA1_MASK k] else
  if off = 0x28 then [DRC_SPILL_SIZE k] else
  if off = 0x30 then [DRC_AGE_A3 k, DRC_AGE_A2 k, DRC_AGE_A1 k] else
  if off = 0x34 then [DRC_RHCFG_TINT k, DRC_RHCFG_THR k] else
  if off = 0x38 then [DRC_PTRAIN_PER k] else
  fieldsDRC_1 k off

/-! Block MON (R391). -/

def MON_CTL_RUN : Fld := ⟨0x30000, 31, 31, .rw, 0⟩
def MON_CTL_SNAP : Fld := ⟨0x30000, 30, 30, .wo, 0⟩
def MON_CTL_SNAPRST : Fld := ⟨0x30000, 29, 29, .wo, 0⟩
def MON_CTL_DIAGNOW : Fld := ⟨0x30000, 28, 28, .wo, 0⟩
def MON_CTL_CLRCNT : Fld := ⟨0x30000, 27, 27, .wo, 0⟩
def MON_CFG_MSYNC : Fld := ⟨0x30004, 31, 31, .rw, 0⟩
def MON_CFG_TPER : Fld := ⟨0x30004, 19, 0, .rw, 0x4E20⟩
def MON_SETTLE_TSET : Fld := ⟨0x30008, 15, 0, .rw, 0x07D0⟩
def MON_STAT_CONV : Fld := ⟨0x3000C, 31, 30, .ro, 0⟩
def MON_STAT_CFLT : Fld := ⟨0x3000C, 29, 28, .ro, 0⟩
def MON_STAT_MAINSOK : Fld := ⟨0x3000C, 27, 27, .ro, 0⟩
def MON_STAT_SCALOK : Fld := ⟨0x3000C, 26, 26, .ro, 0⟩
def MON_STAT_BUSY : Fld := ⟨0x3000C, 25, 25, .ro, 0⟩
def MON_STAT_SYSERR : Fld := ⟨0x3000C, 24, 24, .ro, 0⟩
def MON_STAT_DIAGBUSY : Fld := ⟨0x3000C, 23, 23, .ro, 0⟩
def MON_PERIOD_K : Fld := ⟨0x30010, 23, 0, .ro, 0⟩
def MON_SEQLEN_LEN : Fld := ⟨0x30014, 5, 0, .rw, 0⟩
def MON_SNAPMASK_MASK : Fld := ⟨0x30018, 31, 0, .rw, 0xFFFFFFFF⟩
def MON_SEQ_E3 (w : Nat) : Fld := ⟨0x30020 + 0x4 * w, 28, 24, .rw, 0⟩
def MON_SEQ_E2 (w : Nat) : Fld := ⟨0x30020 + 0x4 * w, 20, 16, .rw, 0⟩
def MON_SEQ_E1 (w : Nat) : Fld := ⟨0x30020 + 0x4 * w, 12, 8, .rw, 0⟩
def MON_SEQ_E0 (w : Nat) : Fld := ⟨0x30020 + 0x4 * w, 4, 0, .rw, 0⟩
def MON_INJCFG_EN : Fld := ⟨0x30040, 31, 31, .rw, 0⟩
def MON_INJCFG_PREEMPT : Fld := ⟨0x30040, 30, 30, .rw, 0⟩
def MON_INJCFG_SRC : Fld := ⟨0x30040, 29, 27, .rw, 0⟩
def MON_INJCFG_CH : Fld := ⟨0x30040, 26, 25, .rw, 0⟩
def MON_INJCFG_AX : Fld := ⟨0x30040, 24, 23, .rw, 0⟩
def MON_INJCFG_LENM1 : Fld := ⟨0x30040, 22, 21, .rw, 0⟩
def MON_INJSEQ_E3 : Fld := ⟨0x30044, 28, 24, .rw, 0⟩
def MON_INJSEQ_E2 : Fld := ⟨0x30044, 20, 16, .rw, 0⟩
def MON_INJSEQ_E1 : Fld := ⟨0x30044, 12, 8, .rw, 0⟩
def MON_INJSEQ_E0 : Fld := ⟨0x30044, 4, 0, .rw, 0⟩
def MON_INJTIM_DELAY : Fld := ⟨0x30048, 31, 16, .rw, 0⟩
def MON_INJTIM_PER : Fld := ⟨0x30048, 15, 0, .rw, 0x64⟩
def MON_INJCTL_GO : Fld := ⟨0x3004C, 31, 31, .wo, 0⟩
def MON_DIAGCFG_PER : Fld := ⟨0x30050, 31, 16, .rw, 0x3C⟩
def MON_DIAGCFG_TOL : Fld := ⟨0x30050, 15, 0, .rw, 0x1000⟩
def MON_SYSCAL_ZERO : Fld := ⟨0x30054, 31, 31, .wo, 0⟩
def MON_SYSCAL_FULL : Fld := ⟨0x30054, 30, 30, .wo, 0⟩
def MON_SYSCAL_INPUT : Fld := ⟨0x30054, 20, 16, .rw, 0⟩
def MON_SYSCAL_N : Fld := ⟨0x30054, 15, 0, .rw, 0x10⟩
def MON_ZERO_Z (c : Nat) : Fld := ⟨0x30060 + 0x8 * c, 31, 0, .ro, 0⟩
def MON_FULL_F (c : Nat) : Fld := ⟨0x30064 + 0x8 * c, 31, 0, .ro, 0x00800000⟩
def MON_CNT_DISCARD : Fld := ⟨0x30070, 31, 16, .ro, 0⟩
def MON_CNT_ABORT : Fld := ⟨0x30070, 15, 0, .ro, 0⟩
def MON_CNT2_INJOVR : Fld := ⟨0x30074, 31, 16, .ro, 0⟩
def MON_CNT2_CHKERR : Fld := ⟨0x30074, 15, 0, .ro, 0⟩
def MON_CNT3_DIAGFAIL : Fld := ⟨0x30078, 31, 16, .ro, 0⟩
def MON_CNT3_STALL : Fld := ⟨0x30078, 15, 0, .ro, 0⟩
def MON_NTC_TEMP (t : Nat) : Fld := ⟨0x30400 + 0x4 * t, 15, 0, .rw, 0x8000⟩
def MON_IN_CFG_MODE (i : Nat) : Fld := ⟨0x30800 + 0x20 * i, 31, 30, .rw, 0⟩
def MON_IN_CFG_LIMEN (i : Nat) : Fld := ⟨0x30800 + 0x20 * i, 29, 29, .rw, 0⟩
def MON_IN_GAIN_V (i : Nat) : Fld := ⟨0x30804 + 0x20 * i, 31, 0, .rws, 0x00100000⟩
def MON_IN_OFF_V (i : Nat) : Fld := ⟨0x30808 + 0x20 * i, 31, 0, .rws, 0⟩
def MON_IN_FSV_V (i : Nat) : Fld := ⟨0x3080C + 0x20 * i, 31, 0, .rw, 0⟩
def MON_IN_LIMLO_V (i : Nat) : Fld := ⟨0x30810 + 0x20 * i, 31, 0, .rw, 0x80000000⟩
def MON_IN_LIMHI_V (i : Nat) : Fld := ⟨0x30814 + 0x20 * i, 31, 0, .rw, 0x7FFFFFFF⟩
def MON_R_SUM_LO_V (i : Nat) : Fld := ⟨0x31000 + 0x20 * i, 31, 0, .ro, 0⟩
def MON_R_SUM_HI_V (i : Nat) : Fld := ⟨0x31004 + 0x20 * i, 31, 0, .ro, 0⟩
def MON_R_COUNT_V (i : Nat) : Fld := ⟨0x31008 + 0x20 * i, 31, 0, .ro, 0⟩
def MON_R_MIN_V (i : Nat) : Fld := ⟨0x3100C + 0x20 * i, 31, 0, .ro, 0x7FFFFFFF⟩
def MON_R_MAX_V (i : Nat) : Fld := ⟨0x31010 + 0x20 * i, 31, 0, .ro, 0x80000000⟩
def MON_R_STAT_SAT (i : Nat) : Fld := ⟨0x31014 + 0x20 * i, 31, 31, .ro, 0⟩
def MON_R_STAT_OVR (i : Nat) : Fld := ⟨0x31014 + 0x20 * i, 30, 30, .ro, 0⟩
def MON_R_STAT_INV (i : Nat) : Fld := ⟨0x31014 + 0x20 * i, 29, 29, .ro, 0⟩
def MON_R_STAT_LIMLO (i : Nat) : Fld := ⟨0x31014 + 0x20 * i, 28, 28, .ro, 0⟩
def MON_R_STAT_LIMHI (i : Nat) : Fld := ⟨0x31014 + 0x20 * i, 27, 27, .ro, 0⟩
def MON_R_STAT_OVRCNT (i : Nat) : Fld := ⟨0x31014 + 0x20 * i, 15, 8, .ro, 0⟩
def MON_R_STAT_INVCNT (i : Nat) : Fld := ⟨0x31014 + 0x20 * i, 7, 0, .ro, 0⟩

def fieldsMON_2 (off : Nat) : List Fld :=
  if 0x810 ≤ off ∧ off < 0xC10 ∧ (off - 0x810) % 0x20 = 0 then let i := (off - 0x810) / 0x20; [MON_IN_LIMLO_V i] else
  if 0x814 ≤ off ∧ off < 0xC14 ∧ (off - 0x814) % 0x20 = 0 then let i := (off - 0x814) / 0x20; [MON_IN_LIMHI_V i] else
  if 0x1000 ≤ off ∧ off < 0x1400 ∧ (off - 0x1000) % 0x20 = 0 then let i := (off - 0x1000) / 0x20; [MON_R_SUM_LO_V i] else
  if 0x1004 ≤ off ∧ off < 0x1404 ∧ (off - 0x1004) % 0x20 = 0 then let i := (off - 0x1004) / 0x20; [MON_R_SUM_HI_V i] else
  if 0x1008 ≤ off ∧ off < 0x1408 ∧ (off - 0x1008) % 0x20 = 0 then let i := (off - 0x1008) / 0x20; [MON_R_COUNT_V i] else
  if 0x100C ≤ off ∧ off < 0x140C ∧ (off - 0x100C) % 0x20 = 0 then let i := (off - 0x100C) / 0x20; [MON_R_MIN_V i] else
  if 0x1010 ≤ off ∧ off < 0x1410 ∧ (off - 0x1010) % 0x20 = 0 then let i := (off - 0x1010) / 0x20; [MON_R_MAX_V i] else
  if 0x1014 ≤ off ∧ off < 0x1414 ∧ (off - 0x1014) % 0x20 = 0 then let i := (off - 0x1014) / 0x20; [MON_R_STAT_SAT i, MON_R_STAT_OVR i, MON_R_STAT_INV i, MON_R_STAT_LIMLO i, MON_R_STAT_LIMHI i, MON_R_STAT_OVRCNT i, MON_R_STAT_INVCNT i] else
  []

def fieldsMON_1 (off : Nat) : List Fld :=
  if off = 0x50 then [MON_DIAGCFG_PER, MON_DIAGCFG_TOL] else
  if off = 0x54 then [MON_SYSCAL_ZERO, MON_SYSCAL_FULL, MON_SYSCAL_INPUT, MON_SYSCAL_N] else
  if 0x60 ≤ off ∧ off < 0x70 ∧ (off - 0x60) % 0x8 = 0 then let c := (off - 0x60) / 0x8; [MON_ZERO_Z c] else
  if 0x64 ≤ off ∧ off < 0x74 ∧ (off - 0x64) % 0x8 = 0 then let c := (off - 0x64) / 0x8; [MON_FULL_F c] else
  if off = 0x70 then [MON_CNT_DISCARD, MON_CNT_ABORT] else
  if off = 0x74 then [MON_CNT2_INJOVR, MON_CNT2_CHKERR] else
  if off = 0x78 then [MON_CNT3_DIAGFAIL, MON_CNT3_STALL] else
  if 0x400 ≤ off ∧ off < 0x484 ∧ (off - 0x400) % 0x4 = 0 then let t := (off - 0x400) / 0x4; [MON_NTC_TEMP t] else
  if 0x800 ≤ off ∧ off < 0xC00 ∧ (off - 0x800) % 0x20 = 0 then let i := (off - 0x800) / 0x20; [MON_IN_CFG_MODE i, MON_IN_CFG_LIMEN i] else
  if 0x804 ≤ off ∧ off < 0xC04 ∧ (off - 0x804) % 0x20 = 0 then let i := (off - 0x804) / 0x20; [MON_IN_GAIN_V i] else
  if 0x808 ≤ off ∧ off < 0xC08 ∧ (off - 0x808) % 0x20 = 0 then let i := (off - 0x808) / 0x20; [MON_IN_OFF_V i] else
  if 0x80C ≤ off ∧ off < 0xC0C ∧ (off - 0x80C) % 0x20 = 0 then let i := (off - 0x80C) / 0x20; [MON_IN_FSV_V i] else
  fieldsMON_2 off

/-- The fields at an offset of block MON (empty: reserved, R385). -/
def fieldsMON (off : Nat) : List Fld :=
  if off = 0x0 then [MON_CTL_RUN, MON_CTL_SNAP, MON_CTL_SNAPRST, MON_CTL_DIAGNOW, MON_CTL_CLRCNT] else
  if off = 0x4 then [MON_CFG_MSYNC, MON_CFG_TPER] else
  if off = 0x8 then [MON_SETTLE_TSET] else
  if off = 0xC then [MON_STAT_CONV, MON_STAT_CFLT, MON_STAT_MAINSOK, MON_STAT_SCALOK, MON_STAT_BUSY, MON_STAT_SYSERR, MON_STAT_DIAGBUSY] else
  if off = 0x10 then [MON_PERIOD_K] else
  if off = 0x14 then [MON_SEQLEN_LEN] else
  if off = 0x18 then [MON_SNAPMASK_MASK] else
  if 0x20 ≤ off ∧ off < 0x40 ∧ (off - 0x20) % 0x4 = 0 then let w := (off - 0x20) / 0x4; [MON_SEQ_E3 w, MON_SEQ_E2 w, MON_SEQ_E1 w, MON_SEQ_E0 w] else
  if off = 0x40 then [MON_INJCFG_EN, MON_INJCFG_PREEMPT, MON_INJCFG_SRC, MON_INJCFG_CH, MON_INJCFG_AX, MON_INJCFG_LENM1] else
  if off = 0x44 then [MON_INJSEQ_E3, MON_INJSEQ_E2, MON_INJSEQ_E1, MON_INJSEQ_E0] else
  if off = 0x48 then [MON_INJTIM_DELAY, MON_INJTIM_PER] else
  if off = 0x4C then [MON_INJCTL_GO] else
  fieldsMON_1 off

/-! Block UMD (R392). -/

def UMD_CFG_EN : Fld := ⟨0x40000, 31, 31, .rw, 0⟩
def UMD_CFG_FAULTFWD : Fld := ⟨0x40000, 30, 30, .rw, 0⟩
def UMD_CFG_SRCCH : Fld := ⟨0x40000, 5, 4, .rw, 0⟩
def UMD_CFG_TICKSRC : Fld := ⟨0x40000, 3, 0, .rwl, 0⟩
def UMD_TICKDLY_D : Fld := ⟨0x40004, 15, 0, .rw, 0x2328⟩
def UMD_STAT_UPUP : Fld := ⟨0x40008, 31, 31, .ro, 0⟩
def UMD_STAT_DNUP : Fld := ⟨0x40008, 30, 30, .ro, 0⟩
def UMD_STAT_TIMEOK : Fld := ⟨0x40008, 29, 29, .ro, 0⟩
def UMD_STAT_NODE : Fld := ⟨0x40008, 23, 20, .ro, 0⟩
def UMD_STAT_PRESENT : Fld := ⟨0x40008, 15, 0, .ro, 0⟩
def UMD_HOP_MAXAGE : Fld := ⟨0x4000C, 31, 16, .ro, 0⟩
def UMD_HOP_H : Fld := ⟨0x4000C, 15, 0, .ro, 0⟩
def UMD_SWMASK_LO_MASK : Fld := ⟨0x40020, 31, 0, .rw, 0⟩
def UMD_SWMASK_HI_MASK : Fld := ⟨0x40024, 31, 0, .rw, 0⟩
def UMD_SWSTAT_STATE : Fld := ⟨0x40028, 31, 28, .ro, 0⟩
def UMD_SWSTAT_REASON : Fld := ⟨0x40028, 27, 24, .ro, 0⟩
def UMD_SWSTAT_NODE : Fld := ⟨0x40028, 23, 20, .ro, 0⟩
def UMD_CMDLINE_LO_LINE : Fld := ⟨0x40030, 31, 0, .rw, 0⟩
def UMD_CMDLINE_HI_LINE : Fld := ⟨0x40034, 15, 0, .rw, 0⟩
def UMD_CMDMASK_LO_MASK : Fld := ⟨0x40038, 31, 0, .rw, 0⟩
def UMD_CMDMASK_HI_MASK : Fld := ⟨0x4003C, 31, 0, .rw, 0⟩
def UMD_CMDARG_FADE : Fld := ⟨0x40040, 31, 16, .rw, 0⟩
def UMD_CMDARG_LEVEL : Fld := ⟨0x40040, 15, 0, .rw, 0x4000⟩
def UMD_CMDCTL_GO : Fld := ⟨0x40044, 31, 31, .wo, 0⟩
def UMD_CMDCTL_STATE : Fld := ⟨0x40044, 30, 28, .ro, 0⟩
def UMD_CMDCTL_NODE : Fld := ⟨0x40044, 27, 24, .ro, 0⟩
def UMD_CMDCTL_GROUP : Fld := ⟨0x40044, 9, 8, .rw, 0⟩
def UMD_CMDCTL_CODE : Fld := ⟨0x40044, 2, 0, .rw, 4⟩
def UMD_CNT_CRCERR : Fld := ⟨0x40050, 31, 16, .ro, 0⟩
def UMD_CNT_LATE : Fld := ⟨0x40050, 15, 0, .ro, 0⟩
def UMD_CNT2_TICKGAP : Fld := ⟨0x40054, 31, 16, .ro, 0⟩
def UMD_CNT2_LOST : Fld := ⟨0x40054, 15, 0, .ro, 0⟩
def UMD_CNT_CLR_CLR : Fld := ⟨0x40058, 31, 31, .wo, 0⟩
def UMD_NODE_STAT_PRES (j : Nat) : Fld := ⟨0x40100 + 0x4 * j, 31, 31, .ro, 0⟩
def UMD_NODE_STAT_FAULT (j : Nat) : Fld := ⟨0x40100 + 0x4 * j, 30, 30, .ro, 0⟩
def UMD_NODE_STAT_SAFE (j : Nat) : Fld := ⟨0x40100 + 0x4 * j, 29, 29, .ro, 0⟩
def UMD_NODE_STAT_TIMEOK (j : Nat) : Fld := ⟨0x40100 + 0x4 * j, 28, 28, .ro, 0⟩
def UMD_NODE_STAT_RUN (j : Nat) : Fld := ⟨0x40100 + 0x4 * j, 27, 24, .ro, 0⟩
def UMD_NODE_STAT_ROUGH (j : Nat) : Fld := ⟨0x40100 + 0x4 * j, 23, 20, .ro, 0⟩
def UMD_NODE_STAT_SWPEND (j : Nat) : Fld := ⟨0x40100 + 0x4 * j, 19, 16, .ro, 0⟩

def fieldsUMD_1 (off : Nat) : List Fld :=
  if off = 0x44 then [UMD_CMDCTL_GO, UMD_CMDCTL_STATE, UMD_CMDCTL_NODE, UMD_CMDCTL_GROUP, UMD_CMDCTL_CODE] else
  if off = 0x50 then [UMD_CNT_CRCERR, UMD_CNT_LATE] else
  if off = 0x54 then [UMD_CNT2_TICKGAP, UMD_CNT2_LOST] else
  if off = 0x58 then [UMD_CNT_CLR_CLR] else
  if 0x100 ≤ off ∧ off < 0x140 ∧ (off - 0x100) % 0x4 = 0 then let j := (off - 0x100) / 0x4; [UMD_NODE_STAT_PRES j, UMD_NODE_STAT_FAULT j, UMD_NODE_STAT_SAFE j, UMD_NODE_STAT_TIMEOK j, UMD_NODE_STAT_RUN j, UMD_NODE_STAT_ROUGH j, UMD_NODE_STAT_SWPEND j] else
  []

/-- The fields at an offset of block UMD (empty: reserved, R385). -/
def fieldsUMD (off : Nat) : List Fld :=
  if off = 0x0 then [UMD_CFG_EN, UMD_CFG_FAULTFWD, UMD_CFG_SRCCH, UMD_CFG_TICKSRC] else
  if off = 0x4 then [UMD_TICKDLY_D] else
  if off = 0x8 then [UMD_STAT_UPUP, UMD_STAT_DNUP, UMD_STAT_TIMEOK, UMD_STAT_NODE, UMD_STAT_PRESENT] else
  if off = 0xC then [UMD_HOP_MAXAGE, UMD_HOP_H] else
  if off = 0x20 then [UMD_SWMASK_LO_MASK] else
  if off = 0x24 then [UMD_SWMASK_HI_MASK] else
  if off = 0x28 then [UMD_SWSTAT_STATE, UMD_SWSTAT_REASON, UMD_SWSTAT_NODE] else
  if off = 0x30 then [UMD_CMDLINE_LO_LINE] else
  if off = 0x34 then [UMD_CMDLINE_HI_LINE] else
  if off = 0x38 then [UMD_CMDMASK_LO_MASK] else
  if off = 0x3C then [UMD_CMDMASK_HI_MASK] else
  if off = 0x40 then [UMD_CMDARG_FADE, UMD_CMDARG_LEVEL] else
  fieldsUMD_1 off

/-! Block SNS (R393). -/

def SNS_CTL_UP (n : Nat) : Fld := ⟨0x0 + chBase n, 31, 31, .wo, 0⟩
def SNS_CTL_DOWN (n : Nat) : Fld := ⟨0x0 + chBase n, 30, 30, .wo, 0⟩
def SNS_CTL_RETRAIN (n : Nat) : Fld := ⟨0x0 + chBase n, 29, 29, .wo, 0⟩
def SNS_CTL_CLRCNT (n : Nat) : Fld := ⟨0x0 + chBase n, 28, 28, .wo, 0⟩
def SNS_STAT_STATE (n : Nat) : Fld := ⟨0x4 + chBase n, 31, 29, .ro, 0⟩
def SNS_STAT_PRES (n : Nat) : Fld := ⟨0x4 + chBase n, 28, 28, .ro, 0⟩
def SNS_STAT_PEN (n : Nat) : Fld := ⟨0x4 + chBase n, 27, 27, .ro, 0⟩
def SNS_STAT_CAUSE (n : Nat) : Fld := ⟨0x4 + chBase n, 26, 24, .ro, 0⟩
def SNS_STAT_SPARES (n : Nat) : Fld := ⟨0x4 + chBase n, 23, 22, .ro, 0⟩
def SNS_CFG_PWRT (n : Nat) : Fld := ⟨0x8 + chBase n, 31, 24, .rwl, 0x64⟩
def SNS_CFG_SPIDIV (n : Nat) : Fld := ⟨0x8 + chBase n, 15, 8, .rwl, 4⟩
def SNS_CFG_SPIMODE (n : Nat) : Fld := ⟨0x8 + chBase n, 5, 4, .rwl, 0⟩
def SNS_CFG_AUTOSPARE (n : Nat) : Fld := ⟨0x8 + chBase n, 3, 3, .rwl, 1⟩
def SNS_LANELOCK_LOCK (n : Nat) : Fld := ⟨0xC + chBase n, 25, 0, .ro, 0⟩
def SNS_LANEFLT_FLT (n : Nat) : Fld := ⟨0x10 + chBase n, 25, 0, .ro, 0⟩
def SNS_SPARE_FORCE (n : Nat) : Fld := ⟨0x14 + chBase n, 31, 31, .wo, 0⟩
def SNS_SPARE_LANE (n : Nat) : Fld := ⟨0x14 + chBase n, 28, 24, .rw, 0⟩
def SNS_SPARE_V1 (n : Nat) : Fld := ⟨0x14 + chBase n, 15, 15, .ro, 0⟩
def SNS_SPARE_FOR1 (n : Nat) : Fld := ⟨0x14 + chBase n, 12, 8, .ro, 0⟩
def SNS_SPARE_V0 (n : Nat) : Fld := ⟨0x14 + chBase n, 7, 7, .ro, 0⟩
def SNS_SPARE_FOR0 (n : Nat) : Fld := ⟨0x14 + chBase n, 4, 0, .ro, 0⟩
def SNS_SPICMD_GO (n : Nat) : Fld := ⟨0x20 + chBase n, 31, 31, .wo, 0⟩
def SNS_SPICMD_BUSY (n : Nat) : Fld := ⟨0x20 + chBase n, 30, 30, .ro, 0⟩
def SNS_SPICMD_NOSPOIL (n : Nat) : Fld := ⟨0x20 + chBase n, 29, 29, .rw, 0⟩
def SNS_SPICMD_ERR (n : Nat) : Fld := ⟨0x20 + chBase n, 28, 28, .ro, 0⟩
def SNS_SPICMD_LEN (n : Nat) : Fld := ⟨0x20 + chBase n, 5, 0, .rw, 0x20⟩
def SNS_SPIWD_DATA (n : Nat) : Fld := ⟨0x24 + chBase n, 31, 0, .rw, 0⟩
def SNS_SPIRD_DATA (n : Nat) : Fld := ⟨0x28 + chBase n, 31, 0, .ro, 0⟩
def SNS_DEFER_MAX (n : Nat) : Fld := ⟨0x30 + chBase n, 31, 16, .ro, 0⟩
def SNS_DEFER_COUNT (n : Nat) : Fld := ⟨0x30 + chBase n, 15, 0, .ro, 0⟩
def SNS_TRIGLOST_COUNT (n : Nat) : Fld := ⟨0x34 + chBase n, 15, 0, .ro, 0⟩
def SNS_TAGERR_COUNT (n : Nat) : Fld := ⟨0x38 + chBase n, 15, 0, .ro, 0⟩
def SNS_PMIN_PMIN (n : Nat) : Fld := ⟨0x3C + chBase n, 19, 0, .ro, 0⟩
def SNS_LANE_CRCERR (n l : Nat) : Fld := ⟨0x100 + chBase n + 0x4 * l, 31, 16, .ro, 0⟩
def SNS_LANE_LOCK (n l : Nat) : Fld := ⟨0x100 + chBase n + 0x4 * l, 7, 7, .ro, 0⟩
def SNS_LANE_SKEW (n l : Nat) : Fld := ⟨0x100 + chBase n + 0x4 * l, 6, 0, .ro, 0⟩

def fieldsSNS_1 (n off : Nat) : List Fld :=
  if off = 0x3C then [SNS_PMIN_PMIN n] else
  if 0x100 ≤ off ∧ off < 0x168 ∧ (off - 0x100) % 0x4 = 0 then let l := (off - 0x100) / 0x4; [SNS_LANE_CRCERR n l, SNS_LANE_LOCK n l, SNS_LANE_SKEW n l] else
  []

/-- The fields at an offset of block SNS (empty: reserved, R385). -/
def fieldsSNS (n off : Nat) : List Fld :=
  if off = 0x0 then [SNS_CTL_UP n, SNS_CTL_DOWN n, SNS_CTL_RETRAIN n, SNS_CTL_CLRCNT n] else
  if off = 0x4 then [SNS_STAT_STATE n, SNS_STAT_PRES n, SNS_STAT_PEN n, SNS_STAT_CAUSE n, SNS_STAT_SPARES n] else
  if off = 0x8 then [SNS_CFG_PWRT n, SNS_CFG_SPIDIV n, SNS_CFG_SPIMODE n, SNS_CFG_AUTOSPARE n] else
  if off = 0xC then [SNS_LANELOCK_LOCK n] else
  if off = 0x10 then [SNS_LANEFLT_FLT n] else
  if off = 0x14 then [SNS_SPARE_FORCE n, SNS_SPARE_LANE n, SNS_SPARE_V1 n, SNS_SPARE_FOR1 n, SNS_SPARE_V0 n, SNS_SPARE_FOR0 n] else
  if off = 0x20 then [SNS_SPICMD_GO n, SNS_SPICMD_BUSY n, SNS_SPICMD_NOSPOIL n, SNS_SPICMD_ERR n, SNS_SPICMD_LEN n] else
  if off = 0x24 then [SNS_SPIWD_DATA n] else
  if off = 0x28 then [SNS_SPIRD_DATA n] else
  if off = 0x30 then [SNS_DEFER_MAX n, SNS_DEFER_COUNT n] else
  if off = 0x34 then [SNS_TRIGLOST_COUNT n] else
  if off = 0x38 then [SNS_TAGERR_COUNT n] else
  fieldsSNS_1 n off

/-! Block PIPE (R393). -/

def PIPE_CFG_PROF (n : Nat) : Fld := ⟨0x4000 + chBase n, 19, 16, .rwl, 0⟩
def PIPE_CFG_AUTOSPARE (n : Nat) : Fld := ⟨0x4000 + chBase n, 0, 0, .rwl, 1⟩
def PIPE_CTL_SWAP (n : Nat) : Fld := ⟨0x4004 + chBase n, 31, 31, .wo, 0⟩
def PIPE_CTL_SWVALID (n : Nat) : Fld := ⟨0x4004 + chBase n, 30, 30, .rw, 0⟩
def PIPE_CTL_CLRCNT (n : Nat) : Fld := ⟨0x4004 + chBase n, 29, 29, .wo, 0⟩
def PIPE_CTL_RDSH (n : Nat) : Fld := ⟨0x4004 + chBase n, 28, 28, .rw, 0⟩
def PIPE_STAT_MODE (n : Nat) : Fld := ⟨0x4008 + chBase n, 31, 30, .ro, 0⟩
def PIPE_STAT_PVALID (n : Nat) : Fld := ⟨0x4008 + chBase n, 29, 29, .ro, 0⟩
def PIPE_STAT_SWPEND (n : Nat) : Fld := ⟨0x4008 + chBase n, 27, 27, .ro, 0⟩
def PIPE_STAT_SLFLT (n : Nat) : Fld := ⟨0x4008 + chBase n, 26, 18, .ro, 0⟩
def PIPE_STAT_ALFLT (n : Nat) : Fld := ⟨0x4008 + chBase n, 17, 17, .ro, 0⟩
def PIPE_STAT_SHFLT (n : Nat) : Fld := ⟨0x4008 + chBase n, 16, 16, .ro, 0⟩
def PIPE_STAT_RWFLT (n : Nat) : Fld := ⟨0x4008 + chBase n, 15, 15, .ro, 0⟩
def PIPE_SPARE_FORCE (n : Nat) : Fld := ⟨0x400C + chBase n, 31, 31, .wo, 0⟩
def PIPE_SPARE_SLICE (n : Nat) : Fld := ⟨0x400C + chBase n, 26, 24, .rw, 0⟩
def PIPE_SPARE_V (n : Nat) : Fld := ⟨0x400C + chBase n, 15, 15, .ro, 0⟩
def PIPE_SPARE_FOR (n : Nat) : Fld := ⟨0x400C + chBase n, 10, 8, .ro, 0⟩
def PIPE_SPARE_KATOK (n : Nat) : Fld := ⟨0x400C + chBase n, 3, 3, .ro, 0⟩
def PIPE_SPARE_SPFLT (n : Nat) : Fld := ⟨0x400C + chBase n, 2, 2, .ro, 0⟩
def PIPE_GAIN_GAIN (n c : Nat) : Fld := ⟨0x4010 + chBase n + 0x4 * c, 31, 16, .rw, 0x4000⟩
def PIPE_GAIN_OFFSET (n c : Nat) : Fld := ⟨0x4010 + chBase n + 0x4 * c, 11, 0, .rw, 0⟩
def PIPE_GGAIN_LIMIT (n : Nat) : Fld := ⟨0x401C + chBase n, 31, 16, .rw, 0x8000⟩
def PIPE_GGAIN_GAIN (n : Nat) : Fld := ⟨0x401C + chBase n, 15, 0, .rw, 0x4000⟩
def PIPE_GEFF_LO_GN (n : Nat) : Fld := ⟨0x4020 + chBase n, 31, 16, .ro, 0x4000⟩
def PIPE_GEFF_LO_RD (n : Nat) : Fld := ⟨0x4020 + chBase n, 15, 0, .ro, 0x4000⟩
def PIPE_GEFF_HI_BU (n : Nat) : Fld := ⟨0x4024 + chBase n, 15, 0, .ro, 0x4000⟩
def PIPE_LAG_MAX (n : Nat) : Fld := ⟨0x4028 + chBase n, 31, 16, .ro, 0⟩
def PIPE_LAG_CUR (n : Nat) : Fld := ⟨0x4028 + chBase n, 15, 0, .ro, 0⟩
def PIPE_RECOMP_SKIP (n : Nat) : Fld := ⟨0x4030 + chBase n, 31, 16, .ro, 0⟩
def PIPE_RECOMP_TILES (n : Nat) : Fld := ⟨0x4030 + chBase n, 15, 0, .ro, 0⟩
def PIPE_POISON_LINES (n : Nat) : Fld := ⟨0x4034 + chBase n, 31, 16, .ro, 0⟩
def PIPE_POISON_TILES (n : Nat) : Fld := ⟨0x4034 + chBase n, 15, 0, .ro, 0⟩
def PIPE_PARERR_SHD (n : Nat) : Fld := ⟨0x4038 + chBase n, 31, 16, .ro, 0⟩
def PIPE_PARERR_RAW (n : Nat) : Fld := ⟨0x4038 + chBase n, 15, 0, .ro, 0⟩
def PIPE_ALGERR_PAR (n : Nat) : Fld := ⟨0x403C + chBase n, 15, 0, .ro, 0⟩
def PIPE_FOLLIM_COUNT (n : Nat) : Fld := ⟨0x4040 + chBase n, 15, 0, .ro, 0⟩
def PIPE_ALIGN_FILL (n : Nat) : Fld := ⟨0x4044 + chBase n, 5, 0, .ro, 0⟩
def PIPE_RESERR_COUNT (n m : Nat) : Fld := ⟨0x4080 + chBase n + 0x4 * m, 15, 0, .ro, 0⟩

def fieldsPIPE_1 (n off : Nat) : List Fld :=
  if off = 0x3C then [PIPE_ALGERR_PAR n] else
  if off = 0x40 then [PIPE_FOLLIM_COUNT n] else
  if off = 0x44 then [PIPE_ALIGN_FILL n] else
  if 0x80 ≤ off ∧ off < 0xA4 ∧ (off - 0x80) % 0x4 = 0 then let m := (off - 0x80) / 0x4; [PIPE_RESERR_COUNT n m] else
  []

/-- The fields at an offset of block PIPE (empty: reserved, R385). -/
def fieldsPIPE (n off : Nat) : List Fld :=
  if off = 0x0 then [PIPE_CFG_PROF n, PIPE_CFG_AUTOSPARE n] else
  if off = 0x4 then [PIPE_CTL_SWAP n, PIPE_CTL_SWVALID n, PIPE_CTL_CLRCNT n, PIPE_CTL_RDSH n] else
  if off = 0x8 then [PIPE_STAT_MODE n, PIPE_STAT_PVALID n, PIPE_STAT_SWPEND n, PIPE_STAT_SLFLT n, PIPE_STAT_ALFLT n, PIPE_STAT_SHFLT n, PIPE_STAT_RWFLT n] else
  if off = 0xC then [PIPE_SPARE_FORCE n, PIPE_SPARE_SLICE n, PIPE_SPARE_V n, PIPE_SPARE_FOR n, PIPE_SPARE_KATOK n, PIPE_SPARE_SPFLT n] else
  if 0x10 ≤ off ∧ off < 0x1C ∧ (off - 0x10) % 0x4 = 0 then let c := (off - 0x10) / 0x4; [PIPE_GAIN_GAIN n c, PIPE_GAIN_OFFSET n c] else
  if off = 0x1C then [PIPE_GGAIN_LIMIT n, PIPE_GGAIN_GAIN n] else
  if off = 0x20 then [PIPE_GEFF_LO_GN n, PIPE_GEFF_LO_RD n] else
  if off = 0x24 then [PIPE_GEFF_HI_BU n] else
  if off = 0x28 then [PIPE_LAG_MAX n, PIPE_LAG_CUR n] else
  if off = 0x30 then [PIPE_RECOMP_SKIP n, PIPE_RECOMP_TILES n] else
  if off = 0x34 then [PIPE_POISON_LINES n, PIPE_POISON_TILES n] else
  if off = 0x38 then [PIPE_PARERR_SHD n, PIPE_PARERR_RAW n] else
  fieldsPIPE_1 n off

/-! Block RSMP (R394). -/

def RSMP_CTL_CLRCNT (n : Nat) : Fld := ⟨0x8000 + chBase n, 31, 31, .wo, 0⟩
def RSMP_XCFG_XBYPASS (n : Nat) : Fld := ⟨0x8004 + chBase n, 18, 18, .rwl, 1⟩
def RSMP_XCFG_BIN (n : Nat) : Fld := ⟨0x8004 + chBase n, 17, 16, .rwl, 0⟩
def RSMP_XCFG_QM1 (n : Nat) : Fld := ⟨0x8004 + chBase n, 15, 0, .rwl, 0x7FFF⟩
def RSMP_XSTART_X0 (n : Nat) : Fld := ⟨0x8008 + chBase n, 31, 0, .rwl, 0⟩
def RSMP_XSTEP_STEP (n : Nat) : Fld := ⟨0x800C + chBase n, 17, 0, .rwl, 0x10000⟩
def RSMP_VCFG_VMODE (n : Nat) : Fld := ⟨0x8010 + chBase n, 31, 31, .rwl, 0⟩
def RSMP_VCFG_SV (n : Nat) : Fld := ⟨0x8010 + chBase n, 18, 0, .rwl, 0x10000⟩
def RSMP_VSTART_Y0F (n : Nat) : Fld := ⟨0x8014 + chBase n, 15, 0, .rwl, 0⟩
def RSMP_VPOS_FRAC (n : Nat) : Fld := ⟨0x8018 + chBase n, 15, 0, .ro, 0⟩
def RSMP_EDGECFG_EN (n : Nat) : Fld := ⟨0x8020 + chBase n, 31, 31, .rwl, 0⟩
def RSMP_EDGECFG_MODE (n : Nat) : Fld := ⟨0x8020 + chBase n, 30, 30, .rwl, 0⟩
def RSMP_EDGECFG_POL (n : Nat) : Fld := ⟨0x8020 + chBase n, 29, 29, .rwl, 0⟩
def RSMP_EDGECFG_PLANE (n : Nat) : Fld := ⟨0x8020 + chBase n, 27, 26, .rwl, 3⟩
def RSMP_EDGECFG_RUN (n : Nat) : Fld := ⟨0x8020 + chBase n, 21, 16, .rwl, 4⟩
def RSMP_EDGECFG_THRESH (n : Nat) : Fld := ⟨0x8020 + chBase n, 13, 0, .rwl, 0x0800⟩
def RSMP_SHEETCFG_MINCOL (n : Nat) : Fld := ⟨0x8024 + chBase n, 31, 28, .rwl, 2⟩
def RSMP_SHEETCFG_ENDLINES (n : Nat) : Fld := ⟨0x8024 + chBase n, 23, 16, .rwl, 8⟩
def RSMP_SHEETMAX_MAX (n : Nat) : Fld := ⟨0x8028 + chBase n, 23, 0, .rwl, 0xFFFFFF⟩
def RSMP_SKEWLIM_LIM (n : Nat) : Fld := ⟨0x802C + chBase n, 15, 0, .rwl, 0⟩
def RSMP_WANDERCFG_K (n : Nat) : Fld := ⟨0x8030 + chBase n, 31, 28, .rwl, 6⟩
def RSMP_WANDERCFG_CREF (n : Nat) : Fld := ⟨0x8030 + chBase n, 23, 0, .rwl, 0⟩
def RSMP_WANDERLIM_LIM (n : Nat) : Fld := ⟨0x8034 + chBase n, 23, 0, .rwl, 0xFFFFFF⟩
def RSMP_WANDER_W (n : Nat) : Fld := ⟨0x8038 + chBase n, 31, 0, .ro, 0⟩
def RSMP_NOEDGE_LINES (n : Nat) : Fld := ⟨0x803C + chBase n, 15, 0, .rwl, 0⟩
def RSMP_EDGE_L_EDGE (n : Nat) : Fld := ⟨0x8040 + chBase n, 31, 0, .ro, 0xFFFFFFFF⟩
def RSMP_EDGE_R_EDGE (n : Nat) : Fld := ⟨0x8044 + chBase n, 31, 0, .ro, 0xFFFFFFFF⟩
def RSMP_SHEETNUM_NUM (n : Nat) : Fld := ⟨0x8048 + chBase n, 31, 0, .ro, 0⟩
def RSMP_RECOMP_SKIP (n : Nat) : Fld := ⟨0x804C + chBase n, 31, 16, .ro, 0⟩
def RSMP_RECOMP_TILES (n : Nat) : Fld := ⟨0x804C + chBase n, 15, 0, .ro, 0⟩
def RSMP_EDGEERR_COUNT (n : Nat) : Fld := ⟨0x8050 + chBase n, 15, 0, .ro, 0⟩
def RSMP_LAG_MAX (n : Nat) : Fld := ⟨0x8054 + chBase n, 31, 16, .ro, 0⟩
def RSMP_LAG_CUR (n : Nat) : Fld := ⟨0x8054 + chBase n, 15, 0, .ro, 0⟩

def fieldsRSMP_1 (n off : Nat) : List Fld :=
  if off = 0x34 then [RSMP_WANDERLIM_LIM n] else
  if off = 0x38 then [RSMP_WANDER_W n] else
  if off = 0x3C then [RSMP_NOEDGE_LINES n] else
  if off = 0x40 then [RSMP_EDGE_L_EDGE n] else
  if off = 0x44 then [RSMP_EDGE_R_EDGE n] else
  if off = 0x48 then [RSMP_SHEETNUM_NUM n] else
  if off = 0x4C then [RSMP_RECOMP_SKIP n, RSMP_RECOMP_TILES n] else
  if off = 0x50 then [RSMP_EDGEERR_COUNT n] else
  if off = 0x54 then [RSMP_LAG_MAX n, RSMP_LAG_CUR n] else
  []

/-- The fields at an offset of block RSMP (empty: reserved, R385). -/
def fieldsRSMP (n off : Nat) : List Fld :=
  if off = 0x0 then [RSMP_CTL_CLRCNT n] else
  if off = 0x4 then [RSMP_XCFG_XBYPASS n, RSMP_XCFG_BIN n, RSMP_XCFG_QM1 n] else
  if off = 0x8 then [RSMP_XSTART_X0 n] else
  if off = 0xC then [RSMP_XSTEP_STEP n] else
  if off = 0x10 then [RSMP_VCFG_VMODE n, RSMP_VCFG_SV n] else
  if off = 0x14 then [RSMP_VSTART_Y0F n] else
  if off = 0x18 then [RSMP_VPOS_FRAC n] else
  if off = 0x20 then [RSMP_EDGECFG_EN n, RSMP_EDGECFG_MODE n, RSMP_EDGECFG_POL n, RSMP_EDGECFG_PLANE n, RSMP_EDGECFG_RUN n, RSMP_EDGECFG_THRESH n] else
  if off = 0x24 then [RSMP_SHEETCFG_MINCOL n, RSMP_SHEETCFG_ENDLINES n] else
  if off = 0x28 then [RSMP_SHEETMAX_MAX n] else
  if off = 0x2C then [RSMP_SKEWLIM_LIM n] else
  if off = 0x30 then [RSMP_WANDERCFG_K n, RSMP_WANDERCFG_CREF n] else
  fieldsRSMP_1 n off

/-! Block PACK (R394). -/

def PACK_CFG_FMT (n : Nat) : Fld := ⟨0xA000 + chBase n, 3, 0, .rwl, 0⟩
def PACK_PKTLEN_LEN (n : Nat) : Fld := ⟨0xA008 + chBase n, 31, 0, .ro, 0⟩
def PACK_LASTLINE_LO_LINE (n : Nat) : Fld := ⟨0xA010 + chBase n, 31, 0, .ro, 0⟩
def PACK_LASTLINE_HI_LINE (n : Nat) : Fld := ⟨0xA014 + chBase n, 15, 0, .ro, 0⟩

/-- The fields at an offset of block PACK (empty: reserved, R385). -/
def fieldsPACK (n off : Nat) : List Fld :=
  if off = 0x0 then [PACK_CFG_FMT n] else
  if off = 0x8 then [PACK_PKTLEN_LEN n] else
  if off = 0x10 then [PACK_LASTLINE_LO_LINE n] else
  if off = 0x14 then [PACK_LASTLINE_HI_LINE n] else
  []

/-! Block FIFO (R395). -/

def FIFO_CFG_TMODE (n : Nat) : Fld := ⟨0xC000 + chBase n, 31, 31, .rwl, 0⟩
def FIFO_CFG_ALIGN (n : Nat) : Fld := ⟨0xC000 + chBase n, 29, 28, .rwl, 0⟩
def FIFO_CFG_CUT (n : Nat) : Fld := ⟨0xC000 + chBase n, 15, 0, .rwl, 0x10⟩
def FIFO_CTL_CLRCNT (n : Nat) : Fld := ⟨0xC004 + chBase n, 31, 31, .wo, 0⟩
def FIFO_CTL_FLUSH (n : Nat) : Fld := ⟨0xC004 + chBase n, 30, 30, .wo, 0⟩
def FIFO_STAT_HOLD (n : Nat) : Fld := ⟨0xC008 + chBase n, 31, 31, .ro, 0⟩
def FIFO_STAT_SPILL (n : Nat) : Fld := ⟨0xC008 + chBase n, 30, 30, .ro, 0⟩
def FIFO_STAT_DROP (n : Nat) : Fld := ⟨0xC008 + chBase n, 29, 29, .ro, 0⟩
def FIFO_STAT_KWRAP (n : Nat) : Fld := ⟨0xC008 + chBase n, 28, 28, .w1c, 0⟩
def FIFO_STAT_MWRAP (n : Nat) : Fld := ⟨0xC008 + chBase n, 27, 27, .w1c, 0⟩
def FIFO_STAT_CUTACT (n : Nat) : Fld := ⟨0xC008 + chBase n, 26, 26, .ro, 0⟩
def FIFO_HIGH_LEVEL (n : Nat) : Fld := ⟨0xC010 + chBase n, 23, 0, .rwl, 0x10⟩
def FIFO_LOW_LEVEL (n : Nat) : Fld := ⟨0xC014 + chBase n, 23, 0, .rwl, 0x08⟩
def FIFO_STOPLINES_LINES (n : Nat) : Fld := ⟨0xC018 + chBase n, 15, 0, .rwl, 0x100⟩
def FIFO_FILL_F (n : Nat) : Fld := ⟨0xC020 + chBase n, 31, 0, .ro, 0⟩
def FIFO_MAXFILL_F (n : Nat) : Fld := ⟨0xC024 + chBase n, 31, 0, .ro, 0⟩
def FIFO_SPILLCAP_MIB (n : Nat) : Fld := ⟨0xC028 + chBase n, 31, 0, .ro, 0⟩
def FIFO_SPILLFILL_USED (n : Nat) : Fld := ⟨0xC02C + chBase n, 31, 0, .ro, 0⟩
def FIFO_OUTBYTES_LO_COUNT (n : Nat) : Fld := ⟨0xC030 + chBase n, 31, 0, .ro, 0⟩
def FIFO_OUTBYTES_HI_COUNT (n : Nat) : Fld := ⟨0xC034 + chBase n, 31, 0, .ro, 0⟩
def FIFO_KERFLINES_COUNT (n : Nat) : Fld := ⟨0xC038 + chBase n, 31, 0, .ro, 0⟩
def FIFO_KERFMARKS_COUNT (n : Nat) : Fld := ⟨0xC03C + chBase n, 31, 0, .ro, 0⟩
def FIFO_ERR_PAR (n : Nat) : Fld := ⟨0xC040 + chBase n, 31, 16, .ro, 0⟩
def FIFO_ERR_DPOISON (n : Nat) : Fld := ⟨0xC040 + chBase n, 15, 0, .ro, 0⟩
def FIFO_ERR2_DLOST (n : Nat) : Fld := ⟨0xC044 + chBase n, 15, 0, .ro, 0⟩
def FIFO_PACECFG_EN (n : Nat) : Fld := ⟨0xC060 + chBase n, 31, 31, .rwl, 0⟩
def FIFO_PACECFG_HYS (n : Nat) : Fld := ⟨0xC060 + chBase n, 23, 0, .rwl, 0x10⟩
def FIFO_PACESTAT_ENTRY (n : Nat) : Fld := ⟨0xC064 + chBase n, 31, 28, .ro, 0⟩
def FIFO_PACESTAT_VMAX (n : Nat) : Fld := ⟨0xC064 + chBase n, 22, 0, .ro, 0⟩
def FIFO_PACEREF_REFUSED (n : Nat) : Fld := ⟨0xC068 + chBase n, 15, 0, .ro, 0⟩
def FIFO_DTCFG_AUTO (n : Nat) : Fld := ⟨0xC080 + chBase n, 31, 31, .rwl, 1⟩
def FIFO_DTCFG_AUTORES (n : Nat) : Fld := ⟨0xC080 + chBase n, 30, 30, .rwl, 1⟩
def FIFO_DTCFG_KM1 (n : Nat) : Fld := ⟨0xC080 + chBase n, 26, 24, .rwl, 7⟩
def FIFO_DTCTL_STOP (n : Nat) : Fld := ⟨0xC084 + chBase n, 31, 31, .wo, 0⟩
def FIFO_DTCTL_RESUME (n : Nat) : Fld := ⟨0xC084 + chBase n, 30, 30, .wo, 0⟩
def FIFO_DTSTAT_STATE (n : Nat) : Fld := ⟨0xC088 + chBase n, 31, 29, .ro, 0⟩
def FIFO_DTSTAT_FEEDLOST (n : Nat) : Fld := ⟨0xC088 + chBase n, 28, 28, .ro, 0⟩
def FIFO_DTSTAT_OVL (n : Nat) : Fld := ⟨0xC088 + chBase n, 19, 16, .ro, 0⟩
def FIFO_DTSTAT_OFFSET (n : Nat) : Fld := ⟨0xC088 + chBase n, 15, 0, .ro, 0⟩
def FIFO_BACKOFF_DIST (n : Nat) : Fld := ⟨0xC08C + chBase n, 31, 0, .rwl, 0xC800⟩
def FIFO_JOINLIM_LIM (n : Nat) : Fld := ⟨0xC090 + chBase n, 31, 0, .rw, 0x2000⟩
def FIFO_JOINRES_RES (n : Nat) : Fld := ⟨0xC094 + chBase n, 31, 0, .ro, 0⟩
def FIFO_JOINCNT_MIS (n : Nat) : Fld := ⟨0xC098 + chBase n, 31, 16, .ro, 0⟩
def FIFO_JOINCNT_JOINS (n : Nat) : Fld := ⟨0xC098 + chBase n, 15, 0, .ro, 0⟩
def FIFO_STOPLINE_LO_LINE (n : Nat) : Fld := ⟨0xC0A0 + chBase n, 31, 0, .ro, 0⟩
def FIFO_STOPLINE_HI_LINE (n : Nat) : Fld := ⟨0xC0A4 + chBase n, 15, 0, .ro, 0⟩

def fieldsFIFO_2 (n off : Nat) : List Fld :=
  if off = 0x94 then [FIFO_JOINRES_RES n] else
  if off = 0x98 then [FIFO_JOINCNT_MIS n, FIFO_JOINCNT_JOINS n] else
  if off = 0xA0 then [FIFO_STOPLINE_LO_LINE n] else
  if off = 0xA4 then [FIFO_STOPLINE_HI_LINE n] else
  []

def fieldsFIFO_1 (n off : Nat) : List Fld :=
  if off = 0x38 then [FIFO_KERFLINES_COUNT n] else
  if off = 0x3C then [FIFO_KERFMARKS_COUNT n] else
  if off = 0x40 then [FIFO_ERR_PAR n, FIFO_ERR_DPOISON n] else
  if off = 0x44 then [FIFO_ERR2_DLOST n] else
  if off = 0x60 then [FIFO_PACECFG_EN n, FIFO_PACECFG_HYS n] else
  if off = 0x64 then [FIFO_PACESTAT_ENTRY n, FIFO_PACESTAT_VMAX n] else
  if off = 0x68 then [FIFO_PACEREF_REFUSED n] else
  if off = 0x80 then [FIFO_DTCFG_AUTO n, FIFO_DTCFG_AUTORES n, FIFO_DTCFG_KM1 n] else
  if off = 0x84 then [FIFO_DTCTL_STOP n, FIFO_DTCTL_RESUME n] else
  if off = 0x88 then [FIFO_DTSTAT_STATE n, FIFO_DTSTAT_FEEDLOST n, FIFO_DTSTAT_OVL n, FIFO_DTSTAT_OFFSET n] else
  if off = 0x8C then [FIFO_BACKOFF_DIST n] else
  if off = 0x90 then [FIFO_JOINLIM_LIM n] else
  fieldsFIFO_2 n off

/-- The fields at an offset of block FIFO (empty: reserved, R385). -/
def fieldsFIFO (n off : Nat) : List Fld :=
  if off = 0x0 then [FIFO_CFG_TMODE n, FIFO_CFG_ALIGN n, FIFO_CFG_CUT n] else
  if off = 0x4 then [FIFO_CTL_CLRCNT n, FIFO_CTL_FLUSH n] else
  if off = 0x8 then [FIFO_STAT_HOLD n, FIFO_STAT_SPILL n, FIFO_STAT_DROP n, FIFO_STAT_KWRAP n, FIFO_STAT_MWRAP n, FIFO_STAT_CUTACT n] else
  if off = 0x10 then [FIFO_HIGH_LEVEL n] else
  if off = 0x14 then [FIFO_LOW_LEVEL n] else
  if off = 0x18 then [FIFO_STOPLINES_LINES n] else
  if off = 0x20 then [FIFO_FILL_F n] else
  if off = 0x24 then [FIFO_MAXFILL_F n] else
  if off = 0x28 then [FIFO_SPILLCAP_MIB n] else
  if off = 0x2C then [FIFO_SPILLFILL_USED n] else
  if off = 0x30 then [FIFO_OUTBYTES_LO_COUNT n] else
  if off = 0x34 then [FIFO_OUTBYTES_HI_COUNT n] else
  fieldsFIFO_1 n off

/-! Block LMP (R396). -/

def LMP_CTL_OFF (n : Nat) : Fld := ⟨0x10000 + chBase n, 31, 31, .rw, 1⟩
def LMP_CTL_CLRCNT (n : Nat) : Fld := ⟨0x10000 + chBase n, 30, 30, .wo, 0⟩
def LMP_CTL_FADESTOP (n : Nat) : Fld := ⟨0x10000 + chBase n, 29, 29, .wo, 0⟩
def LMP_CTL_WHEN (n : Nat) : Fld := ⟨0x10000 + chBase n, 1, 0, .rw, 0⟩
def LMP_STAT_MODE (n : Nat) : Fld := ⟨0x10004 + chBase n, 31, 30, .ro, 2⟩
def LMP_STAT_FADING (n : Nat) : Fld := ⟨0x10004 + chBase n, 29, 29, .ro, 0⟩
def LMP_STAT_DERATING (n : Nat) : Fld := ⟨0x10004 + chBase n, 28, 28, .ro, 0⟩
def LMP_STAT_INTMARK (n : Nat) : Fld := ⟨0x10004 + chBase n, 27, 27, .ro, 0⟩
def LMP_STAT_PEND (n : Nat) : Fld := ⟨0x10004 + chBase n, 26, 26, .ro, 0⟩
def LMP_STAT_ON (n : Nat) : Fld := ⟨0x10004 + chBase n, 11, 0, .ro, 0⟩
def LMP_LV_FADE (n g : Nat) : Fld := ⟨0x10010 + chBase n + 0x4 * g, 31, 16, .rw, 0⟩
def LMP_LV_LEVEL (n g : Nat) : Fld := ⟨0x10010 + chBase n + 0x4 * g, 15, 0, .rw, 0x4000⟩
def LMP_LVNOW_LO_GN (n : Nat) : Fld := ⟨0x10020 + chBase n, 31, 16, .ro, 0x4000⟩
def LMP_LVNOW_LO_RD (n : Nat) : Fld := ⟨0x10020 + chBase n, 15, 0, .ro, 0x4000⟩
def LMP_LVNOW_HI_WH (n : Nat) : Fld := ⟨0x10024 + chBase n, 31, 16, .ro, 0x4000⟩
def LMP_LVNOW_HI_BU (n : Nat) : Fld := ⟨0x10024 + chBase n, 15, 0, .ro, 0x4000⟩
def LMP_WHW_BU (n : Nat) : Fld := ⟨0x10028 + chBase n, 23, 16, .rwl, 0⟩
def LMP_WHW_GN (n : Nat) : Fld := ⟨0x10028 + chBase n, 15, 8, .rwl, 0⟩
def LMP_WHW_RD (n : Nat) : Fld := ⟨0x10028 + chBase n, 7, 0, .rwl, 0⟩
def LMP_STLINE_LO_LINE (n : Nat) : Fld := ⟨0x10030 + chBase n, 31, 0, .rw, 0⟩
def LMP_STLINE_HI_LINE (n : Nat) : Fld := ⟨0x10034 + chBase n, 15, 0, .rw, 0⟩
def LMP_PWMCFG_TESTEN (n : Nat) : Fld := ⟨0x10038 + chBase n, 4, 4, .rwl, 1⟩
def LMP_PWMCFG_NSUBM1 (n : Nat) : Fld := ⟨0x10038 + chBase n, 3, 0, .rwl, 0⟩
def LMP_FOLLOW_LO_GN (n : Nat) : Fld := ⟨0x10040 + chBase n, 31, 16, .ro, 0x4000⟩
def LMP_FOLLOW_LO_RD (n : Nat) : Fld := ⟨0x10040 + chBase n, 15, 0, .ro, 0x4000⟩
def LMP_FOLLOW_HI_BU (n : Nat) : Fld := ⟨0x10044 + chBase n, 15, 0, .ro, 0x4000⟩
def LMP_DERCFG_TK (n : Nat) : Fld := ⟨0x10050 + chBase n, 31, 16, .rwl, 0x02D0⟩
def LMP_DERCFG_DSLOPE (n : Nat) : Fld := ⟨0x10050 + chBase n, 15, 0, .rwl, 0⟩
def LMP_DERLIM_TOFF (n : Nat) : Fld := ⟨0x10054 + chBase n, 31, 16, .rwl, 0x0640⟩
def LMP_DERLIM_DMIN (n : Nat) : Fld := ⟨0x10054 + chBase n, 15, 0, .rwl, 0x2000⟩
def LMP_DER_TEMP (n : Nat) : Fld := ⟨0x10058 + chBase n, 31, 16, .ro, 0⟩
def LMP_DER_DER (n : Nat) : Fld := ⟨0x10058 + chBase n, 15, 0, .ro, 0x4000⟩
def LMP_HOLDCFG_HPER (n : Nat) : Fld := ⟨0x10060 + chBase n, 31, 16, .rwl, 0x0100⟩
def LMP_HOLDCFG_KI (n : Nat) : Fld := ⟨0x10060 + chBase n, 15, 8, .rwl, 0x10⟩
def LMP_HOLDCFG_SRC (n : Nat) : Fld := ⟨0x10060 + chBase n, 7, 0, .rwl, 0⟩
def LMP_HOLDIN_WH (n : Nat) : Fld := ⟨0x10064 + chBase n, 28, 24, .rwl, 0⟩
def LMP_HOLDIN_BU (n : Nat) : Fld := ⟨0x10064 + chBase n, 20, 16, .rwl, 0⟩
def LMP_HOLDIN_GN (n : Nat) : Fld := ⟨0x10064 + chBase n, 12, 8, .rwl, 0⟩
def LMP_HOLDIN_RD (n : Nat) : Fld := ⟨0x10064 + chBase n, 4, 0, .rwl, 0⟩
def LMP_HOLDTGT_LO_GN (n : Nat) : Fld := ⟨0x10068 + chBase n, 31, 16, .rw, 0⟩
def LMP_HOLDTGT_LO_RD (n : Nat) : Fld := ⟨0x10068 + chBase n, 15, 0, .rw, 0⟩
def LMP_HOLDTGT_HI_WH (n : Nat) : Fld := ⟨0x1006C + chBase n, 31, 16, .rw, 0⟩
def LMP_HOLDTGT_HI_BU (n : Nat) : Fld := ⟨0x1006C + chBase n, 15, 0, .rw, 0⟩
def LMP_HOLD_LO_GN (n : Nat) : Fld := ⟨0x10070 + chBase n, 31, 16, .ro, 0x4000⟩
def LMP_HOLD_LO_RD (n : Nat) : Fld := ⟨0x10070 + chBase n, 15, 0, .ro, 0x4000⟩
def LMP_HOLD_HI_WH (n : Nat) : Fld := ⟨0x10074 + chBase n, 31, 16, .ro, 0x4000⟩
def LMP_HOLD_HI_BU (n : Nat) : Fld := ⟨0x10074 + chBase n, 15, 0, .ro, 0x4000⟩
def LMP_HOLDSTEP_HSTEP (n : Nat) : Fld := ⟨0x10078 + chBase n, 15, 0, .rwl, 0x10⟩
def LMP_DIAGCFG_SHORTV (n : Nat) : Fld := ⟨0x10080 + chBase n, 31, 24, .rwl, 0x3C⟩
def LMP_DIAGCFG_OPTEN (n : Nat) : Fld := ⟨0x10080 + chBase n, 0, 0, .rwl, 1⟩
def LMP_FAULT_SHORT (n : Nat) : Fld := ⟨0x10084 + chBase n, 27, 16, .w1c, 0⟩
def LMP_FAULT_OPEN (n : Nat) : Fld := ⟨0x10084 + chBase n, 11, 0, .w1c, 0⟩
def LMP_SINKFLT_ISAT (n : Nat) : Fld := ⟨0x10088 + chBase n, 27, 16, .ro, 0⟩
def LMP_SINKFLT_SINK (n : Nat) : Fld := ⟨0x10088 + chBase n, 11, 0, .ro, 0⟩
def LMP_DIAGMODE_MODE (n : Nat) : Fld := ⟨0x1008C + chBase n, 23, 0, .ro, 0⟩
def LMP_HDRMCFG_EN (n : Nat) : Fld := ⟨0x10090 + chBase n, 31, 31, .rwl, 0⟩
def LMP_HDRMCFG_TGT (n : Nat) : Fld := ⟨0x10090 + chBase n, 23, 16, .rwl, 0x08⟩
def LMP_HDRMCFG_KH (n : Nat) : Fld := ⟨0x10090 + chBase n, 7, 0, .rwl, 0x10⟩
def LMP_HDRM_VMIN (n : Nat) : Fld := ⟨0x10094 + chBase n, 31, 16, .ro, 0⟩
def LMP_HDRM_HD (n : Nat) : Fld := ⟨0x10094 + chBase n, 9, 0, .ro, 0⟩
def LMP_CNT_REFUSED (n : Nat) : Fld := ⟨0x100A0 + chBase n, 31, 16, .ro, 0⟩
def LMP_CNT_TESTFAIL (n : Nat) : Fld := ⟨0x100A0 + chBase n, 15, 0, .ro, 0⟩
def LMP_CNT2_LATE (n : Nat) : Fld := ⟨0x100A4 + chBase n, 15, 0, .ro, 0⟩
def LMP_SINK_V (n s : Nat) : Fld := ⟨0x10100 + chBase n + 0x4 * s, 31, 16, .ro, 0⟩
def LMP_SINK_I (n s : Nat) : Fld := ⟨0x10100 + chBase n + 0x4 * s, 11, 0, .ro, 0⟩

def fieldsLMP_2 (n off : Nat) : List Fld :=
  if off = 0x8C then [LMP_DIAGMODE_MODE n] else
  if off = 0x90 then [LMP_HDRMCFG_EN n, LMP_HDRMCFG_TGT n, LMP_HDRMCFG_KH n] else
  if off = 0x94 then [LMP_HDRM_VMIN n, LMP_HDRM_HD n] else
  if off = 0xA0 then [LMP_CNT_REFUSED n, LMP_CNT_TESTFAIL n] else
  if off = 0xA4 then [LMP_CNT2_LATE n] else
  if 0x100 ≤ off ∧ off < 0x130 ∧ (off - 0x100) % 0x4 = 0 then let s := (off - 0x100) / 0x4; [LMP_SINK_V n s, LMP_SINK_I n s] else
  []

def fieldsLMP_1 (n off : Nat) : List Fld :=
  if off = 0x54 then [LMP_DERLIM_TOFF n, LMP_DERLIM_DMIN n] else
  if off = 0x58 then [LMP_DER_TEMP n, LMP_DER_DER n] else
  if off = 0x60 then [LMP_HOLDCFG_HPER n, LMP_HOLDCFG_KI n, LMP_HOLDCFG_SRC n] else
  if off = 0x64 then [LMP_HOLDIN_WH n, LMP_HOLDIN_BU n, LMP_HOLDIN_GN n, LMP_HOLDIN_RD n] else
  if off = 0x68 then [LMP_HOLDTGT_LO_GN n, LMP_HOLDTGT_LO_RD n] else
  if off = 0x6C then [LMP_HOLDTGT_HI_WH n, LMP_HOLDTGT_HI_BU n] else
  if off = 0x70 then [LMP_HOLD_LO_GN n, LMP_HOLD_LO_RD n] else
  if off = 0x74 then [LMP_HOLD_HI_WH n, LMP_HOLD_HI_BU n] else
  if off = 0x78 then [LMP_HOLDSTEP_HSTEP n] else
  if off = 0x80 then [LMP_DIAGCFG_SHORTV n, LMP_DIAGCFG_OPTEN n] else
  if off = 0x84 then [LMP_FAULT_SHORT n, LMP_FAULT_OPEN n] else
  if off = 0x88 then [LMP_SINKFLT_ISAT n, LMP_SINKFLT_SINK n] else
  fieldsLMP_2 n off

/-- The fields at an offset of block LMP (empty: reserved, R385). -/
def fieldsLMP (n off : Nat) : List Fld :=
  if off = 0x0 then [LMP_CTL_OFF n, LMP_CTL_CLRCNT n, LMP_CTL_FADESTOP n, LMP_CTL_WHEN n] else
  if off = 0x4 then [LMP_STAT_MODE n, LMP_STAT_FADING n, LMP_STAT_DERATING n, LMP_STAT_INTMARK n, LMP_STAT_PEND n, LMP_STAT_ON n] else
  if 0x10 ≤ off ∧ off < 0x20 ∧ (off - 0x10) % 0x4 = 0 then let g := (off - 0x10) / 0x4; [LMP_LV_FADE n g, LMP_LV_LEVEL n g] else
  if off = 0x20 then [LMP_LVNOW_LO_GN n, LMP_LVNOW_LO_RD n] else
  if off = 0x24 then [LMP_LVNOW_HI_WH n, LMP_LVNOW_HI_BU n] else
  if off = 0x28 then [LMP_WHW_BU n, LMP_WHW_GN n, LMP_WHW_RD n] else
  if off = 0x30 then [LMP_STLINE_LO_LINE n] else
  if off = 0x34 then [LMP_STLINE_HI_LINE n] else
  if off = 0x38 then [LMP_PWMCFG_TESTEN n, LMP_PWMCFG_NSUBM1 n] else
  if off = 0x40 then [LMP_FOLLOW_LO_GN n, LMP_FOLLOW_LO_RD n] else
  if off = 0x44 then [LMP_FOLLOW_HI_BU n] else
  if off = 0x50 then [LMP_DERCFG_TK n, LMP_DERCFG_DSLOPE n] else
  fieldsLMP_1 n off

/-! Block POS (R397). -/

def POS_CFG_STARTMODE (n : Nat) : Fld := ⟨0x14000 + chBase n, 13, 13, .rwl, 0⟩
def POS_CFG_REFMODE (n : Nat) : Fld := ⟨0x14000 + chBase n, 12, 12, .rwl, 0⟩
def POS_CFG_DRIFTCORR (n : Nat) : Fld := ⟨0x14000 + chBase n, 11, 11, .rwl, 0⟩
def POS_CFG_ZGATE (n : Nat) : Fld := ⟨0x14000 + chBase n, 10, 8, .rwl, 0⟩
def POS_CFG_REFSRC (n : Nat) : Fld := ⟨0x14000 + chBase n, 5, 4, .rwl, 0⟩
def POS_CFG_INV (n : Nat) : Fld := ⟨0x14000 + chBase n, 2, 2, .rwl, 0⟩
def POS_CFG_MODE (n : Nat) : Fld := ⟨0x14000 + chBase n, 1, 0, .rwl, 0⟩
def POS_CTL_PRESET (n : Nat) : Fld := ⟨0x14004 + chBase n, 31, 31, .wo, 0⟩
def POS_CTL_ABSREAD (n : Nat) : Fld := ⟨0x14004 + chBase n, 30, 30, .wo, 0⟩
def POS_CTL_LOADABS (n : Nat) : Fld := ⟨0x14004 + chBase n, 29, 29, .wo, 0⟩
def POS_CTL_CLRCNT (n : Nat) : Fld := ⟨0x14004 + chBase n, 28, 28, .wo, 0⟩
def POS_STAT_SUSPECT (n : Nat) : Fld := ⟨0x14008 + chBase n, 31, 31, .ro, 0⟩
def POS_STAT_ARMED (n : Nat) : Fld := ⟨0x14008 + chBase n, 30, 30, .ro, 0⟩
def POS_STAT_CORRPEND (n : Nat) : Fld := ⟨0x14008 + chBase n, 29, 29, .ro, 0⟩
def POS_STAT_GATED (n : Nat) : Fld := ⟨0x14008 + chBase n, 28, 28, .ro, 0⟩
def POS_STAT_OVLP (n : Nat) : Fld := ⟨0x14008 + chBase n, 27, 27, .ro, 0⟩
def POS_STAT_ABSBUSY (n : Nat) : Fld := ⟨0x14008 + chBase n, 26, 26, .ro, 0⟩
def POS_COUNT_LO_COUNT (n : Nat) : Fld := ⟨0x14010 + chBase n, 31, 0, .ro, 0⟩
def POS_COUNT_HI_COUNT (n : Nat) : Fld := ⟨0x14014 + chBase n, 31, 0, .ro, 0⟩
def POS_PRESET_LO_VALUE (n : Nat) : Fld := ⟨0x14018 + chBase n, 31, 0, .rw, 0⟩
def POS_PRESET_HI_VALUE (n : Nat) : Fld := ⟨0x1401C + chBase n, 31, 0, .rw, 0⟩
def POS_LINE_LO_LINE (n : Nat) : Fld := ⟨0x14020 + chBase n, 31, 0, .rw, 0⟩
def POS_LINE_HI_LINE (n : Nat) : Fld := ⟨0x14024 + chBase n, 15, 0, .rw, 0⟩
def POS_PITCH_LO_FRAC (n : Nat) : Fld := ⟨0x14028 + chBase n, 31, 0, .rwl, 0⟩
def POS_PITCH_HI_INT (n : Nat) : Fld := ⟨0x1402C + chBase n, 31, 0, .rwl, 1⟩
def POS_TSTART_LO_VALUE (n : Nat) : Fld := ⟨0x14030 + chBase n, 31, 0, .rwl, 0⟩
def POS_TSTART_HI_VALUE (n : Nat) : Fld := ⟨0x14034 + chBase n, 31, 0, .rwl, 0⟩
def POS_HWM_LO_HWM (n : Nat) : Fld := ⟨0x14038 + chBase n, 31, 0, .ro, 0⟩
def POS_HWM_HI_HWM (n : Nat) : Fld := ⟨0x1403C + chBase n, 31, 0, .ro, 0⟩
def POS_CPR_CPR (n : Nat) : Fld := ⟨0x14040 + chBase n, 31, 0, .rwl, 0⟩
def POS_REFEXP_REXP (n : Nat) : Fld := ⟨0x14044 + chBase n, 31, 0, .rwl, 0⟩
def POS_DRIFTTOL_CORRMAX (n : Nat) : Fld := ⟨0x14048 + chBase n, 31, 16, .rwl, 0x40⟩
def POS_DRIFTTOL_TOL (n : Nat) : Fld := ⟨0x14048 + chBase n, 15, 0, .rwl, 4⟩
def POS_DRIFT_MAX (n : Nat) : Fld := ⟨0x1404C + chBase n, 31, 16, .ro, 0⟩
def POS_DRIFT_LAST (n : Nat) : Fld := ⟨0x1404C + chBase n, 15, 0, .ro, 0⟩
def POS_REFLAT_LO_COUNT (n : Nat) : Fld := ⟨0x14050 + chBase n, 31, 0, .ro, 0⟩
def POS_REFLAT_HI_COUNT (n : Nat) : Fld := ⟨0x14054 + chBase n, 31, 0, .ro, 0⟩
def POS_CORR_C (n : Nat) : Fld := ⟨0x14058 + chBase n, 31, 0, .ro, 0⟩
def POS_CORRLINE_LO_LINE (n : Nat) : Fld := ⟨0x1405C + chBase n, 31, 0, .ro, 0⟩
def POS_CORRLINE_HI_LINE (n : Nat) : Fld := ⟨0x14060 + chBase n, 15, 0, .ro, 0⟩
def POS_TOOTH_MISS (n : Nat) : Fld := ⟨0x14064 + chBase n, 15, 8, .rwl, 0x20⟩
def POS_TOOTH_EXTRA (n : Nat) : Fld := ⟨0x14064 + chBase n, 7, 0, .rwl, 0x08⟩
def POS_SPDCFG_SPER (n : Nat) : Fld := ⟨0x14068 + chBase n, 31, 16, .rwl, 0x3E8⟩
def POS_SPDCFG_STO (n : Nat) : Fld := ⟨0x14068 + chBase n, 15, 0, .rwl, 0x3E8⟩
def POS_SPEED_DIR (n : Nat) : Fld := ⟨0x1406C + chBase n, 31, 31, .ro, 0⟩
def POS_SPEED_VALID (n : Nat) : Fld := ⟨0x1406C + chBase n, 30, 30, .ro, 0⟩
def POS_SPEED_LOWCONF (n : Nat) : Fld := ⟨0x1406C + chBase n, 29, 29, .ro, 0⟩
def POS_SPEED_MAG (n : Nat) : Fld := ⟨0x1406C + chBase n, 27, 0, .ro, 0⟩
def POS_SPDLIM_LIM (n : Nat) : Fld := ⟨0x14070 + chBase n, 27, 0, .rw, 0⟩
def POS_DIVCFG_SRC (n : Nat) : Fld := ⟨0x14074 + chBase n, 31, 30, .rwl, 0⟩
def POS_DIVCFG_WIDTH (n : Nat) : Fld := ⟨0x14074 + chBase n, 29, 16, .rwl, 0x32⟩
def POS_DIVCFG_N (n : Nat) : Fld := ⟨0x14074 + chBase n, 15, 0, .rwl, 2⟩
def POS_ABSCFG_PROT (n : Nat) : Fld := ⟨0x14080 + chBase n, 31, 30, .rwl, 0⟩
def POS_ABSCFG_BITS (n : Nat) : Fld := ⟨0x14080 + chBase n, 29, 24, .rwl, 0x18⟩
def POS_ABSCFG_ABSMOD (n : Nat) : Fld := ⟨0x14080 + chBase n, 23, 23, .rwl, 0⟩
def POS_ABSCFG_SCKDIV (n : Nat) : Fld := ⟨0x14080 + chBase n, 22, 10, .rwl, 0x4A⟩
def POS_ABSCFG_ERRBITS (n : Nat) : Fld := ⟨0x14080 + chBase n, 9, 8, .rwl, 0⟩
def POS_ABSCFG_LATDLY (n : Nat) : Fld := ⟨0x14080 + chBase n, 7, 0, .rwl, 0⟩
def POS_ABSCFG2_CRCW (n : Nat) : Fld := ⟨0x14084 + chBase n, 26, 22, .rwl, 6⟩
def POS_ABSCFG2_SH (n : Nat) : Fld := ⟨0x14084 + chBase n, 21, 16, .rwl, 0⟩
def POS_ABSCFG2_POLY (n : Nat) : Fld := ⟨0x14084 + chBase n, 15, 0, .rwl, 0x43⟩
def POS_ABSOFF_LO_OFF (n : Nat) : Fld := ⟨0x14088 + chBase n, 31, 0, .rwl, 0⟩
def POS_ABSOFF_HI_OFF (n : Nat) : Fld := ⟨0x1408C + chBase n, 31, 0, .rwl, 0⟩
def POS_ABSTOL_TOL (n : Nat) : Fld := ⟨0x14090 + chBase n, 31, 0, .rw, 0x10⟩
def POS_ABSPER_WAIT (n : Nat) : Fld := ⟨0x14094 + chBase n, 31, 16, .rwl, 0x14⟩
def POS_ABSPER_PER (n : Nat) : Fld := ⟨0x14094 + chBase n, 15, 0, .rw, 0⟩
def POS_ABSVAL_LO_VALUE (n : Nat) : Fld := ⟨0x14098 + chBase n, 31, 0, .ro, 0⟩
def POS_ABSVAL_HI_VALUE (n : Nat) : Fld := ⟨0x1409C + chBase n, 31, 0, .ro, 0⟩
def POS_ABSLAT_LO_COUNT (n : Nat) : Fld := ⟨0x140A0 + chBase n, 31, 0, .ro, 0⟩
def POS_ABSLAT_HI_COUNT (n : Nat) : Fld := ⟨0x140A4 + chBase n, 31, 0, .ro, 0⟩
def POS_ABSSTAT_GOOD (n : Nat) : Fld := ⟨0x140A8 + chBase n, 31, 31, .ro, 0⟩
def POS_ABSSTAT_NW (n : Nat) : Fld := ⟨0x140A8 + chBase n, 30, 30, .ro, 0⟩
def POS_CMPCTL_LEVEL (n : Nat) : Fld := ⟨0x140C0 + chBase n, 7, 4, .ro, 0⟩
def POS_CMPCTL_EN (n : Nat) : Fld := ⟨0x140C0 + chBase n, 3, 0, .rw, 0⟩
def POS_GEN_LOOP (n : Nat) : Fld := ⟨0x140E0 + chBase n, 31, 31, .rwl, 0⟩
def POS_GEN_RUN (n : Nat) : Fld := ⟨0x140E0 + chBase n, 30, 30, .rw, 0⟩
def POS_GEN_DIR (n : Nat) : Fld := ⟨0x140E0 + chBase n, 29, 29, .rw, 0⟩
def POS_GEN_TOOTH (n : Nat) : Fld := ⟨0x140E0 + chBase n, 28, 27, .rw, 0⟩
def POS_GEN_TEETH (n : Nat) : Fld := ⟨0x140E0 + chBase n, 26, 0, .rw, 0⟩
def POS_GENRATE_RATE (n : Nat) : Fld := ⟨0x140E4 + chBase n, 31, 0, .rw, 0⟩
def POS_CNT_QERR (n : Nat) : Fld := ⟨0x140F0 + chBase n, 31, 16, .ro, 0⟩
def POS_CNT_ABSERR (n : Nat) : Fld := ⟨0x140F0 + chBase n, 15, 0, .ro, 0⟩
def POS_CNT2_GATE (n : Nat) : Fld := ⟨0x140F4 + chBase n, 31, 16, .ro, 0⟩
def POS_CNT2_REFUSED (n : Nat) : Fld := ⟨0x140F4 + chBase n, 15, 0, .ro, 0⟩

def fieldsPOS_3 (n off : Nat) : List Fld :=
  if off = 0x9C then [POS_ABSVAL_HI_VALUE n] else
  if off = 0xA0 then [POS_ABSLAT_LO_COUNT n] else
  if off = 0xA4 then [POS_ABSLAT_HI_COUNT n] else
  if off = 0xA8 then [POS_ABSSTAT_GOOD n, POS_ABSSTAT_NW n] else
  if off = 0xC0 then [POS_CMPCTL_LEVEL n, POS_CMPCTL_EN n] else
  if off = 0xE0 then [POS_GEN_LOOP n, POS_GEN_RUN n, POS_GEN_DIR n, POS_GEN_TOOTH n, POS_GEN_TEETH n] else
  if off = 0xE4 then [POS_GENRATE_RATE n] else
  if off = 0xF0 then [POS_CNT_QERR n, POS_CNT_ABSERR n] else
  if off = 0xF4 then [POS_CNT2_GATE n, POS_CNT2_REFUSED n] else
  []

def fieldsPOS_2 (n off : Nat) : List Fld :=
  if off = 0x64 then [POS_TOOTH_MISS n, POS_TOOTH_EXTRA n] else
  if off = 0x68 then [POS_SPDCFG_SPER n, POS_SPDCFG_STO n] else
  if off = 0x6C then [POS_SPEED_DIR n, POS_SPEED_VALID n, POS_SPEED_LOWCONF n, POS_SPEED_MAG n] else
  if off = 0x70 then [POS_SPDLIM_LIM n] else
  if off = 0x74 then [POS_DIVCFG_SRC n, POS_DIVCFG_WIDTH n, POS_DIVCFG_N n] else
  if off = 0x80 then [POS_ABSCFG_PROT n, POS_ABSCFG_BITS n, POS_ABSCFG_ABSMOD n, POS_ABSCFG_SCKDIV n, POS_ABSCFG_ERRBITS n, POS_ABSCFG_LATDLY n] else
  if off = 0x84 then [POS_ABSCFG2_CRCW n, POS_ABSCFG2_SH n, POS_ABSCFG2_POLY n] else
  if off = 0x88 then [POS_ABSOFF_LO_OFF n] else
  if off = 0x8C then [POS_ABSOFF_HI_OFF n] else
  if off = 0x90 then [POS_ABSTOL_TOL n] else
  if off = 0x94 then [POS_ABSPER_WAIT n, POS_ABSPER_PER n] else
  if off = 0x98 then [POS_ABSVAL_LO_VALUE n] else
  fieldsPOS_3 n off

def fieldsPOS_1 (n off : Nat) : List Fld :=
  if off = 0x34 then [POS_TSTART_HI_VALUE n] else
  if off = 0x38 then [POS_HWM_LO_HWM n] else
  if off = 0x3C then [POS_HWM_HI_HWM n] else
  if off = 0x40 then [POS_CPR_CPR n] else
  if off = 0x44 then [POS_REFEXP_REXP n] else
  if off = 0x48 then [POS_DRIFTTOL_CORRMAX n, POS_DRIFTTOL_TOL n] else
  if off = 0x4C then [POS_DRIFT_MAX n, POS_DRIFT_LAST n] else
  if off = 0x50 then [POS_REFLAT_LO_COUNT n] else
  if off = 0x54 then [POS_REFLAT_HI_COUNT n] else
  if off = 0x58 then [POS_CORR_C n] else
  if off = 0x5C then [POS_CORRLINE_LO_LINE n] else
  if off = 0x60 then [POS_CORRLINE_HI_LINE n] else
  fieldsPOS_2 n off

/-- The fields at an offset of block POS (empty: reserved, R385). -/
def fieldsPOS (n off : Nat) : List Fld :=
  if off = 0x0 then [POS_CFG_STARTMODE n, POS_CFG_REFMODE n, POS_CFG_DRIFTCORR n, POS_CFG_ZGATE n, POS_CFG_REFSRC n, POS_CFG_INV n, POS_CFG_MODE n] else
  if off = 0x4 then [POS_CTL_PRESET n, POS_CTL_ABSREAD n, POS_CTL_LOADABS n, POS_CTL_CLRCNT n] else
  if off = 0x8 then [POS_STAT_SUSPECT n, POS_STAT_ARMED n, POS_STAT_CORRPEND n, POS_STAT_GATED n, POS_STAT_OVLP n, POS_STAT_ABSBUSY n] else
  if off = 0x10 then [POS_COUNT_LO_COUNT n] else
  if off = 0x14 then [POS_COUNT_HI_COUNT n] else
  if off = 0x18 then [POS_PRESET_LO_VALUE n] else
  if off = 0x1C then [POS_PRESET_HI_VALUE n] else
  if off = 0x20 then [POS_LINE_LO_LINE n] else
  if off = 0x24 then [POS_LINE_HI_LINE n] else
  if off = 0x28 then [POS_PITCH_LO_FRAC n] else
  if off = 0x2C then [POS_PITCH_HI_INT n] else
  if off = 0x30 then [POS_TSTART_LO_VALUE n] else
  fieldsPOS_1 n off

/-! Block MOT (R398). -/

def MOT_CTL_CLRCNT (n : Nat) : Fld := ⟨0x18000 + chBase n, 31, 31, .wo, 0⟩
def MOT_CTL_HALTALL (n : Nat) : Fld := ⟨0x18000 + chBase n, 30, 30, .wo, 0⟩
def MOT_CTL_ESTOPALL (n : Nat) : Fld := ⟨0x18000 + chBase n, 29, 29, .wo, 0⟩
def MOT_CTL_GO (n : Nat) : Fld := ⟨0x18000 + chBase n, 28, 28, .wo, 0⟩
def MOT_CTL_GMASK (n : Nat) : Fld := ⟨0x18000 + chBase n, 3, 0, .rw, 0⟩
def MOT_STAT_ENOUT (n : Nat) : Fld := ⟨0x18004 + chBase n, 31, 31, .ro, 0⟩
def MOT_STAT_GROUP (n : Nat) : Fld := ⟨0x18004 + chBase n, 19, 16, .ro, 0⟩
def MOT_STAT_FLT (n : Nat) : Fld := ⟨0x18004 + chBase n, 15, 12, .ro, 0⟩
def MOT_STAT_HOMED (n : Nat) : Fld := ⟨0x18004 + chBase n, 11, 8, .ro, 0⟩
def MOT_STAT_MOVING (n : Nat) : Fld := ⟨0x18004 + chBase n, 3, 0, .ro, 0⟩
def MOT_VSUP_EN (n : Nat) : Fld := ⟨0x18008 + chBase n, 31, 31, .rwl, 0⟩
def MOT_VSUP_SRC (n : Nat) : Fld := ⟨0x18008 + chBase n, 20, 16, .rwl, 0⟩
def MOT_VSUP_VNOM (n : Nat) : Fld := ⟨0x18008 + chBase n, 15, 0, .rwl, 0xBB80⟩
def MOT_VMEAS_CSUP (n : Nat) : Fld := ⟨0x1800C + chBase n, 31, 16, .ro, 0x4000⟩
def MOT_VMEAS_VM (n : Nat) : Fld := ⟨0x1800C + chBase n, 15, 0, .ro, 0⟩
def MOT_PWMCFG_DEADT (n : Nat) : Fld := ⟨0x18010 + chBase n, 19, 16, .rwl, 4⟩
def MOT_PWMCFG_PWMP (n : Nat) : Fld := ⟨0x18010 + chBase n, 11, 0, .rwl, 0x7D0⟩

/-- The fields at an offset of block MOT (empty: reserved, R385). -/
def fieldsMOT (n off : Nat) : List Fld :=
  if off = 0x0 then [MOT_CTL_CLRCNT n, MOT_CTL_HALTALL n, MOT_CTL_ESTOPALL n, MOT_CTL_GO n, MOT_CTL_GMASK n] else
  if off = 0x4 then [MOT_STAT_ENOUT n, MOT_STAT_GROUP n, MOT_STAT_FLT n, MOT_STAT_HOMED n, MOT_STAT_MOVING n] else
  if off = 0x8 then [MOT_VSUP_EN n, MOT_VSUP_SRC n, MOT_VSUP_VNOM n] else
  if off = 0xC then [MOT_VMEAS_CSUP n, MOT_VMEAS_VM n] else
  if off = 0x10 then [MOT_PWMCFG_DEADT n, MOT_PWMCFG_PWMP n] else
  []

/-! Block MOTA (R398). -/

def MOTA_CFG_EN (n a : Nat) : Fld := ⟨0x18100 + chBase n + 0x100 * a, 31, 31, .rwl, 0⟩
def MOTA_CFG_ROLE (n a : Nat) : Fld := ⟨0x18100 + chBase n + 0x100 * a, 30, 29, .rwl, 0⟩
def MOTA_CFG_DIRINV (n a : Nat) : Fld := ⟨0x18100 + chBase n + 0x100 * a, 28, 28, .rwl, 0⟩
def MOTA_CFG_DECAY (n a : Nat) : Fld := ⟨0x18100 + chBase n + 0x100 * a, 27, 27, .rwl, 0⟩
def MOTA_CFG_HOLDSAFE (n a : Nat) : Fld := ⟨0x18100 + chBase n + 0x100 * a, 26, 26, .rwl, 0⟩
def MOTA_CFG_REFPOL (n a : Nat) : Fld := ⟨0x18100 + chBase n + 0x100 * a, 25, 25, .rwl, 0⟩
def MOTA_CFG_HOMEDIR (n a : Nat) : Fld := ⟨0x18100 + chBase n + 0x100 * a, 24, 24, .rwl, 0⟩
def MOTA_CFG_ENCCHK (n a : Nat) : Fld := ⟨0x18100 + chBase n + 0x100 * a, 23, 23, .rwl, 0⟩
def MOTA_CTL_GO (n a : Nat) : Fld := ⟨0x18104 + chBase n + 0x100 * a, 31, 31, .wo, 0⟩
def MOTA_CTL_REL (n a : Nat) : Fld := ⟨0x18104 + chBase n + 0x100 * a, 30, 30, .rw, 0⟩
def MOTA_CTL_HALT (n a : Nat) : Fld := ⟨0x18104 + chBase n + 0x100 * a, 29, 29, .wo, 0⟩
def MOTA_CTL_HOME (n a : Nat) : Fld := ⟨0x18104 + chBase n + 0x100 * a, 28, 28, .wo, 0⟩
def MOTA_CTL_CLRFLT (n a : Nat) : Fld := ⟨0x18104 + chBase n + 0x100 * a, 27, 27, .wo, 0⟩
def MOTA_CTL_ESTOP (n a : Nat) : Fld := ⟨0x18104 + chBase n + 0x100 * a, 26, 26, .wo, 0⟩
def MOTA_STAT_STATE (n a : Nat) : Fld := ⟨0x18108 + chBase n + 0x100 * a, 31, 29, .ro, 0⟩
def MOTA_STAT_END (n a : Nat) : Fld := ⟨0x18108 + chBase n + 0x100 * a, 28, 26, .ro, 0⟩
def MOTA_STAT_HOMED (n a : Nat) : Fld := ⟨0x18108 + chBase n + 0x100 * a, 25, 25, .ro, 0⟩
def MOTA_STAT_OVERRIDE (n a : Nat) : Fld := ⟨0x18108 + chBase n + 0x100 * a, 24, 24, .ro, 0⟩
def MOTA_STAT_SAT (n a : Nat) : Fld := ⟨0x18108 + chBase n + 0x100 * a, 23, 23, .ro, 0⟩
def MOTA_STAT_REF (n a : Nat) : Fld := ⟨0x18108 + chBase n + 0x100 * a, 22, 22, .ro, 0⟩
def MOTA_STAT_FLT (n a : Nat) : Fld := ⟨0x18108 + chBase n + 0x100 * a, 21, 21, .ro, 0⟩
def MOTA_STAT_REFCAUSE (n a : Nat) : Fld := ⟨0x18108 + chBase n + 0x100 * a, 18, 16, .ro, 0⟩
def MOTA_TGT_TGT (n a : Nat) : Fld := ⟨0x1810C + chBase n + 0x100 * a, 31, 0, .rw, 0⟩
def MOTA_POS_POS (n a : Nat) : Fld := ⟨0x18110 + chBase n + 0x100 * a, 31, 0, .ro, 0⟩
def MOTA_SPEED_DIR (n a : Nat) : Fld := ⟨0x18114 + chBase n + 0x100 * a, 31, 31, .ro, 0⟩
def MOTA_SPEED_V (n a : Nat) : Fld := ⟨0x18114 + chBase n + 0x100 * a, 22, 0, .ro, 0⟩
def MOTA_VSTART_V (n a : Nat) : Fld := ⟨0x18118 + chBase n + 0x100 * a, 22, 0, .rw, 0x6400⟩
def MOTA_VSTOP_V (n a : Nat) : Fld := ⟨0x1811C + chBase n + 0x100 * a, 22, 0, .rw, 0x6400⟩
def MOTA_V1_V (n a : Nat) : Fld := ⟨0x18120 + chBase n + 0x100 * a, 22, 0, .rw, 0x7D000⟩
def MOTA_VMAX_V (n a : Nat) : Fld := ⟨0x18124 + chBase n + 0x100 * a, 22, 0, .rw, 0x7D000⟩
def MOTA_A1_A (n a : Nat) : Fld := ⟨0x18128 + chBase n + 0x100 * a, 31, 0, .rw, 0x00FA0000⟩
def MOTA_A2_A (n a : Nat) : Fld := ⟨0x1812C + chBase n + 0x100 * a, 31, 0, .rw, 0x00FA0000⟩
def MOTA_D1_A (n a : Nat) : Fld := ⟨0x18130 + chBase n + 0x100 * a, 31, 0, .rw, 0x00FA0000⟩
def MOTA_D2_A (n a : Nat) : Fld := ⟨0x18134 + chBase n + 0x100 * a, 31, 0, .rw, 0x00FA0000⟩
def MOTA_DLIM_DLIM (n a : Nat) : Fld := ⟨0x18138 + chBase n + 0x100 * a, 31, 0, .rwl, 0x01F40000⟩
def MOTA_MINPOS_LIM (n a : Nat) : Fld := ⟨0x1813C + chBase n + 0x100 * a, 31, 0, .rwl, 0x88CA6C00⟩
def MOTA_MAXPOS_LIM (n a : Nat) : Fld := ⟨0x18140 + chBase n + 0x100 * a, 31, 0, .rwl, 0x77359400⟩
def MOTA_K_HOLDK (n a : Nat) : Fld := ⟨0x18144 + chBase n + 0x100 * a, 31, 24, .rwl, 0x20⟩
def MOTA_K_RUNK (n a : Nat) : Fld := ⟨0x18144 + chBase n + 0x100 * a, 23, 16, .rwl, 0x20⟩
def MOTA_K_ACCK (n a : Nat) : Fld := ⟨0x18144 + chBase n + 0x100 * a, 15, 8, .rwl, 0x20⟩
def MOTA_K_DECK (n a : Nat) : Fld := ⟨0x18144 + chBase n + 0x100 * a, 7, 0, .rwl, 0x20⟩
def MOTA_FF_BEMF (n a : Nat) : Fld := ⟨0x18148 + chBase n + 0x100 * a, 31, 16, .rwl, 0⟩
def MOTA_FF_LEAD (n a : Nat) : Fld := ⟨0x18148 + chBase n + 0x100 * a, 15, 0, .rwl, 0⟩
def MOTA_HOMEV_HOMEV (n a : Nat) : Fld := ⟨0x1814C + chBase n + 0x100 * a, 22, 0, .rwl, 0x1900⟩
def MOTA_HOMEPOS_POS (n a : Nat) : Fld := ⟨0x18150 + chBase n + 0x100 * a, 31, 0, .rwl, 0⟩
def MOTA_HOMEMAX_MAX (n a : Nat) : Fld := ⟨0x18154 + chBase n + 0x100 * a, 31, 0, .rwl, 0x04000000⟩
def MOTA_ENCRATIO_RATIO (n a : Nat) : Fld := ⟨0x18158 + chBase n + 0x100 * a, 31, 0, .rwl, 0⟩
def MOTA_ENCTOL_TOL (n a : Nat) : Fld := ⟨0x1815C + chBase n + 0x100 * a, 15, 0, .rwl, 0x40⟩
def MOTA_ENCERR_E (n a : Nat) : Fld := ⟨0x18160 + chBase n + 0x100 * a, 31, 0, .ro, 0⟩
def MOTA_DUTY_DB (n a : Nat) : Fld := ⟨0x18164 + chBase n + 0x100 * a, 31, 16, .ro, 0⟩
def MOTA_DUTY_DA (n a : Nat) : Fld := ⟨0x18164 + chBase n + 0x100 * a, 15, 0, .ro, 0⟩
def MOTA_CNT_REFUSED (n a : Nat) : Fld := ⟨0x18168 + chBase n + 0x100 * a, 31, 16, .ro, 0⟩
def MOTA_CNT_OVERRIDE (n a : Nat) : Fld := ⟨0x18168 + chBase n + 0x100 * a, 15, 0, .ro, 0⟩
def MOTA_CNT2_SAT (n a : Nat) : Fld := ⟨0x1816C + chBase n + 0x100 * a, 31, 16, .ro, 0⟩
def MOTA_CNT2_STEPCHK (n a : Nat) : Fld := ⟨0x1816C + chBase n + 0x100 * a, 15, 0, .ro, 0⟩
def MOTA_OVERSHOOT_DIST (n a : Nat) : Fld := ⟨0x18170 + chBase n + 0x100 * a, 31, 0, .ro, 0⟩

def fieldsMOTA_2 (n a off : Nat) : List Fld :=
  if off = 0x60 then [MOTA_ENCERR_E n a] else
  if off = 0x64 then [MOTA_DUTY_DB n a, MOTA_DUTY_DA n a] else
  if off = 0x68 then [MOTA_CNT_REFUSED n a, MOTA_CNT_OVERRIDE n a] else
  if off = 0x6C then [MOTA_CNT2_SAT n a, MOTA_CNT2_STEPCHK n a] else
  if off = 0x70 then [MOTA_OVERSHOOT_DIST n a] else
  []

def fieldsMOTA_1 (n a off : Nat) : List Fld :=
  if off = 0x30 then [MOTA_D1_A n a] else
  if off = 0x34 then [MOTA_D2_A n a] else
  if off = 0x38 then [MOTA_DLIM_DLIM n a] else
  if off = 0x3C then [MOTA_MINPOS_LIM n a] else
  if off = 0x40 then [MOTA_MAXPOS_LIM n a] else
  if off = 0x44 then [MOTA_K_HOLDK n a, MOTA_K_RUNK n a, MOTA_K_ACCK n a, MOTA_K_DECK n a] else
  if off = 0x48 then [MOTA_FF_BEMF n a, MOTA_FF_LEAD n a] else
  if off = 0x4C then [MOTA_HOMEV_HOMEV n a] else
  if off = 0x50 then [MOTA_HOMEPOS_POS n a] else
  if off = 0x54 then [MOTA_HOMEMAX_MAX n a] else
  if off = 0x58 then [MOTA_ENCRATIO_RATIO n a] else
  if off = 0x5C then [MOTA_ENCTOL_TOL n a] else
  fieldsMOTA_2 n a off

/-- The fields at an offset of block MOTA (empty: reserved, R385). -/
def fieldsMOTA (n a off : Nat) : List Fld :=
  if off = 0x0 then [MOTA_CFG_EN n a, MOTA_CFG_ROLE n a, MOTA_CFG_DIRINV n a, MOTA_CFG_DECAY n a, MOTA_CFG_HOLDSAFE n a, MOTA_CFG_REFPOL n a, MOTA_CFG_HOMEDIR n a, MOTA_CFG_ENCCHK n a] else
  if off = 0x4 then [MOTA_CTL_GO n a, MOTA_CTL_REL n a, MOTA_CTL_HALT n a, MOTA_CTL_HOME n a, MOTA_CTL_CLRFLT n a, MOTA_CTL_ESTOP n a] else
  if off = 0x8 then [MOTA_STAT_STATE n a, MOTA_STAT_END n a, MOTA_STAT_HOMED n a, MOTA_STAT_OVERRIDE n a, MOTA_STAT_SAT n a, MOTA_STAT_REF n a, MOTA_STAT_FLT n a, MOTA_STAT_REFCAUSE n a] else
  if off = 0xC then [MOTA_TGT_TGT n a] else
  if off = 0x10 then [MOTA_POS_POS n a] else
  if off = 0x14 then [MOTA_SPEED_DIR n a, MOTA_SPEED_V n a] else
  if off = 0x18 then [MOTA_VSTART_V n a] else
  if off = 0x1C then [MOTA_VSTOP_V n a] else
  if off = 0x20 then [MOTA_V1_V n a] else
  if off = 0x24 then [MOTA_VMAX_V n a] else
  if off = 0x28 then [MOTA_A1_A n a] else
  if off = 0x2C then [MOTA_A2_A n a] else
  fieldsMOTA_1 n a off

/-! Block CAL (R399). -/

def CAL_CFG_TAUTO (n : Nat) : Fld := ⟨0x1C000 + chBase n, 31, 31, .rwl, 0⟩
def CAL_CFG_FIRST (n : Nat) : Fld := ⟨0x1C000 + chBase n, 30, 30, .rwl, 0⟩
def CAL_CFG_RETRY (n : Nat) : Fld := ⟨0x1C000 + chBase n, 29, 29, .rwl, 1⟩
def CAL_CFG_TSRC (n : Nat) : Fld := ⟨0x1C000 + chBase n, 20, 16, .rwl, 0⟩
def CAL_CFG_MININT (n : Nat) : Fld := ⟨0x1C000 + chBase n, 15, 0, .rwl, 0x3C⟩
def CAL_CTL_START (n : Nat) : Fld := ⟨0x1C004 + chBase n, 31, 31, .wo, 0⟩
def CAL_CTL_ABORT (n : Nat) : Fld := ⟨0x1C004 + chBase n, 30, 30, .wo, 0⟩
def CAL_CTL_EVAL (n : Nat) : Fld := ⟨0x1C004 + chBase n, 29, 29, .wo, 0⟩
def CAL_CTL_STORE (n : Nat) : Fld := ⟨0x1C004 + chBase n, 28, 28, .wo, 0⟩
def CAL_CTL_LOAD (n : Nat) : Fld := ⟨0x1C004 + chBase n, 27, 27, .wo, 0⟩
def CAL_CTL_CLRCNT (n : Nat) : Fld := ⟨0x1C004 + chBase n, 26, 26, .wo, 0⟩
def CAL_CTL_SLOT (n : Nat) : Fld := ⟨0x1C004 + chBase n, 3, 0, .rw, 0⟩
def CAL_STAT_STATE (n : Nat) : Fld := ⟨0x1C008 + chBase n, 31, 29, .ro, 0⟩
def CAL_STAT_NEXT (n : Nat) : Fld := ⟨0x1C008 + chBase n, 28, 27, .ro, 0⟩
def CAL_STAT_RESULT (n : Nat) : Fld := ⟨0x1C008 + chBase n, 26, 25, .ro, 0⟩
def CAL_STAT_CAUSE (n : Nat) : Fld := ⟨0x1C008 + chBase n, 24, 21, .ro, 0⟩
def CAL_STAT_TREQ (n : Nat) : Fld := ⟨0x1C008 + chBase n, 20, 20, .ro, 0⟩
def CAL_STAT_GAP (n : Nat) : Fld := ⟨0x1C008 + chBase n, 19, 19, .ro, 0⟩
def CAL_STAT_SLIDEIN (n : Nat) : Fld := ⟨0x1C008 + chBase n, 18, 18, .ro, 0⟩
def CAL_STAT_TREFV (n : Nat) : Fld := ⟨0x1C008 + chBase n, 17, 17, .ro, 0⟩
def CAL_STAT_BUSY (n : Nat) : Fld := ⟨0x1C008 + chBase n, 16, 16, .ro, 0⟩
def CAL_STAT_PSLOTV (n : Nat) : Fld := ⟨0x1C008 + chBase n, 15, 0, .ro, 0⟩
def CAL_TEMP_TREF (n : Nat) : Fld := ⟨0x1C00C + chBase n, 31, 16, .ro, 0⟩
def CAL_TEMP_TNOW (n : Nat) : Fld := ⟨0x1C00C + chBase n, 15, 0, .ro, 0⟩
def CAL_TDRIFT_DRIFT (n : Nat) : Fld := ⟨0x1C010 + chBase n, 15, 0, .rwl, 0x20⟩
def CAL_TGT_TGT (n : Nat) : Fld := ⟨0x1C014 + chBase n, 11, 0, .rwl, 0xED8⟩
def CAL_REFL_REFL (n c : Nat) : Fld := ⟨0x1C018 + chBase n + 0x4 * c, 15, 0, .rwl, 0xE000⟩
def CAL_WREF_WREF (n c : Nat) : Fld := ⟨0x1C024 + chBase n + 0x4 * c, 15, 0, .rwl, 0⟩
def CAL_BAND_BAND (n : Nat) : Fld := ⟨0x1C030 + chBase n, 7, 0, .rwl, 0x20⟩
def CAL_AGREE_TOL (n : Nat) : Fld := ⟨0x1C034 + chBase n, 31, 16, .rwl, 0x148⟩
def CAL_AGREE_ALLOW (n : Nat) : Fld := ⟨0x1C034 + chBase n, 15, 0, .rwl, 0x0A⟩
def CAL_DARKLIM_DSPREAD (n : Nat) : Fld := ⟨0x1C038 + chBase n, 31, 16, .rwl, 0x40⟩
def CAL_DARKLIM_DMEAN (n : Nat) : Fld := ⟨0x1C038 + chBase n, 15, 0, .rwl, 0x800⟩
def CAL_GRANGE_WMAX (n : Nat) : Fld := ⟨0x1C03C + chBase n, 31, 16, .rwl, 0xC000⟩
def CAL_GRANGE_WMIN (n : Nat) : Fld := ⟨0x1C03C + chBase n, 15, 0, .rwl, 0x2000⟩
def CAL_CAPPER_PER (n : Nat) : Fld := ⟨0x1C040 + chBase n, 19, 0, .rwl, 0x2710⟩
def CAL_PARK_POS (n : Nat) : Fld := ⟨0x1C044 + chBase n, 31, 0, .rwl, 0⟩
def CAL_CALCNT_COUNT (n : Nat) : Fld := ⟨0x1C050 + chBase n, 31, 0, .ro, 0⟩
def CAL_REJCNT_ABANDON (n : Nat) : Fld := ⟨0x1C054 + chBase n, 31, 16, .ro, 0⟩
def CAL_REJCNT_REJECT (n : Nat) : Fld := ⟨0x1C054 + chBase n, 15, 0, .ro, 0⟩
def CAL_LASTTS_LO_TS (n : Nat) : Fld := ⟨0x1C058 + chBase n, 31, 0, .ro, 0⟩
def CAL_LASTTS_HI_TS (n : Nat) : Fld := ⟨0x1C05C + chBase n, 31, 0, .ro, 0⟩
def CAL_LASTLINE_LO_LINE (n : Nat) : Fld := ⟨0x1C060 + chBase n, 31, 0, .ro, 0⟩
def CAL_LASTLINE_HI_LINE (n : Nat) : Fld := ⟨0x1C064 + chBase n, 15, 0, .ro, 0⟩
def CAL_CHKERR_COUNT (n : Nat) : Fld := ⟨0x1C068 + chBase n, 15, 0, .ro, 0⟩
def CAL_WMEAN_LO_GN (n : Nat) : Fld := ⟨0x1C070 + chBase n, 31, 16, .ro, 0⟩
def CAL_WMEAN_LO_RD (n : Nat) : Fld := ⟨0x1C070 + chBase n, 15, 0, .ro, 0⟩
def CAL_WMEAN_HI_BU (n : Nat) : Fld := ⟨0x1C074 + chBase n, 15, 0, .ro, 0⟩
def CAL_DMEAN_LO_GN (n : Nat) : Fld := ⟨0x1C078 + chBase n, 31, 16, .ro, 0⟩
def CAL_DMEAN_LO_RD (n : Nat) : Fld := ⟨0x1C078 + chBase n, 15, 0, .ro, 0⟩
def CAL_DMEAN_HI_BU (n : Nat) : Fld := ⟨0x1C07C + chBase n, 15, 0, .ro, 0⟩
def CAL_DSPRD_LO_GN (n : Nat) : Fld := ⟨0x1C080 + chBase n, 31, 16, .ro, 0⟩
def CAL_DSPRD_LO_RD (n : Nat) : Fld := ⟨0x1C080 + chBase n, 15, 0, .ro, 0⟩
def CAL_DSPRD_HI_BU (n : Nat) : Fld := ⟨0x1C084 + chBase n, 15, 0, .ro, 0⟩
def CAL_DISAGREE_GRANGE (n : Nat) : Fld := ⟨0x1C088 + chBase n, 31, 16, .ro, 0⟩
def CAL_DISAGREE_AGREE (n : Nat) : Fld := ⟨0x1C088 + chBase n, 15, 0, .ro, 0⟩
def CAL_LCAL_LO_GN (n : Nat) : Fld := ⟨0x1C08C + chBase n, 31, 16, .ro, 0⟩
def CAL_LCAL_LO_RD (n : Nat) : Fld := ⟨0x1C08C + chBase n, 15, 0, .ro, 0⟩
def CAL_LCAL_HI_BU (n : Nat) : Fld := ⟨0x1C090 + chBase n, 15, 0, .ro, 0⟩
def CAL_STORE_KIND (n j : Nat) : Fld := ⟨0x1C0A0 + chBase n + 0x4 * j, 31, 30, .ro, 0⟩
def CAL_STORE_VALID (n j : Nat) : Fld := ⟨0x1C0A0 + chBase n + 0x4 * j, 29, 29, .ro, 0⟩
def CAL_STORE_REPL (n j : Nat) : Fld := ⟨0x1C0A0 + chBase n + 0x4 * j, 28, 24, .ro, 0⟩
def CAL_STORE_LINES (n j : Nat) : Fld := ⟨0x1C0A0 + chBase n + 0x4 * j, 15, 0, .ro, 0⟩
def CAL_SREF_SREF (n s : Nat) : Fld := ⟨0x1C0C0 + chBase n + 0x4 * s, 11, 0, .ro, 0⟩

def fieldsCAL_2 (n off : Nat) : List Fld :=
  if off = 0x7C then [CAL_DMEAN_HI_BU n] else
  if off = 0x80 then [CAL_DSPRD_LO_GN n, CAL_DSPRD_LO_RD n] else
  if off = 0x84 then [CAL_DSPRD_HI_BU n] else
  if off = 0x88 then [CAL_DISAGREE_GRANGE n, CAL_DISAGREE_AGREE n] else
  if off = 0x8C then [CAL_LCAL_LO_GN n, CAL_LCAL_LO_RD n] else
  if off = 0x90 then [CAL_LCAL_HI_BU n] else
  if 0xA0 ≤ off ∧ off < 0xB0 ∧ (off - 0xA0) % 0x4 = 0 then let j := (off - 0xA0) / 0x4; [CAL_STORE_KIND n j, CAL_STORE_VALID n j, CAL_STORE_REPL n j, CAL_STORE_LINES n j] else
  if 0xC0 ≤ off ∧ off < 0xF0 ∧ (off - 0xC0) % 0x4 = 0 then let s := (off - 0xC0) / 0x4; [CAL_SREF_SREF n s] else
  []

def fieldsCAL_1 (n off : Nat) : List Fld :=
  if off = 0x40 then [CAL_CAPPER_PER n] else
  if off = 0x44 then [CAL_PARK_POS n] else
  if off = 0x50 then [CAL_CALCNT_COUNT n] else
  if off = 0x54 then [CAL_REJCNT_ABANDON n, CAL_REJCNT_REJECT n] else
  if off = 0x58 then [CAL_LASTTS_LO_TS n] else
  if off = 0x5C then [CAL_LASTTS_HI_TS n] else
  if off = 0x60 then [CAL_LASTLINE_LO_LINE n] else
  if off = 0x64 then [CAL_LASTLINE_HI_LINE n] else
  if off = 0x68 then [CAL_CHKERR_COUNT n] else
  if off = 0x70 then [CAL_WMEAN_LO_GN n, CAL_WMEAN_LO_RD n] else
  if off = 0x74 then [CAL_WMEAN_HI_BU n] else
  if off = 0x78 then [CAL_DMEAN_LO_GN n, CAL_DMEAN_LO_RD n] else
  fieldsCAL_2 n off

/-- The fields at an offset of block CAL (empty: reserved, R385). -/
def fieldsCAL (n off : Nat) : List Fld :=
  if off = 0x0 then [CAL_CFG_TAUTO n, CAL_CFG_FIRST n, CAL_CFG_RETRY n, CAL_CFG_TSRC n, CAL_CFG_MININT n] else
  if off = 0x4 then [CAL_CTL_START n, CAL_CTL_ABORT n, CAL_CTL_EVAL n, CAL_CTL_STORE n, CAL_CTL_LOAD n, CAL_CTL_CLRCNT n, CAL_CTL_SLOT n] else
  if off = 0x8 then [CAL_STAT_STATE n, CAL_STAT_NEXT n, CAL_STAT_RESULT n, CAL_STAT_CAUSE n, CAL_STAT_TREQ n, CAL_STAT_GAP n, CAL_STAT_SLIDEIN n, CAL_STAT_TREFV n, CAL_STAT_BUSY n, CAL_STAT_PSLOTV n] else
  if off = 0xC then [CAL_TEMP_TREF n, CAL_TEMP_TNOW n] else
  if off = 0x10 then [CAL_TDRIFT_DRIFT n] else
  if off = 0x14 then [CAL_TGT_TGT n] else
  if 0x18 ≤ off ∧ off < 0x24 ∧ (off - 0x18) % 0x4 = 0 then let c := (off - 0x18) / 0x4; [CAL_REFL_REFL n c] else
  if 0x24 ≤ off ∧ off < 0x30 ∧ (off - 0x24) % 0x4 = 0 then let c := (off - 0x24) / 0x4; [CAL_WREF_WREF n c] else
  if off = 0x30 then [CAL_BAND_BAND n] else
  if off = 0x34 then [CAL_AGREE_TOL n, CAL_AGREE_ALLOW n] else
  if off = 0x38 then [CAL_DARKLIM_DSPREAD n, CAL_DARKLIM_DMEAN n] else
  if off = 0x3C then [CAL_GRANGE_WMAX n, CAL_GRANGE_WMIN n] else
  fieldsCAL_1 n off


/-- The fields of the register at a device-level BAR 0 address below the channels (R384). -/
def devFieldsAt (a : Nat) : List Fld :=
  if a < 0x4000 then fieldsGLB a else
  if a < 0x8000 then fieldsSEQ (a - 0x4000) else
  if a < 0xC000 then fieldsEVT (a - 0x8000) else
  if a < 0x10000 then fieldsCLK (a - 0xC000) else
  if a < 0x11000 then fieldsDMA (a - 0x10000) else
  if a < 0x12000 then fieldsDMAQ ((a - 0x11000) / 0x100) ((a - 0x11000) % 0x100) else
  if a < 0x20000 then [] else
  if a < 0x30000 then fieldsDRC ((a - 0x20000) / 0x4000) ((a - 0x20000) % 0x4000) else
  if a < 0x40000 then fieldsMON (a - 0x30000) else
  if a < 0x50000 then fieldsUMD (a - 0x40000) else []

/-- The fields at an offset inside the register blocks of channel n (R384, R393 to R399). -/
def chFieldsAt (n o : Nat) : List Fld :=
  if o < 0x4000 then fieldsSNS n o else
  if o < 0x8000 then fieldsPIPE n (o - 0x4000) else
  if o < 0xA000 then fieldsRSMP n (o - 0x8000) else
  if o < 0xC000 then fieldsPACK n (o - 0xA000) else
  if o < 0x10000 then fieldsFIFO n (o - 0xC000) else
  if o < 0x14000 then fieldsLMP n (o - 0x10000) else
  if o < 0x18000 then fieldsPOS n (o - 0x14000) else
  if o < 0x1C000 then
    (if o < 0x18100 then fieldsMOT n (o - 0x18000)
     else if o < 0x18500 then fieldsMOTA n ((o - 0x18100) / 0x100) ((o - 0x18100) % 0x100) else []) else
  if o < 0x20000 then fieldsCAL n (o - 0x1C000) else []

/-- The fields of the register at a BAR 0 byte address; empty where the address holds no register of these blocks
(R384, R385). Addresses are those of whole DWs. -/
def fieldsAt (a : Nat) : List Fld :=
  if a % 4 ≠ 0 then [] else
  if a < 0x80000 then devFieldsAt a else
  if a < 0x180000 then chFieldsAt ((a - 0x80000) / 0x40000) ((a - 0x80000) % 0x40000) else []

end Sys2Proof.Machine
end

