-- ==== Sys2Proof/Machine/State.lean ====
section
/-! DEFINITION. Machine/State.lean: the whole state of the device and its value after reset: the queue of commands that wait, the
register file (spec/16_register_map.md R385), what the blocks hold that is no register, the memories, and what has left
the device. -/

namespace Sys2Proof.Machine

/-- A happening on its way to the event unit (R362, R367): the event, its instance kind and index, the line, CODE and DETAIL of
its log entry, whether it was forced (R365), and the events on whose trackers it counts. -/
structure Raise where
  ev : Nat
  kind : Nat
  idx : Nat
  line : Nat
  code : Nat
  detail : Nat
  forced : Bool
  countOn : List Nat
  deriving DecidableEq, Repr

/-- What leaves the device: writes and reads of host memory (R278, R281), the bytes of a BAR 2 read (R265), words on a sensor's SPI
port with its mode and divider (R78), the divider of a running SN_n_MCLK or 0 for one held low (R70, R71), levels of an output pin,
and frames on a Umade port (R345).
[DESIGN CHOICE, safe: log entry 13] -/
inductive Out where
  | hostWrite (addr : Nat) (bytes : List Byte) (noSnoop relaxed poison : Bool)
  | hostRead (addr len : Nat)
  | completion (bytes : List Byte) (poison : Bool)
  | spi (n : Nat) (word len : Nat) (mode3 : Bool) (div : Nat)
  | mclk (n m : Nat)
  | lampPulse (n sink start width : Nat)
  | bridge (n a : Nat) (codesA codesB : List (Nat × Nat))
  | pin (name : String) (n : Nat) (level : Bool)
  | frame (up : Bool) (bytes : List Byte)
  deriving DecidableEq, Repr

/-- One channel (R7) beside its registers. -/
structure Chan where
  sns : SnsSt
  pipe : PipeSt
  rsmp : RsmpSt
  fifo : FifoSt
  lmp : LmpSt
  pos : PosSt
  mot : MotSt
  cal : CalSt
  tabs : List (Nat × Byte)       -- active tables, by window offset (R400)
  roughAt : Nat                  -- when rough-cut mode was entered (R371)
  stopHold : Option Nat          -- the event whose class 4 action holds HOLD_N low (R374)
  motLate : List (Nat × Nat × Word) -- register words of a switch that wait for an axis to stand still (R61)
  late : Option LateSet          -- what a switch leaves to the packet of line L (R61)
  deriving DecidableEq, Repr

/-- The device. Registers that a rule makes a function of other state are functions, not fields; every other register is a
word of `regs`, held in canonical form over its reset value. -/
structure State where
  pending : List Instr           -- commands that wait, oldest first
  regs : List (Nat × Word)       -- register file by BAR 0 offset
  frozen : List (Nat × Word)     -- upper halves held by the reads of the lower ones (R385)
  now : Nat                      -- elapsed time in ns
  timeBase : BitVec 64           -- R23
  freeCtr : Nat                  -- the model's own: free values used so far
  chans : Quad Chan
  drams : Quad (List (Nat × Byte)) -- contents of the DRAM of each controller (R302)
  evq : List Raise               -- happenings of the command in progress; empty between commands
  outbox : List Out              -- what has left the device, oldest first
  runners : List Runner          -- 0 the device's, 1 + n channel n's
  port : List PortReq            -- writes that wait at the register port, in the order of application (R33)
  portAt : Nat                   -- one more than the control clock in which the port last applied a write, 0 before the first (R33)
  justSet : List (Nat × Nat × Word) -- W1C bits that the device set: register, control clock, bits (R9)
  switches : List SwReq
  boot : BootSt
  upd : UpdSt
  flash : List (List (Nat × Byte)) -- the two flash devices (R37), erased bytes 0xFF
  ldLow : Bool                   -- the device drives LD_SYNC low (R159)
  keyHash : List Byte            -- the key hash fuses (R36); empty: blank
  evt : EvtSt
  dma : DmaSt
  drc : Quad DrcSt
  mon : MonSt
  drv : DrvSt
  umd : UmdSt
  deriving DecidableEq, Repr

/-- Reasons for a step to stop. The spec gives every command of this block an effect, so no meaning stops on a fault. -/
inductive Fault where
  deriving DecidableEq, Repr

/-- Reasons to refuse a command. -/
inductive Refusal where
  /-- Raised by an arm of Machine/Dispatch.lean whose command has no meaning yet. Safe: the model stops there. -/
  | notModelled (mnemonic : String)
  deriving DecidableEq, Repr

/-! ## After reset: every block idle, every memory empty. -/

/-- The sensor unit with no bar present, no schedule and its outputs off (R92).
[DESIGN CHOICE, unsafe: log entry 6] -/
def SnsSt.init : SnsSt :=
  { sched := Schedule.none, schedBytes := [], hasSched := false, job := none,
    hostWait := none, steerWait := [], switchWait := [], slotTrig := none, slotLeft := 0, slotSteers := 0, lastStart := none, prevPmin := 0,
    waiting := none, behind := [], spoilNext := 0, spoilTrigs := [], laneFrom := [], phys := List.replicate 26 LanePhy.idle,
    outputsOn := false, ctl := 0, retraining := false, edges := 0 }

/-- The pipeline with every alignment slot invalid (R113).
[DESIGN CHOICE, unsafe: log entry 6] -/
def PipeSt.init : PipeSt :=
  { trigCtr := 0, slotCtr := 0, validFrom := 0, slots := [], lines := [], bank := 0, prof0 := [], prof1 := [],
    swapPend := none, gainsIn := [], gainWait := [], lag := List.replicate 9 (0, 0), interpLagAt := 0, kat := none,
    spareIn := none, badShd := [] }

/-- The resampler and edge unit with no line kept and no sheet open (R127, R136).
[DESIGN CHOICE, unsafe: log entry 6] -/
def RsmpSt.init : RsmpSt :=
  { yInit := false, yAt := none, y := 0, stored := [], spoilOut := 0, lag := 0, lagAt := 0, noedge := 0, noedgeArmed := true,
    centre := none, wanderArmed := true, sheet := none, sheetCtr := 0,
    cols := List.replicate 16 { prev := none, covered := false, lead := none } }

/-- The FIFO emptied (R234).
[DESIGN CHOICE, unsafe: log entry 6] -/
def FifoSt.init : FifoSt :=
  { pkts := [], offer := none, dataWr := 0, idxWr := 0, span := none, kerfCtr := 0, spillFullArmed := true, hold := false,
    fillWas := 0, runTrigs := 0, joinTrigs := 0, joinWait := false, lastTrig := none, lastOut := none, lastJig := 0, stopPad := false, target := 0, stopLine := none,
    resumeHeld := false, lowDue := false, joinDue := false, joinFrom := 0, joinRes := none, joinMark := none, normal := [],
    overlap := [], feedWas := false }

/-- The lamp controller with nothing staged (R156).
[DESIGN CHOICE, unsafe: log entry 6] -/
def LmpSt.init : LmpSt :=
  { staged := [none, none, none, none], fades := [none, none, none, none],
    hold := List.replicate 4 { sum := 0, cnt := 0, good := 0, lines := 0, lastGood := false, new := none },
    sinks := List.replicate 12 SinkSt.init, diagCount := 0, vmin := none, hdTop := 0, lastMark := 0, overTemp := false,
    theta := 0, tempBad := false }

/-- Count and line number 0 (R172).
[DESIGN CHOICE, unsafe: log entry 6] -/
def PosSt.init : PosSt :=
  { a := false, b := false, pinA := false, pinB := false, gen := PosGen.init, count := 0, line := 0, nt := 0, hwm := 0, gateArmed := true, ovlArmed := false,
    overlap := [], corr := none, refBase := 0, refLost := false, rise := none, riseFwd := false, gap := none, wTick := none,
    changes := [], lastChange := none, overSpeed := false, divCtr := 0, divLevel := false, divEnd := none,
    cmpPulse := [none, none, none, none], absAt := none, absFree := 0, absLat := none, absGood := none }

/-- Every axis standing at 0, not homed, its bridges off (R209).
[DESIGN CHOICE, unsafe: log entry 6] -/
def MotSt.init : MotSt := { axes := Quad.all AxisSt.init, master := none, vsupAt := none, oldSine := [] }

/-- No calibration in progress (R256).
[DESIGN CHOICE, unsafe: log entry 6] -/
def CalSt.init : CalSt :=
  { capture := none, eval := none, evalBusy := false, retried := false, anyInvalid := false, lambdas := [], lampEvent := false,
    whiteTemp := none, tempRun := 0, reqFirst := false, reqAt := 0, lastStart := none, listOn := false, gapOpenTs := 0,
    gapOpenPos := 0, gapOpenAt := 0, gapFirst := none, gapLast := none, closedAt := none, closeTs := 0, recResult := 0,
    recCause := 0, actDue := false, parkTried := false, abandoned := false, copying := none, reload := [], gapRec := none,
    calgapNext := false }

def Chan.init : Chan :=
  { sns := SnsSt.init, pipe := PipeSt.init, rsmp := RsmpSt.init, fifo := FifoSt.init, lmp := LmpSt.init, pos := PosSt.init,
    mot := MotSt.init, cal := CalSt.init, tabs := [], roughAt := 0, stopHold := none, motLate := [], late := none }

/-- The event unit at reset.
[DESIGN CHOICE, unsafe: log entry 6] -/
def EvtSt.init : EvtSt :=
  { trackers := [], lasting := [], held := [], seq := 0, msiLast := [], msiMerge := [], stretchAt := none,
    stretchOn := none, scrub := [] }

/-- Every queue idle (R268); request sizes as PCI Express resets them.
[DESIGN CHOICE, unsafe: log entry 6; PRESUMED, unsafe: log entry 56] -/
def DmaSt.init : DmaSt :=
  { qs := List.replicate 16 DmaQ.idle, ctl := [], cur := [0, 0, 0, 0], cfg := CfgSpace.init, tlps := 0, flight := [], barCtr := 0,
    perst := false }

def BootSt.init : BootSt :=
  { phase := .held, trained := 0, slots := [], warm := false, chs := Quad.all { phase := .off, jig := 0 }, autorun := false,
    verify := none, signed := false }

def UpdSt.init : UpdSt := { image := [], list := 0, addr := 0, len := 0 }

/-- The device right after power-on reset: step 1 of R54, with every register at its reset value.
[DESIGN CHOICE, unsafe: log entry 2; PRESUMED, unsafe: log entry 4] -/
def State.reset : State :=
  { pending := [], regs := [], frozen := [], now := 0, timeBase := 0, freeCtr := 0, chans := Quad.all Chan.init,
    drams := Quad.all [], evq := [], outbox := [], runners := List.replicate 5 Runner.idle, port := [], portAt := 0, justSet := [],
    switches := [],
    boot := BootSt.init, upd := UpdSt.init, flash := [[], []], ldLow := false, keyHash := [], evt := EvtSt.init, dma := DmaSt.init,
    drc := Quad.all DrcSt.init, mon := MonSt.init, drv := DrvSt.init, umd := UmdSt.init }

end Sys2Proof.Machine
end

