-- ==== Sys2Proof/Machine/Ops.lean ====
section
/-! DEFINITION. Machine/Ops.lean: the named operations every command is written with: sparse memories in canonical form, the
register file (spec/16_register_map.md R385), raising an event (spec/15_events_faults_availability.md R362), what leaves
the device, time, and bytes in little-endian order (spec/00_scope.md R5). -/

namespace Sys2Proof.Machine

/-! ## Sparse memories: (address, value) pairs, addresses rising, no entry equal to what an unlisted address reads. -/

/-- What an address of a sparse memory reads; `d` is what an unlisted address reads.
[DESIGN CHOICE, unsafe: log entry 3] -/
def sget {β : Type} (d : Nat → β) : List (Nat × β) → Nat → β
  | [], a => d a
  | (k, v) :: t, a => if a = k then v else sget d t a

/-- Write one address of a sparse memory, keeping the canonical form: writing what an unlisted address reads as removes
the entry. -/
def sput {β : Type} [DecidableEq β] (d : Nat → β) : List (Nat × β) → Nat → β → List (Nat × β)
  | [], a, v => if v = d a then [] else [(a, v)]
  | (k, w) :: t, a, v =>
    if a < k then (if v = d a then (k, w) :: t else (a, v) :: (k, w) :: t)
    else if a = k then (if v = d a then t else (k, v) :: t)
    else (k, w) :: sput d t a v

/-- The canonical form of a sparse memory. -/
abbrev SparseWf {β : Type} (d : Nat → β) (m : List (Nat × β)) : Prop :=
  m.Pairwise (fun x y => x.1 < y.1) ∧ ∀ p ∈ m, p.2 ≠ d p.1

/-- What a byte of a byte memory that nothing has written reads as: 0 (DRAM, profiles and tables; log entry 3).
[DESIGN CHOICE, unsafe: log entry 3] -/
def zeroByte (_ : Nat) : Byte := 0

/-- Read n bytes from an address of a byte memory. -/
def readBytes (m : List (Nat × Byte)) (a n : Nat) : List Byte :=
  (List.range n).map fun i => sget zeroByte m (a + i)

/-- Write bytes from an address of a byte memory. -/
def writeBytes (m : List (Nat × Byte)) (a : Nat) : List Byte → List (Nat × Byte)
  | [] => m
  | b :: t => writeBytes (sput zeroByte m a b) (a + 1) t

/-- The listed bytes of src in [a, a + n), moved to b: a copy of a region of a byte memory into dst, whose own bytes there
are replaced. -/
def copyRegion (src dst : List (Nat × Byte)) (a b n : Nat) : List (Nat × Byte) :=
  let kept := dst.filter fun p => decide (p.1 < b ∨ b + n ≤ p.1)
  (src.filter fun p => decide (a ≤ p.1 ∧ p.1 < a + n)).foldl (fun m p => sput zeroByte m (p.1 - a + b) p.2) kept

/-! ## Little-endian numbers (R5). -/

/-- The number that bytes spell, lowest byte first. -/
def leNat : List Byte → Nat
  | [] => 0
  | b :: t => b.toNat + 256 * leNat t

/-- n bytes that spell a number, lowest byte first. -/
def leBytes : Nat → Nat → List Byte
  | 0, _ => []
  | n + 1, v => BitVec.ofNat 8 (v % 256) :: leBytes n (v / 256)

/-- The n-byte number at an offset of a byte list; bytes past its end count as 0. -/
def fieldAt (bs : List Byte) (off n : Nat) : Nat :=
  leNat ((bs.drop off).take n)

/-- Bits hi to lo of a number. -/
def bits (v hi lo : Nat) : Nat := v / 2 ^ lo % 2 ^ (hi - lo + 1)

/-- Bit i of a number. -/
def bit (v i : Nat) : Bool := v / 2 ^ i % 2 == 1

/-- A bit as a number. -/
def b2n (b : Bool) : Nat := if b then 1 else 0

/-- The two's-complement value of the low w bits of v. -/
def sext (w v : Nat) : Int :=
  let u := v % 2 ^ w
  if u < 2 ^ (w - 1) then (u : Int) else (u : Int) - 2 ^ w

/-- The low w bits of an integer. -/
def toBits (w : Nat) (i : Int) : Nat := (i % (2 ^ w : Nat)).toNat

/-- Divide rounding to nearest, halves away from zero; d > 0. -/
def roundAway (n : Int) (d : Nat) : Int :=
  if 0 ≤ n then (2 * n + d) / (2 * d) else -((2 * (-n) + d) / (2 * d))

/-- Clamp an integer into lo..hi. -/
def clampI (v lo hi : Int) : Int := if v < lo then lo else if hi < v then hi else v

/-- Divide rounding up; d > 0. -/
def ceilDiv (n d : Nat) : Nat := (n + d - 1) / d

/-- Replace element i of a list. -/
def lset {α : Type} (l : List α) (i : Nat) (x : α) : List α := l.set i x

/-! ## The register file (R385). -/

/-- The word that a register's fields reset to. -/
def fieldsReset (fs : List Fld) : Word :=
  fs.foldl (fun w f => w ||| BitVec.ofNat 32 (f.rst % 2 ^ (f.hi - f.lo + 1) * 2 ^ f.lo)) 0

/-- The event number that an event-table address belongs to (R361). -/
def evTableEv (a : Nat) : Nat := (a - 0xA000) / 8

/-- What a register reads after power-on and pin reset (R385): the event table's defaults (R364, R368), the MSI-X
table's standard reset (every vector masked, R389), else the fields' reset values. -/
def resetWord (a : Nat) : Word :=
  if 0xA000 ≤ a ∧ a < 0xC000 then
    (if a % 8 = 0 then evDefaultWord0 (evTableEv a) else if a % 8 = 4 then evDefaultWord1 (evTableEv a) else 0)
  else if 0x18000 ≤ a ∧ a < 0x18400 then (if a % 16 = 12 then 1 else 0)
  else fieldsReset (fieldsAt a)

/-- The word held at a register address. -/
def State.word (s : State) (a : Nat) : Word := sget resetWord s.regs a

/-- Hold a word at a register address. -/
def State.setWord (s : State) (a : Nat) (w : Word) : State := { s with regs := sput resetWord s.regs a w }

/-- Width of a field. -/
def Fld.width (f : Fld) : Nat := f.hi - f.lo + 1

/-- A field's value within a word. -/
def Fld.of (f : Fld) (w : Word) : Nat := (w.extractLsb' f.lo f.width).toNat

/-- The bits of a field within a word. -/
def Fld.mask (f : Fld) : Word := BitVec.ofNat 32 ((2 ^ f.width - 1) * 2 ^ f.lo)

/-- A word with one field replaced. -/
def Fld.put (f : Fld) (w : Word) (v : Nat) : Word :=
  (w &&& ~~~ f.mask) ||| BitVec.ofNat 32 (v % 2 ^ f.width * 2 ^ f.lo)

/-- The value of a register field. -/
def State.rd (s : State) (f : Fld) : Nat := f.of (s.word f.addr)

/-- Set a register field (to the value modulo its width). -/
def State.wr (s : State) (f : Fld) (v : Nat) : State := s.setWord f.addr (f.put (s.word f.addr) v)

/-- A one-bit field as a truth value. -/
def State.rb (s : State) (f : Fld) : Bool := s.rd f != 0

/-- Set a one-bit field. -/
def State.wb (s : State) (f : Fld) (b : Bool) : State := s.wr f (b2n b)

/-- Add to a counter that saturates (R381). -/
def State.addSat (s : State) (f : Fld) (k : Nat) : State := s.wr f (min (s.rd f + k) (2 ^ f.width - 1))

/-- Count one in a counter that saturates (R381). -/
def State.bump (s : State) (f : Fld) : State := s.addSat f 1

/-- Count in a counter that wraps; the flag says whether it wrapped. -/
def State.addWrap (s : State) (f : Fld) (k : Nat) : State × Bool :=
  (s.wr f (s.rd f + k), decide (2 ^ f.width ≤ s.rd f + k))

/-- Keep the larger of a field and a value, saturating. -/
def State.peak (s : State) (f : Fld) (v : Nat) : State := s.wr f (max (s.rd f) (min v (2 ^ f.width - 1)))

/-- Set several fields to 0. -/
def State.clear (s : State) (fs : List Fld) : State := fs.foldl (fun t f => t.wr f 0) s

/-- The 64-bit value of a register pair. -/
def State.rd64 (s : State) (lo hi : Fld) : Nat := s.rd lo + 2 ^ 32 * s.rd hi

/-- Set a register pair to a value. -/
def State.wr64 (s : State) (lo hi : Fld) (v : Nat) : State := (s.wr lo (v % 2 ^ 32)).wr hi (v / 2 ^ 32)

/-! ## Write-one-to-clear bits (R9). -/

/-- The control clock of the present instant. -/
def State.clock (s : State) : Nat := s.now / 4

/-- The W1C bits of a register that the device set in the present control clock. -/
def State.justBits (s : State) (a : Nat) : Word :=
  (s.justSet.filter fun e => e.1 == a && e.2.1 == s.clock).foldl (fun w e => w ||| e.2.2) 0

/-- The device sets bits m of a W1C field.
[DEDUCED, unsafe: log entry 68] -/
def State.setW1c (s : State) (f : Fld) (m : Nat) : State :=
  let t := s.wr f (s.rd f ||| m)
  { t with justSet := (f.addr, s.clock, f.put 0 m) :: s.justSet.filter fun e => e.2.1 == s.clock }

/-- A write of ones at bits m of a W1C field: it clears them, but for those that the device set in the same control clock (R9).
[DEDUCED, unsafe: log entry 68] -/
def State.clearW1c (s : State) (f : Fld) (m : Nat) : State :=
  s.wr f (f.of (f.put 0 (s.rd f) &&& ~~~ (f.put 0 m &&& ~~~ s.justBits f.addr)))

/-- Return every register with an address in [a, b) to its reset value. -/
def State.resetRange (s : State) (a b : Nat) : State :=
  { s with regs := s.regs.filter fun p => decide (p.1 < a ∨ b ≤ p.1) }

/-! ## Channels. -/

/-- Channel n. -/
def State.ch (s : State) (n : Nat) : Chan := s.chans.get n

def State.setCh (s : State) (n : Nat) (c : Chan) : State := { s with chans := s.chans.set n c }

def State.modCh (s : State) (n : Nat) (f : Chan → Chan) : State := s.setCh n (f (s.ch n))

def State.modSns (s : State) (n : Nat) (f : SnsSt → SnsSt) : State := s.modCh n fun c => { c with sns := f c.sns }
def State.modPipe (s : State) (n : Nat) (f : PipeSt → PipeSt) : State := s.modCh n fun c => { c with pipe := f c.pipe }
def State.modRsmp (s : State) (n : Nat) (f : RsmpSt → RsmpSt) : State := s.modCh n fun c => { c with rsmp := f c.rsmp }
def State.modFifo (s : State) (n : Nat) (f : FifoSt → FifoSt) : State := s.modCh n fun c => { c with fifo := f c.fifo }
def State.modLmp (s : State) (n : Nat) (f : LmpSt → LmpSt) : State := s.modCh n fun c => { c with lmp := f c.lmp }
def State.modPos (s : State) (n : Nat) (f : PosSt → PosSt) : State := s.modCh n fun c => { c with pos := f c.pos }
def State.modMot (s : State) (n : Nat) (f : MotSt → MotSt) : State := s.modCh n fun c => { c with mot := f c.mot }
def State.modCal (s : State) (n : Nat) (f : CalSt → CalSt) : State := s.modCh n fun c => { c with cal := f c.cal }

/-- The DRAM of controller k. -/
def State.dram (s : State) (k : Nat) : List (Nat × Byte) := s.drams.get k

def State.modDram (s : State) (k : Nat) (f : List (Nat × Byte) → List (Nat × Byte)) : State :=
  { s with drams := s.drams.set k (f (s.drams.get k)) }

/-- The active tables of channel n at a window offset (R400): n bytes as a number. -/
def State.tab (s : State) (n off len : Nat) : Nat := leNat (readBytes (s.ch n).tabs off len)

/-! ## The drive die's copy of its registers (R16). -/

/-- The channel that an address of the channel blocks belongs to: they start at two times their size (R384). -/
def chanOf (a : Nat) : Nat := a / 0x40000 - 2

/-- The offset of an address of the channel blocks within its channel (R384). -/
def chanOff (a : Nat) : Nat := a % 0x40000

def State.modDrv (s : State) (f : DrvSt → DrvSt) : State := { s with drv := f s.drv }

/-- Does a register concern the drive die: LMP, MOT and MON blocks (R16)? -/
def driveReg (a : Nat) : Bool :=
  (0x30000 ≤ a && a < 0x34000) ||
  (0x80000 ≤ a && a < 0x180000 &&
    ((0x10000 ≤ chanOff a && chanOff a < 0x14000) || (0x18000 ≤ chanOff a && chanOff a < 0x1C000)))

/-- A write that concerns the drive die is on its way to it.
[DEDUCED, unsafe: log entry 65] -/
def driveForward (s : State) (a : Nat) : State :=
  if driveReg a then s.modDrv fun d => { d with fwd := d.fwd ++ [(a, s.word a)] } else s

/-- The drive die has a register's word at once, and no write of it from before is applied after. -/
def driveSet (s : State) (a : Nat) : State :=
  if driveReg a then s.modDrv fun d =>
    { d with fwd := d.fwd.filter fun p => p.1 != a, image := sput resetWord d.image a (s.word a) } else s

/-- A field as the drive die has it. -/
def driveRd (s : State) (f : Fld) : Nat := f.of (sget resetWord s.drv.image f.addr)

/-! ## What happens and what leaves. -/

/-- A happening that the event unit takes at the end of the command (R362, R370).
[DEDUCED, unsafe: log entry 69] -/
def ev (e : Nat) : Raise :=
  { ev := e, kind := 0, idx := 0, line := 0, code := 0, detail := 0, forced := false, countOn := [e] }

/-- The instance of an event's log entry (R367).
[DEDUCED, unsafe: log entry 69] -/
def Raise.at_ (r : Raise) (kind idx : Nat) : Raise := { r with kind := kind, idx := idx }
def Raise.line_ (r : Raise) (l : Nat) : Raise := { r with line := l }
def Raise.code_ (r : Raise) (c : Nat) : Raise := { r with code := c }
def Raise.detail_ (r : Raise) (d : Nat) : Raise := { r with detail := d }

/-- Raise an event. -/
def State.raise (s : State) (r : Raise) : State := { s with evq := s.evq ++ [r] }

/-- Raise an event where a condition holds. -/
def State.raiseIf (s : State) (c : Bool) (r : Raise) : State := if c then s.raise r else s

/-- Something leaves the device. -/
def State.emit (s : State) (o : Out) : State := { s with outbox := s.outbox ++ [o] }

/-- A free value of the machine (Config.freeValue), modulo m: the counter advances, so every use is a fresh one.
[DESIGN CHOICE, safe: log entry 7] -/
def State.free (s : State) (tag m : Nat) : Nat × State :=
  (Config.freeValue tag s.freeCtr % m, { s with freeCtr := s.freeCtr + 1 })

/-- Fold a step over the indices 0 to k - 1. -/
def iterate (k : Nat) (s : State) (f : State → Nat → State) : State := (List.range k).foldl f s

/-- The sampling-period number of the present instant: six periods of 2/3 ns to a control clock of 4 ns (R20).
[DESIGN CHOICE, unsafe: log entry 9] -/
def State.tick (s : State) (sub : Nat) : Nat := s.now / 4 * 6 + sub

/-- Is channel n running (R402)? -/
def State.running (s : State) (n : Nat) : Bool := bit (s.rd GLB_CHSTAT_RUNNING) n

/-- Channel n's RUN bit. -/
def State.runBit (s : State) (n : Nat) : Bool := bit (s.rd GLB_CHCTL_RUN) n

/-- A number with bit i set or cleared. -/
def withBit (v i : Nat) (b : Bool) : Nat :=
  if b then (if bit v i then v else v + 2 ^ i) else (if bit v i then v - 2 ^ i else v)

/-- A list runs on runner r: 0 the device's, 1 + n channel n's (R53, SEQ status STATE 1 to 4). -/
def State.listRuns (s : State) (r : Nat) : Bool :=
  let st := if r = 0 then s.rd SEQ_DEV_STAT_STATE else s.rd (SEQ_STAT_STATE (r - 1))
  1 ≤ st && st ≤ 4

/-- A calibration list (type 2) runs on channel n (R250, R251). -/
def State.calList (s : State) (n : Nat) : Bool := s.listRuns (1 + n) && s.rd (SEQ_STAT_TYPE n) == 2

/-- Channel n is in rough-cut mode (R371). -/
def State.rough (s : State) (n : Nat) : Bool := s.rb (EVT_ROUGH_ROUGH n)

/-- Channel n is stopped by a class 4 action (R374). -/
def State.stopped (s : State) (n : Nat) : Bool := s.rb (EVT_ROUGH_STOP n)

/-- The calibration slide of channel n has still to be homed by the boot: nothing else starts on the channel (R54 step 7, R66). -/
def State.bootHoming (s : State) (n : Nat) : Bool :=
  (match s.boot.phase with
    | .held => true
    | .training => true
    | .library => true
    | .hostWait => true
    | .devList => true
    | _ => false) ||
  (match (s.boot.chs.get n).phase with
    | .march => true
    | .homing _ => true
    | _ => false)

/-- The boot has reached step 7, until which the drive die keeps its outputs off (R54 step 1). -/
def State.stepSeven (s : State) : Bool := s.boot.phase = .channels || s.boot.phase = .done

/-- The device safe state (R375). -/
def State.safe (s : State) : Bool := s.rb EVT_SAFE_SAFE

/-- A switch that names channel n is staging, armed, awaiting commit or committed (GLB_SW_n_STAT.STATE 1 to 4). -/
def State.switching (s : State) (n : Nat) : Bool :=
  1 ≤ s.rd (GLB_SW_STAT_STATE n) && s.rd (GLB_SW_STAT_STATE n) ≤ 4

end Sys2Proof.Machine
end

