-- ==== Sys2Proof/Machine/Crc.lean ====
section
/-! DEFINITION. Machine/Crc.lean: the cyclic checks of the device: CRC-16 of the sensor lanes (spec/03_sensor_timing_lanes.md
R86), CRC-32 of images and packets (spec/02_jigs_boot_job_switch.md R34). -/

namespace Sys2Proof.Machine

/-- One bit into a CRC that shifts left: polynomial, width, register, data bit. -/
def crcBitL (poly w : Nat) (r : Nat) (b : Bool) : Nat :=
  let top := bit r (w - 1) != b
  let sh := r * 2 % 2 ^ w
  if top then sh ^^^ poly else sh

/-- The bits of a number, most significant first. -/
def msbBits : Nat → Nat → List Bool
  | 0, _ => []
  | n + 1, v => bit v n :: msbBits n v

/-- A message into a CRC that shifts left, each byte most significant bit first. -/
def crcBytesL (poly w : Nat) (r : Nat) (bs : List Byte) : Nat :=
  bs.foldl (fun r b => (msbBits 8 b.toNat).foldl (crcBitL poly w) r) r

/-- CRC-16 of R86 over more bytes. -/
def crc16 (r : BitVec 16) (bs : List Byte) : BitVec 16 := BitVec.ofNat 16 (crcBytesL 0x1021 16 r.toNat bs)

/-- One byte into the reflected CRC-32 of R34. -/
def crc32Byte (r : Nat) (b : Byte) : Nat :=
  (List.range 8).foldl (fun r _ => if r % 2 = 1 then (r / 2) ^^^ 0xEDB88320 else r / 2) (r ^^^ b.toNat)

/-- CRC-32 of R34. -/
def crc32 (bs : List Byte) : Nat := bs.foldl crc32Byte 0xFFFFFFFF ^^^ 0xFFFFFFFF

end Sys2Proof.Machine
end

