-- ==== Sys2Proof/Machine/SnsOps.lean ====
section
/-! DEFINITION. Machine/SnsOps.lean: the sensor timing unit and lane receivers of a channel
(spec/03_sensor_timing_lanes.md): reading and checking a schedule (R73 to R76), the SPI port (R78, R79), bring-up (R92 to
R94), reception of a line on a lane (R83 to R90) and spare lanes (R91). -/

namespace Sys2Proof.Machine

/-! ## The schedule section. -/

/-- Round up to a multiple of k. -/
def alignUp (v k : Nat) : Nat := (v + k - 1) / k * k

def parseEdge (w : Nat) : SnsEdge := { level := bit w 23, pin := bits w 22 20, time := bits w 19 0 }

def parseTx (bs : List Byte) (o : Nat) : SpiTx :=
  { data := fieldAt bs o 4, expect := fieldAt bs (o + 4) 4, mask := fieldAt bs (o + 8) 4, len := fieldAt bs (o + 12) 1,
    compare := bit (fieldAt bs (o + 13) 1) 0, nospoil := bit (fieldAt bs (o + 13) 1) 1 }

def parseRun (w : Nat) : LaneRun :=
  { seg := bits w 37 35, desc := bit w 34, colour := bits w 33 32, count := bits w 31 16, first := bits w 15 0 }

def parseLane (bs : List Byte) (o : Nat) : LaneMap :=
  { id := fieldAt bs o 1,
    runs := (List.range (fieldAt bs (o + 1) 1)).map fun r => parseRun (fieldAt bs (o + 8 + 8 * r) 8) }

/-- Where the lists of a schedule section start: init transactions, switch transactions, lane map, end (R73). -/
def schedLayout (bs : List Byte) : Nat × Nat × Nat × Nat :=
  let e := fieldAt bs 0x24 2
  let i := alignUp (64 + 4 * e) 16
  let w := i + 16 * fieldAt bs 0x2A 1
  let l := alignUp (w + 16 * fieldAt bs 0x2B 1) 64
  (i, w, l, l + 24 * 64)

/-- The schedule that a section's bytes spell (R73, R74). -/
def parseSchedule (bs : List Byte) : Schedule :=
  let ly := schedLayout bs
  { mclk := fieldAt bs 0x02 2, pmin := fieldAt bs 0x04 4, iOpen := fieldAt bs 0x08 4, iClose := fieldAt bs 0x0C 4,
    rdStart := fieldAt bs 0x10 4, rdDur := fieldAt bs 0x14 4, slotStart := fieldAt bs 0x18 4,
    slotEnd := fieldAt bs 0x1C 4, pixels := fieldAt bs 0x20 2, idle := fieldAt bs 0x22 1,
    lsPin := bits (fieldAt bs 0x23 1) 2 0, lsActive := bit (fieldAt bs 0x23 1) 3, width := fieldAt bs 0x26 1,
    segs := fieldAt bs 0x27 1, lanesUsed := fieldAt bs 0x28 1, spares := fieldAt bs 0x29 1,
    steerWord := fieldAt bs 0x2C 4, steerLane := fieldAt bs 0x30 1, steerSpare := fieldAt bs 0x31 1,
    steerLen := fieldAt bs 0x32 1, offs := [fieldAt bs 0x34 2, fieldAt bs 0x36 2, fieldAt bs 0x38 2],
    edges := (List.range (fieldAt bs 0x24 2)).map fun i => parseEdge (fieldAt bs (64 + 4 * i) 4),
    inits := (List.range (fieldAt bs 0x2A 1)).map fun i => parseTx bs (ly.1 + 16 * i),
    switches := (List.range (fieldAt bs 0x2B 1)).map fun i => parseTx bs (ly.2.1 + 16 * i),
    lanes := (List.range 24).map fun l => parseLane bs (ly.2.2.1 + 64 * l) }

/-- Every byte of [a, b) is zero. -/
def zeroRange (bs : List Byte) (a b : Nat) : Bool := ((bs.drop a).take (b - a)).all (· == 0)

def spiLenOk (n : Nat) : Bool := n == 8 || n == 16 || n == 24 || n == 32

/-- The divider of SN_n_SCK: values below 4 act as 4 (R97). The table gives 4 to 124; the model uses larger ones as written.
[DESIGN CHOICE, unsafe: log entry 77] -/
def spiDiv (spidiv : Nat) : Nat := max spidiv 4

/-- ns that a transaction of n bits occupies (R78). -/
def spiNs (spidiv n : Nat) : Nat := (n + 4) * (8 * (spiDiv spidiv + 1))

/-- Samples a lane sends for one line, and its data blocks (R85). -/
def laneSamples (m : LaneMap) : Nat :=
  (m.runs.map fun r => if r.colour = 3 then 3 * r.count else r.count).sum

def laneBlocks (m : LaneMap) (w : Nat) : Nat := ceilDiv (laneSamples m * w) 64

/-- The pixels of a run as an interval [lo, lo + count); none where it runs below pixel 0. -/
def runSpan (r : LaneRun) : Option (Nat × Nat) :=
  if r.desc then (if r.count ≤ r.first + 1 then some (r.first + 1 - r.count, r.count) else none)
  else some (r.first, r.count)

/-- Do the runs of one colour cover pixels 0 to P - 1 exactly once (R76 check 6)? -/
def coverOnce (lanes : List LaneMap) (P c : Nat) : Bool :=
  let rs := (lanes.flatMap (·.runs)).filter fun r => r.colour == c || r.colour == 3
  let sp := rs.map runSpan
  let iv := sp.filterMap id
  sp.all Option.isSome && iv.all (fun p => p.1 + p.2 ≤ P) && (iv.map (·.2)).sum == P &&
    decide (iv.Pairwise fun x y => x.1 + x.2 ≤ y.1 ∨ y.1 + y.2 ≤ x.1)

/-- Check 1 of R76: length, ranges, reserved fields. That one row has offset 0 is R75's; the model checks it here.
[DESIGN CHOICE, unsafe: log entry 77] -/
def schedCheck1 (bs : List Byte) : Bool :=
  let sc := parseSchedule bs
  let ly := schedLayout bs
  64 ≤ bs.length && ly.2.2.2 ≤ bs.length && fieldAt bs 0 2 == 1 && 12 ≤ sc.mclk && sc.mclk ≤ 300 &&
  2500 ≤ sc.pmin && sc.pmin ≤ 1048575 && 1 ≤ sc.pixels && sc.pixels ≤ 32768 &&
  bits (fieldAt bs 0x23 1) 7 4 == 0 && 1 ≤ fieldAt bs 0x24 2 && fieldAt bs 0x24 2 ≤ 256 &&
  (sc.width == 10 || sc.width == 12) && 1 ≤ sc.segs && sc.segs ≤ 8 && 1 ≤ sc.lanesUsed && sc.lanesUsed ≤ 24 &&
  sc.spares ≤ 2 && fieldAt bs 0x2A 1 ≤ 32 && fieldAt bs 0x2B 1 ≤ 8 && sc.steerLane ≤ 27 && sc.steerSpare ≤ 31 &&
  spiLenOk sc.steerLen && fieldAt bs 0x33 1 == 0 && sc.offs.all (· ≤ 8192) && sc.offs.any (· == 0) &&
  zeroRange bs 0x3A 64 && zeroRange bs (64 + 4 * fieldAt bs 0x24 2) ly.1 &&
  zeroRange bs (ly.2.1 + 16 * fieldAt bs 0x2B 1) ly.2.2.1 &&
  (List.range (fieldAt bs 0x24 2)).all (fun i => bits (fieldAt bs (64 + 4 * i) 4) 31 24 == 0) &&
  (List.range (fieldAt bs 0x2A 1 + fieldAt bs 0x2B 1)).all (fun i =>
    spiLenOk (fieldAt bs (ly.1 + 16 * i + 12) 1) && bits (fieldAt bs (ly.1 + 16 * i + 13) 1) 7 2 == 0 &&
    fieldAt bs (ly.1 + 16 * i + 14) 2 == 0) &&
  (List.range 24).all (fun l => let o := ly.2.2.1 + 64 * l
    fieldAt bs o 1 ≤ 25 && fieldAt bs (o + 1) 1 ≤ 7 && zeroRange bs (o + 2) (o + 8) &&
    (List.range 7).all (fun r => bits (fieldAt bs (o + 8 + 8 * r) 8) 63 38 == 0)) &&
  sc.lanes.all (fun m => m.runs.all fun r => 1 ≤ r.count && r.count ≤ 32768) &&
  sc.lanesUsed == (sc.lanes.filter fun m => !m.runs.isEmpty).length

/-- Check 2 of R76: the edge list. -/
def schedCheck2 (sc : Schedule) : Bool :=
  decide (sc.edges.Pairwise fun x y => x.time ≤ y.time) &&
  sc.edges.all (fun e => 10 ≤ e.time && e.time + 10 ≤ sc.pmin) &&
  sc.edges.any (fun e => e.time == 10 && e.pin == sc.lsPin && e.level == sc.lsActive) &&
  sc.edges.any (fun e => e.pin == sc.lsPin && e.level == bit sc.idle sc.lsPin && 10 < e.time && e.time ≤ 5010)

/-- Checks 2 to 9 of R76. -/
def schedCheckRest (sc : Schedule) (spidiv : Nat) : Bool :=
  schedCheck2 sc &&
  140 ≤ sc.iOpen && sc.iOpen < sc.iClose &&
  sc.iClose ≤ sc.rdStart && sc.rdDur + 40 ≤ sc.pmin && sc.rdStart + sc.rdDur + 60 ≤ 2 * sc.pmin &&
  sc.lanes.all (fun m => laneBlocks m sc.width * 528 ≤ sc.rdDur * 100) &&
  coverOnce sc.lanes sc.pixels 0 && coverOnce sc.lanes sc.pixels 1 && coverOnce sc.lanes sc.pixels 2 &&
  10 ≤ sc.slotStart && sc.slotStart < sc.slotEnd && sc.slotEnd + 10 ≤ sc.pmin &&
  (sc.switches.map fun t => spiNs spidiv t.len).sum ≤ sc.slotEnd - sc.slotStart &&
  spiNs spidiv sc.steerLen ≤ sc.slotEnd - sc.slotStart &&
  sc.switches.all (fun t => !t.compare) &&
  min sc.pixels 4096 ≤ sc.pmin

/-- The sensor timing unit's acceptance of a schedule section (R76), with the SPIDIV in force with it. -/
def schedOk (bs : List Byte) (spidiv : Nat) : Bool := schedCheck1 bs && schedCheckRest (parseSchedule bs) spidiv

/-! ## The bar's pins (R70 to R72). -/

/-- A SN_n_CTL pin takes a level. -/
def ctlDrive (s : State) (n p : Nat) (level : Bool) : State :=
  (s.modSns n fun u => { u with ctl := withBit u.ctl p level }).emit (.pin "SN_CTL" (8 * n + p) level)

/-- Every SN_n_CTL pin takes its level of a pattern. -/
def ctlLevels (s : State) (n levels : Nat) : State :=
  iterate 8 s fun s p => if bit (s.ch n).sns.ctl p = bit levels p then s else ctlDrive s n p (bit levels p)

/-- The pins take their idle levels while the outputs are on (R72). -/
def ctlIdle (s : State) (n : Nat) : State :=
  if (s.ch n).sns.outputsOn then ctlLevels s n (s.ch n).sns.sched.idle else s

/-- The outputs are turned on: MCLK runs, the CTL pins and the SPI port take their idle levels (R71, R78, R92). -/
def snsOutputsOn (s : State) (n : Nat) : State :=
  let mode3 := s.rd (SNS_CFG_SPIMODE n) == 3
  let s := ((s.modSns n fun u => { u with outputsOn := true }).emit (.mclk n (s.ch n).sns.sched.mclk)).emit (.pin "SN_CS_N" n true)
  ctlIdle (if mode3 then s.emit (.pin "SN_SCK" n true) else s) n

/-- The outputs are turned off: every one of them low (R70, R94). -/
def snsOutputsOff (s : State) (n : Nat) : State :=
  if !(s.ch n).sns.outputsOn then s else
  let s := ctlLevels (s.modSns n fun u => { u with outputsOn := false }) n 0
  (((s.emit (.mclk n 0)).emit (.pin "SN_SCK" n false)).emit (.pin "SN_MOSI" n false)).emit (.pin "SN_CS_N" n false)

/-- Put a schedule in force on channel n. -/
def snsSetSchedule (s : State) (n : Nat) (bs : List Byte) : State :=
  let old := (s.ch n).sns.sched.mclk
  let s := (s.modSns n fun u => { u with sched := parseSchedule bs, schedBytes := bs, hasSched := true }).wr (SNS_PMIN_PMIN n)
    (parseSchedule bs).pmin
  let s := if (s.ch n).sns.outputsOn ∧ old ≠ (parseSchedule bs).mclk then s.emit (.mclk n (parseSchedule bs).mclk) else s
  ctlIdle s n

/-! ## Bring-up, SPI port, power-down. -/

def snsState (s : State) (n : Nat) : Nat := s.rd (SNS_STAT_STATE n)

def snsReady (s : State) (n : Nat) : Bool := snsState s n == 5

/-- Start a transaction of the SPI port. -/
def spiStart (s : State) (n : Nat) (j : SpiJob) : State :=
  (s.modSns n fun u => { u with job := some j }).emit
    (.spi n (j.tx.data % 2 ^ j.tx.len) j.tx.len (s.rd (SNS_CFG_SPIMODE n) == 3) (spiDiv (s.rd (SNS_CFG_SPIDIV n))))

/-- The bar fails in bring-up (R92): FAULT with a cause; it stays powered. -/
def snsFault (s : State) (n cause : Nat) : State :=
  ((s.wr (SNS_STAT_STATE n) 6).wr (SNS_STAT_CAUSE n) cause).raise ((ev (EV_SNS_FAULT n)).code_ cause)

/-- Lane training starts (R87): the line-start pin goes active, and every receiver forgets its lane ID and deskew. -/
def snsTrain (s : State) (n : Nat) : State :=
  let s := (s.wr (SNS_STAT_STATE n) 4).modSns n fun u =>
    { u with phys := u.phys.map fun p => { p with id := none, skewOk := false } }
  ctlDrive s n (s.ch n).sns.sched.lsPin (s.ch n).sns.sched.lsActive

/-- Send init transaction k, or go on to training after the last (R92 step 3). -/
def snsInitStep (s : State) (n k : Nat) : State :=
  match (s.ch n).sns.sched.inits[k]? with
  | some t => spiStart s n { tx := t, src := .init k, slotOf := none }
  | none => snsTrain s n

/-- Clear every spare-lane assignment. -/
def snsClearSpares (s : State) (n : Nat) : State :=
  (s.clear [SNS_SPARE_V0 n, SNS_SPARE_FOR0 n, SNS_SPARE_V1 n, SNS_SPARE_FOR1 n, SNS_STAT_SPARES n]).modSns n
    fun u => { u with laneFrom := [], steerWait := [] }

/-- Every counter of the SNS block (R97). -/
def snsCounters (n : Nat) : List Fld :=
  [SNS_DEFER_MAX n, SNS_DEFER_COUNT n, SNS_TRIGLOST_COUNT n, SNS_TAGERR_COUNT n] ++
    (List.range 26).map fun l => SNS_LANE_CRCERR n l

/-- The physical lane that serves a data lane for a trigger (R91).
[DEDUCED, unsafe: log entry 33] -/
def lanePhysFor (u : SnsSt) (trig lane : Nat) : Nat :=
  match u.laneFrom.find? (fun a => a.1 == lane && a.2.2 ≤ trig) with
  | some a => 24 + a.2.1
  | none => lane

/-- The data lanes of the schedule that carry samples. -/
def lanesInUse (sc : Schedule) : List Nat :=
  (List.range 24).filter fun l => match sc.lanes[l]? with | some m => !m.runs.isEmpty | none => false

/-- The bar reaches READY (R92 step 5, R93, R113); CAUSE returns to 0.
[DEDUCED, unsafe: log entry 35] -/
def snsBecomeReady (s : State) (n : Nat) : State :=
  let full := !(s.ch n).sns.retraining
  let s := if full then snsClearSpares (s.wr (SNS_LANEFLT_FLT n) 0) n else s
  let s := ((s.wr (SNS_STAT_STATE n) 5).wr (SNS_STAT_CAUSE n) 0).modSns n fun u =>
    { u with spoilNext := 2, retraining := false, edges := 0, phys := u.phys.map fun p => { p with tagOff := 0 } }
  let s := (s.modPipe n fun p => { p with validFrom := p.slotCtr }).wr (PIPE_ALIGN_FILL n) 0
  s.raise (ev (EV_SNS_READY n))

/-- Unit intervals in which the training counter comes round: 65,536 blocks of 66. -/
def trainWrap : Nat := 65536 * 66

/-- How much later than a reference an arrival is, in unit intervals, the counter coming round (R87). -/
def arrivalLag (ref a : Nat) : Int := (((a + trainWrap + trainWrap / 2 - ref) % trainWrap : Nat) : Int) - (trainWrap / 2 : Nat)

/-- Training ends (R87, R92 step 4): READY when every lane in use has locked, deskewed and its own lane ID, else FAULT. -/
def snsTrainEnd (s : State) (n : Nat) : State :=
  let u := (s.ch n).sns
  let use_ := (lanesInUse u.sched).map fun l => (l, lanePhysFor u (s.ch n).pipe.trigCtr l)
  let phy (l : Nat) : LanePhy := u.phys.getD l LanePhy.idle
  let idBad := use_.any fun p => p.1 == p.2 &&
    (match (phy p.1).id with | some i => i != ((u.sched.lanes[p.1]?).map (·.id)).getD 0 | none => false)
  let locked := use_.all fun p => (phy p.2).lock && (phy p.2).skewOk
  let ref := ((u.phys.find? (·.skewOk)).getD LanePhy.idle).arrival
  let late := ((u.phys.filter (·.skewOk)).map fun p => arrivalLag ref p.arrival).foldl max 0
  let skew (l : Nat) : Nat := (late - arrivalLag ref (phy l).arrival).toNat
  let range := use_.all fun p => skew p.2 ≤ 100
  let s := ctlIdle s n
  if idBad then snsFault (s.modSns n fun u => { u with retraining := false }) n 4
  else if locked && range then
    let s := iterate 26 s fun t l =>
      if (phy l).skewOk then t.wr (SNS_LANE_SKEW n l) (min (skew l) 100) else t
    snsBecomeReady s n
  else snsFault (s.modSns n fun u => { u with retraining := false }) n 3

/-- An aborted or refused SPI transaction (R94, R97). -/
def spiError (s : State) (n : Nat) : State := (s.wr (SNS_SPICMD_ERR n) 1).raise (ev (EV_SNS_SPI_ERR n))

/-- Cut the bar's power (R94): outputs low, SPI aborted. -/
def snsPowerOff (s : State) (n : Nat) : State :=
  let u := (s.ch n).sns
  let busy := u.job.isSome || u.hostWait.isSome
  let s := (snsOutputsOff (s.wr (SNS_STAT_PEN n) 0) n).modSns n fun u =>
    { u with job := none, hostWait := none, switchWait := [], steerWait := [], retraining := false,
             phys := u.phys.map fun p => { p with lock := false } }
  let s := ((s.wr (SNS_SPICMD_BUSY n) 0).wr (SNS_LANELOCK_LOCK n) 0)
  let s := iterate 26 s fun t l => t.wr (SNS_LANE_LOCK n l) 0
  if busy then spiError s n else s

/-- The steer transaction of a data lane and a spare (R91): the template with the lane's sensor lane ID and the spare's number. -/
def steerTx (sc : Schedule) (l k : Nat) : SpiTx :=
  { data := sc.steerWord ||| (((sc.lanes[l]?).map (·.id)).getD 0 * 2 ^ sc.steerLane) ||| (k * 2 ^ sc.steerSpare), expect := 0,
    mask := 0, len := sc.steerLen, compare := false, nospoil := false }

/-- Send what comes next in an open SPI slot (R79): a steer only where it was decided before the slot began (R91): the switch list, a steer, one host transaction, as they fit.
[DEDUCED, unsafe: log entry 32] -/
def spiSlotNext (s : State) (n : Nat) : State :=
  let u := (s.ch n).sns
  let dv := s.rd (SNS_CFG_SPIDIV n)
  if u.job.isSome then s else
  match u.switchWait with
  | t :: rest =>
    if spiNs dv t.len ≤ u.slotLeft then
      spiStart (s.modSns n fun u => { u with switchWait := rest, slotLeft := u.slotLeft - spiNs dv t.len }) n
        { tx := t, src := .switchList, slotOf := u.slotTrig }
    else s
  | [] =>
    match (if 0 < u.slotSteers then u.steerWait else []) with
    | (l, k) :: rest =>
      let t := steerTx u.sched l k
      if spiNs dv t.len ≤ u.slotLeft then
        spiStart (s.modSns n fun u =>
            { u with steerWait := rest, slotSteers := u.slotSteers - 1, slotLeft := u.slotLeft - spiNs dv t.len }) n
          { tx := t, src := .steer l k, slotOf := u.slotTrig }
      else s
    | [] =>
      match u.hostWait with
      | some t =>
        if spiNs dv t.len ≤ u.slotLeft then
          spiStart (s.modSns n fun u => { u with hostWait := none, slotLeft := 0 }) n
            { tx := t, src := .host, slotOf := u.slotTrig }
        else s
      | none => s

/-- Send a waiting steer or host transaction at once while the channel is not running and the bar is READY (R78, R91). -/
def spiIdleNext (s : State) (n : Nat) : State :=
  let u := (s.ch n).sns
  if u.job.isSome || s.running n || !snsReady s n then s else
  match u.steerWait with
  | (l, k) :: rest =>
    spiStart (s.modSns n fun u => { u with steerWait := rest }) n { tx := steerTx u.sched l k, src := .steer l k, slotOf := none }
  | [] =>
    match u.hostWait with
    | some t => spiStart (s.modSns n fun u => { u with hostWait := none }) n { tx := t, src := .host, slotOf := none }
    | none => s

/-- A write of SNS_n_SPICMD.GO (R78, R79, R97). The bar may be READY, or in FAULT but still powered (R92). While the channel runs the
transaction waits for the next slot that opens, also where a slot is open and idle.
[DEDUCED, unsafe: log entry 32] -/
def spiGo (s : State) (n : Nat) (nospoil : Bool) (len : Nat) : State :=
  if s.rb (SNS_SPICMD_BUSY n) then s else
  let ok := snsReady s n || (snsState s n == 6 && s.rb (SNS_STAT_PEN n))
  if !spiLenOk len || !ok then spiError s n else
  let t : SpiTx := { data := s.rd (SNS_SPIWD_DATA n), expect := 0, mask := 0, len := len, compare := false, nospoil := nospoil }
  let s := (s.wr (SNS_SPICMD_BUSY n) 1).wr (SNS_SPICMD_ERR n) 0
  if s.running n then s.modSns n fun u => { u with hostWait := some t }
  else if (s.ch n).sns.job.isSome then s.modSns n fun u => { u with hostWait := some t }
  else spiStart s n { tx := t, src := .host, slotOf := none }

/-- Mark the spoil lines of a transaction that completed in the slot of trigger T (R79). -/
def spoilAfter (s : State) (n T : Nat) : State :=
  s.modCh n fun c =>
    { c with sns := { c.sns with spoilTrigs := c.sns.spoilTrigs ++ [T, T + 1] },
             pipe := { c.pipe with lines := c.pipe.lines.map fun l => if l.trig = T ∨ l.trig = T + 1 then { l with spoil := true } else l } }

/-- A steer transaction completed: the assignment of a spare to a data lane (R91). -/
def spareAssigned (s : State) (n lane k trig : Nat) : State :=
  let s := if k = 0 then (s.wr (SNS_SPARE_V0 n) 1).wr (SNS_SPARE_FOR0 n) lane
           else (s.wr (SNS_SPARE_V1 n) 1).wr (SNS_SPARE_FOR1 n) lane
  let s := s.wr (SNS_STAT_SPARES n) (s.rd (SNS_SPARE_V0 n) + s.rd (SNS_SPARE_V1 n))
  let s := s.modSns n fun u => { u with laneFrom := (lane, k, trig) :: u.laneFrom }
  s.raise (((ev (EV_SNS_SPARE_IN n)).at_ 1 lane).detail_ k)

/-- The transaction in progress ends with the MISO bits given (R78, R79, R91, R92). -/
def spiDone (s : State) (n miso : Nat) : State :=
  match (s.ch n).sns.job with
  | none => s
  | some j =>
    let m := miso % 2 ^ j.tx.len
    let s := (s.wr (SNS_SPIRD_DATA n) m).modSns n fun u => { u with job := none }
    let s := match j.slotOf with
      | some T => if j.tx.nospoil then s else spoilAfter s n T
      | none => s
    match j.src with
    | .init k =>
      if snsState s n != 3 then s
      else if j.tx.compare && (m &&& j.tx.mask) != (j.tx.expect &&& j.tx.mask) then snsFault s n 2
      else snsInitStep s n (k + 1)
    | .switchList => spiSlotNext s n
    | .steer l k =>
      let s := match j.slotOf with
        | some T => spareAssigned s n l k (T + 2)
        | none => let c := (s.ch n).pipe.trigCtr
                  spareAssigned (spoilAfter s n c) n l k (c + 2)
      if j.slotOf.isSome then spiSlotNext s n else spiIdleNext s n
    | .host =>
      let s := s.wr (SNS_SPICMD_BUSY n) 0
      if j.slotOf.isSome then s else spiIdleNext s n

/-! ## Spare lanes (R91). -/

/-- The lowest spare that is provided, locked, sound and free, and not already being steered. -/
def freeSpare (s : State) (n : Nat) : Option Nat :=
  let u := (s.ch n).sns
  let used (k : Nat) : Bool :=
    s.rb (if k = 0 then SNS_SPARE_V0 n else SNS_SPARE_V1 n) || u.steerWait.any (·.2 == k) ||
    (match u.job with | some j => (match j.src with | .steer _ k' => k' == k | _ => false) | none => false)
  [0, 1].find? fun k => k < u.sched.spares && !used k && (u.phys.getD (24 + k) LanePhy.idle).lock &&
    !bit (s.rd (SNS_LANEFLT_FLT n)) (24 + k)

/-- The segment of a lane's first run (R96).
[DEDUCED, unsafe: log entry 34] -/
def laneSeg (sc : Schedule) (lane : Nat) : Nat :=
  match sc.lanes[lane]? with
  | some m => (match m.runs with | r :: _ => r.seg | [] => 0)
  | none => 0

/-- EV_SNS_NOSPARE of a data lane (R96). -/
def noSpareEv (s : State) (n lane : Nat) : Raise :=
  ((ev (EV_SNS_NOSPARE n)).at_ 1 lane).detail_ (laneSeg (s.ch n).sns.sched lane)

/-- Build a steer for a data lane; a lasting fault that finds no spare raises EV_SNS_NOSPARE. The table gives LANE 0 to 23 for FORCE;
a larger number written there gets a steer with lane ID 0 and the spare assigned to that number.
[DESIGN CHOICE, unsafe: log entry 77] -/
def spareForLane (s : State) (n lane : Nat) (lasting : Bool) : State :=
  match freeSpare s n with
  | some k => spiIdleNext (s.modSns n fun u => { u with steerWait := u.steerWait ++ [(lane, k)] }) n
  | none => s.raiseIf lasting (noSpareEv s n lane)

/-- The data lane that spare k serves, if any. -/
def spareServes (s : State) (n k : Nat) : Option Nat :=
  if k = 0 then (if s.rb (SNS_SPARE_V0 n) then some (s.rd (SNS_SPARE_FOR0 n)) else none)
  else (if s.rb (SNS_SPARE_V1 n) then some (s.rd (SNS_SPARE_FOR1 n)) else none)

/-- A lane comes to lasting fault (R91): taken once for the lane. Where its EV_SNS_CRC count brought it there, EV_SNS_LANE_FLT is raised
(R96); the lane ID failure has raised it already.
[DEDUCED, unsafe: log entry 34] -/
def laneLasting (s : State) (n lane : Nat) (byCount : Bool) : State :=
  if bit (s.rd (SNS_LANEFLT_FLT n)) lane then s else
  let s := s.wr (SNS_LANEFLT_FLT n) (withBit (s.rd (SNS_LANEFLT_FLT n)) lane true)
  let dl := if lane < 24 then lane else (spareServes s n (lane - 24)).getD lane
  let s := s.raiseIf byCount (((ev (EV_SNS_LANE_FLT n)).at_ 1 lane).detail_ (laneSeg (s.ch n).sns.sched dl))
  let auto := s.rb (SNS_CFG_AUTOSPARE n)
  if lane < 24 then
    (if auto then spareForLane s n lane true else s.raiseIf (freeSpare s n).isNone (noSpareEv s n lane))
  else
    match spareServes s n (lane - 24) with
    | none => s
    | some dl =>
      let s := if lane = 24 then s.wr (SNS_SPARE_V0 n) 0 else s.wr (SNS_SPARE_V1 n) 0
      let s := s.wr (SNS_STAT_SPARES n) (s.rd (SNS_SPARE_V0 n) + s.rd (SNS_SPARE_V1 n))
      if auto then spareForLane s n dl true else s.raiseIf (freeSpare s n).isNone (noSpareEv s n dl)

/-! ## Reception of a line (R83 to R90). -/

/-- The line in flight that a physical lane is receiving: the oldest whose reception on it has not ended. -/
def rxTarget (u : SnsSt) (ls : List LineRec) (phys : Nat) (started : Bool) : Option (LineRec × LaneRx) :=
  (ls.filterMap fun l =>
    (l.rx.find? fun r => !r.ended && r.started == started && lanePhysFor u l.trig r.lane == phys).map fun r => (l, r)).head?

/-- Change the reception of one lane of one line. -/
def modRx (s : State) (n trig lane : Nat) (f : LaneRx → LaneRx) : State :=
  s.modPipe n fun p => { p with lines := p.lines.map fun l =>
    if l.trig = trig then { l with rx := l.rx.map fun r => if r.lane = lane then f r else r } else l }

/-- Mark a line in flight POISON (R90). -/
def poisonLine (s : State) (n trig : Nat) : State :=
  s.modPipe n fun p => { p with lines := p.lines.map fun l => if l.trig = trig then { l with poison := true } else l }

/-- A failure under R90: the line is poisoned, the failure counted on the lane's EV_SNS_CRC tracker (R362).
[DEDUCED, unsafe: log entry 34] -/
def laneFail (s : State) (n : Nat) (l : LineRec) (phys lane e : Nat) (count : Fld) (alsoFlt : Bool) : State :=
  let s := (poisonLine s n l.trig).bump count
  s.raise { ev e with kind := 1, idx := phys, line := l.info.line, detail := laneSeg l.sched lane,
                      countOn := if alsoFlt then [EV_SNS_CRC n, EV_SNS_LANE_FLT n] else [EV_SNS_CRC n] }

def payByte (p : BitVec 64) (j : Nat) : Byte := p.extractLsb' (8 * j) 8

/-- A control block of a type that does not belong where it arrives is a framing error (R83).
[DEDUCED, unsafe: log entry 33] -/
def laneFraming (s : State) (n phys : Nat) : State :=
  match rxTarget (s.ch n).sns (s.ch n).pipe.lines phys true with
  | some (l, r) => modRx s n l.trig r.lane fun r => { r with framing := true }
  | none => s

/-- After a mismatch the expected tag follows the received one (R90), on this data lane and on those that the line does not use.
[DEDUCED, unsafe: log entry 33] -/
def tagFollow (s : State) (n : Nat) (l : LineRec) (lane tag : Nat) : State :=
  s.modSns n fun u => { u with phys := u.phys.zipIdx.map fun p =>
    if p.2 = lane || !(l.rx.any fun x => x.lane == p.2) then { p.1 with tagOff := (tag + 65536 - l.edge % 65536) % 65536 } else p.1 }

/-- A control block LHDR (R83, R84, R90). One whose zero bits are set is taken as a framing error. A line whose LEND has not come
fails its sample count.
[DEDUCED, unsafe: log entry 33] -/
def laneLhdr (s : State) (n phys : Nat) (p : BitVec 64) : State :=
  let u := (s.ch n).sns
  let v := p.toNat
  if bits v 7 0 ≠ 0x78 ∨ bits v 63 34 ≠ 0 ∨ bits v 15 13 ≠ 0 then laneFraming s n phys else
  let s := match rxTarget u (s.ch n).pipe.lines phys true with
    | some (l, r) =>
      laneFail (modRx s n l.trig r.lane fun r => { r with ended := true }) n l phys r.lane (EV_SNS_CRC n) (SNS_LANE_CRCERR n phys) false
    | none => s
  match rxTarget u (s.ch n).pipe.lines phys false with
  | none => s
  | some (l, r) =>
    let s := modRx s n l.trig r.lane fun r =>
      { r with started := true, crc := crc16 0xFFFF ((List.range 7).map fun j => payByte p (j + 1)) }
    let mapId := ((l.sched.lanes[r.lane]?).map (·.id)).getD 0
    let s := if bits v 12 8 ≠ mapId then
        laneFail s n l phys r.lane (EV_SNS_LANE_FLT n) (SNS_LANE_CRCERR n phys) true else s
    let exp := (l.edge + (u.phys.getD r.lane LanePhy.idle).tagOff) % 65536
    let s := if bits v 31 16 = exp then s else
      tagFollow (laneFail s n l phys r.lane (EV_SNS_TAG n) (SNS_TAGERR_COUNT n) false) n l r.lane (bits v 31 16)
    if (bits v 33 32 = 0 ∧ l.sched.width = 10) ∨ (bits v 33 32 = 1 ∧ l.sched.width = 12) then s
    else laneFail s n l phys r.lane (EV_SNS_CRC n) (SNS_LANE_CRCERR n phys) false

/-- A data block (R85, R86). -/
def laneData (s : State) (n phys : Nat) (p : BitVec 64) : State :=
  match rxTarget (s.ch n).sns (s.ch n).pipe.lines phys true with
  | none => s
  | some (l, r) => modRx s n l.trig r.lane fun r =>
      { r with words := p :: r.words, crc := crc16 r.crc ((List.range 8).map fun j => payByte p j) }

/-- A control block LEND: the checks of R90 that complete at the end of a line. One whose zero bits are set is taken as a framing
error.
[DEDUCED, unsafe: log entry 33] -/
def laneLend (s : State) (n phys : Nat) (p : BitVec 64) : State :=
  let v := p.toNat
  if bits v 7 0 ≠ 0x87 ∨ bits v 63 48 ≠ 0 then laneFraming s n phys else
  match rxTarget (s.ch n).sns (s.ch n).pipe.lines phys true with
  | none => s
  | some (l, r) =>
    let m := (l.sched.lanes[r.lane]?).getD { id := 0, runs := [] }
    let s := modRx s n l.trig r.lane fun r => { r with ended := true }
    let s := if r.words.length ≠ laneBlocks m l.sched.width ∨ bits v 47 24 ≠ laneSamples m then
        laneFail s n l phys r.lane (EV_SNS_CRC n) (SNS_LANE_CRCERR n phys) false else s
    let s := if r.framing ∨ bits v 23 8 ≠ r.crc.toNat then
        laneFail s n l phys r.lane (EV_SNS_CRC n) (SNS_LANE_CRCERR n phys) false else s
    if bit (s.rd (SNS_LANEFLT_FLT n)) phys then poisonLine s n l.trig else s

/-- No LHDR of a line came on any lane in use: the bar missed the line start, and its tags are one behind from then on, which the
expected tags follow (R90).
[DEDUCED, unsafe: log entry 33] -/
def startMissed (s : State) (n : Nat) (trig : Nat) : State :=
  if (s.ch n).pipe.lines.any fun l => l.trig == trig && !l.rx.isEmpty && l.rx.all (·.missing) then
    s.modSns n fun u => { u with phys := u.phys.map fun p => { p with tagOff := (p.tagOff + 65535) % 65536 } }
  else s

/-- No LHDR came by readout start + 100 ns on a data lane (R90): its samples are missing, taken as zero. -/
def lhdrMissing (s : State) (n lane : Nat) : State :=
  let u := (s.ch n).sns
  match rxTarget u (s.ch n).pipe.lines lane false with
  | none => s
  | some (l, r) =>
    let s := modRx s n l.trig r.lane fun r => { r with started := true, ended := true, missing := true }
    laneFail (startMissed s n l.trig) n l lane r.lane (EV_SNS_MISSING n) (SNS_LANE_CRCERR n lane) false

/-- A receiver loses block lock (R87); a line between LHDR and LEND on it fails (R90). What it still had to receive does not come: its
block and sample counts and its CRC fail as well, each counted.
[DEDUCED, unsafe: log entry 33] -/
def laneLockLoss (s : State) (n phys : Nat) : State :=
  let s := (s.modSns n fun u => { u with phys := u.phys.modify phys fun q => { q with lock := false } })
  let s := (s.wr (SNS_LANELOCK_LOCK n) (withBit (s.rd (SNS_LANELOCK_LOCK n)) phys false)).wr (SNS_LANE_LOCK n phys) 0
  match rxTarget (s.ch n).sns (s.ch n).pipe.lines phys true with
  | none => s
  | some (l, r) =>
    let s := modRx s n l.trig r.lane fun r => { r with ended := true }
    [EV_SNS_LOCK n, EV_SNS_CRC n, EV_SNS_CRC n].foldl (fun s e => laneFail s n l phys r.lane e (SNS_LANE_CRCERR n phys) false) s

/-- A receiver gains block lock (R87). -/
def laneLockGain (s : State) (n phys : Nat) : State :=
  let s := (s.modSns n fun u => { u with phys := u.phys.modify phys fun q => { q with lock := true } })
  (s.wr (SNS_LANELOCK_LOCK n) (withBit (s.rd (SNS_LANELOCK_LOCK n)) phys true)).wr (SNS_LANE_LOCK n phys) 1

/-- A TRAIN block (R83, R87): the lane ID and, from the training counter and the arrival instant in unit intervals, the
lane's skew.
[DESIGN CHOICE, safe: log entry 71] -/
def laneTrain (s : State) (n phys : Nat) (p : BitVec 64) (atUi : Nat) : State :=
  let v := p.toNat
  if snsState s n ≠ 4 then laneFraming s n phys
  else if bits v 7 0 ≠ 0x4B ∨ bits v 63 32 ≠ 0xA5C30F96 ∨ bits v 15 13 ≠ 0 then s
  else s.modSns n fun u => { u with phys := u.phys.modify phys fun q =>
    { q with id := some (bits v 12 8), ctr := bits v 31 16, arrival := (atUi + trainWrap - 66 * bits v 31 16) % trainWrap, skewOk := true } }

/-- Sample k of a lane's stream (R85): blocks are newest first. -/
def laneSample (r : LaneRx) (w k : Nat) : Nat :=
  let stream (b : Nat) : Bool := match r.words.reverse[b / 64]? with | some x => x.getLsbD (b % 64) | none => false
  (List.range w).foldl (fun a i => a + b2n (stream (k * w + i)) * 2 ^ i) 0

/-- Where a pixel's sample of a colour lies in a lane's stream, if the lane carries it. -/
def laneIndex (m : LaneMap) (p c : Nat) : Option Nat :=
  let go := m.runs.foldl (fun (acc : Nat × Option Nat) r =>
    let len := if r.colour = 3 then 3 * r.count else r.count
    match acc.2, runSpan r with
    | some k, _ => (acc.1 + len, some k)
    | none, some (lo, cnt) =>
      if (r.colour = c ∨ r.colour = 3) ∧ lo ≤ p ∧ p < lo + cnt then
        let i := if r.desc then r.first - p else p - lo
        (acc.1 + len, some (acc.1 + (if r.colour = 3 then 3 * i + c else i)))
      else (acc.1 + len, none)
    | none, none => (acc.1 + len, none)) (0, none)
  go.2

/-- The raw sample x of pixel p and colour c of a line (R85, R89); samples not received are zero (R90). -/
def rawSample (l : LineRec) (p c : Nat) : Nat :=
  (l.rx.filterMap fun r =>
    match l.sched.lanes[r.lane]? with
    | some m => (laneIndex m p c).map fun k => laneSample r l.sched.width k
    | none => none).head?.getD 0

/-- The sample on the 12-bit scale: stage scale of R98. -/
def x12 (l : LineRec) (p c : Nat) : Nat := if l.sched.width = 10 then 4 * rawSample l p c else rawSample l p c

end Sys2Proof.Machine
end

