-- ==== Sys2Proof/Machine/PipeOps.lean ====
section
/-! DEFINITION. Machine/PipeOps.lean: the pixel pipeline of a channel (spec/04_pixel_pipeline.md): the corrected sample and
its residue check (R98, R99, R105), gains and profiles (R100 to R104), tile verdicts and recomputation (R106 to R110),
colour alignment (R111 to R113) and the spare slice (R114, R115). -/

namespace Sys2Proof.Machine

/-- Round to nearest over 2^14, halves towards plus infinity (R99). -/
def rnd14 (v : Int) : Int := (v + 8192) / 16384

/-- The remainder that goes with rnd14 (R99). -/
def rem14 (v : Int) : Int := v + 8192 - 16384 * rnd14 v

/-- rnd14 of a product of non-negative numbers. -/
def rndMul (a b : Nat) : Nat := (a * b + 8192) / 16384

/-- The residue modulo 7, 0 to 6 (R105).
[DEDUCED, safe: log entry 72] -/
def res7 (v : Int) : Int := v % 7

/-! ## The corrected sample. -/

/-- The result of a stage, with the errors of an upset list added. -/
def upsetAt (us : List Upset) (px c : Nat) (st : Stage) (v : Int) : Int :=
  us.foldl (fun a u => if u.pixel.val = px ∧ u.colour.val = c ∧ u.stage = st then a + u.delta else a) v

/-- The decision of one comparator of the clamp: below 0, above 4,095, or neither (R105). -/
def clampSide (e : Int) : Int := if e < 0 then -1 else if 4095 < e then 1 else 0

/-- The effective global gain of a colour, computed again with the line's values and errors, and whether its residue comparison and the
two comparisons with LIMIT agree (R101, R105). It is computed once per trigger: an error in it comes with each tile it reaches.
[DEDUCED, safe: log entry 72] -/
def effGain (us : List Upset) (c GAIN F LIMIT : Nat) : Nat × Bool :=
  let u (st : Stage) (v : Int) : Int := us.foldl (fun a x => if x.colour.val = c ∧ x.stage = st then a + x.delta else a) v
  let g := u .effGain (rnd14 (GAIN * F))
  let r := u .effGainRem (rem14 (GAIN * F))
  let a := decide ((LIMIT : Int) < u .limitA g)
  let b := decide ((LIMIT : Int) < u .limitB g)
  ((if a then LIMIT else toBits 16 g), res7 (GAIN * F + 2) == res7 (4 * g + r) && a == b)

/-- One sample through the stages of R98, with errors, and whether every comparison of R105 holds.
[DEDUCED, safe: log entry 72] -/
def correctSample (us : List Upset) (px c x width D W : Nat) (O : Int) (G Ge : Nat) : Nat × Bool :=
  let u := upsetAt us px c
  let s12 := u .scale (if width = 10 then 4 * x else x)
  let a := u .dark (s12 - D)
  let b := u .white (rnd14 (a * W))
  let rb := u .whiteRem (rem14 (a * W))
  let c' := u .offset (b + O)
  let d := u .gain (rnd14 (c' * G))
  let rd := u .gainRem (rem14 (c' * G))
  let e := u .global (rnd14 (d * Ge))
  let re := u .globalRem (rem14 (d * Ge))
  let ca := clampSide (u .clampA e)
  let cb := clampSide (u .clampB e)
  let y := u .clamp (if ca = 0 then e else if ca < 0 then 0 else 4095)
  let ok :=
    res7 s12 == res7 (if width = 10 then 4 * x else x) &&
    res7 a == res7 (s12 - D) &&
    res7 (a * W + 2) == res7 (4 * b + rb) &&
    res7 c' == res7 (b + O) &&
    res7 (c' * G + 2) == res7 (4 * d + rd) &&
    res7 (d * Ge + 2) == res7 (4 * e + re) &&
    ca == cb && (ca != 0 || res7 (toBits 12 y) == res7 e)
  (toBits 12 y, ok)

/-- The profile bank in force for a line. -/
def profBank (p : PipeSt) (b : Nat) : List (Nat × Byte) := if b = 0 then p.prof0 else p.prof1

/-- D and W of a pixel and colour (R102); D = 0 and W = 1.0 while the profile is not valid (R104). -/
def profEntry (p : PipeSt) (g : GainSet) (px c : Nat) : Nat × Nat :=
  if g.pvalid then
    let w := leNat (readBytes (profBank p g.bank) (12 * px + 4 * c) 4)
    (bits w 11 0, bits w 31 16)
  else (0, 0x4000)

/-- Pixels of tile t of logical slice m that the line uses (R19). -/
def tilePixels (P m t : Nat) : List Nat :=
  (List.range 64).filter fun j => 4096 * m + 64 * t + j < P

/-- A tile's corrected samples, pixel by pixel RD GN BU, and whether its residue check passes (R98, R106).
[DEDUCED, safe: log entry 72] -/
def tileCompute (p : PipeSt) (l : LineRec) (m t : Nat) (us : List Upset) : List Nat × Bool :=
  let ge := (List.range 3).map fun c => effGain us c l.gains.ggain (l.gains.follow.getD c 0x4000) l.gains.limit
  let r := (tilePixels l.sched.pixels m t).flatMap fun j => (List.range 3).map fun c =>
    let px := 4096 * m + 64 * t + j
    let dw := profEntry p l.gains px c
    correctSample us j c (rawSample l px c) l.sched.width dw.1 dw.2 (l.gains.offs.getD c 0) (l.gains.gains.getD c 0)
      ((ge.map (·.1)).getD c 0)
  (r.map (·.1), r.all (·.2) && ge.all (·.2))

/-! ## Gains (R100, R101). -/

/-- Registers whose writes wait for an effect line (R100). -/
def gainRegs (n : Nat) : List Nat :=
  [(PIPE_GAIN_GAIN n 0).addr, (PIPE_GAIN_GAIN n 1).addr, (PIPE_GAIN_GAIN n 2).addr, (PIPE_GGAIN_GAIN n).addr]

/-- A write of a gain register completes: it is in force from its effect line. -/
def gainWrite (s : State) (n : Nat) (a : Nat) (w : Word) : State :=
  s.modPipe n fun p => { p with gainWait := p.gainWait ++ [{ addr := a, value := w, at_ := s.now, eff := none }] }

/-- A trigger comes, whether its line starts, waits or is lost: it is the effect line of every gain write that completed at least
100 ns before its t0 (R100), and the first trigger of a spare whose test passed at least 1 µs before (R114). -/
def effectLines (p : PipeSt) (trig line t0 : Nat) : PipeSt :=
  { p with
    gainWait := p.gainWait.map fun g =>
      if g.eff.isNone ∧ g.at_ + 100 ≤ t0 then { g with eff := some (trig, line) } else g,
    spareIn := p.spareIn.map fun x => if x.eff.isNone ∧ x.at_ + 1000 ≤ t0 then { x with eff := some (trig, line) } else x }

/-- Take into force the gain writes that meet a condition on the trigger number and line of their effect line (R100). -/
def gainsDue (p : PipeSt) (c : Nat → Nat → Bool) : PipeSt :=
  let due (g : GainWrite) : Bool := g.eff.any fun e => c e.1 e.2
  { p with gainsIn := (p.gainWait.filter due).foldl (fun m g => sput resetWord m g.addr g.value) p.gainsIn,
           gainWait := p.gainWait.filter fun g => !due g }

/-- The gain registers show the last value written, one that still waits for its effect line included (R100). -/
def gainsShow (s : State) (n : Nat) : State :=
  (s.ch n).pipe.gainWait.foldl (fun s g => s.setWord g.addr g.value) s

/-- A gain register's value in force for the next trigger. -/
def gainIn (p : PipeSt) (f : Fld) : Nat := f.of (sget resetWord p.gainsIn f.addr)

/-- The value set of a trigger with the follow factors F (R100, R101), and whether a gain was limited. -/
def gainSet (s : State) (n : Nat) (F : List Nat) : GainSet × Bool :=
  let p := (s.ch n).pipe
  let G := gainIn p (PIPE_GGAIN_GAIN n)
  let lim := gainIn p (PIPE_GGAIN_LIMIT n)
  let raw := (List.range 3).map fun c => rndMul G (F.getD c 0x4000)
  ({ offs := (List.range 3).map fun c => sext 12 (gainIn p (PIPE_GAIN_OFFSET n c)),
     gains := (List.range 3).map fun c => gainIn p (PIPE_GAIN_GAIN n c),
     geff := raw.map fun g => min g lim, ggain := G, limit := lim, follow := F, pvalid := s.rb (PIPE_STAT_PVALID n), bank := p.bank },
   raw.any fun g => lim < g)

/-! ## Profiles (R102, R103, R237, R238). -/

/-- The profile region of a controller (R302): slots, the two mirrors of the SRAM banks, capture stores.
[DESIGN CHOICE, unsafe: log entry 15] -/
def profSlotAddr (j : Nat) : Nat := 0x04000000 + j * 0x60000
/-- Where copy b of the active profile stands in the DRAM.
[DESIGN CHOICE, unsafe: log entry 15] -/
def profCopyAddr (b : Nat) : Nat := 0x04600000 + b * 0x60000
/-- Where the capture store j stands in the DRAM.
[DESIGN CHOICE, unsafe: log entry 15] -/
def capStoreAddr (j : Nat) : Nat := 0x046C0000 + j * 0x60000

/-- Replace a profile bank. -/
def setBank (p : PipeSt) (b : Nat) (m : List (Nat × Byte)) : PipeSt :=
  if b = 0 then { p with prof0 := m } else { p with prof1 := m }

/-- The other bank: the shadow profile. -/
def PipeSt.shadow (p : PipeSt) : Nat := 1 - p.bank

/-- Are shadow writes and host swaps shut out (R102, R103)? A switch that changes PIPE_n_CFG.PROF sets profStage. -/
def shadowBusy (s : State) (n : Nat) (profStage : Bool) : Bool := (s.switching n && profStage) || s.calList n

/-- Write bytes to the shadow profile and its DRAM copy (R102, R238). -/
def shadowWrite (s : State) (n off : Nat) (bs : List Byte) : State :=
  let b := (s.ch n).pipe.shadow
  (s.modPipe n fun p => setBank p b (writeBytes (profBank p b) off bs)).modDram n fun m =>
    writeBytes m (profCopyAddr b + off) bs

/-- Put a whole profile into the shadow profile and its DRAM copy. -/
def shadowLoad (s : State) (n : Nat) (prof : List (Nat × Byte)) : State :=
  let b := (s.ch n).pipe.shadow
  (s.modPipe n fun p => setBank p b prof).modDram n fun m => copyRegion prof m 0 (profCopyAddr b) 0x60000

/-- Exchange active and shadow profile (R103); PVALID takes a value. -/
def profileSwap (s : State) (n : Nat) (valid : Bool) : State :=
  (s.modPipe n fun p => { p with bank := 1 - p.bank }).wb (PIPE_STAT_PVALID n) valid

/-! ## Tile verdicts (R106 to R109). -/

/-- The physical slice that computes a logical slice for a line (R114). -/
def physSlice (l : LineRec) (m : Nat) : Nat := if l.spareFor = some m then 8 else m

/-- Bring a physical slice's lag count up to the present instant and take off the samples it computed (R108).
[DEDUCED, unsafe: log entry 36] -/
def lagNow (p : PipeSt) (ph now busy : Nat) : Nat :=
  match p.lag[ph]? with
  | some (c, at_) => c - (3 * (now - at_) - busy)
  | none => 0

/-- Set the lag count of a physical slice (R108); `ns` is how long the slice recomputes from now on: those clocks are not idle.
[DEDUCED, unsafe: log entry 36] -/
def setLag (s : State) (n ph v ns : Nat) : State :=
  let till := max s.now ((s.ch n).pipe.lag.getD ph (0, 0)).2
  (s.modPipe n fun p => { p with lag := p.lag.set ph (v, till + ns) }).peak (PIPE_LAG_MAX n) v

/-- Has a physical slice samples of a line in flight still to compute? -/
def sliceBusy (s : State) (n ph : Nat) : Bool :=
  (s.ch n).pipe.lines.any fun l => l.rough == 0 && !l.gap && l.kind != .capture &&
    (List.range 8).any fun m => physSlice l m == ph &&
      decide ((l.tiles.filter (·.slice == m)).length < min 64 (ceilDiv (l.sched.pixels - 4096 * m) 64))

/-- The largest lag count of any physical slice at this moment: PIPE_n_LAG.CUR (R118). A slice with samples still to compute counts one
tile of 192 clocks as computed since its last verdict.
[DEDUCED, unsafe: log entry 36] -/
def lagCur (s : State) (n : Nat) : Nat :=
  ((List.range 9).map fun ph => lagNow (s.ch n).pipe ph s.now (if sliceBusy s n ph then 192 else 0)).foldl max 0

/-- Change a line in flight. -/
def modLine (s : State) (n trig : Nat) (f : LineRec → LineRec) : State :=
  s.modPipe n fun p => { p with lines := p.lines.map fun l => if l.trig = trig then f l else l }

/-- Set or replace a tile of a line. -/
def setTile (l : LineRec) (t : TileSt) : LineRec :=
  { l with tiles := t :: l.tiles.filter fun x => !(x.slice == t.slice && x.tile == t.tile) }

/-- The pipeline poisons a line (R109): the line counts once.
[DEDUCED, unsafe: log entry 44] -/
def linePoison (s : State) (n : Nat) (l : LineRec) : State :=
  let s := if l.pipePoison then s
    else (s.bump (PIPE_POISON_LINES n)).raise ((ev (EV_PIPE_POISON n)).line_ l.info.line)
  modLine s n l.trig fun l => { l with poison := true, pipePoison := true }

/-- The pipeline poisons a tile of a line (R108, R109): the tile counts, and the line once. -/
def pipePoison (s : State) (n : Nat) (l : LineRec) : State :=
  modLine (linePoison (s.bump (PIPE_POISON_TILES n)) n l) n l.trig fun l => { l with poiN := l.poiN + 1 }

/-- A residue failure of a tile or of the interpolation at it is raised (R117, R366). -/
def residueRaise (s : State) (n : Nat) (l : LineRec) (m t : Nat) : State :=
  s.raise ((((ev (EV_PIPE_RESIDUE n)).at_ 2 (physSlice l m)).line_ l.info.line).detail_ (t * 256 + m))

/-- A failed residue verdict (R107): counted for the physical slice and raised. -/
def residueEvent (s : State) (n : Nat) (l : LineRec) (m t : Nat) : State :=
  residueRaise (s.bump (PIPE_RESERR_COUNT n (physSlice l m))) n l m t

/-- A failed tile is recomputed if the lag allows it; otherwise it goes on poisoned (R107, R108).
[DEDUCED, unsafe: log entry 36] -/
def recomputeOrSkip (s : State) (n : Nat) (l : LineRec) (t : TileSt) (ph lag : Nat) : State :=
  if lag + 192 ≤ 3072 then
    let s := (setLag s n ph (lag + 192) 64).bump (PIPE_RECOMP_TILES n)
    modLine s n l.trig fun l => setTile l { t with phase := .recomputing }
  else
    let s := ((setLag s n ph lag 0).bump (PIPE_RECOMP_SKIP n)).raise
      (((ev (EV_PIPE_LAGFULL n)).at_ 2 ph).line_ l.info.line)
    pipePoison (modLine s n l.trig fun l => setTile l { t with phase := .done }) n l

/-- Ask the calibration controller to reload a tile's entries of a profile bank (R109). -/
def askReload (s : State) (n m t b : Nat) : State :=
  s.modCh n fun c => { c with pipe := { c.pipe with badShd := (m, t, b) :: c.pipe.badShd.erase (m, t, b) },
                              cal := { c.cal with reload := (m, t, b) :: c.cal.reload.erase (m, t, b) } }

/-- The oldest line in flight whose tile is still to be judged. -/
def verdictLine (p : PipeSt) (m t : Nat) : Option LineRec :=
  p.lines.find? fun l => l.rough == 0 && !l.gap && l.kind != .capture && decide (4096 * m + 64 * t < l.sched.pixels) &&
    !(l.tiles.any fun x => x.slice == m && x.tile == t)

def tileVerdict (s : State) (n m t : Nat) (us : List Upset) (rawPar : Bool) (shdPar : Nat) : State :=
  match verdictLine (s.ch n).pipe m t with
  | none => s
  | some l =>
    let p := (s.ch n).pipe
    let r := tileCompute p l m t us
    let ph := physSlice l m
    let lag := lagNow p ph s.now 192
    let tile : TileSt := { slice := m, tile := t, vals := r.1, phase := .done, shdFail := false }
    let keep (s : State) : State := modLine s n l.trig fun l => setTile l tile
    if rawPar then
      pipePoison ((keep (setLag s n ph lag 0)).bump (PIPE_PARERR_RAW n) |>.raise
        (((ev (EV_PIPE_RAW_PAR n)).at_ 3 1).line_ l.info.line)) n l
    else if p.badShd.contains (m, t, l.gains.bank) && l.gains.pvalid then pipePoison (keep (setLag s n ph lag 0)) n l
    else if shdPar = 2 then
      let s := (s.bump (PIPE_PARERR_SHD n)).raise (((ev (EV_PIPE_SHD_PAR n)).at_ 3 0).line_ l.info.line)
      recomputeOrSkip s n l { tile with shdFail := true } ph lag
    else if r.2 then keep (setLag s n ph lag 0)
    else recomputeOrSkip (residueEvent s n l m t) n l tile ph lag

/-- The oldest line in flight whose tile is being recomputed. -/
def recomputeLine (p : PipeSt) (m t : Nat) : Option LineRec :=
  p.lines.find? fun l => l.tiles.any fun x => x.slice == m && x.tile == t && x.phase == .recomputing

def tileRecomputeDone (s : State) (n m t : Nat) (us : List Upset) (rawPar : Bool) (shdPar : Nat) : State :=
  match recomputeLine (s.ch n).pipe m t with
  | none => s
  | some l =>
    let p := (s.ch n).pipe
    let r := tileCompute p l m t us
    let tile : TileSt := { slice := m, tile := t, vals := r.1, phase := .done, shdFail := false }
    let first := ((l.tiles.find? fun x => x.slice == m && x.tile == t).map (·.vals)).getD r.1
    let keep (s : State) (vals : List Nat) : State := modLine s n l.trig fun l =>
      { setTile l { tile with vals := vals } with recN := l.recN + 1 }
    if rawPar then
      pipePoison ((keep s first).bump (PIPE_PARERR_RAW n) |>.raise
        (((ev (EV_PIPE_RAW_PAR n)).at_ 3 1).line_ l.info.line)) n l
    else if shdPar = 2 then
      let s := (s.bump (PIPE_PARERR_SHD n)).raise (((ev (EV_PIPE_SHD_PAR n)).at_ 3 0).line_ l.info.line)
      pipePoison (askReload (keep s r.1) n m t l.gains.bank) n l
    else if r.2 then modLine (keep s r.1) n l.trig fun l => { l with recomp := true }
    else pipePoison (residueEvent (keep s r.1) n l m t) n l

/-- A tile's 768 bytes of entries come back from their profile's copy in DRAM: of the bank that a reload was asked for, else of the
active one (R109). -/
def shadingReload (s : State) (n m t : Nat) : State :=
  let off := 768 * (64 * m + t)
  let b := (((s.ch n).cal.reload.find? fun x => x.1 == m && x.2.1 == t).map (·.2.2)).getD (s.ch n).pipe.bank
  let bs := readBytes (s.dram n) (profCopyAddr b + off) 768
  s.modCh n fun c => { c with
    pipe := { setBank c.pipe b (writeBytes (profBank c.pipe b) off bs) with badShd := c.pipe.badShd.erase (m, t, b) },
    cal := { c.cal with reload := c.cal.reload.erase (m, t, b) } }

/-! ## The spare slice (R114, R115). -/

/-- The spare is free, sound and passed its last test. -/
def spareReady (s : State) (n : Nat) : Bool :=
  !s.rb (PIPE_SPARE_V n) && !s.rb (PIPE_SPARE_SPFLT n) && s.rb (PIPE_SPARE_KATOK n) && (s.ch n).pipe.spareIn.isNone &&
  (match (s.ch n).pipe.kat with | some (.lasting _, _) => false | some (.force _, _) => false | _ => true)

/-- Does the spare serve a logical slice, or is it about to? -/
def spareBusy (s : State) (n : Nat) : Bool := s.rb (PIPE_SPARE_V n) || (s.ch n).pipe.spareIn.isSome

/-- Slices of the active schedule in use (R19). -/
def slicesUsed (s : State) (n : Nat) : Nat := ceilDiv (s.ch n).sns.sched.pixels 4096

def noSpare (s : State) (n ph : Nat) : State := s.raise ((ev (EV_PIPE_NOSPARE n)).at_ 2 ph)

/-- A physical slice comes to lasting fault (R110, R114, R115). -/
def sliceLasting (s : State) (n ph : Nat) : State :=
  let s := (s.wr (PIPE_STAT_SLFLT n) (withBit (s.rd (PIPE_STAT_SLFLT n)) ph true)).raise
    ((ev (EV_PIPE_SLICE_FLT n)).at_ 2 ph)
  if ph = 8 then
    let s := s.wr (PIPE_SPARE_SPFLT n) 1
    if s.rb (PIPE_SPARE_V n) then noSpare s n ph else s
  else if slicesUsed s n ≤ ph then s
  else if s.rb (PIPE_SPARE_V n) && s.rd (PIPE_SPARE_FOR n) == ph then s
  else if spareBusy s n then noSpare s n ph
  else if !s.rb (PIPE_CFG_AUTOSPARE n) then s
  else if spareReady s n then s.modPipe n fun p => { p with kat := some (.lasting ph, false) }
  else noSpare s n ph

/-- A write of PIPE_n_SPARE.FORCE (R114): changes nothing when the checks fail.
[DEDUCED, unsafe: log entry 40] -/
def sliceForce (s : State) (n m : Nat) : State :=
  if spareReady s n then s.modPipe n fun p => { p with kat := some (.force m, false) } else s

/-- The 10 ms timer of the waiting spare (R114).
[DEDUCED, unsafe: log entry 40] -/
def katTimer (s : State) (n : Nat) : State :=
  if spareBusy s n || (s.ch n).pipe.kat.isSome then s else s.modPipe n fun p => { p with kat := some (.waiting, false) }

/-- A known-answer test ends (R114).
[DEDUCED, unsafe: log entry 40] -/
def katDone (s : State) (n : Nat) (pass : Bool) : State :=
  match (s.ch n).pipe.kat with
  | none => s
  | some (use_, again) =>
    let done (s : State) : State := s.modPipe n fun p => { p with kat := none }
    if pass then
      let s := done (s.wr (PIPE_SPARE_KATOK n) 1)
      match use_ with
      | .waiting => s
      | .lasting m => s.modPipe n fun p => { p with spareIn := some { slice := m, at_ := s.now, eff := none } }
      | .force m => s.modPipe n fun p => { p with spareIn := some { slice := m, at_ := s.now, eff := none } }
    else if !again then s.modPipe n fun p => { p with kat := some (use_, true) }
    else
      let s := done ((s.wr (PIPE_SPARE_KATOK n) 0).wr (PIPE_SPARE_SPFLT n) 1)
      let s := (s.wr (PIPE_STAT_SLFLT n) (withBit (s.rd (PIPE_STAT_SLFLT n)) 8 true)).raise ((ev (EV_PIPE_SPARE_KAT n)).at_ 2 8)
      match use_ with
      | .lasting m => noSpare s n m
      | _ => s

/-- At the line start of trigger `trig` the crossbar takes over a tested spare whose first trigger has come (R114 steps 4, 5): lines
before that trigger stay with the old physical slice.
[DEDUCED, unsafe: log entry 40] -/
def spareAtTrigger (s : State) (n trig : Nat) : State :=
  match (s.ch n).pipe.spareIn with
  | some { slice := m, at_ := _, eff := some e } =>
    if trig < e.1 then s else
    let s := (s.modPipe n fun p => { p with spareIn := none })
    let s := ((s.wr (PIPE_SPARE_V n) 1).wr (PIPE_SPARE_FOR n) m).wr (PIPE_STAT_SLFLT n) (withBit (s.rd (PIPE_STAT_SLFLT n)) m true)
    s.raise ((((ev (EV_PIPE_SPARE_IN n)).at_ 2 8).line_ e.2).detail_ m)
  | _ => s

/-! ## Colour alignment (R111 to R113). -/

/-- Store a finished trigger's rows in its slot; at most 33 slots are kept. -/
def pushSlot (s : State) (n : Nat) (sl : AlignSlot) : State :=
  s.modPipe n fun p => { p with slots := (sl :: p.slots).take 33 }

/-- The row of a colour at a trigger's slot, when it is valid. -/
def slotRow (p : PipeSt) (trig c : Nat) : Option RowSt :=
  if trig < p.validFrom then none else
  match p.slots.find? (·.trig == trig) with
  | some sl => (match sl.rows[c]? with | some r => if r.valid then some r else none | none => none)
  | none => none

/-- Consecutive valid slots behind the write slot, 0 to 33 (R113), as of the last slot written.
[DEDUCED, unsafe: log entry 39] -/
def alignFill (p : PipeSt) : Nat :=
  let top := (p.slots.map (·.trig)).foldl max 0
  ((List.range 33).takeWhile fun k =>
    decide (k ≤ top) && (List.range 3).all fun c => (slotRow p (top - k) c).isSome).length

def showFill (s : State) (n : Nat) : State := s.wr (PIPE_ALIGN_FILL n) (alignFill (s.ch n).pipe)

/-- An invalid slot, for a trigger without rows (R113, R252). -/
def badSlot (trig : Nat) : AlignSlot :=
  { trig := trig, rows := List.replicate 3 { valid := false, vals := [], poison := false, recomp := false,
                                             uncorr := false, derate := false } }

/-- A line's corrected samples of one colour in pixel order; rough-cut takes 16 × y8 (R116, R149) and samples without a tile
are zero. -/
def lineRow (l : LineRec) (c : Nat) : List Nat :=
  (List.range l.sched.pixels).map fun p =>
    if l.rough = 0 then
      match l.tiles.find? (fun t => t.slice == p / 4096 && t.tile == p % 4096 / 64) with
      | some t => t.vals.getD (3 * (p % 64) + c) 0
      | none => 0
    else x12 l p c / 16 * 16

/-- What an invalid slot gives: samples of zero (R113).
[DEDUCED, unsafe: log entry 39] -/
def zeroRow (P : Nat) : RowSt :=
  { valid := false, vals := List.replicate P 0, poison := false, recomp := false, uncorr := false, derate := false }

/-- A row k triggers back from a line: its own, or that of a slot; none where the slot is invalid (R112, R113). -/
def rowBack (p : PipeSt) (l : LineRec) (c k : Nat) : Option RowSt :=
  if k = 0 then some { valid := true, vals := lineRow l c, poison := l.poison, recomp := l.recomp, uncorr := l.uncorr,
                       derate := l.derate }
  else if l.slot < k then none else slotRow p (l.slot - k) c

/-- The integer part k and the fraction f of a row's delay (R112, R116). -/
def rowDelay (l : LineRec) (c : Nat) : Nat × Nat :=
  let o := if l.rough = 2 then 0 else l.sched.offs.getD c 0
  (if l.rough = 1 then (o + 128) / 256 else o / 256, if l.rough = 0 then o % 256 else 0)

/-- Interpolation between two triggers: v and its remainder r8 (R112). -/
def interpVal (u0 u1 f : Nat) : Nat := (u0 * (256 - f) + u1 * f + 128) / 256
def interpRem (u0 u1 f : Nat) : Nat := (u0 * (256 - f) + u1 * f + 128) % 256

/-- The residue comparison of the colour interpolation (R105). -/
def interpOk (u0 u1 f v r : Nat) : Bool :=
  res7 (res7 u0 * res7 (256 - f : Nat) + res7 u1 * res7 f + 2) == res7 (4 * res7 v + res7 r)

/-- A row of an aligned line (R112) with its marks, and whether a slot it reads is invalid (R113). -/
def alignedRow (p : PipeSt) (l : LineRec) (c : Nat) : List Nat × RowSt × Bool :=
  let d := rowDelay l c
  let row := rowBack p l c
  let r0 := (row d.1).getD (zeroRow l.sched.pixels)
  if d.2 = 0 then (r0.vals, r0, (row d.1).isNone) else
  let r1 := (row (d.1 + 1)).getD (zeroRow l.sched.pixels)
  ((List.range l.sched.pixels).map fun i => interpVal (r0.vals.getD i 0) (r1.vals.getD i 0) d.2,
   { r0 with poison := r0.poison || r1.poison, recomp := r0.recomp || r1.recomp,
             uncorr := r0.uncorr || r1.uncorr, derate := r0.derate || r1.derate },
   (row d.1).isNone || (row (d.1 + 1)).isNone)

/-- The residue comparison at the sample of an upset, whose result is off by the upset's size (R105, R112). -/
def interpPasses (p : PipeSt) (l : LineRec) (u : LineUpset) : Bool :=
  let d := rowDelay l u.colour.val
  let px (k : Nat) : Nat :=
    ((rowBack p l u.colour.val k).getD (zeroRow l.sched.pixels)).vals.getD (64 * u.tile + u.pixel.val) 0
  let v := toBits 12 (interpVal (px d.1) (px (d.1 + 1)) d.2 + u.delta)
  interpOk (px d.1) (px (d.1 + 1)) d.2 v (interpRem (px d.1) (px (d.1 + 1)) d.2)

/-- An aligned line: three rows and the union of the marks of every slot it reads (R112). -/
structure Aligned where
  rows : List (List Nat)
  spoil : Bool
  poison : Bool
  recomp : Bool
  uncorr : Bool
  derate : Bool
  deriving DecidableEq, Repr

/-- The rows of a line aligned by the colour delays (R111, R112).
[DEDUCED, unsafe: log entry 39] -/
def alignLine (p : PipeSt) (l : LineRec) : Aligned :=
  let rs := (List.range 3).map (alignedRow p l)
  let marks := rs.map (·.2.1)
  { rows := rs.map (·.1), spoil := l.spoil || rs.any (·.2.2), poison := l.poison || marks.any (·.poison),
    recomp := l.recomp || marks.any (·.recomp), uncorr := l.uncorr || marks.any (·.uncorr),
    derate := l.derate || marks.any (·.derate) }

/-- Add an error's size to one sample of a tile. -/
def disturb (rows : List (List Nat)) (u : LineUpset) : List (List Nat) :=
  rows.modify u.colour.val fun row =>
    row.modify (64 * u.tile + u.pixel.val) fun v => toBits 12 (v + u.delta)

/-- Every counter of the PIPE block and LAG.MAX (R118). -/
def pipeCounters (n : Nat) : List Fld :=
  [PIPE_LAG_MAX n, PIPE_RECOMP_SKIP n, PIPE_RECOMP_TILES n, PIPE_POISON_LINES n, PIPE_POISON_TILES n,
   PIPE_PARERR_SHD n, PIPE_PARERR_RAW n, PIPE_ALGERR_PAR n, PIPE_FOLLIM_COUNT n] ++
    (List.range 9).map fun m => PIPE_RESERR_COUNT n m

end Sys2Proof.Machine
end

