-- ==== Sys2Proof/Machine/RsmpOps.lean ====
section
/-! DEFINITION. Machine/RsmpOps.lean: the resampler, edge unit and packer of a channel
(spec/05_resampling_edges_packets.md): binning and filters (R120 to R126), configuration checks (R124), edges and sheets
(R132 to R137), output formats and packets (R138 to R147). -/

namespace Sys2Proof.Machine

/-! ## Cross direction (R120 to R122). -/

/-- The sum of the B pixels of binned pixel m (R120). -/
def binSum (B : Nat) (row : List Nat) (m : Nat) : Nat :=
  ((List.range B).map fun i => row.getD (min (B * m + i) (row.length - 1)) 0).sum

/-- Binning by B (R120). -/
def binRow (B : Nat) (row : List Nat) : List Nat :=
  (List.range (ceilDiv row.length B)).map fun m => (binSum B row m + B / 2) / B

/-- A 16-bit S1.14 coefficient of the channel's active tables (R123). -/
def coef (tabs : List (Nat × Byte)) (off : Nat) : Int := sext 16 (leNat (readBytes tabs off 2))

/-- Cross coefficient h[φ][k] and vertical coefficient g[φ][k] (R123). -/
def crossCoef (tabs : List (Nat × Byte)) (ph k : Nat) : Int := coef tabs (0x60000 + 16 * ph + 2 * k)
def vertCoef (tabs : List (Nat × Byte)) (ph k : Nat) : Int := coef tabs (0x60400 + 8 * ph + 2 * k)

/-- Phase and base of a position in 1/65,536 (R121): the phase 64 carries. -/
def phaseOf (x : Int) : Nat × Int :=
  let ph := ((x % 65536) + 512) / 1024
  if ph = 64 then (0, x / 65536 + 1) else (ph.toNat, x / 65536)

/-- Is a part of the vertical filter, behind the lines it keeps? -/
def RsmpPart.isVert : RsmpPart → Bool
  | .vert | .vertRem | .vertA | .vertB | .vertClamp => true
  | .bin | .binRem | .cross | .crossRem | .crossA | .crossB | .crossClamp => false

/-- The errors that act on one part at output pixel j of colour c. -/
def partErr (us : List RsmpUpset) (part : RsmpPart) (c j : Nat) : Int :=
  us.foldl (fun a u => if u.part = part ∧ u.colour.val = c ∧ 64 * u.tile + u.pixel.val = j then a + u.delta else a) 0

/-- Clamp of a filter output to 12 bits (R122), as one comparator decides, with the errors of the comparator and of the result. -/
def clampAs (z errA errY : Int) : Nat :=
  let a := clampSide (z + errA)
  toBits 12 ((if a = 0 then z else if a < 0 then 0 else 4095) + errY)

/-- The eight taps of the cross filter for output pixel j: coefficients and binned pixels (R121, R122). -/
def crossTaps (tabs : List (Nat × Byte)) (x0 : Int) (step : Nat) (u : List Nat) (j : Nat) : List (Int × Nat) :=
  let pb := phaseOf (x0 + j * step)
  (List.range 8).map fun k => (crossCoef tabs pb.1 k, u.getD (clampI (pb.2 - 3 + k) 0 (u.length - 1 : Nat)).toNat 0)

/-- The sum of a filter's taps. -/
def tapSum (ts : List (Int × Nat)) : Int := (ts.map fun t => t.1 * (t.2 : Int)).sum

/-- Output pixel j of colour c of the cross filter (R121, R122). -/
def crossPixel (tabs : List (Nat × Byte)) (us : List RsmpUpset) (c : Nat) (x0 : Int) (step : Nat) (u : List Nat) (j : Nat) : Nat :=
  clampAs (rnd14 (tapSum (crossTaps tabs x0 step u j)) + partErr us .cross c j) (partErr us .crossA c j) (partErr us .crossClamp c j)

/-- The resampler's configuration in use. -/
structure RsmpCfg where
  bypass : Bool
  bin : Nat
  qm1 : Nat
  x0 : Int
  step : Nat
  vmode : Bool
  sv : Nat
  y0f : Nat
  deriving DecidableEq, Repr

def rsmpCfg (s : State) (n : Nat) : RsmpCfg :=
  { bypass := s.rb (RSMP_XCFG_XBYPASS n), bin := 2 ^ s.rd (RSMP_XCFG_BIN n), qm1 := s.rd (RSMP_XCFG_QM1 n),
    x0 := sext 32 (s.rd (RSMP_XSTART_X0 n)), step := s.rd (RSMP_XSTEP_STEP n), vmode := s.rb (RSMP_VCFG_VMODE n),
    sv := s.rd (RSMP_VCFG_SV n), y0f := s.rd (RSMP_VSTART_Y0F n) }

/-- The binned pixel where the filter of output pixel j is based (R121). -/
def binAt (cfg : RsmpCfg) (len j : Nat) : Nat := (clampI (phaseOf (cfg.x0 + j * cfg.step)).2 0 (len - 1 : Nat)).toNat

/-- A binned row with its errors. -/
def binRowWith (cfg : RsmpCfg) (us : List RsmpUpset) (c : Nat) (row : List Nat) : List Nat :=
  us.foldl (fun u x => if x.part = .bin ∧ x.colour.val = c then
    u.modify (binAt cfg u.length (64 * x.tile + x.pixel.val)) fun m => toBits 12 (m + x.delta) else u) (binRow cfg.bin row)

/-- A row of colour c through binning and the cross filter, with errors (R119, R120, R122). -/
def crossRow (cfg : RsmpCfg) (tabs : List (Nat × Byte)) (us : List RsmpUpset) (row : List Nat) (c : Nat) : List Nat :=
  if cfg.bypass then row else
  let u := binRowWith cfg us c row
  (List.range (cfg.qm1 + 1)).map (crossPixel tabs us c cfg.x0 cfg.step u)

/-- Output pixels of a line of P native pixels (R119). -/
def outPixels (cfg : RsmpCfg) (P : Nat) : Nat := if cfg.bypass then P else cfg.qm1 + 1

/-- Checks 1 to 7 of R124, on a configuration, its tables, the format, P and P_min; and the column pixels of R132. -/
def rsmpOk (cfg : RsmpCfg) (binField : Nat) (tabs : List (Nat × Byte)) (fmt P pmin : Nat) : Bool :=
  let Q := outPixels cfg P
  let P' := ceilDiv P cfg.bin
  (cfg.bypass || (binField ≤ 2 && 0x8000 ≤ cfg.step && cfg.step ≤ 0x20000 && 1 ≤ Q && Q ≤ 32768 &&
    decide (cfg.x0 + cfg.qm1 * cfg.step ≤ ((P' - 1 : Nat) : Int) * 65536) &&
    (List.range 64).all fun ph => ((List.range 8).map (crossCoef tabs ph)).sum == 16384)) &&
  (!cfg.vmode || (0x10000 ≤ cfg.sv && cfg.sv ≤ 0x40000 &&
    (List.range 64).all fun ph => ((List.range 4).map (vertCoef tabs ph)).sum == 16384)) &&
  decide (3 * Q ≤ 24 * pmin) &&
  (fmt < 8 || fmt % 4 == 1 || fmt % 4 == 2) &&
  (List.range 16).all fun k =>
    let c := leNat (readBytes tabs (0x60808 + 2 * k) 2)
    c == 0xFFFF || c + 4 ≤ P

/-! ## Feed direction (R125, R126). -/

/-- An output line: samples RD GN BU, marks, phase. -/
structure OutLine where
  rows : List (List Nat)
  vphase : Nat
  spoil : Bool
  uncorr : Bool
  derate : Bool
  poison : Bool
  recomp : Bool
  deriving DecidableEq, Repr

/-- Advance y past positions whose line b + 2 never passes (R126). -/
def skipTo (sv : Nat) (i : Int) : Nat → Int → Int
  | 0, y => y
  | k + 1, y => if (phaseOf y).2 + 2 < i then skipTo sv i k (y + sv) else y

/-- The four taps of the vertical filter at pixel j of colour c: coefficients and samples of lines b − 1 to b + 2 (R126). -/
def vertTaps (tabs : List (Nat × Byte)) (ph : Nat) (four : List (Option VLine)) (c j : Nat) : List (Int × Nat) :=
  (List.range 4).map fun k =>
    (vertCoef tabs ph k, match four.getD k none with | some x => (x.vals.getD c []).getD j 0 | none => 0)

/-- The phase and the four lines of an output position y, of a line and those stored (R126). -/
def vertLines (r : RsmpSt) (y : Int) (v : VLine) : Nat × List (Option VLine) :=
  let pb := phaseOf y
  (pb.1, (List.range 4).map fun k => (v :: r.stored).find? fun x => decide ((x.line : Int) = pb.2 - 1 + k))

/-- The position of the next output line that is still to come at line i (R126). -/
def vertPos (cfg : RsmpCfg) (r : RsmpSt) (i : Int) : Int := skipTo cfg.sv i (i - ((phaseOf r.y).2 + 2)).toNat r.y

/-- The vertical unit takes cross-resampled line v, with errors: the state after it and the output line, if any (R125 to R127).
[DEDUCED, unsafe: log entry 42] -/
def vertical (cfg : RsmpCfg) (tabs : List (Nat × Byte)) (us : List RsmpUpset) (r : RsmpSt) (v : VLine) : RsmpSt × Option OutLine :=
  if !cfg.vmode then
    let sp := decide (0 < r.spoilOut)
    ({ r with spoilOut := r.spoilOut - 1, stored := (v :: r.stored).take 3 },
     some { rows := v.vals, vphase := 0, spoil := v.spoil || sp, uncorr := v.uncorr, derate := v.derate,
            poison := v.poison, recomp := v.recomp })
  else
    let i : Int := v.line
    let y := vertPos cfg r i
    let keep : RsmpSt := { r with y := y, stored := (v :: r.stored).take 3 }
    if (phaseOf y).2 + 2 ≠ i then (keep, none) else
    let q := vertLines r y v
    let four := q.2
    let have_ := four.filterMap id
    let rows := (List.range 3).map fun c => (List.range ((v.vals.getD c []).length)).map fun j =>
      clampAs (rnd14 (tapSum (vertTaps tabs q.1 four c j)) + partErr us .vert c j) (partErr us .vertA c j) (partErr us .vertClamp c j)
    ({ keep with y := y + cfg.sv, spoilOut := r.spoilOut - 1 },
     some { rows := rows, vphase := q.1,
            spoil := four.any Option.isNone || have_.any (·.spoil) || decide (0 < r.spoilOut),
            uncorr := have_.any (·.uncorr), derate := have_.any (·.derate), poison := have_.any (·.poison),
            recomp := have_.any (·.recomp) })

/-- Set y for line B0: the first 3 output lines carry SPOIL (R127).
[DEDUCED, unsafe: log entry 42] -/
def setY (cfg : RsmpCfg) (r : RsmpSt) (b0 : Nat) : RsmpSt :=
  { r with y := ((b0 : Int) - 2) * 65536 + cfg.y0f, spoilOut := 3, yAt := none }

/-! ## Residue failures of the resampler (R130). -/

/-- The residue comparison of binning: s + ⌊B ÷ 2⌋ = B × m + rem (R130). -/
def binOk (B s : Nat) (m rem : Int) : Bool := res7 (res7 s + res7 (B / 2 : Nat)) == res7 (res7 B * res7 m + res7 rem)

/-- The residue comparison of a filter: Σ h × u + 2 = 4 × z + r (R130). -/
def tapsOk (ts : List (Int × Nat)) (z r : Int) : Bool :=
  res7 ((ts.map fun t => res7 t.1 * res7 t.2).sum + 2) == res7 (4 * res7 z + res7 r)

/-- The checks of a clamp: its two comparators agree, and an unclamped result has its operand's residue (R105). -/
def clampOk (z errA errB errY : Int) : Bool :=
  let a := clampSide (z + errA)
  a == clampSide (z + errB) && (a != 0 || res7 (clampAs z errA errY : Nat) == res7 z)

/-- The comparisons of R130 at one error of a filter, named by what it adds to the sum, remainder, comparators and result. -/
def filterOk (ts : List (Int × Nat)) (z r a b y : Int) : Bool :=
  let z0 := rnd14 (tapSum ts) + z
  tapsOk ts z0 (rem14 (tapSum ts) + r) && clampOk z0 a b y

/-- Does an error pass every comparison of R130? Parts that are not in use do nothing.
[DESIGN CHOICE, safe: log entry 37] -/
def rsmpPasses (cfg : RsmpCfg) (tabs : List (Nat × Byte)) (r : RsmpSt) (rows : List (List Nat)) (v : VLine) (u : RsmpUpset) : Bool :=
  let c := u.colour.val
  let j := 64 * u.tile + u.pixel.val
  let d (p : RsmpPart) : Int := if u.part = p then u.delta else 0
  let row := rows.getD c []
  let b := binRow cfg.bin row
  let m := binAt cfg b.length j
  let s := binSum cfg.bin row m + cfg.bin / 2
  let y := vertPos cfg r v.line
  let q := vertLines r y v
  (cfg.bypass || (binOk cfg.bin (binSum cfg.bin row m) ((s / cfg.bin : Nat) + d .bin) ((s % cfg.bin : Nat) + d .binRem) &&
    filterOk (crossTaps tabs cfg.x0 cfg.step b j) (d .cross) (d .crossRem) (d .crossA) (d .crossB) (d .crossClamp))) &&
  (!cfg.vmode || (phaseOf y).2 + 2 != (v.line : Int) ||
    filterOk (vertTaps tabs q.1 q.2 c j) (d .vert) (d .vertRem) (d .vertA) (d .vertB) (d .vertClamp))

/-- One failing output tile: whether it is recomputed, and whether it passes on with POISON. Every failed check raises its event (R150).
[DESIGN CHOICE, safe: log entry 37] -/
def rsmpFault (s : State) (n : Nat) (info : TrigInfo) (again : Bool) : State × Bool × Bool :=
  let r := (s.ch n).rsmp
  let fail (s : State) : State := s.raise ((ev (EV_RSMP_RESIDUE n)).line_ info.line)
  if r.lag + 24 ≤ 3072 then
    let s := (s.modRsmp n fun x => { x with lag := r.lag + 24, lagAt := max s.now r.lagAt + 8 }).bump (RSMP_RECOMP_TILES n)
    let s := fail (s.peak (RSMP_LAG_MAX n) (r.lag + 24))
    (if again then fail s else s, true, again)
  else
    ((fail (s.bump (RSMP_RECOMP_SKIP n))).raise ((ev (EV_RSMP_LAGFULL n)).line_ info.line), false, true)

/-- The lag count at an instant, with so many clocks of lines computed since it was last brought up to date (R130). -/
def rsmpLagNow (r : RsmpSt) (now busy : Nat) : Nat := r.lag - (3 * (now - r.lagAt) - busy)

/-- Take off the clocks with nothing to compute since the last line (R130). -/
def rsmpLagDecay (s : State) (n Q : Nat) : State :=
  s.modRsmp n fun r => { r with lag := rsmpLagNow r s.now (24 * ceilDiv Q 64), lagAt := max s.now r.lagAt }

/-- RSMP_n_LAG.CUR at the moment of a read (R151): a line in flight counts as computed.
[DEDUCED, unsafe: log entry 36] -/
def rsmpLagCur (s : State) (n : Nat) : Nat :=
  let Q := outPixels (rsmpCfg s n) (s.ch n).sns.sched.pixels
  rsmpLagNow (s.ch n).rsmp s.now (if (s.ch n).pipe.lines.isEmpty then 0 else 24 * ceilDiv Q 64)

/-! ## Edges (R131 to R137). -/

/-- The plane value of a pixel, after polarity (R133); rough-cut samples are 16 × y8 already (R149). -/
def planeVal (s : State) (n : Nat) (rows : List (List Nat)) (p : Nat) : Int :=
  let c (i : Nat) : Nat := (rows.getD i []).getD p 0
  let pl := s.rd (RSMP_EDGECFG_PLANE n)
  let v : Int := if pl = 3 then ((c 0 + c 1 + c 2 : Nat) : Int) else c pl
  if s.rb (RSMP_EDGECFG_POL n) then 16383 - v else v

/-- The threshold, after polarity (R133). -/
def edgeThresh (s : State) (n : Nat) : Int :=
  let t : Int := s.rd (RSMP_EDGECFG_THRESH n)
  if s.rb (RSMP_EDGECFG_POL n) then 16383 - t else t

/-- Interpolated fraction of an edge (R134, R136): ⌊(2·m·a + d) ÷ 2d⌋ with m = 256 or 16. -/
def edgeFrac (m a d : Int) : Int := (2 * m * a + d) / (2 * d)

/-- The left and right edges of an aligned line (R134); none where not found. -/
def findEdges (s : State) (n : Nat) (rows : List (List Nat)) (P : Nat) : Option Int × Option Int :=
  let v := planeVal s n rows
  let T := edgeThresh s n
  let N := max 1 (s.rd (RSMP_EDGECFG_RUN n))
  let l0 := s.tab n 0x60800 2
  let l1 := s.tab n 0x60802 2
  let r0 := s.tab n 0x60804 2
  let r1 := s.tab n 0x60806 2
  let on (p : Nat) : Bool := decide (p < P) && decide (T ≤ v p)
  let left := ((List.range (l1 + 1 - l0)).map (l0 + ·)).find? fun p => (List.range N).all fun i => on (p + i)
  let right := ((List.range (r1 + 1 - r0)).map (r1 - ·)).find? fun p =>
    decide (N ≤ p + 1) && (List.range N).all fun i => on (p - i)
  (left.map fun p => if p = l0 then 256 * (p : Int) else
      256 * ((p : Int) - 1) + edgeFrac 256 (T - v (p - 1)) (v p - v (p - 1)),
   right.map fun p => if p = r1 then 256 * (p : Int) else
      256 * (p : Int) + edgeFrac 256 (v p - T) (v p - v (p + 1)))

/-- The word of an edge (R134). -/
def edgeWord (e : Option Int) : Nat := match e with | some v => toBits 24 v | none => 0xFFFFFFFF

/-- Count lines without both edges (R134). -/
def noEdgeCheck (s : State) (n : Nat) (info : TrigInfo) (found : Bool) : State :=
  if found then s.modRsmp n fun r => { r with noedge := 0, noedgeArmed := true } else
  let r := (s.ch n).rsmp
  let lim := s.rd (RSMP_NOEDGE_LINES n)
  let s := s.modRsmp n fun r => { r with noedge := r.noedge + 1 }
  if lim ≠ 0 ∧ lim ≤ r.noedge + 1 ∧ r.noedgeArmed then
    (s.modRsmp n fun r => { r with noedgeArmed := false }).raise ((ev (EV_RSMP_NOEDGE n)).line_ info.line)
  else s

/-- Web wander (R135). -/
def wanderStep (s : State) (n : Nat) (info : TrigInfo) (el er : Int) : State :=
  let r := (s.ch n).rsmp
  let c : Int := (el + er) / 2
  let cf : Int := match r.centre with
    | none => c
    | some f => f + (c - f) / (2 ^ s.rd (RSMP_WANDERCFG_K n) : Nat)
  let w := cf - s.rd (RSMP_WANDERCFG_CREF n)
  let lim : Int := s.rd (RSMP_WANDERLIM_LIM n)
  let out := lim < w ∨ lim < -w
  let s := (s.modRsmp n fun r => { r with centre := some cf, wanderArmed := !decide out }).wr (RSMP_WANDER_W n) (toBits 32 w)
  s.raiseIf (decide out && r.wanderArmed) ((ev (EV_RSMP_WANDER n)).line_ info.line)

/-- The pixel of column k; 0xFFFF is unused (R132). -/
def colPixel (s : State) (n k : Nat) : Nat := s.tab n (0x60808 + 2 * k) 2

/-- Column value c_k, the rounded mean of four plane values (R136). -/
def colValue (s : State) (n : Nat) (rows : List (List Nat)) (px : Nat) : Int :=
  (((List.range 4).map fun i => planeVal s n rows (px + i)).sum + 2) / 4

/-- The column states after a line (R136); columns on which the two units disagree are not found on this line. -/
def colStep (s : State) (n : Nat) (rows : List (List Nat)) (line : Nat) (bad : List (Fin 16)) (open_ : Bool) :
    List ColSt :=
  let T := edgeThresh s n
  (List.range 16).map fun k =>
    let old := ((s.ch n).rsmp.cols.getD k { prev := none, covered := false, lead := none })
    if colPixel s n k = 0xFFFF then { prev := none, covered := false, lead := none }
    else if bad.any (·.val == k) then { old with prev := none, covered := false }
    else
      let c := colValue s n rows (colPixel s n k)
      let cov := decide (T ≤ c)
      let lead := match old.lead, old.prev with
        | some l, _ => if !cov && !open_ then none else some l
        | none, some p => if cov && !old.covered then some (line, edgeFrac 16 (T - p) (c - p)) else none
        | none, none => none
      { prev := some c, covered := cov, lead := lead }

/-- Leading edges relative to F, 1/16 line (R136): none out of range. -/
def leadEdges (cols : List ColSt) (F : Nat) : List (Option Int) :=
  cols.map fun c => match c.lead with
    | some (t, fr) =>
      let y := 16 * ((t : Int) - 1 - F) + fr
      if -32767 ≤ y ∧ y ≤ 32767 then some y else none
    | none => none

/-- Least-squares fit over the valid columns (R137): SKEWOK, A, B, x̄ in 1/256 pixel. -/
def skewFit (pts : List (Nat × Int)) : Bool × Int × Int × Int :=
  let k : Int := pts.length
  let X (p : Nat × Int) : Int := 2 * p.1 + 3
  let sx := (pts.map X).sum
  let sy := (pts.map (·.2)).sum
  let num := k * (pts.map fun p => X p * p.2).sum - sx * sy
  let den := k * (pts.map fun p => X p * X p).sum - sx * sx
  if pts.length < 3 ∨ den ≤ 0 then (false, 0, 0, if pts.isEmpty then 0 else roundAway (128 * sx) pts.length)
  else (true, roundAway sy pts.length, roundAway (8192 * num) den.toNat, roundAway (128 * sx) pts.length)

/-! ## Packets (R138 to R147). -/

/-- Width in bits of an output format (R138). -/
def fmtWidth (fmt : Nat) : Nat := match fmt % 4 with | 0 => 8 | 1 => 10 | 2 => 12 | _ => 16
def fmtPlanar (fmt : Nat) : Bool := bit fmt 2
def fmtContainer (fmt : Nat) : Bool := bit fmt 3

/-- An output sample (R138); a rough-cut line's 16 × y8 gives y8 at 8 bits (R149). -/
def outSample (w y : Nat) : Nat :=
  if w = 8 then min ((y + 8) / 16) 255 else if w = 10 then min ((y + 2) / 4) 1023
  else if w = 12 then y else 16 * y + y / 256

/-- Bytes of a bit stream, bit b being bit b mod 8 of byte ⌊b ÷ 8⌋ (R139). -/
def bitsToBytes : List Bool → List Byte
  | a :: b :: c :: d :: e :: f :: g :: h :: t =>
    BitVec.ofNat 8 (b2n a + 2 * b2n b + 4 * b2n c + 8 * b2n d + 16 * b2n e + 32 * b2n f + 64 * b2n g + 128 * b2n h) ::
      bitsToBytes t
  | [] => []
  | l => [BitVec.ofNat 8 ((List.range l.length).foldl (fun v i => v + b2n (l.getD i false) * 2 ^ i) 0)]

/-- Bits of a number, least significant first. -/
def lsbBits (w v : Nat) : List Bool := (List.range w).map (bit v)

/-- Samples packed dense or in containers (R139). -/
def packSamples (w : Nat) (container : Bool) (xs : List Nat) : List Byte :=
  if container || w == 16 then xs.flatMap (leBytes 2) else bitsToBytes (xs.flatMap (lsbBits w))

/-- Bytes that k samples take (R139). -/
def packedLen (w : Nat) (container : Bool) (k : Nat) : Nat :=
  if container || w == 16 then 2 * k else ceilDiv (k * w) 8

/-- Stride of a plane (R139). -/
def planeStride (fmt Q : Nat) : Nat := alignUp (packedLen (fmtWidth fmt) (fmtContainer fmt) Q) 64

/-- PAYLEN of a line of Q pixels (R140). -/
def payLen (fmt Q : Nat) : Nat :=
  if fmtPlanar fmt then 3 * planeStride fmt Q else packedLen (fmtWidth fmt) (fmtContainer fmt) (3 * Q)

/-- The packet length: a multiple of 64 (R140). -/
def pktLen (fmt Q : Nat) : Nat := alignUp (96 + payLen fmt Q) 64

/-- A line's sample bytes (R139). -/
def payload (fmt : Nat) (rows : List (List Nat)) (Q : Nat) : List Byte :=
  let w := fmtWidth fmt
  let px (c j : Nat) : Nat := outSample w ((rows.getD c []).getD j 0)
  if fmtPlanar fmt then
    (List.range 3).flatMap fun c =>
      let b := packSamples w (fmtContainer fmt) ((List.range Q).map (px c))
      b ++ List.replicate (planeStride fmt Q - b.length) 0
  else packSamples w (fmtContainer fmt) ((List.range Q).flatMap fun j => (List.range 3).map fun c => px c j)

/-- The fields of a packet header that vary (R141). -/
structure Header where
  kind : Nat
  node : Nat
  chan : Nat
  jig : Nat
  fmt : Nat
  flags : Nat
  vphase : Nat
  line : Nat
  ts : Nat
  pos : Nat
  edgeL : Nat
  edgeR : Nat
  paylen : Nat
  len : Nat
  qm1 : Nat
  stride : Nat
  sheet : Nat
  index : Nat
  deriving DecidableEq, Repr

/-- The 64 header bytes (R141). -/
def Header.bytes (h : Header) : List Byte :=
  leBytes 1 (0x10 + h.kind) ++ leBytes 1 (h.node * 4 + h.chan) ++ leBytes 1 h.jig ++ leBytes 1 h.fmt ++
  leBytes 2 h.flags ++ leBytes 1 0 ++ leBytes 1 h.vphase ++ leBytes 6 h.line ++ leBytes 2 0 ++ leBytes 8 h.ts ++
  leBytes 8 h.pos ++ leBytes 4 h.edgeL ++ leBytes 4 h.edgeR ++ leBytes 4 h.paylen ++ leBytes 4 h.len ++
  leBytes 2 h.qm1 ++ leBytes 2 h.stride ++ leBytes 4 h.sheet ++ leBytes 4 h.index ++ leBytes 4 0

/-- Trailer bytes 0x00 to 0x17 (R143). -/
def trailerHead (late recN poiN line len : Nat) : List Byte :=
  leBytes 2 late ++ leBytes 2 (min recN 65535) ++ leBytes 2 (min poiN 65535) ++ leBytes 2 0 ++
  leBytes 4 (line % 2 ^ 32) ++ leBytes 4 len ++ leBytes 8 0

/-- A whole packet: header, payload with pad, trailer with its CRC-32 and a zero sequence number (R143). -/
def packetBytes (h : Header) (pay : List Byte) (late recN poiN : Nat) : List Byte :=
  let body := h.bytes ++ pay ++ List.replicate (h.len - 96 - pay.length) 0 ++ trailerHead late recN poiN h.line h.len
  body ++ leBytes 4 0 ++ leBytes 4 (crc32 body)

/-- Compute a packet's trailer CRC-32 afresh over its bytes (R216, R217). -/
def recrc (bs : List Byte) : List Byte :=
  let k := bs.length - 8
  bs.take (k + 4) ++ leBytes 4 (crc32 (bs.take k))

/-- Set late-flag bits in a packet's trailer. -/
def setLate (bs : List Byte) (mask : Nat) : List Byte :=
  let o := bs.length - 32
  bs.take o ++ leBytes 2 (fieldAt bs o 2 ||| mask) ++ bs.drop (o + 2)

/-- The header of a record packet (R145) with the line fields given. -/
def recordHeader (node chan jig kind : Nat) (e : SpanEnd) (sheet index : Nat) : Header :=
  { kind := kind, node := node, chan := chan, jig := jig, fmt := 0, flags := 0, vphase := 0, line := e.line,
    ts := e.ts.toNat, pos := e.pos.toNat, edgeL := 0xFFFFFFFF, edgeR := 0xFFFFFFFF, paylen := 96, len := 192,
    qm1 := 0, stride := 0, sheet := sheet, index := index }

/-- A record packet of 192 bytes (R145). -/
def recordBytes (h : Header) (pay : List Byte) : List Byte := packetBytes h pay 0 0 0

/-- The payload of a sheet record (R146). -/
def sheetPayload (sh : SheetSt) (trunc : Bool) (ys : List (Option Int)) (fit : Bool × Int × Int × Int) (skewOver : Bool) :
    List Byte :=
  let valid := (ys.filter Option.isSome).length
  leBytes 4 sh.num ++
  leBytes 1 (b2n (decide (0 < sh.lost)) + 2 * b2n fit.1 + 4 * b2n trunc + 8 * b2n skewOver) ++ leBytes 1 valid ++
  leBytes 2 0 ++ leBytes 8 sh.first.line ++ leBytes 8 sh.last.line ++ leBytes 4 (toBits 32 fit.2.1) ++
  leBytes 4 (toBits 32 fit.2.2.1) ++ leBytes 4 (toBits 32 fit.2.2.2) ++ leBytes 4 sh.lost ++
  (ys.flatMap fun y => leBytes 2 (match y with | some v => toBits 16 v | none => 0x8000)) ++
  leBytes 8 sh.first.pos.toNat ++ leBytes 8 sh.last.pos.toNat ++ leBytes 8 0

/-- PACK_n_PKTLEN follows the active configuration (R140, R149). -/
def showPktLen (s : State) (n : Nat) : State :=
  let P := (s.ch n).sns.sched.pixels
  let cfg := rsmpCfg s n
  s.wr (PACK_PKTLEN_LEN n) (if s.rough n then pktLen 0 P else pktLen (s.rd (PACK_CFG_FMT n)) (outPixels cfg P))

/-- Every RSMP counter and LAG.MAX (R151). -/
def rsmpCounters (n : Nat) : List Fld :=
  [RSMP_RECOMP_SKIP n, RSMP_RECOMP_TILES n, RSMP_EDGEERR_COUNT n, RSMP_LAG_MAX n]

end Sys2Proof.Machine
end

