-- ==== Sys2Proof/Machine/EdgeOps.lean ====
section
/-! DEFINITION. Machine/EdgeOps.lean: sheets (spec/05_resampling_edges_packets.md R136, R137, R146): opening, following and closing a
sheet, and its record. -/

namespace Sys2Proof.Machine

/-- The edge unit follows sheets. -/
def sheetMode (s : State) (n : Nat) : Bool := s.rb (RSMP_EDGECFG_EN n) && s.rb (RSMP_EDGECFG_MODE n)

/-- Close a sheet (R137, R146): the payload of its record, and its events. -/
def sheetClose (s : State) (n : Nat) (sh : SheetSt) (trunc : Bool) : List Byte × State :=
  let ys := leadEdges (s.ch n).rsmp.cols sh.first.line
  let pts := (List.range 16).filterMap fun k => (ys.getD k none).map fun y => (colPixel s n k, y)
  let fit := skewFit pts
  let lim := s.rd (RSMP_SKEWLIM_LIM n)
  let skew := lim != 0 && fit.1 && decide (lim < fit.2.2.1.natAbs)
  let s := s.modRsmp n fun r => { r with sheet := none, cols := r.cols.map fun c => { c with lead := none } }
  let s := s.raiseIf trunc ((ev (EV_RSMP_SHEET_TRUNC n)).line_ sh.last.line)
  let s := s.raiseIf skew ((ev (EV_RSMP_SKEW n)).line_ sh.last.line)
  (sheetPayload sh trunc ys fit skew, s)

/-- What the edge unit says of a line in sheet mode: sheet number, index, and the payload of the record of a sheet whose close
is decided on it. -/
structure SheetOut where
  num : Nat
  index : Nat
  rec_ : Option (List Byte)
  deriving DecidableEq, Repr

def SheetOut.none_ : SheetOut := { num := 0, index := 0, rec_ := none }

/-- The next sheet number: from 1, wrapping to 1 (R136). -/
def nextSheet (k : Nat) : Nat := if k + 1 < 2 ^ 32 then k + 1 else 1

/-- A sheet opens at a line (R136). -/
def sheetOpen (s : State) (n : Nat) (e : SpanEnd) (lost : Nat) : SheetOut × State :=
  let num := nextSheet (s.ch n).rsmp.sheetCtr
  let sh : SheetSt := { num := num, first := e, last := e, lastIdx := 0, below := 0, lost := lost, lines := 1 }
  ({ num := num, index := 0, rec_ := none },
   (s.modRsmp n fun r => { r with sheet := some sh, sheetCtr := num }).wr (RSMP_SHEETNUM_NUM n) num)

/-- One measured line of sheet mode (R131, R136): rows, line, whether it was dropped, and the columns on
which the two units disagree. Lines of the sheet between this one and the one before it were not captured.
[DEDUCED, unsafe: log entry 43] -/
def sheetStep (s : State) (n : Nat) (rows : List (List Nat)) (e : SpanEnd) (dropped : Bool) (bad : List (Fin 16)) :
    SheetOut × State :=
  let old := (s.ch n).rsmp.sheet
  let cols := colStep s n rows e.line bad old.isSome
  let s := s.modRsmp n fun r => { r with cols := cols }
  let full := decide (max 1 (s.rd (RSMP_SHEETCFG_MINCOL n)) ≤ (cols.filter (·.covered)).length)
  match old with
  | none => if full && s.runBit n then sheetOpen s n e (b2n dropped) else (SheetOut.none_, s)
  | some sh =>
    let idx := e.line - sh.first.line
    let lost := sh.lost + (idx - sh.lastIdx - 1) + b2n dropped
    let seen : SheetSt := { sh with lastIdx := idx, lost := lost }
    if full && decide (s.rd (RSMP_SHEETMAX_MAX n) < idx + 1) then
      let r := sheetClose s n seen true
      ({ num := sh.num, index := idx, rec_ := some r.1 }, r.2)
    else if full then
      let on : SheetSt := { seen with last := e, below := 0, lines := idx + 1 }
      ({ num := sh.num, index := idx, rec_ := none }, s.modRsmp n fun r => { r with sheet := some on })
    else if max 1 (s.rd (RSMP_SHEETCFG_ENDLINES n)) ≤ sh.below + 1 then
      let r := sheetClose s n seen false
      ({ num := sh.num, index := idx, rec_ := some r.1 }, r.2)
    else
      let off : SheetSt := { seen with below := sh.below + 1 }
      ({ num := sh.num, index := idx, rec_ := none }, s.modRsmp n fun r => { r with sheet := some off })

/-- What the edge unit measures on a line (R131, R134, R135): the edge words, or none in use. -/
def edgeLine (s : State) (n : Nat) (rows : List (List Nat)) (P : Nat) (info : TrigInfo) (badL badR : Bool) :
    Nat × Nat × State :=
  let none_ : Nat := 0xFFFFFFFF
  if !s.rb (RSMP_EDGECFG_EN n) then
    (none_, none_, (s.wr (RSMP_EDGE_L_EDGE n) none_).wr (RSMP_EDGE_R_EDGE n) none_)
  else
  let es := findEdges s n rows P
  let l := if badL then none else es.1
  let r := if badR then none else es.2
  let s := noEdgeCheck s n info (l.isSome && r.isSome)
  let s := match l, r with
    | some a, some b => if s.rb (RSMP_EDGECFG_MODE n) then s else wanderStep s n info a b
    | _, _ => s
  (edgeWord l, edgeWord r, (s.wr (RSMP_EDGE_L_EDGE n) (edgeWord l)).wr (RSMP_EDGE_R_EDGE n) (edgeWord r))

/-- Disagreements of the two units on a line: each counts and raises its event (R131). -/
def edgeErrs (s : State) (n k line : Nat) : State :=
  iterate k s fun s _ => (s.bump (RSMP_EDGEERR_COUNT n)).raise ((ev (EV_RSMP_EDGE_CHK n)).line_ line)

end Sys2Proof.Machine
end

