-- ==== Sys2Proof/Machine/MotOps.lean ====
section
/-! DEFINITION. Machine/MotOps.lean: the motion controller of a channel (spec/08_transport_motion.md): the ramp (R190, R191),
changes in motion (R193 to R196), stops (R197), coordinated moves (R198), homing (R199), the voltage-mode drive (R201,
R202) and the encoder cross-check (R205). Positions are in 2⁻⁴⁰ microstep, speeds in 2⁻⁴⁰ microstep per tick. -/

namespace Sys2Proof.Machine

/-- One microstep in internal units. -/
def uStep : Nat := 2 ^ 40

/-- A speed register in internal units (R191). -/
def cvSpeed (v : Nat) : Nat := (2 * v * 2 ^ 40 + 10 ^ 6) / (2 * 10 ^ 6)

/-- An acceleration register in internal units (R191). -/
def cvAcc (a : Nat) : Nat := (2 * a * 2 ^ 40 + 10 ^ 12) / (2 * 10 ^ 12)

/-- An internal speed in microsteps per second. -/
def speedReg (v : Nat) : Nat := (v * 10 ^ 6 + 2 ^ 39) / 2 ^ 40

/-- The registers of R190 for axis a. -/
def rampRegs (s : State) (n a : Nat) : RampSet :=
  { vstart := s.rd (MOTA_VSTART_V n a), vstop := s.rd (MOTA_VSTOP_V n a), v1 := s.rd (MOTA_V1_V n a),
    vmax := s.rd (MOTA_VMAX_V n a), a1 := s.rd (MOTA_A1_A n a), a2 := s.rd (MOTA_A2_A n a),
    d1 := s.rd (MOTA_D1_A n a), d2 := s.rd (MOTA_D2_A n a), dlim := s.rd (MOTA_DLIM_DLIM n a) }

/-- Ranges and conditions of R190. -/
def RampSet.ok (r : RampSet) : Bool :=
  1 ≤ r.vstart && 1 ≤ r.vstop && 1 ≤ r.v1 && 1 ≤ r.vmax && 1 ≤ r.a1 && 1 ≤ r.a2 && 1 ≤ r.d1 && 1 ≤ r.d2 &&
  1 ≤ r.dlim && r.vstart ≤ r.v1 && r.vstop ≤ r.v1 && r.v1 ≤ r.vmax && r.d1 ≤ r.dlim && r.d2 ≤ r.dlim

/-- Deceleration at a speed (R191). -/
def axisDec (x : AxisSt) (v : Nat) : Nat :=
  if x.ovr then cvAcc x.dstar else if cvSpeed x.set.v1 < v then cvAcc x.set.d2 else cvAcc x.set.d1

/-- Distance to stop at VSTOP, rounded up, at D1 and D2 (R191). -/
def brakeD (r : RampSet) (v : Nat) : Nat :=
  let v1 := cvSpeed r.v1
  let vs := cvSpeed r.vstop
  if v1 < v then ceilDiv (v * v - v1 * v1) (2 * cvAcc r.d2) + ceilDiv (v1 * v1 - vs * vs) (2 * cvAcc r.d1)
  else ceilDiv (v * v - vs * vs) (2 * cvAcc r.d1)

/-- The braking distance of a moving axis (R191, R196). -/
def axisBrake (x : AxisSt) (v : Nat) : Nat :=
  if x.ovr then ceilDiv (v * v - cvSpeed x.set.vstop * cvSpeed x.set.vstop) (2 * cvAcc x.dstar) else brakeD x.set v

/-- Remaining distance, negative past the target. -/
def axisAhead (x : AxisSt) : Int :=
  let d := x.tgt * uStep - x.p
  if x.fwd then d else -d

/-- Remaining distance (R191). -/
def axisRest (x : AxisSt) : Nat := (axisAhead x).toNat

/-- Move by d in the axis's direction. -/
def axisGoBy (x : AxisSt) (d : Nat) : AxisSt := { x with p := if x.fwd then x.p + d else x.p - d }

/-- One tick of a ramp towards the target (R191); the flag says that it arrived. -/
def rampStep (x : AxisSt) : AxisSt × Bool :=
  let r := axisRest x
  let vmax := cvSpeed x.set.vmax
  let x := if !x.braking && decide (r ≤ axisBrake x x.v + x.v) then { x with braking := true } else x
  let v :=
    if x.braking then max (x.v - axisDec x x.v) (cvSpeed x.set.vstop)
    else if x.v < vmax then
      min (x.v + (if x.v < cvSpeed x.set.v1 then cvAcc x.set.a1 else cvAcc x.set.a2)) vmax
    else if vmax < x.v then max (x.v - axisDec x x.v) vmax
    else x.v
  if r ≤ v then ({ x with p := x.tgt * uStep, v := 0 }, true)
  else (axisGoBy { x with v := v } v, false)

/-- One tick of a stop at deceleration d to VSTOP (R197); the flag says that it stands still. -/
def stopStep (x : AxisSt) (d : Nat) : AxisSt × Bool :=
  let vs := cvSpeed x.set.vstop
  if x.v ≤ vs then ({ x with v := 0 }, true)
  else let v := max (x.v - d) vs
       (axisGoBy { x with v := v } v, false)

/-! ## Axis state and registers. -/

def axis (s : State) (n a : Nat) : AxisSt := (s.ch n).mot.axes.get a

def setAxis (s : State) (n a : Nat) (x : AxisSt) : State := s.modMot n fun m => { m with axes := m.axes.set a x }

def modAxis (s : State) (n a : Nat) (f : AxisSt → AxisSt) : State := setAxis s n a (f (axis s n a))

/-- MOT_n_a_STAT.REF: the reference input is at the level that CFG.REFPOL calls active (R199).
[DEDUCED, unsafe: log entry 47] -/
def showRef (s : State) (n a : Nat) : State := s.wb (MOTA_STAT_REF n a) ((axis s n a).refIn == s.rb (MOTA_CFG_REFPOL n a))

def AxisSt.moving (x : AxisSt) : Bool := x.mode != .still

/-- MOT_n_a_STAT.STATE (R210). -/
def axisStateCode (s : State) (n a : Nat) : Nat :=
  let x := axis s n a
  if !s.rb (MOTA_CFG_EN n a) then 0
  else if s.rb (MOTA_STAT_FLT n a) then 6
  else match x.mode with
    | .still => 1
    | .home _ => 5
    | _ => if x.vPrev < x.v then 2 else if x.v < x.vPrev then 4 else 3

/-- The status registers of an axis show its state (R210). -/
def showAxis (s : State) (n a : Nat) : State :=
  let x := axis s n a
  let s := (s.wr (MOTA_POS_POS n a) (toBits 32 (x.p / (uStep : Int)))).wr (MOTA_SPEED_V n a) (speedReg x.v)
  let s := (s.wb (MOTA_SPEED_DIR n a) (x.moving && !x.fwd)).wr (MOTA_STAT_STATE n a) (axisStateCode s n a)
  let s := s.wb (MOTA_STAT_OVERRIDE n a) (x.ovr && x.moving)
  let s := s.wr (MOT_STAT_MOVING n) (withBit (s.rd (MOT_STAT_MOVING n)) a x.moving)
  let s := s.wr (MOT_STAT_FLT n) (withBit (s.rd (MOT_STAT_FLT n)) a (s.rb (MOTA_STAT_FLT n a)))
  s.wr (MOT_STAT_HOMED n) (withBit (s.rd (MOT_STAT_HOMED n)) a (s.rb (MOTA_STAT_HOMED n a)))

/-- The axis with a role that is enabled (R187). -/
def roleAxis (s : State) (n role : Nat) : Option Nat :=
  (List.range 4).find? fun a => s.rb (MOTA_CFG_EN n a) && s.rd (MOTA_CFG_ROLE n a) == role

/-- The feed axis (R187, R223). -/
def feedAxis (s : State) (n : Nat) : Option Nat := roleAxis s n 1

/-- An event of axis a. -/
def axisEv (e a : Nat) : Raise := (ev e).at_ 5 a

/-- Refuse a start or a write (R193, R210). -/
def axisRefuse (s : State) (n a cause : Nat) : State :=
  ((s.wr (MOTA_STAT_REFCAUSE n a) cause).bump (MOTA_CNT_REFUSED n a)).raise ((axisEv (EV_MOT_REFUSED n) a).code_ cause)

/-! ## Starts. -/

/-- The axis belongs to a running coordinated move. -/
def inGroup (s : State) (n a : Nat) : Bool := bit (s.rd (MOT_STAT_GROUP n)) a

/-- Why a start is refused whatever its target, if it is (R193, R198, R206, R207): a single move of an axis in a running group has a
cause of its own. Before the boot has homed the slide nothing else starts (R54, R66): the cause is not homed.
[DEDUCED, unsafe: log entry 49] -/
def startCause (s : State) (n a : Nat) (single : Bool) : Option Nat :=
  if single && inGroup s n a then some 7
  else if (axis s n a).moving then some 1
  else if !s.rb (MOTA_CFG_EN n a) || s.rb (MOTA_STAT_FLT n a) then some 4
  else if s.rough n || s.stopped n || s.safe then some 6
  else if s.bootHoming n then some 3
  else none

/-- Why a move to a target is refused, if it is (R187, R188, R190, R193, R206, R207).
[DEDUCED, unsafe: log entry 49] -/
def moveCause (s : State) (n a : Nat) (tgt : Int) (single : Bool) : Option Nat :=
  match startCause s n a single with
  | some c => some c
  | none =>
    if 2 ≤ s.rd (MOTA_CFG_ROLE n a) && !s.rb (MOTA_STAT_HOMED n a) then some 3
    else if tgt < sext 32 (s.rd (MOTA_MINPOS_LIM n a)) ∨ sext 32 (s.rd (MOTA_MAXPOS_LIM n a)) < tgt then some 2
    else if !(rampRegs s n a).ok then some 5
    else none

/-- A write of MOT_n_a_TGT as target, relative where REL is set (R192). -/
def regTarget (s : State) (n a : Nat) : Int :=
  let t := sext 32 (s.rd (MOTA_TGT_TGT n a))
  if s.rb (MOTA_CTL_REL n a) then (axis s n a).p / (uStep : Int) + t else t

/-- A move ends: end code, EV_MOT_END (R192), bridges off where a fault or the safe state asks for it.
[DEDUCED, unsafe: log entry 49] -/
def endMove (s : State) (n a code : Nat) : State :=
  let s := modAxis s n a fun x =>
    { x with mode := .still, v := 0, vPrev := 0, ovr := false, beyond := false, braking := false,
             bridgesOff := x.bridgesOff || x.offAfter, offAfter := false }
  showAxis ((s.wr (MOTA_STAT_END n a) code).raise ((axisEv (EV_MOT_END n) a).code_ code)) n a

/-- Begin a ramp to a target with a parameter set, the axis's own or a group's; a target equal to the position is reached at once (R191). -/
def beginMove (s : State) (n a : Nat) (tgt : Int) (set : RampSet) (by_ : MoveBy) (mode : MoveMode) : State :=
  let d := tgt * uStep - (axis s n a).p
  let s := modAxis s n a fun x =>
    { x with tgt := tgt, fwd := decide (0 ≤ d), mode := mode, by_ := by_, first := true, braking := false, ovr := false,
             dstar := 0, beyond := false, set := set, own := rampRegs s n a, testDec := false, startP := x.p, delta := d, v := 0,
             vPrev := 0, offAfter := false, bridgesOff := false, slipRun := 0 }
  showAxis s n a

/-- Start a single move of axis a; the flag says whether it was accepted (R192). -/
def axisMove (s : State) (n a : Nat) (tgt : Int) (by_ : MoveBy) : State × Bool :=
  match moveCause s n a tgt true with
  | some c => (axisRefuse s n a c, false)
  | none =>
    let s := beginMove s n a tgt (rampRegs s n a) by_ .ramp
    ((if (axis s n a).delta = 0 then endMove s n a 1 else s), true)

/-- Scale a follower's parameter to the master's distance (R198).
[DEDUCED, unsafe: log entry 49] -/
def scaled (x dm di : Nat) : Nat := x * dm / di

/-- The master's parameter set of a coordinated move: own values limited by every follower that moves (R198). -/
def groupSet (dm : Nat) (own : RampSet) (fs : List (RampSet × Nat)) : RampSet :=
  fs.foldl (fun r p =>
    if p.2 = 0 then r else
    { vstart := min r.vstart (scaled p.1.vstart dm p.2), vstop := min r.vstop (scaled p.1.vstop dm p.2),
      v1 := min r.v1 (scaled p.1.v1 dm p.2), vmax := min r.vmax (scaled p.1.vmax dm p.2),
      a1 := min r.a1 (scaled p.1.a1 dm p.2), a2 := min r.a2 (scaled p.1.a2 dm p.2),
      d1 := min r.d1 (scaled p.1.d1 dm p.2), d2 := min r.d2 (scaled p.1.d2 dm p.2),
      dlim := min r.dlim (scaled p.1.dlim dm p.2) }) own

/-- The axes of a mask, ascending. -/
def maskAxes (m : Nat) : List Nat := (List.range 4).filter (bit m)

/-- The axis of the largest distance; ties go to the lowest number (R198). -/
def groupMaster (ds : List (Nat × Nat)) : Option Nat :=
  (ds.foldl (fun (b : Option (Nat × Nat)) p => match b with
    | none => some p
    | some q => if q.2 < p.2 then some p else some q) none).map (·.1)

/-- A coordinated GO (R198): the whole group is refused if any axis in it is. -/
def groupGo (s : State) (n : Nat) : State :=
  let as := maskAxes (s.rd (MOT_CTL_GMASK n))
  let bad := as.filterMap fun a => (moveCause s n a (regTarget s n a) false).map fun c => (a, c)
  if !bad.isEmpty then bad.foldl (fun t p => axisRefuse t n p.1 p.2) s else
  let dist (a : Nat) : Nat := (regTarget s n a * uStep - (axis s n a).p).natAbs
  match groupMaster (as.map fun a => (a, dist a)) with
  | none => s
  | some m =>
    let set := groupSet (dist m) (rampRegs s n m)
      ((as.filter (· != m)).map fun a => (rampRegs s n a, dist a))
    let t := as.foldl (fun t a =>
      beginMove t n a (regTarget s n a) (if a = m then set else rampRegs s n a) .host (if a = m then .ramp else .follow)) s
    let t := (t.wr (MOT_STAT_GROUP n) (s.rd (MOT_CTL_GMASK n))).modMot n fun x => { x with master := some m }
    if dist m = 0 then
      (as.foldl (fun t a => endMove t n a 1) (t.wr (MOT_STAT_GROUP n) 0)).modMot n fun x => { x with master := none }
    else t

/-- Begin homing: towards the reference, or away from it where it is already active (R199). The boot homes the slide of a
channel that starts again in rough-cut mode too (R373). -/
def axisHome (s : State) (n a : Nat) (by_ : MoveBy) : State :=
  let v := s.rd (MOTA_HOMEV_HOMEV n a)
  let asked := if by_ = .boot then s.wr (EVT_ROUGH_ROUGH n) 0 else s
  match (startCause asked n a false).filter fun c => by_ != .boot || c != 3 with
  | some c => axisRefuse s n a c
  | none =>
    if v = 0 ∨ min (s.rd (MOTA_VSTART_V n a)) (s.rd (MOTA_VSTOP_V n a)) < v then axisRefuse s n a 5 else
    let ph := if s.rb (MOTA_STAT_REF n a) then 2 else 1
    let s := (s.wr (MOTA_STAT_HOMED n a) 0)
    let s := modAxis s n a fun x =>
      { x with mode := .home ph, by_ := by_, first := true, braking := false, ovr := false, beyond := false,
               set := rampRegs s n a, own := rampRegs s n a, refRun := 0, homeRun := 0, pLatch := none, offAfter := false,
               bridgesOff := false, slipRun := 0, v := 0, vPrev := 0 }
    showAxis s n a

/-! ## Stops (R197). -/

/-- The axis whose motion carries a: the master of its group, or itself. -/
def carrier (s : State) (n a : Nat) : Nat := if inGroup s n a then ((s.ch n).mot.master).getD a else a

/-- HALT (R197): does nothing on a standing axis, or on one already stopping in an emergency. -/
def axisHalt (s : State) (n a : Nat) : State :=
  let c := carrier s n a
  match (axis s n c).mode with
  | .still => s
  | .estop => s
  | _ => modAxis s n c fun x => { x with mode := .halt, first := false }

/-- ESTOP (R197). -/
def axisEstop (s : State) (n a : Nat) : State :=
  let c := carrier s n a
  match (axis s n c).mode with
  | .still => s
  | _ => modAxis s n c fun x => { x with mode := .estop, first := false }

def haltAll (s : State) (n : Nat) : State := iterate 4 s fun t a => axisHalt t n a

def estopAll (s : State) (n : Nat) : State := iterate 4 s fun t a => axisEstop t n a

/-- STAT.FLT, with the event that reports it; a step-check fault also clears HOMED (R204 to R206). -/
def axisFault (s : State) (n a : Nat) (stepCheck : Bool) : State :=
  let s := s.wr (MOTA_STAT_FLT n a) 1
  let s := if stepCheck then ((s.wr (MOTA_STAT_HOMED n a) 0).bump (MOTA_CNT2_STEPCHK n a)).raise (axisEv (EV_MOT_STEP_CHK n) a)
           else s.raise (axisEv (EV_MOT_SLIP n) a)
  showAxis s n a

/-- CLRFLT (R206). -/
def axisClrFlt (s : State) (n a : Nat) : State :=
  showAxis (modAxis (s.wr (MOTA_STAT_FLT n a) 0) n a fun x => { x with jumpOff := false }) n a

/-! ## Parameter writes (R194 to R196). -/

/-- Which of R190's parameters a register offset within an axis is. -/
def RampSet.put (r : RampSet) (off v : Nat) : RampSet :=
  if off = 0x18 then { r with vstart := v } else if off = 0x1C then { r with vstop := v }
  else if off = 0x20 then { r with v1 := v } else if off = 0x24 then { r with vmax := v }
  else if off = 0x28 then { r with a1 := v } else if off = 0x2C then { r with a2 := v }
  else if off = 0x30 then { r with d1 := v } else if off = 0x34 then { r with d2 := v }
  else if off = 0x38 then { r with dlim := v } else r

/-- The set in force for the axis that carries a: its own; the master of a group takes the least of its own value and its
followers' (R198). -/
def inForce (s : State) (n a : Nat) : RampSet :=
  let c := carrier s n a
  let x := axis s n c
  if inGroup s n a then
    groupSet x.delta.natAbs x.own (((maskAxes (s.rd (MOT_STAT_GROUP n))).filter (· != c)).map fun b =>
      ((axis s n b).own, (axis s n b).delta.natAbs))
  else x.own

/-- A write of VSTART to DLIM of axis a (R194): the flag says whether it was accepted. Standing, it is plainly written; moving, it is
judged against the axis's values in force, and a speed limit or a rate is in force at once.
[DEDUCED, unsafe: log entry 49] -/
def paramWrite (s : State) (n a off v : Nat) : State × Bool :=
  let f : Fld := ⟨0x18100 + chBase n + 0x100 * a + off, if off < 0x28 then 22 else 31, 0, .rw, 0⟩
  let x := axis s n a
  if !x.moving then (s.wr f v, true) else
  let own := x.own.put off (v % 2 ^ f.width)
  if !own.ok then (axisRefuse s n a 5, false) else
  let s := s.wr f v
  if off = 0x24 ∨ off = 0x28 ∨ off = 0x2C ∨ off = 0x30 ∨ off = 0x34 then
    let s := modAxis s n a fun x => { x with own := own }
    let set := inForce s n a
    (modAxis s n (carrier s n a) fun x => { x with set := set, testDec := x.testDec || off == 0x30 || off == 0x34 }, true)
  else (s, true)

/-- The test of a deceleration change at its tick (R196): the change stands, or D* replaces it, or DLIM does. A later change is
tested in the same way. -/
def decTest (s : State) (n a : Nat) : State :=
  let x := axis s n a
  if !x.testDec || x.mode != .ramp then modAxis s n a fun x => { x with testDec := false } else
  let r := axisRest x
  let vs := cvSpeed x.set.vstop
  if (brakeD x.set x.v : Int) ≤ axisAhead x then
    modAxis s n a fun x => { x with testDec := false, ovr := false, beyond := false } else
  let d := ceilDiv ((x.v * x.v - vs * vs) * 10 ^ 12) (max 1 (2 ^ 41 * r))
  let s := (s.bump (MOTA_CNT_OVERRIDE n a)).raise (axisEv (EV_MOT_OVERRIDE n) a)
  if r = 0 ∨ x.set.dlim < d then
    modAxis s n a fun x => { x with testDec := false, ovr := true, dstar := x.set.dlim, beyond := true }
  else modAxis s n a fun x => { x with testDec := false, ovr := true, dstar := d, beyond := false }

/-! ## Ticks. -/

/-- Distance past the target in whole microsteps at an overshoot (R196). -/
def pastTarget (x : AxisSt) : Nat := (-axisAhead x).toNat / uStep

/-- A move of axis a ends; an overshoot has its distance and its event (R196). An axis of a group that had no distance to go stands at
its target.
[DEDUCED, unsafe: log entry 49] -/
def endAxis (s : State) (n a code : Nat) : State :=
  let x := axis s n a
  if code ≠ 3 then endMove s n a code
  else if x.delta = 0 then endMove s n a 1
  else endMove ((s.wr (MOTA_OVERSHOOT_DIST n a) (pastTarget x)).raise (axisEv (EV_MOT_OVERSHOOT n) a)) n a code

/-- A group move ends: every axis of it ends with the master's code (R198). -/
def endGroup (s : State) (n m code : Nat) : State :=
  let as := maskAxes (s.rd (MOT_STAT_GROUP n))
  if inGroup s n m then
    ((as.foldl (fun t a => endAxis t n a code) s).wr (MOT_STAT_GROUP n) 0).modMot n fun x => { x with master := none }
  else endAxis s n m code

/-- The axis stops at once with its bridges off, without a ramp (R204, R207). With the master of a group every follower stands still,
since its position follows the master's; a follower leaves its group, which goes on.
[DESIGN CHOICE, safe: log entry 50] -/
def axisDrop (s : State) (n a : Nat) : State :=
  if !(axis s n a).moving then modAxis s n a fun x => { x with bridgesOff := true } else
  let s := modAxis s n a fun x => { x with offAfter := true }
  if carrier s n a = a then endGroup s n a 4
  else (endMove s n a 4).wr (MOT_STAT_GROUP n) (withBit (s.rd (MOT_STAT_GROUP n)) a false)

/-- The followers take their positions from the master, and a deceleration override of the master is theirs too (R198). -/
def followMaster (s : State) (n m : Nat) : State :=
  if !inGroup s n m then s else
  let x := axis s n m
  ((maskAxes (s.rd (MOT_STAT_GROUP n))).filter (· != m)).foldl (fun t a =>
    let t := modAxis t n a fun y =>
      let off := y.delta * (x.p - x.startP) * (if 0 ≤ x.delta then 1 else -1)
      let p := y.startP + roundAway off (max 1 x.delta.natAbs)
      { y with p := p, vPrev := y.v, v := (p - y.p).natAbs, first := false, ovr := x.ovr,
               c0 := if y.first then (t.ch n).pos.count else y.c0, p0 := if y.first then y.p else y.p0 }
    showAxis t n a) s

/-- One tick of an axis that ramps, halts or stops in an emergency. -/
def moveTick (s : State) (n a : Nat) : State :=
  let s := decTest s n a
  let x := axis s n a
  if x.first then
    followMaster (showAxis (modAxis s n a fun x =>
      { x with first := false, vPrev := 0, v := cvSpeed x.set.vstart, c0 := (s.ch n).pos.count, p0 := x.p }) n a) n a
  else
    let y := { x with vPrev := x.v }
    let r : AxisSt × Bool := match x.mode with
      | .halt => stopStep y (axisDec y y.v)
      | .estop => stopStep y (cvAcc y.set.dlim)
      | _ => if x.beyond then stopStep y (cvAcc y.set.dlim) else rampStep y
    let s := setAxis s n a r.1
    let s := followMaster s n a
    if r.2 then
      let code := match x.mode with | .halt => 2 | .estop => 4 | _ => if x.beyond then 3 else 1
      endGroup s n a code
    else showAxis s n a

/-- Homing fails (R199): the axis stops with HOMED 0. -/
def homeFail (s : State) (n a : Nat) : State :=
  let s := (modAxis s n a fun x => { x with mode := .still, v := 0, vPrev := 0 }).raise (axisEv (EV_MOT_HOME_FAIL n) a)
  showAxis s n a

/-- Homing completes: the position counts from the latched reference (R199 step 4). -/
def homeDone (s : State) (n a : Nat) : State :=
  let s := modAxis s n a fun x =>
    { x with mode := .still, v := 0, vPrev := 0,
             p := sext 32 (s.rd (MOTA_HOMEPOS_POS n a)) * uStep + (x.p - x.pLatch.getD x.p) }
  let s := modAxis s n a fun x =>
    { x with c0 := (s.ch n).pos.count, p0 := x.p, sumOwn := x.p / (uStep : Int), dSum := x.p / (uStep : Int),
             dPos := x.p / (uStep : Int) }
  showAxis ((s.wr (MOTA_STAT_HOMED n a) 1).raise (axisEv (EV_MOT_HOMED n) a)) n a

/-- One tick of a homing axis (R199), with the reference as the status copy shows it.
[DEDUCED, unsafe: log entry 49] -/
def homeTick (s : State) (n a phase : Nat) : State :=
  let s := modAxis s n a fun x =>
    if x.first then { x with first := false, c0 := (s.ch n).pos.count, p0 := x.p } else x
  let x := axis s n a
  let ref := s.rb (MOTA_STAT_REF n a)
  let hv := s.rd (MOTA_HOMEV_HOMEV n a)
  let toward := s.rb (MOTA_CFG_HOMEDIR n a)
  let fwd := if phase = 2 then !toward else toward
  let v := cvSpeed (if phase = 1 then hv else ceilDiv hv 4)
  let want := if phase = 2 then !ref else ref
  let run := if want then x.refRun + 1 else 0
  let lat := if phase = 3 ∧ ref ∧ x.pLatch.isNone then some x.p else x.pLatch
  let s := modAxis s n a fun x => { x with refRun := run, pLatch := lat, fwd := fwd }
  if 20 ≤ run then
    if phase = 3 then homeDone s n a
    else showAxis (modAxis s n a fun x =>
      { x with mode := .home (phase + 1), refRun := 0, v := 0, vPrev := 0, homeRun := if phase = 1 then 0 else x.homeRun }) n a
  else
    let s := modAxis s n a fun x => axisGoBy { x with v := v, vPrev := v, homeRun := x.homeRun + v } v
    let lim := s.rd (MOTA_HOMEMAX_MAX n a)
    let over_ := if phase = 1 then decide (lim * uStep < x.homeRun + v) else decide (lim * uStep < 16 * (x.homeRun + v))
    if over_ then homeFail s n a else showAxis s n a

/-- The encoder cross-check begins: ENCCHK is set (R205). -/
def slipBegin (s : State) (n a : Nat) : State :=
  modAxis s n a fun x => { x with c0 := (s.ch n).pos.count, p0 := x.p, slipRun := 0 }

/-- The supply correction takes a value, which goes to the drive die (R202, R16). -/
def csupPut (s : State) (n v : Nat) : State := driveForward (s.wr (MOT_VMEAS_CSUP n) v) (MOT_VMEAS_CSUP n).addr

/-- The encoder cross-check of a tick (R205). -/
def slipTick (s : State) (n a : Nat) : State :=
  if !s.rb (MOTA_CFG_ENCCHK n a) then s else
  let x := axis s n a
  let e := ((s.ch n).pos.count - x.c0) -
    roundAway ((x.p - x.p0) * sext 32 (s.rd (MOTA_ENCRATIO_RATIO n a))) (65536 * uStep)
  let s := s.wr (MOTA_ENCERR_E n a) (toBits 32 e)
  let run := if s.rd (MOTA_ENCTOL_TOL n a) < e.natAbs then x.slipRun + 1 else 0
  let s := modAxis s n a fun x => { x with slipRun := run }
  if run = 100 then axisFault (axisEstop s n a) n a false else s

/-- One tick of one axis; followers move with their master. -/
def axisTick (s : State) (n a : Nat) : State :=
  let s := match (axis s n a).mode with
    | .still => s
    | .follow => s
    | .home ph => homeTick s n a ph
    | _ => moveTick s n a
  slipTick s n a

/-- A ramp tick of channel n (R191). -/
def rampTick (s : State) (n : Nat) : State := iterate 4 s fun t a => axisTick t n a

/-! ## Voltage-mode drive (R200 to R202). -/

/-- Sine table entry i of axis a: A and B in 1/16,384 (R200). -/
def sineEntry (tabs : List (Nat × Byte)) (a i : Nat) : Int × Int :=
  let w := leNat (readBytes tabs (0x68000 + 0x1000 * a + 4 * i) 4)
  (sext 16 (bits w 15 0), sext 16 (bits w 31 16))

/-- The checks of R200 on axis a's table. -/
def sineOk (tabs : List (Nat × Byte)) (a : Nat) : Bool :=
  (List.range 1024).all fun i =>
    let ab := sineEntry tabs a i
    let q := i / 256
    decide (-16384 ≤ ab.1 ∧ ab.1 ≤ 16384 ∧ -16384 ≤ ab.2 ∧ ab.2 ≤ 16384) &&
    (if q = 0 ∨ q = 3 then decide (0 ≤ ab.1) else decide (ab.1 ≤ 0)) &&
    (if q ≤ 1 then decide (0 ≤ ab.2) else decide (ab.2 ≤ 0))

/-- Lead in microsteps at a speed (R201). -/
def leadOf (s : State) (n a : Nat) : Nat := s.rd (MOTA_FF_LEAD n a) * speedReg (axis s n a).v / 2 ^ 24

/-- Table index (R201). -/
def tableIndex (moving fwd : Bool) (pos : Int) (lead : Nat) : Nat :=
  ((if moving then (if fwd then pos + lead else pos - lead) else pos) % 1024).toNat

/-- Amplitude in U1.15 before feed-forward (R202), of the amplitudes and the feed-forward that the drive die has (R16).
[DEDUCED, unsafe: log entry 65] -/
def driveAmp (s : State) (n a : Nat) : Nat :=
  let x := axis s n a
  let k := if !x.moving then MOTA_K_HOLDK n a else if x.vPrev < x.v then MOTA_K_ACCK n a
    else if x.v < x.vPrev then MOTA_K_DECK n a else MOTA_K_RUNK n a
  min (128 * driveRd s k + driveRd s (MOTA_FF_BEMF n a) * speedReg x.v / 65536) 32767

/-- Duties of both phases in 1/4,096 and whether one was limited (R202). -/
def duties (amp csup : Nat) (ab : Int × Int) (dirinv : Bool) : Int × Int × Bool :=
  let as := min (amp * csup / 16384) 32767
  let d (v : Int) : Int := roundAway (as * v) 131072
  let dA := d ab.1
  let dB := d (if dirinv then -ab.2 else ab.2)
  (clampI dA (-4095) 4095, clampI dB (-4095) 4095,
   decide (4095 < dA.natAbs) || decide (4095 < dB.natAbs))

/-- Drive clocks a bridge is on in a period of p clocks (R203). -/
def onClocks (d : Int) (p : Nat) : Nat := d.natAbs * p / 4096

/-- The bridge's code during its on-time and off-time (R203), (xH, xL) as 0 off, 1 forward, 2 reverse, 3 brake. -/
def bridgeCodes (d : Int) (decay : Bool) : Nat × Nat :=
  let idle := if decay then 0 else 3
  if 0 < d then (1, idle) else if d < 0 then (2, idle) else (idle, idle)

/-- A change of code at a drive clock, with the dead time between two codes other than off (R203).
[DEDUCED, unsafe: log entry 14] -/
def codeChange (dead at_ old new : Nat) : List (Nat × Nat) :=
  if old = new then [] else if old = 0 ∨ new = 0 ∨ dead = 0 then [(at_, new)] else [(at_, 0), (at_ + dead, new)]

/-- The codes of a bridge in a period of p drive clocks that begins at clock `base`: the off-time's, the on-time's in the centre, and
the off-time's again; each holds from its clock on (R203). An on-time no longer than the dead time stays off.
[DEDUCED, unsafe: log entry 14] -/
def bridgePlan (base p dead : Nat) (d : Int) (decay : Bool) : List (Nat × Nat) :=
  let on := onClocks d p
  let c := bridgeCodes d decay
  let t := base + (p - on) / 2
  let rise := (codeChange dead t c.2 c.1).filter fun e => e.1 < t + on
  (base, c.2) :: (if on = 0 then [] else rise ++ codeChange dead (t + on) c.1 c.2)

/-- Every MOT counter (R210). -/
def motCounters (n : Nat) : List Fld :=
  (List.range 4).flatMap fun a =>
    [MOTA_CNT_REFUSED n a, MOTA_CNT_OVERRIDE n a, MOTA_CNT2_SAT n a, MOTA_CNT2_STEPCHK n a]

/-- The checks of R187, R190 and R200 on a channel's motion content (EV_MOT_TABLE_BAD), on a register file and tables. -/
def motOk (s : State) (n : Nat) (tabs : List (Nat × Byte)) : Bool :=
  let as := List.range 4
  decide ((as.filter fun a => s.rd (MOTA_CFG_ROLE n a) == 1).length ≤ 1) &&
  decide ((as.filter fun a => s.rd (MOTA_CFG_ROLE n a) == 2).length ≤ 1) &&
  as.all (fun a => (rampRegs s n a).ok && sineOk tabs a)

end Sys2Proof.Machine
end

