-- ==== Sys2Proof/Machine/PosOps.lean ====
section
/-! DEFINITION. Machine/PosOps.lean: the position interface of a channel (spec/07_position_feedback.md): counting (R169, R171),
references, drift and correction (R173 to R175), the divider's thresholds (R176 to R178), compare lists and the divided output
(R180), speed (R181) and absolute reads (R182, R183). Ticks are sampling periods of 2/3 ns; thresholds are in 2⁻³² count. -/

namespace Sys2Proof.Machine

/-- Ceiling of a number in 2⁻³² (R177). -/
def ceil32 (v : Int) : Int := -((-v) / 4294967296)

/-- The pitch in 2⁻³² count; below 1.0 it acts as 1.0 (R176). -/
def posPitch (s : State) (n : Nat) : Int :=
  max (2 ^ 32) ((s.rd64 (POS_PITCH_LO_FRAC n) (POS_PITCH_HI_INT n) : Nat) : Int)

def posOf (s : State) (n : Nat) : PosSt := (s.ch n).pos

/-- Show count, mark and status bits in the registers (R186). -/
def showPos (s : State) (n : Nat) : State :=
  let p := posOf s n
  let s := s.wr64 (POS_COUNT_LO_COUNT n) (POS_COUNT_HI_COUNT n) (toBits 64 p.count)
  let s := s.wr64 (POS_HWM_LO_HWM n) (POS_HWM_HI_HWM n) (toBits 64 p.hwm)
  let s := (s.wb (POS_STAT_GATED n) (p.count < p.hwm)).wb (POS_STAT_OVLP n) p.ovlArmed
  let s := match p.absLat with
    | some l => s.wr64 (POS_ABSLAT_LO_COUNT n) (POS_ABSLAT_HI_COUNT n) (toBits 64 l)
    | none => s
  s.wb (POS_STAT_CORRPEND n) p.corr.isSome

/-- Latch the count of a read whose latch instant has come before a count change at `tick` (R183). -/
def absLatch (p : PosSt) (tick : Nat) : PosSt :=
  match p.absAt, p.absLat with
  | some t, none => if t ≤ tick then { p with absLat := some p.count } else p
  | _, _ => p

/-! ## Counting (R169, R171). -/

/-- What a change of A and B does. -/
inductive QuadStep where
  | none
  | move (up : Bool)
  | error
  deriving DecidableEq, Repr

/-- The count change of a transition (R169, R171). -/
def quadStep (mode : Nat) (inv a0 b0 a1 b1 : Bool) : QuadStep :=
  if mode = 2 then (if !a0 && a1 then .move (b1 != inv) else .none)
  else if a0 != a1 && b0 != b1 then .error
  else if a0 != a1 then
    (if mode = 1 && a0 then .none else .move ((a1 != b1) != inv))
  else if b0 != b1 then (if mode = 1 then .none else .move ((b1 == a1) != inv))
  else .none

/-! ## Speed (R181). -/

/-- SPER and STO in ticks. -/
def sperTicks (s : State) (n : Nat) : Nat := max 1 (s.rd (POS_SPDCFG_SPER n)) * 1500
def stoTicks (s : State) (n : Nat) : Nat := max 1 (s.rd (POS_SPDCFG_STO n)) * 15000

/-- The two changes the estimate is taken from: the newest and the oldest within SPER, or the newest two. -/
def speedPair (cs : List (Nat × Int)) (now sper : Nat) : Option ((Nat × Int) × (Nat × Int)) :=
  match cs with
  | x :: y :: _ =>
    let inn := cs.filter fun c => decide (now ≤ c.1 + sper)
    if 2 ≤ inn.length then some (x, inn.getLastD y) else some (x, y)
  | _ => none

/-- Magnitude of the estimate: round(1.5 × 10⁹ × Δcount ÷ Δticks). -/
def speedMag (cs : List (Nat × Int)) (now sper : Nat) : Nat :=
  match speedPair cs now sper with
  | some (x, y) =>
    let dt := x.1 - y.1
    if dt = 0 then 0 else (2 * 1500000000 * (x.2 - y.2).natAbs + dt) / (2 * dt)
  | none => 0

/-- Show a new estimate and judge overspeed. -/
def speedShow (s : State) (n tick : Nat) : State :=
  let p := posOf s n
  let m := min (speedMag p.changes tick (sperTicks s n)) (2 ^ 28 - 1)
  let low := match p.changes, p.wTick with | x :: _, some w => decide (x.1 < w + sperTicks s n) | _, _ => false
  let s := (s.wr (POS_SPEED_MAG n) m).wb (POS_SPEED_LOWCONF n) low
  let lim := s.rd (POS_SPDLIM_LIM n)
  if lim ≠ 0 ∧ lim < m then
    (s.modPos n fun p => { p with overSpeed := true }).raiseIf (!p.overSpeed) (ev (EV_POS_OVERSPEED n))
  else if lim = 0 ∨ m < lim then s.modPos n fun p => { p with overSpeed := false }
  else s

/-- Changes kept: the newest two, and every one within SPER of the newest. -/
def keepChanges (cs : List (Nat × Int)) (now sper : Nat) : List (Nat × Int) :=
  cs.take 2 ++ (cs.drop 2).filter fun c => decide (now ≤ c.1 + sper)

/-- A count change at a tick enters the window. -/
def speedChange (s : State) (n tick : Nat) (up : Bool) : State :=
  let p := posOf s n
  let still := match p.lastChange with | some t => decide (t + stoTicks s n ≤ tick) | none => true
  let rev := s.rb (POS_SPEED_DIR n) == up
  let s := (s.wb (POS_SPEED_DIR n) (!up)).modPos n fun p =>
    { p with lastChange := some tick,
             wTick := if still || rev then some tick else p.wTick,
             changes := if still || rev then [(tick, p.count)]
                        else keepChanges ((tick, p.count) :: p.changes) tick (sperTicks s n) }
  let s := if still then s.wr (POS_SPEED_VALID n) 0 else if rev then s else s.wr (POS_SPEED_VALID n) 1
  speedShow s n tick

/-- The periodic recomputation (R181). -/
def speedUpdate (s : State) (n tick : Nat) : State :=
  let p := posOf s n
  match p.lastChange with
  | none => s
  | some t =>
    if t + stoTicks s n ≤ tick then
      let s := (s.wr (POS_SPEED_MAG n) 0).wr (POS_SPEED_VALID n) 0
      s.modPos n fun p => { p with overSpeed := false, changes := p.changes.take 1 }
    else speedShow s n tick

/-! ## Compare lists and the divided output (R180). -/

/-- Header and entry fields of compare list c. -/
def cmpBase (tabs : List (Nat × Byte)) (c : Nat) : Int := sext 64 (leNat (readBytes tabs (0x64000 + 0x1000 * c) 8))
def cmpPeriod (tabs : List (Nat × Byte)) (c : Nat) : Nat := leNat (readBytes tabs (0x64000 + 0x1000 * c + 8) 4)
def cmpCount (tabs : List (Nat × Byte)) (c : Nat) : Nat := leNat (readBytes tabs (0x64000 + 0x1000 * c + 12) 2)
def cmpIdle (tabs : List (Nat × Byte)) (c : Nat) : Bool := bit (leNat (readBytes tabs (0x64000 + 0x1000 * c + 14) 1)) 0

structure CmpEntry where
  p : Int
  width : Nat
  action : Nat
  dir : Nat
  deriving DecidableEq, Repr

def cmpEntry (tabs : List (Nat × Byte)) (c e : Nat) : CmpEntry :=
  let o := 0x64000 + 0x1000 * c + 16 + 16 * e
  let k := leNat (readBytes tabs (o + 10) 1)
  { p := sext 64 (leNat (readBytes tabs o 8)), width := leNat (readBytes tabs (o + 8) 2), action := bits k 1 0, dir := bits k 3 2 }

/-- The staging checks of a compare list (R180). -/
def cmpListOk (tabs : List (Nat × Byte)) (c : Nat) : Bool :=
  let k := cmpCount tabs c
  let es := (List.range k).map (cmpEntry tabs c)
  let per := cmpPeriod tabs c
  let b := 0x64000 + 0x1000 * c
  k ≤ 255 && decide (es.Pairwise fun x y => x.p < y.p) &&
  (per == 0 || es.all fun e => decide (0 ≤ e.p) && decide (e.p < per)) &&
  es.all (fun e => e.dir ≤ 2) &&
  leNat (readBytes tabs (b + 14) 1) ≤ 1 && leNat (readBytes tabs (b + 15) 1) == 0 &&
  (List.range k).all (fun e =>
    bits (leNat (readBytes tabs (b + 26 + 16 * e) 1)) 7 4 == 0 && (readBytes tabs (b + 27 + 16 * e) 5).all (· == 0))

/-- Level of compare output c. -/
def cmpLevel (s : State) (n c : Nat) : Bool := bit (s.rd (POS_CMPCTL_LEVEL n)) c

def setCmp (s : State) (n c : Nat) (l : Bool) : State :=
  s.wr (POS_CMPCTL_LEVEL n) (withBit (s.rd (POS_CMPCTL_LEVEL n)) c l)

/-- An entry fires. -/
def cmpFire (s : State) (n c tick : Nat) (e : CmpEntry) : State :=
  if e.action = 0 then
    (setCmp s n c (!cmpIdle (s.ch n).tabs c)).modPos n fun p => { p with cmpPulse := p.cmpPulse.set c (some (tick + 15 * e.width)) }
  else if e.action = 1 then setCmp s n c true
  else if e.action = 2 then setCmp s n c false
  else setCmp s n c (!cmpLevel s n c)

/-- The list's coordinate of a count. -/
def cmpX (tabs : List (Nat × Byte)) (c : Nat) (count : Int) : Int :=
  let x := count - cmpBase tabs c
  if cmpPeriod tabs c = 0 then x else x % (cmpPeriod tabs c : Int)

/-- Evaluate every enabled list for a step of one count from `count`. -/
def cmpStep (s : State) (n tick : Nat) (count : Int) (up : Bool) : State :=
  let tabs := (s.ch n).tabs
  iterate 4 s fun s c =>
    if !bit (s.rd (POS_CMPCTL_EN n)) c then s else
    let x := if up then cmpX tabs c (count + 1) else cmpX tabs c count
    ((List.range (cmpCount tabs c)).map (cmpEntry tabs c)).foldl (fun s e =>
      if e.p = x ∧ (if up then e.dir ≠ 1 else e.dir ≠ 0) then cmpFire s n c tick e else s) s

/-- The forward steps of a correction, in ascending order; none backwards (R180). -/
def cmpCorrection (s : State) (n tick : Nat) (count c : Int) : State :=
  (List.range c.toNat).foldl (fun (s : State) (i : Nat) => cmpStep s n tick (count + (i : Int)) true) s

/-- A compare pulse's width expires (R180). -/
def cmpPulseEnd (s : State) (n c tick : Nat) : State :=
  match ((posOf s n).cmpPulse[c]?).bind id with
  | some t =>
    if t ≤ tick then (setCmp s n c (cmpIdle (s.ch n).tabs c)).modPos n fun p => { p with cmpPulse := p.cmpPulse.set c none } else s
  | none => s

/-- Outputs whose list is not enabled rest at the list's idle level (R180). -/
def cmpRest (s : State) (n : Nat) : State :=
  iterate 4 s fun s c =>
    if bit (s.rd (POS_CMPCTL_EN n)) c then s
    else (setCmp s n c (cmpIdle (s.ch n).tabs c)).modPos n fun p => { p with cmpPulse := p.cmpPulse.set c none }

/-- A write of POS_n_CMPCTL.EN. -/
def cmpEnable (s : State) (n en : Nat) : State := cmpRest (s.wr (POS_CMPCTL_EN n) en) n

/-! ## The test generator (R181). -/

/-- Levels of the generator's A and B. -/
def PosGen.a (g : PosGen) : Bool := g.phase == 1 || g.phase == 2
def PosGen.b (g : PosGen) : Bool := g.phase == 2 || g.phase == 3

/-- Control clocks pass: six sampling periods each, in which the accumulator advances by RATE.
[DESIGN CHOICE, unsafe: log entry 66] -/
def genAdvance (s : State) (clocks : Nat) : State :=
  iterate 4 s fun s n =>
    if !s.rb (POS_GEN_RUN n) then s else
    let rate := s.rd (POS_GENRATE_RATE n)
    s.modPos n fun p =>
      let t := p.gen.acc + 6 * clocks * rate
      { p with gen := { p.gen with acc := t % 2 ^ 31, due := p.gen.due + t / 2 ^ 31 } }

/-- The generator's next count change, if its accumulator has overflowed. Every TEETH cycles of A comes a reference tooth: in a missing
one A and B rest for a cycle; in an extra one two cycles take the time of one. With each the index is given.
[DESIGN CHOICE, unsafe: log entry 66] -/
def genStep (g : PosGen) (down : Bool) (tooth teeth : Nat) : Option PosGen :=
  let special := teeth != 0 && g.cycle + 1 == teeth
  let cost := if special && tooth == 2 then 1 else 2
  if g.due < cost then none else
  let phase := if special && tooth == 1 then g.phase else if down then (g.phase + 3) % 4 else (g.phase + 1) % 4
  let full := (if special && tooth == 2 then 8 else 4) ≤ g.place + 1
  let wraps := full && special
  some { g with due := g.due - cost, phase := phase, place := if full then 0 else g.place + 1,
                cycle := if !full then g.cycle else if special || teeth == 0 then 0 else g.cycle + 1, index := g.index || wraps }

/-- The levels that the count source gives: the generator's with POS_n_GEN.LOOP set, else the pins'. A change of LOOP is itself no edge.
[DESIGN CHOICE, unsafe: log entry 66] -/
def genSelect (s : State) (n : Nat) : State :=
  let loop := s.rb (POS_GEN_LOOP n)
  s.modPos n fun p => if loop then { p with a := p.gen.a, b := p.gen.b } else { p with a := p.pinA, b := p.pinB }

/-- A write of POS_n_DIVCFG: PS_n_DIV is low with SRC 0, and between pulses with SRC 2; with SRC 3 it follows the generator's A (R180). -/
def divSelect (s : State) (n : Nat) : State :=
  let src := s.rd (POS_DIVCFG_SRC n)
  s.modPos n fun p =>
    if src = 0 then { p with divLevel := false, divEnd := none }
    else if src = 2 then { p with divLevel := p.divEnd.isSome }
    else if src = 3 then { p with divLevel := p.gen.a, divEnd := none }
    else { p with divEnd := none }

/-- The divided output's square wave (SRC 1). -/
def divCount (s : State) (n : Nat) : State :=
  if s.rd (POS_DIVCFG_SRC n) ≠ 1 then s else
  let half := max 1 (s.rd (POS_DIVCFG_N n) / 2)
  s.modPos n fun p =>
    if half ≤ p.divCtr + 1 then { p with divCtr := 0, divLevel := !p.divLevel } else { p with divCtr := p.divCtr + 1 }

/-- The divided output's pulse at a trigger (SRC 2). -/
def divPulse (s : State) (n tick : Nat) : State :=
  if s.rd (POS_DIVCFG_SRC n) ≠ 2 then s else
  s.modPos n fun p => { p with divLevel := true, divEnd := some (tick + 3 * max 1 (s.rd (POS_DIVCFG_WIDTH n))) }

def divPulseEnd (s : State) (n tick : Nat) : State :=
  match (posOf s n).divEnd with
  | some t => if t ≤ tick then s.modPos n fun p => { p with divLevel := false, divEnd := none } else s
  | none => s

/-! ## References, drift and correction (R173 to R175). -/

/-- A difference into −CPR ÷ 2 < d ≤ CPR ÷ 2 (R174). -/
def wrapCpr (v : Int) (cpr : Nat) : Int :=
  let r := v % (cpr : Int)
  if (cpr : Int) < 2 * r then r - cpr else r

/-- A checked reference (R174, R175).
[DEDUCED, unsafe: log entry 47] -/
def driftCheck (s : State) (n : Nat) (latched : Int) : State :=
  let cpr := s.rd (POS_CPR_CPR n)
  let d := wrapCpr (latched - s.rd (POS_REFEXP_REXP n)) cpr
  let s := (s.wr (POS_DRIFT_LAST n) (toBits 16 (clampI d (-32768) 32767))).peak (POS_DRIFT_MAX n) d.natAbs
  if d.natAbs ≤ s.rd (POS_DRIFTTOL_TOL n) then
    (s.wr (POS_STAT_SUSPECT n) 0).modPos n fun p => { p with corr := none }
  else
    let on := s.rb (POS_CFG_DRIFTCORR n)
    let far := decide (s.rd (POS_DRIFTTOL_CORRMAX n) < d.natAbs)
    let s := s.raise (((ev (EV_POS_DRIFT n)).code_ (if !on then 2 else if far then 1 else 0)).detail_
      (toBits 32 (clampI d (-2147483648) 2147483647)))
    s.modPos n fun p => { p with corr := if on && !far then some (-d) else none }

/-- A reference latches the count (R173) and is checked (R174). -/
def reference (s : State) (n : Nat) : State :=
  let c := (posOf s n).count
  let s := (s.wr64 (POS_REFLAT_LO_COUNT n) (POS_REFLAT_HI_COUNT n) (toBits 64 c)).modPos n fun p =>
    { p with refBase := c, refLost := false }
  let cpr := s.rd (POS_CPR_CPR n)
  if cpr = 0 then s else
  let armed := s.rb (POS_STAT_ARMED n)
  let s := s.wr (POS_STAT_ARMED n) 1
  if !armed && !s.rb (POS_CFG_REFMODE n) then s.wr (POS_REFEXP_REXP n) (c % (cpr : Int)).toNat
  else showPos (driftCheck s n c) n

/-- A qualified index edge (R173 source 0). -/
def indexEdge (s : State) (n : Nat) : State :=
  let p := posOf s n
  let z := s.rd (POS_CFG_ZGATE n)
  let src := s.rd (POS_CFG_REFSRC n)
  if (src = 0 ∨ src = 3) ∧ (z = 0 ∨ !bit z 2 ∨ (p.a == bit z 0 ∧ p.b == bit z 1)) then reference s n else s

/-- A rising edge of A ends a tooth interval (R173 sources 1 and 2). -/
def toothEdge (s : State) (n tick : Nat) (up : Bool) : State :=
  let p := posOf s n
  let src := s.rd (POS_CFG_REFSRC n)
  let same := p.riseFwd == up
  let tau := match p.rise with | some t => if same then some (tick - t) else none | none => none
  let s' := s.modPos n fun p => { p with rise := some tick, riseFwd := up, gap := tau }
  match tau, (if same then p.gap else none) with
  | some k, some k1 =>
    let miss := clampI (s.rd (POS_TOOTH_MISS n)) 24 64
    let extra := clampI (s.rd (POS_TOOTH_EXTRA n)) 2 12
    let hit := (src = 1 ∧ miss * k1 ≤ 16 * k) ∨ (src = 2 ∧ 16 * (k : Int) ≤ extra * k1)
    if s.rb (POS_SPEED_VALID n) && !s.rb (POS_SPEED_LOWCONF n) && decide hit then reference s' n else s'
  | _, _ => s'

/-- Too far from the last reference (R174). -/
def refLostCheck (s : State) (n : Nat) : State :=
  let p := posOf s n
  let cpr := s.rd (POS_CPR_CPR n)
  if cpr ≠ 0 ∧ !p.refLost ∧ 3 * cpr ≤ 2 * (p.count - p.refBase).natAbs then
    (s.modPos n fun p => { p with refLost := true }).raise (ev (EV_POS_REFLOST n))
  else s

/-- A correction step: count, threshold and high-water mark move together (R175); none with CPR 0 (R174). `line`: the line of its trigger. -/
def correct (s : State) (n tick : Nat) (line : Option Nat) : State :=
  if s.rd (POS_CPR_CPR n) = 0 then s else
  match (posOf s n).corr with
  | none => s
  | some c =>
    let s := s.modPos n fun p => absLatch p tick
    let s := cmpCorrection s n tick (posOf s n).count c
    let s := s.modPos n fun p =>
      { p with corr := none, count := p.count + c, nt := p.nt + c * 4294967296, hwm := p.hwm + c,
               overlap := p.overlap.map fun o => (o.1, o.2 + c * 4294967296),
               changes := p.changes.map fun x => (x.1, x.2 + c) }
    let s := (s.wr (POS_CORR_C n) (toBits 32 c)).wr (POS_STAT_SUSPECT n) 0
    let s := match line with
      | some l => s.wr64 (POS_CORRLINE_LO_LINE n) (POS_CORRLINE_HI_LINE n) l
      | none => s
    showPos (s.raise ((ev (EV_POS_CORR n)).line_ (line.getD 0))) n

/-- The high-water gate after a count change (R178). -/
def gateCheck (s : State) (n : Nat) : State :=
  let p := posOf s n
  let deep := decide (posPitch s n < (p.hwm - p.count) * 4294967296)
  if deep && p.gateArmed then
    ((s.modPos n fun p => { p with gateArmed := false }).bump (POS_CNT2_GATE n)).raise (ev (EV_POS_GATE n))
  else if !deep then s.modPos n fun p => { p with gateArmed := true } else s

/-! ## Presets and absolute reads (R172, R183). -/

/-- The count takes a new value that is no motion: a preset or an absolute load. -/
def loadCount (s : State) (n : Nat) (c : Int) : State :=
  let s := (s.wr (POS_STAT_SUSPECT n) 0).wr (POS_STAT_ARMED n) 0
  let s := s.modPos n fun p => absLatch p (s.tick 0)
  let s := s.modPos n fun p =>
    { p with count := c, corr := none, refBase := c, changes := p.changes.map fun x => (x.1, x.2 + (c - p.count)),
             gateArmed := decide ((p.hwm - c) * 4294967296 ≤ posPitch s n) }
  showPos s n

/-- POS_n_CTL.PRESET (R172).
[DEDUCED, unsafe: log entry 47] -/
def posPreset (s : State) (n : Nat) : State :=
  if s.runBit n then s.bump (POS_CNT2_REFUSED n) else
  let v := sext 64 (s.rd64 (POS_PRESET_LO_VALUE n) (POS_PRESET_HI_VALUE n))
  let l := s.rd64 (POS_LINE_LO_LINE n) (POS_LINE_HI_LINE n)
  (loadCount s n v).modPos n fun p => { p with line := l }

/-- POS_n_CTL.LOADABS (R183).
[DEDUCED, unsafe: log entry 47] -/
def absLoad (s : State) (n : Nat) : State :=
  match (posOf s n).absGood with
  | some m => if s.running n then s.bump (POS_CNT2_REFUSED n) else loadCount s n ((posOf s n).count - m)
  | none => s.bump (POS_CNT2_REFUSED n)

/-- An absolute read is requested (R183): merged into a read in progress; none with the protocol off. The first clock edge of its frame
comes at once, on SSI once the clock has idled for WAIT (R182).
[PRESUMED, unsafe: log entry 48] -/
def absRead (s : State) (n tick : Nat) : State :=
  if s.rd (POS_ABSCFG_PROT n) = 0 ∨ s.rb (POS_STAT_ABSBUSY n) then s else
  (s.wr (POS_STAT_ABSBUSY n) 1).modPos n fun p =>
    { p with absAt := some (max tick p.absFree + 15 * s.rd (POS_ABSCFG_LATDLY n)), absLat := none }

/-- Gray code to binary over k bits. -/
def grayToBin (k v : Nat) : Nat :=
  ((List.range k).foldl (fun (acc : Nat × Bool) i =>
    let b := bit v (k - 1 - i) != acc.2
    (acc.1 + b2n b * 2 ^ (k - 1 - i), b)) (0, false)).1

/-- The bits of a number, most significant first. -/
def bitsMsb (k v : Nat) : List Bool := (List.range k).map fun i => bit v (k - 1 - i)

/-- A CRC of width w over bits, start value 0 (R182). -/
def crcBits (w poly : Nat) (bs : List Bool) : Nat :=
  bs.foldl (fun r b =>
    let top := bit r (w - 1) != b
    let sh := r * 2 % 2 ^ w
    if top then sh ^^^ (poly % 2 ^ w) else sh) 0

/-- Is the word of a frame good (R182, R183)?
[PRESUMED, unsafe: log entry 48] -/
def absGoodFrame (s : State) (n : Nat) (f : AbsFrame) : Bool :=
  let k := s.rd (POS_ABSCFG_BITS n)
  let eb := s.rd (POS_ABSCFG_ERRBITS n)
  if s.rd (POS_ABSCFG_PROT n) ≠ 3 then f.sound else
  let w := s.rd (POS_ABSCFG2_CRCW n)
  let data := bitsMsb k f.raw.toNat ++ (if bit eb 0 then [f.nE] else []) ++ (if bit eb 1 then [f.nW] else [])
  f.sound && crcBits w (s.rd (POS_ABSCFG2_POLY n)) data ^^^ (2 ^ w - 1) == f.crc.toNat % 2 ^ w && (!bit eb 0 || f.nE)

/-- A word shifted by SH; a right shift rounds down (R183). -/
def shiftAbs (v : Nat) (sh : Int) : Int := if 0 ≤ sh then v * 2 ^ sh.toNat else v / 2 ^ (-sh).toNat

/-- An absolute frame ends (R183).
[PRESUMED, unsafe: log entry 48] -/
def absDone (s : State) (n tick : Nat) (f : AbsFrame) : State :=
  if !s.rb (POS_STAT_ABSBUSY n) then s else
  let p := absLatch (posOf s n) tick
  let lat := p.absLat.getD p.count
  let ssi := s.rd (POS_ABSCFG_PROT n) != 3
  let free := tick + 1500 * s.rd (POS_ABSPER_WAIT n)
  let s := (s.wr (POS_STAT_ABSBUSY n) 0).modPos n fun q =>
    { q with absAt := none, absLat := none, absFree := if ssi then free else q.absFree }
  let s := s.wr64 (POS_ABSLAT_LO_COUNT n) (POS_ABSLAT_HI_COUNT n) (toBits 64 lat)
  if !absGoodFrame s n f then
    ((s.wr (POS_ABSSTAT_GOOD n) 0).bump (POS_CNT_ABSERR n)).raise (ev (EV_POS_ABS_ERR n))
  else
    let k := s.rd (POS_ABSCFG_BITS n)
    let raw := f.raw.toNat % 2 ^ k
    let v := if s.rd (POS_ABSCFG_PROT n) = 2 then grayToBin k raw else raw
    let d := sext 64 (s.rd64 (POS_ABSOFF_LO_OFF n) (POS_ABSOFF_HI_OFF n)) + shiftAbs v (sext 6 (s.rd (POS_ABSCFG2_SH n)))
    let cpr := s.rd (POS_CPR_CPR n)
    let m := if s.rb (POS_ABSCFG_ABSMOD n) && cpr != 0 then wrapCpr (lat - d) cpr else lat - d
    let s := s.wr64 (POS_ABSVAL_LO_VALUE n) (POS_ABSVAL_HI_VALUE n) v
    let s := ((s.wr (POS_ABSSTAT_GOOD n) 1).wb (POS_ABSSTAT_NW n) (bit (s.rd (POS_ABSCFG_ERRBITS n)) 1 && !f.nW)).modPos n
      fun q => { q with absGood := some m }
    s.raiseIf (s.rd (POS_ABSTOL_TOL n) < m.natAbs) (ev (EV_POS_ABS_MISMATCH n))

/-! ## The divider (R176 to R179). -/

/-- The first threshold at a start (R176). -/
def startNt (s : State) (n : Nat) : Int :=
  if s.rb (POS_CFG_STARTMODE n) then sext 64 (s.rd64 (POS_TSTART_LO_VALUE n) (POS_TSTART_HI_VALUE n)) * 4294967296
  else (posOf s n).count * 4294967296 + posPitch s n

/-- Has the count reached a threshold? -/
def reached (count nt : Int) : Bool := decide (ceil32 nt ≤ count)

/-- Whole pitches until the threshold lies beyond the count (R177, triggers withheld).
[DEDUCED, unsafe: log entry 47] -/
def skipPitches (count nt pitch : Int) : Int :=
  if reached count nt then nt + pitch * ((count * 4294967296 - nt) / pitch + 1) else nt

/-- Arm overlap capture of K lines (R179): thresholds already passed give no trigger. `last`: the last line issued. -/
def armOverlap (s : State) (n K last : Nat) : State :=
  let p := posOf s n
  let pt := posPitch s n
  let th := (List.range K).map fun i => (last - i, p.nt - (i + 1) * pt)
  showPos (s.modPos n fun p => { p with ovlArmed := true, overlap := (th.filter fun o => !reached p.count o.2).reverse }) n

def disarmOverlap (s : State) (n : Nat) : State := showPos (s.modPos n fun p => { p with ovlArmed := false, overlap := [] }) n

/-- POS counters and DRIFT.MAX (R186). -/
def posCounters (n : Nat) : List Fld :=
  [POS_CNT_QERR n, POS_CNT_ABSERR n, POS_CNT2_GATE n, POS_CNT2_REFUSED n, POS_DRIFT_MAX n]

end Sys2Proof.Machine
end

