-- ==== Sys2Proof/Machine/FifoOps.lean ====
section
/-! DEFINITION. Machine/FifoOps.lean: the output FIFO, spill engine, pace controller and dovetail control of a channel
(spec/09_pacing_fifo_seams.md): where packets are held (R211 to R215), read errors (R216, R217), grants and kerf spans (R218 to
R221), watermarks (R222), the pace table (R224, R225), dovetail stop and restart (R226, R227, R231, R232) and the join
correlator (R228 to R230). -/

namespace Sys2Proof.Machine

def fifoOf (s : State) (n : Nat) : FifoSt := (s.ch n).fifo

/-! ## Space and fill. -/

/-- Bytes of a packet still held. -/
def Pkt.left (p : Pkt) : Nat := p.len - p.handed

/-- Bytes that the packets in a place hold. -/
def held (ps : List Pkt) (pl : PktPlace) : Nat := ((ps.filter fun p => p.place == pl).map Pkt.left).sum

/-- Bytes of the tail granted to lines (R211, R218). -/
def tailUsed (f : FifoSt) : Nat := held f.pkts .tail + (f.pkts.map (·.extra)).sum

/-- Bytes of the kerf reserve that a marker or record occupies. -/
def reserveUsed (f : FifoSt) : Nat := ((f.pkts.filter fun p => p.place == .reserve && p.complete).map (·.len)).sum

/-- Bytes of the reserve that markers and records hold, written or not. -/
def reservePromised (f : FifoSt) : Nat := ((f.pkts.filter fun p => p.place == .reserve).map (·.len)).sum

/-- The fill F: granted bytes not yet handed over (R222). -/
def fillOf (f : FifoSt) : Nat := ((f.pkts.filter (·.granted)).map fun p => p.left + p.extra).sum

/-- The middle is empty. -/
def middleEmpty (f : FifoSt) : Bool := !(f.pkts.any fun p => p.place == .spilled)

/-- Size of the channel's spill region, its data ring and its index ring (R213). -/
def spillSize (s : State) (n : Nat) : Nat := s.rd (FIFO_SPILLCAP_MIB n) * 1048576
/-- The size of the data ring of the spill region (R213).
[DESIGN CHOICE, unsafe: log entry 15] -/
def dataRing (s : State) (n : Nat) : Nat := spillSize s n / 8 * 7
/-- The size of the index ring of the spill region (R213).
[DESIGN CHOICE, unsafe: log entry 15] -/
def indexRing (s : State) (n : Nat) : Nat := spillSize s n / 8

/-- Where the spill region starts in a controller's DRAM.
[DESIGN CHOICE, unsafe: log entry 15] -/
def spillBase : Nat := 0x08000000

/-- Free bytes of the data ring and free entries of the index ring. -/
def dataFree (s : State) (n : Nat) : Nat :=
  dataRing s n - (((fifoOf s n).pkts.filter fun p => p.place == .spilled).map (·.len)).sum

def indexFree (s : State) (n : Nat) : Nat :=
  indexRing s n / 128 - ((fifoOf s n).pkts.filter fun p => p.place == .spilled).length

def levelBytes (v : Nat) : Nat := v * 65536

def driven (s : State) (n : Nat) : Bool := s.rb (FIFO_CFG_TMODE n)

/-- HOLD_N[n] is low (R222, R374, R375).
[DESIGN CHOICE, safe: log entry 13] -/
def holdLow (s : State) (n : Nat) : Bool := (fifoOf s n).hold || s.safe || (s.ch n).stopHold.isSome

/-- FILL, SPILLFILL and the status bits of R236. -/
def showFifo (s : State) (n : Nat) : State :=
  let f := fifoOf s n
  let s := (s.wr (FIFO_FILL_F n) (fillOf f / 64)).peak (FIFO_MAXFILL_F n) (fillOf f / 64)
  let s := s.wr (FIFO_SPILLFILL_USED n) ((dataRing s n - dataFree s n) / 64)
  let s := (s.wb (FIFO_STAT_HOLD n) (holdLow s n)).wb (FIFO_STAT_SPILL n) (!middleEmpty f)
  (s.wb (FIFO_STAT_DROP n) f.span.isSome).wb (FIFO_STAT_CUTACT n) (f.pkts.any (·.cut))

/-! ## Pace (R224). -/

/-- Threshold, in-use bit and VMAX of pace entry e. -/
def paceEntry (tabs : List (Nat × Byte)) (e : Nat) : Nat × Bool × Nat :=
  let w := leNat (readBytes tabs (0x6C000 + 8 * e + 4) 4)
  (leNat (readBytes tabs (0x6C000 + 8 * e) 4), bit w 31, bits w 22 0)

/-- The entry in use with the highest threshold that F has reached. -/
def paceReached (tabs : List (Nat × Byte)) (F : Nat) : Option Nat :=
  ((List.range 16).filter fun e =>
      (paceEntry tabs e).2.1 && decide (levelBytes (paceEntry tabs e).1 ≤ F)).foldl (fun b e =>
    match b with
    | none => some e
    | some k => if (paceEntry tabs k).1 ≤ (paceEntry tabs e).1 then some e else some k) none

/-- Write the selected VMAX to the feed axis; a refused write is counted. -/
def paceApply (s : State) (n e : Nat) : State :=
  if !s.rb (FIFO_PACECFG_EN n) then s else
  match feedAxis s n with
  | none => s
  | some a =>
    let r := paramWrite s n a 0x24 (paceEntry (s.ch n).tabs e).2.2
    if r.2 then r.1.wr (FIFO_PACESTAT_VMAX n) (paceEntry (s.ch n).tabs e).2.2 else r.1.bump (FIFO_PACEREF_REFUSED n)

/-- The selection of 1 µs (R224); nothing in web mode or rough-cut mode (R223, R234). -/
def paceUpdate (s : State) (n : Nat) : State :=
  if !driven s n || s.rough n then s else
  let F := fillOf (fifoOf s n)
  let cur := s.rd (FIFO_PACESTAT_ENTRY n)
  match paceReached (s.ch n).tabs F with
  | none => s
  | some e =>
    let tc := (paceEntry (s.ch n).tabs cur).1
    let te := (paceEntry (s.ch n).tabs e).1
    let back := decide (F + levelBytes (s.rd (FIFO_PACECFG_HYS n)) ≤ levelBytes tc) && decide (F < levelBytes tc)
    if tc < te ∨ (te < tc ∧ back) then paceApply (s.wr (FIFO_PACESTAT_ENTRY n) e) n e else s

/-! ## Dovetail control (R226, R227, R231, R232). -/

def dtState (s : State) (n : Nat) : Nat := s.rd (FIFO_DTSTAT_STATE n)

/-- The feed axis is moving and not braking towards its target, nor stopping. -/
def feedRunning (s : State) (n : Nat) : Bool :=
  match feedAxis s n with
  | none => false
  | some a =>
    let x := axis s n (carrier s n a)
    x.mode == .ramp && !x.braking

/-- A dovetail stop (R226). -/
def dtStop (s : State) (n : Nat) : State :=
  if !driven s n || s.rough n || dtState s n != 0 || !feedRunning s n then s else
  match feedAxis s n with
  | none => s
  | some a =>
    let s := s.modFifo n fun f => { f with target := BitVec.ofInt 32 (axis s n a).tgt, resumeHeld := false, lowDue := false }
    ((axisHalt s n a).wr (FIFO_DTSTAT_STATE n) 1).raise (ev (EV_FIFO_DT_STOP n))

/-- Start a move of the feed axis for the dovetail control, at the pace VMAX. -/
def dtMove (s : State) (n : Nat) (tgt : Int) : State × Bool :=
  match feedAxis s n with
  | none => (s, false)
  | some a =>
    let s := paceApply s n (s.rd (FIFO_PACESTAT_ENTRY n))
    axisMove s n a tgt .dovetail

/-- The back-off of the restart (R227 step 1); a refused move leaves the control in HOLDING. -/
def dtBackoff (s : State) (n : Nat) : State :=
  match feedAxis s n with
  | none => s
  | some a =>
    let s := s.modFifo n fun f => { f with resumeHeld := false, lowDue := false }
    let r := dtMove s n ((axis s n a).p / (uStep : Int) - (s.rd (FIFO_BACKOFF_DIST n) : Int))
    if r.2 then (r.1.wr (FIFO_DTSTAT_STATE n) 3).modFifo n fun f => { f with feedWas := true } else r.1

/-- The control enters HOLDING and records N where the stop is a new one (R226, R231). -/
def dtHold (s : State) (n : Nat) (newN lost : Bool) : State :=
  let f := fifoOf s n
  let N := if newN then f.lastTrig else f.stopLine
  let s := s.modFifo n fun f => { f with stopLine := N }
  let s := match N with
    | some e => s.wr64 (FIFO_STOPLINE_LO_LINE n) (FIFO_STOPLINE_HI_LINE n) e.line
    | none => s
  let s := (s.wr (FIFO_DTSTAT_STATE n) 2).wb (FIFO_DTSTAT_FEEDLOST n) lost
  s.raiseIf lost (ev (EV_FIFO_FEEDLOST n))

/-- A restart due in HOLDING starts when the fill is at LOW. -/
def dtTryResume (s : State) (n : Nat) : State :=
  let f := fifoOf s n
  if dtState s n = 2 ∧ f.resumeHeld ∧ fillOf f ≤ levelBytes (s.rd (FIFO_LOW_LEVEL n)) then dtBackoff s n else s

/-- Follow the feed axis after anything that may have started or stopped it (R226, R227, R231, R232). -/
def dtWatch (s : State) (n : Nat) : State :=
  if !driven s n || s.rough n then s else
  match feedAxis s n with
  | none => s
  | some a =>
    let x := axis s n a
    let code := s.rd (MOTA_STAT_END n a)
    let f := fifoOf s n
    let done (s : State) : State := s.modFifo n fun f => { f with feedWas := x.moving }
    let st := dtState s n
    let stopped := f.feedWas && !x.moving
    if st = 1 then
      if x.moving then done s
      else if !s.runBit n then
        done ((s.wr (FIFO_DTSTAT_STATE n) 0).modFifo n fun f => { f with resumeHeld := false, lowDue := false })
      else
        let s := dtHold s n true false
        let s := s.modFifo n fun f => { f with resumeHeld := f.resumeHeld || f.lowDue }
        dtTryResume (done s) n
    else if st = 3 then
      if !stopped then done s
      else if code = 1 then
        let s := armOverlap s n (s.rd (FIFO_DTCFG_KM1 n) + 1) ((f.stopLine.map (·.line)).getD 0)
        let r := dtMove (s.modFifo n fun f => { f with overlap := [] }) n f.target.toInt
        if r.2 then (r.1.wr (FIFO_DTSTAT_STATE n) 4).modFifo n fun f => { f with feedWas := true }
        else done (dtHold (disarmOverlap r.1 n) n false true)
      else done (dtHold (disarmOverlap s n) n false true)
    else if st = 4 then
      if stopped ∧ code ≠ 1 then
        done (dtHold ((disarmOverlap s n).modFifo n fun f => { f with joinWait := false }) n f.joinWait true)
      else done s
    else if st = 2 then
      if x.moving && x.by_ != .dovetail then
        done ((s.wr (FIFO_DTSTAT_STATE n) 0).modFifo n fun f =>
          { f with joinDue := true, joinFrom := ((f.stopLine.map (·.line + 1)).getD 0), resumeHeld := false,
                   joinRes := some { off := 0, ovl := 0, nocheck := decide (f.runTrigs < 8), ran := false, misfit := false,
                                     res := 0xFFFFFFFF } })
      else done s
    else if stopped ∧ s.runBit n ∧ (code = 2 ∨ code = 4) then
      let s := s.modFifo n fun f => { f with target := BitVec.ofInt 32 x.tgt }
      done (dtHold s n true true)
    else done s

/-- DTCTL.RESUME (R227, R231, R232). -/
def dtResume (s : State) (n : Nat) : State :=
  if !driven s n || s.rough n then s else
  let st := dtState s n
  if st = 1 ∨ st = 2 then dtTryResume (s.modFifo n fun f => { f with resumeHeld := true }) n else s

/-- The dovetail control when RUN is cleared (R234): no restart waits any more.
[DEDUCED, unsafe: log entry 52] -/
def dtRunClear (s : State) (n : Nat) : State :=
  let st := dtState s n
  let s := s.modFifo n fun f => { f with resumeHeld := false, lowDue := false, joinWait := false }
  if st = 2 ∨ st = 3 ∨ st = 4 then (disarmOverlap s n).wr (FIFO_DTSTAT_STATE n) 0 else s

/-! ## Watermarks (R222). -/

/-- Judge the watermarks after any change of the fill: HOLD_N, the dovetail stop and its restart follow.
[DEDUCED, unsafe: log entry 68] -/
def fifoWatch (s : State) (n : Nat) : State :=
  let s := showFifo s n
  let f := fifoOf s n
  let F := fillOf f
  let high := levelBytes (s.rd (FIFO_HIGH_LEVEL n))
  let low := levelBytes (s.rd (FIFO_LOW_LEVEL n))
  let rise := !f.hold && decide (high ≤ F)
  let fall := f.hold && decide (F ≤ low)
  let s := s.modFifo n fun f => { f with fillWas := F, hold := rise || (f.hold && !fall) }
  let s := showFifo ((s.raiseIf rise (ev (EV_FIFO_HIGH n))).raiseIf fall (ev (EV_FIFO_LOW n))) n
  let s := if s.rb (FIFO_DTCFG_AUTO n) && (rise || (decide (f.fillWas < high) && decide (high ≤ F))) then dtStop s n else s
  let fell := fall || (decide (low < f.fillWas) && decide (F ≤ low))
  if fell && s.rb (FIFO_DTCFG_AUTORES n) && driven s n then
    if dtState s n = 1 then s.modFifo n fun f => { f with lowDue := true }
    else if dtState s n = 2 then dtTryResume (s.modFifo n fun f => { f with resumeHeld := true }) n
    else s
  else dtTryResume s n

/-- The control returns to RUN after a join: a fill that has stayed at HIGH is acted on now (R227, R232).
[DEDUCED, unsafe: log entry 52] -/
def dtJoined (s : State) (n : Nat) : State :=
  let s := (s.wr (FIFO_DTSTAT_STATE n) 0).modFifo n fun f => { f with joinWait := false }
  if s.rb (FIFO_DTCFG_AUTO n) && decide (levelBytes (s.rd (FIFO_HIGH_LEVEL n)) ≤ fillOf (fifoOf s n)) then dtStop s n else s

/-! ## Kerf spans and markers (R218 to R221). -/

/-- The payload of a kerf marker (R221). -/
def kerfPayload (sp : Span) (num : Nat) (flags : Nat) : List Byte :=
  leBytes 8 sp.first.line ++ leBytes 8 sp.last.line ++ leBytes 8 sp.first.pos.toNat ++ leBytes 8 sp.last.pos.toNat ++
  leBytes 8 sp.first.ts.toNat ++ leBytes 8 sp.last.ts.toNat ++ leBytes 4 sp.count ++ leBytes 4 num ++
  leBytes 1 sp.cause ++ leBytes 1 (flags + 4 * b2n sp.mixed) ++ leBytes 2 0 ++ leBytes 4 sp.sheet ++ leBytes 32 0

def nodeOf (s : State) : Nat := s.rd UMD_STAT_NODE
def jigOf (s : State) (n : Nat) : Nat := s.rd (GLB_SW_STAT_ACTIVE n)

/-- Count a marker written, given as its bytes, and raise its event with its cause and its header's line (R221, R367).
[DEDUCED, unsafe: log entry 51] -/
def countMarker (s : State) (n : Nat) (bs : List Byte) : State :=
  let r1 := s.addWrap (FIFO_KERFLINES_COUNT n) (fieldAt bs (64 + 0x30) 4)
  let s := if r1.2 then r1.1.setW1c (FIFO_STAT_KWRAP n) 1 else r1.1
  let r2 := s.addWrap (FIFO_KERFMARKS_COUNT n) 1
  let s := if r2.2 then r2.1.setW1c (FIFO_STAT_MWRAP n) 1 else r2.1
  s.raise (((ev (EV_FIFO_KERF n)).line_ (fieldAt bs 8 6)).code_ (fieldAt bs (64 + 0x38) 1))

/-- A record packet of the FIFO. -/
def recordPkt (kind : Nat) (e : SpanEnd) (bs : List Byte) (place : PktPlace) (granted complete : Bool) : Pkt :=
  { kind := kind, info := e, bytes := bs, len := bs.length, complete := complete, place := place, granted := granted,
    poisoned := false, flips := [], extra := 0, dataOff := 0, idxOff := 0, handed := 0, cut := false, offered := false, discard := false }

/-- The next marker number, counted per channel (R221). -/
def nextMarker (s : State) (n : Nat) : Nat × State :=
  ((fifoOf s n).kerfCtr, s.modFifo n fun f => { f with kerfCtr := (f.kerfCtr + 1) % 2 ^ 32 })

/-- No packet of an earlier line is still to be written. -/
def noneOpen (ps : List Pkt) : Bool := ps.all (·.complete)

/-- Append packets written from the kerf reserve: they are in the FIFO once the packets of the lines before them are. -/
def reserveAppend (s : State) (n : Nat) (ps : List Pkt) : State :=
  let now := noneOpen (fifoOf s n).pkts
  let s := s.modFifo n fun f => { f with pkts := f.pkts ++ ps.map fun p => { p with complete := now } }
  if now then ps.foldl (fun s p => if p.kind = 2 then countMarker s n p.bytes else s) s else s

/-- Packets of the reserve whose earlier packets are now all written are written (R220). -/
def finishReserve (s : State) (n : Nat) : State :=
  let go := (fifoOf s n).pkts.foldl (fun (acc : List Pkt × Bool × List (List Byte)) p =>
    let fin := !p.complete && p.place == .reserve && acc.2.1
    let q := if fin then { p with complete := true } else p
    (acc.1 ++ [q], acc.2.1 && q.complete, if fin && p.kind == 2 then acc.2.2 ++ [p.bytes] else acc.2.2))
    ([], true, [])
  go.2.2.foldl (fun s b => countMarker s n b) (s.modFifo n fun f => { f with pkts := go.1 })

/-- The marker packet of a span with the header fields of line e. -/
def spanMarker (s : State) (n jig : Nat) (sp : Span) (e : SpanEnd) (sheet index : Nat) (granted : Bool) : Pkt × State :=
  let r := nextMarker s n
  let h := recordHeader (nodeOf s) n jig 2 e sheet index
  (recordPkt 2 e (recordBytes h (kerfPayload sp r.1 0)) .reserve granted true, r.2)

/-- Write a closed span's marker from the reserve, and the sheet records of lines it covers (R220); its jig is that of its last line.
[DEDUCED, unsafe: log entry 51] -/
def writeSpan (s : State) (n : Nat) (sp : Span) : State :=
  let r := spanMarker s n sp.jig sp sp.last 0 0 false
  reserveAppend r.2 n (r.1 :: sp.recs.map fun bs => recordPkt 3 sp.last bs .reserve false true)

/-- Bytes the reserve needs for a span's marker and records. -/
def spanBytes (sp : Span) : Nat := 192 * (1 + sp.recs.length)

/-- Bytes of the reserve taken, or promised to spans that lines in flight close (R219). -/
def reserveOwed (s : State) (n : Nat) : Nat :=
  reservePromised (fifoOf s n) + (((s.ch n).pipe.lines.filterMap (·.kerf)).map spanBytes).sum

/-- A span whose first line is `line`, or lies behind it, takes the sheet that is open there (R221). -/
def spanSheet (line at_ after first sheet : Nat) : Nat :=
  if first = line then at_ else if line < first then after else sheet

/-- The marker of a span with the sheet at its first line. -/
def markerSheet (line at_ after : Nat) (bs : List Byte) : List Byte :=
  let k := spanSheet line at_ after (fieldAt bs 64 8) (fieldAt bs (64 + 0x3C) 4)
  recrc (bs.take (64 + 0x3C) ++ leBytes 4 k ++ bs.drop (64 + 0x40))

/-- A line is measured: sheet `at_` covers it and `after` is open behind it. Markers not yet written show the sheet that is open at the
first line of their span (R221). -/
def sheetSpans (s : State) (n line at_ after : Nat) : State :=
  let put (sp : Span) : Span := { sp with sheet := spanSheet line at_ after sp.first.line sp.sheet }
  s.modCh n fun c => { c with
    pipe := { c.pipe with lines := c.pipe.lines.map fun x => { x with kerf := x.kerf.map put } },
    fifo := { c.fifo with
      span := c.fifo.span.map put,
      pkts := c.fifo.pkts.map fun p =>
        if p.kind == 2 && p.place == .reserve && !p.complete then { p with bytes := markerSheet line at_ after p.bytes } else p } }

/-- A dropped or lost line with a cause opens, extends or closes a span (R220). -/
def dropLine (s : State) (n cause : Nat) (e : SpanEnd) (sheet : Nat) : State :=
  let new : Span :=
    { cause := cause, first := e, last := e, count := 1, sheet := sheet, mixed := false, jig := jigOf s n, recs := [] }
  let s := match (fifoOf s n).span with
    | none => s.modFifo n fun f => { f with span := some new }
    | some sp =>
      let more (mixed : Bool) : Span :=
        { sp with last := e, count := sp.count + 1, mixed := sp.mixed || mixed, jig := jigOf s n }
      if sp.cause = cause then s.modFifo n fun f => { f with span := some (more false) }
      else if reserveOwed s n + spanBytes sp ≤ 4096 then
        (writeSpan s n sp).modFifo n fun f => { f with span := some new }
      else s.modFifo n fun f => { f with span := some (more true) }
  showFifo s n

/-- The span open when RUN is cleared is written at once (R220). -/
def closeSpanRun (s : State) (n : Nat) : State :=
  match (fifoOf s n).span with
  | none => s
  | some sp => showFifo ((writeSpan s n sp).modFifo n fun f => { f with span := none }) n

/-- RSMP_n_EDGECFG as the packet of a line triggered now will see it: what a switch leaves to the packet of L counts from L's trigger
on (R61, R218). -/
def edgeCfgNext (s : State) (n : Nat) : Word :=
  let a := (RSMP_EDGECFG_EN n).addr
  match (s.ch n).late with
  | some l => (((l.regs.filter (·.1 == a)).getLast?).map fun e => BitVec.ofNat 32 e.2).getD (s.word a)
  | none => s.word a

/-- Space that a line of the FIFO needs (R218). -/
def lineAmount (s : State) (n : Nat) (rec_ join_ : Bool) : Nat :=
  let w := edgeCfgNext s n
  s.rd (PACK_PKTLEN_LEN n) + 192 * b2n rec_ + 192 * b2n join_ +
    192 * b2n ((RSMP_EDGECFG_EN n).of w != 0 && (RSMP_EDGECFG_MODE n).of w != 0)

/-- The grant decision of a normal trigger (R218, R220): granted, the span it closes, and the state. -/
def grantLine (s : State) (n : Nat) (e : SpanEnd) (rec_ join_ : Bool) : Bool × Option Span × State :=
  let f := fifoOf s n
  let k := lineAmount s n rec_ join_
  if tailUsed f + k ≤ 520192 ∧ reserveUsed f = 0 then
    let p : Pkt := { kind := 1, info := e, bytes := [], len := k, complete := false, place := .tail, granted := true,
                     poisoned := false, flips := [], extra := 0, dataOff := 0, idxOff := 0, handed := 0, cut := false, offered := false, discard := false }
    let s := s.modFifo n fun f => { f with pkts := f.pkts ++ [p], span := none, spillFullArmed := true }
    (true, f.span, fifoWatch s n)
  else
    let full := decide (dataFree s n < k)
    let sheet := match (s.ch n).rsmp.sheet with | some sh => sh.num | none => 0
    let s := if full && f.spillFullArmed then
        (s.modFifo n fun f => { f with spillFullArmed := false }).raise ((ev (EV_FIFO_SPILLFULL n)).line_ e.line)
      else s
    (false, none, dropLine s n (if full then 1 else 2) e sheet)

/-! ## Moving packets (R212, R213). -/

/-- Change the first packet that meets a condition. -/
def modFirst (ps : List Pkt) (c : Pkt → Bool) (f : Pkt → Pkt) : List Pkt :=
  match ps with
  | [] => []
  | p :: t => if c p then f p :: t else p :: modFirst t c f

def inTail (p : Pkt) : Bool := p.place == .tail || p.place == .reserve

/-- The oldest packet of the tail, when it is complete and not begun. -/
def oldestTail (f : FifoSt) : Option Pkt :=
  match f.pkts.find? inTail with
  | some p => if p.complete && !p.offered then some p else none
  | none => none

/-- Room in the head for a packet. -/
def headRoom (f : FifoSt) (len : Nat) : Bool := held f.pkts .head + len ≤ 524288

/-- The oldest complete packet of the tail moves to the head (R212). -/
def tailToHead (s : State) (n : Nat) : State :=
  let f := fifoOf s n
  match oldestTail f with
  | none => s
  | some p =>
    if middleEmpty f && headRoom f p.len then
      fifoWatch (s.modFifo n fun f => { f with pkts := modFirst f.pkts inTail fun p => { p with place := .head } }) n
    else s

/-- Write bytes into a ring of a DRAM region, wrapping at its end. -/
def ringWrite (m : List (Nat × Byte)) (base size off : Nat) (bs : List Byte) : List (Nat × Byte) :=
  let k := min bs.length (size - off)
  writeBytes (writeBytes m (base + off) (bs.take k)) base (bs.drop k)

def ringRead (m : List (Nat × Byte)) (base size off len : Nat) : List Byte :=
  let k := min len (size - off)
  readBytes m (base + off) k ++ readBytes m base (len - k)

/-- The index entry of a spilled packet (R213). -/
def indexEntry (p : Pkt) : List Byte :=
  p.bytes.take 64 ++ p.bytes.drop (p.len - 32) ++ leBytes 8 p.dataOff ++ leBytes 4 p.len ++ leBytes 20 0

/-- The spill engine finishes writing the oldest complete packet of the tail (R212, R213). -/
def spillWrite (s : State) (n : Nat) : State :=
  let f := fifoOf s n
  match oldestTail f with
  | none => s
  | some p =>
    if (middleEmpty f && headRoom f p.len) || dataFree s n < p.len || indexFree s n < 1 then s else
    let q := { p with place := .spilled, dataOff := f.dataWr, idxOff := f.idxWr }
    let s := s.modDram n fun m =>
      ringWrite (ringWrite m spillBase (dataRing s n) q.dataOff q.bytes) (spillBase + dataRing s n) (indexRing s n) q.idxOff
        (indexEntry q)
    let s := s.raiseIf (middleEmpty f) (ev (EV_FIFO_SPILL n))
    fifoWatch (s.modFifo n fun f =>
      { f with pkts := modFirst f.pkts inTail fun _ => q, dataWr := (f.dataWr + q.len) % max 1 (dataRing s n),
               idxWr := (f.idxWr + 128) % max 1 (indexRing s n) }) n

/-- The jig of a packet's header (R141). -/
def jigField (bs : List Byte) : Nat := fieldAt bs 2 1 % 64

/-- The marker that takes a lost packet's place (R220, R221): `hdr`, `trl`: the header or trailer bytes where good; `ahead`: the
packets delivered before it; `next`: the line of the next packet that can be read. Without a good header its jig is that of the last
line packet before it.
[DEDUCED, unsafe: log entry 51] -/
def lostMarker (s : State) (n cause : Nat) (hdr trl : Option (List Byte)) (ahead : List Pkt) (next : Option Nat) (granted : Bool) :
    Pkt × State :=
  let f := fifoOf s n
  let before := ahead.reverse.find? fun p => p.kind == 1
  let last := (before.map (·.info.line)).getD ((f.lastOut.map (·.line)).getD 0)
  let jig := ((hdr.map jigField).or (before.map fun p => jigField p.bytes)).getD f.lastJig
  let unk : BitVec 64 := 0x8000000000000000#64
  let r := nextMarker s n
  let mk (a b : SpanEnd) (sheet flags : Nat) : Span × Nat :=
    ({ cause := cause, first := a, last := b, count := b.line - a.line + 1, sheet := sheet, mixed := false, jig := jig,
       recs := [] }, flags)
  let sp : Span × Nat := match hdr, trl with
    | some h, _ =>
      let e : SpanEnd := { line := fieldAt h 8 6, pos := BitVec.ofNat 64 (fieldAt h 0x18 8), ts := BitVec.ofNat 64 (fieldAt h 0x10 8) }
      mk e e (fieldAt h 0x34 4) 0
    | none, some t =>
      let lo := fieldAt t 8 4
      let hi := last / 2 ^ 32 + b2n (decide (lo < last % 2 ^ 32))
      let e : SpanEnd := { line := hi * 2 ^ 32 + lo, pos := unk, ts := unk }
      mk e e 0 3
    | none, none =>
      let a := last + 1
      let b := match next with | some l => if a < l then l - 1 else a | none => a
      mk { line := a, pos := unk, ts := unk } { line := b, pos := unk, ts := unk } 0 3
  let h := recordHeader (nodeOf s) n jig 2 sp.1.first 0 0
  let bs := recordBytes h (kerfPayload sp.1 r.1 sp.2)
  (recordPkt 2 sp.1.first bs .head granted true, countMarker r.2 n bs)

/-- The line of the next line packet after the front of a list. -/
def nextLine (ps : List Pkt) : Option Nat := (ps.find? fun p => p.kind == 1).map fun p => p.info.line

/-- The spill engine reads the oldest spilled packet back into the head (R212, R217). -/
def spillRead (s : State) (n : Nat) (bad : SpillBad) : State :=
  let f := fifoOf s n
  match f.pkts.find? (fun p => p.place == .spilled) with
  | none => s
  | some p =>
    if !headRoom f p.len then s else
    let raw := ringRead (s.dram n) spillBase (dataRing s n) p.dataOff p.len
    let idx := ringRead (s.dram n) (spillBase + dataRing s n) (indexRing s n) p.idxOff 128
    let front (q : Pkt) (s : State) : State :=
      fifoWatch (s.modFifo n fun f => { f with pkts := modFirst f.pkts (fun p => p.place == .spilled) fun _ => q }) n
    if bad.index && (bad.header || bad.trailer) then
      let s := (s.bump (FIFO_ERR2_DLOST n)).raise ((ev (EV_FIFO_SPILL_ERR n)).line_ p.info.line)
      let r := lostMarker s n 5 (if bad.header then none else some (raw.take 64))
        (if bad.trailer then none else some (raw.drop (p.len - 32)))
        (f.pkts.takeWhile fun q => q.place != .spilled) (nextLine ((f.pkts.dropWhile fun q => q.place != .spilled).drop 1)) p.granted
      front r.1 r.2
    else
      let hdr := if bad.header then idx.take 64 else raw.take 64
      let trl := if bad.trailer then (idx.drop 64).take 32 else raw.drop (p.len - 32)
      let bs := hdr ++ (raw.drop 64).take (p.len - 96) ++ trl
      if bad.payload then
        let s := (s.bump (FIFO_ERR_DPOISON n)).raise ((ev (EV_FIFO_SPILL_ERR n)).line_ p.info.line)
        front { p with place := .head, bytes := recrc (setLate bs 4) } s
      else front { p with place := .head, bytes := bs } s

/-! ## The read side (R214 to R216). -/

/-- Bytes of padding that bring OUTBYTES to the ALIGN boundary; 0 where none is inserted (R215). -/
def padLen (s : State) (n : Nat) : Nat :=
  let al := match s.rd (FIFO_CFG_ALIGN n) with | 1 => 4096 | 2 => 65536 | 3 => 1048576 | _ => 0
  if al = 0 then 0 else
  let d := (al - s.rd64 (FIFO_OUTBYTES_LO_COUNT n) (FIFO_OUTBYTES_HI_COUNT n) % al) % al
  if d = 64 then 64 + al else d

/-- A padding packet (R145). -/
def padBytes (s : State) (n len : Nat) : List Byte :=
  let f := fifoOf s n
  let e := f.lastOut.getD { line := 0, pos := 0, ts := 0 }
  let h := recordHeader (nodeOf s) n f.lastJig 15 e 0 0
  packetBytes { h with len := len, paylen := len - 96 } (List.replicate (len - 96) 0) 0 0 0

/-- A padding packet that waits its turn (R215): its length is settled when it comes to the front. -/
def padPkt : Pkt :=
  { kind := 15, info := { line := 0, pos := 0, ts := 0 }, bytes := [], len := 0, complete := true, place := .head,
    granted := false, poisoned := false, flips := [], extra := 0, dataOff := 0, idxOff := 0, handed := 0, cut := false, offered := false, discard := false }

/-- Settle a padding packet at the front: dropped where the output is on a boundary. -/
def padFront (s : State) (n : Nat) : State :=
  match (fifoOf s n).pkts with
  | p :: t =>
    if p.kind = 15 ∧ p.len = 0 then
      let k := padLen s n
      if k = 0 then s.modFifo n fun f => { f with pkts := t }
      else s.modFifo n fun f => { f with pkts := { p with bytes := padBytes s n k, len := k } :: t }
    else s
  | [] => s

/-- A write of FLUSH (R215). -/
def fifoFlush (s : State) (n : Nat) : State := s.modFifo n fun f => { f with pkts := f.pkts ++ [padPkt] }

/-- The padding of a stop, once the FIFO has emptied (R215).
[DEDUCED, unsafe: log entry 51] -/
def stopPadding (s : State) (n : Nat) : State :=
  let f := fifoOf s n
  if f.stopPad ∧ f.pkts = [] ∧ !s.runBit n then
    (padFront (s.modFifo n fun f => { f with pkts := [padPkt], stopPad := false }) n)
  else s

/-- Where the next request of a packet lies: offset and length; `avail`: payload bytes present of an incomplete one. -/
def nextChunk (p : Pkt) (avail : Nat) : Option (Nat × Nat) :=
  if !p.cut then
    (if p.handed < p.len then some (p.handed, min 4096 (p.len - p.handed)) else none)
  else
    let body := p.len - 96
    if p.handed < body then
      let k := min 4096 (min body avail - p.handed)
      if k = 0 then none else some (64 + p.handed, k)
    else if !p.complete then none
    else if p.handed < body + 64 then some (0, 64)
    else if p.handed < p.len then some (p.len - 32, 32) else none

/-- A 64-byte word of the FIFO SRAM (R211): its bytes, its parity bit, and the written bit of each 16-byte quarter. -/
structure SramWord where
  bytes : List Byte
  parity : Bool
  written : BitVec 4
  deriving DecidableEq, Repr

/-- The parity of bytes. -/
def parityOf (bs : List Byte) : Bool := (bs.map fun b => ((List.range 8).filter fun i => b.getLsbD i).length).sum % 2 == 1

/-- A word whose leading bytes the packer has written. -/
def SramWord.make (bs : List Byte) : SramWord :=
  { bytes := bs, parity := parityOf bs, written := BitVec.ofNat 4 (2 ^ (min 4 (bs.length / 16)) - 1) }

/-- The valid-byte tag: quarters written (R211). -/
def SramWord.tag (w : SramWord) : Nat := ((List.range 4).filter fun i => w.written.getLsbD i).length

/-- The words of bytes in the SRAM. -/
def sramWords (bs : List Byte) : List SramWord :=
  (List.range (ceilDiv bs.length 64)).map fun k => SramWord.make ((bs.drop (64 * k)).take 64)

/-- Bytes with bits flipped. -/
def flipBytes (fs : List (Nat × Fin 8)) (bs : List Byte) : List Byte :=
  fs.foldl (fun bs f => bs.modify f.1 fun b => b ^^^ (1#8 <<< f.2.val)) bs

/-- Word k fails its parity: an odd number of its bits reads wrong (R211, R216). -/
def wordFails (fs : List (Nat × Fin 8)) (k : Nat) : Bool := (fs.filter fun f => f.1 / 64 == k).length % 2 == 1

/-- The words of bytes off to off + k - 1. -/
def wordsOf (off k : Nat) : List Nat := (List.range (ceilDiv (off + k) 64)).drop (off / 64)

/-- Count words that fail (R216). -/
def parFails (s : State) (n line k : Nat) : State :=
  iterate k s fun s _ => (s.bump (FIFO_ERR_PAR n)).raise (((ev (EV_FIFO_PAR n)).at_ 3 3).line_ line)

/-- A packet takes what was read of it: wrong bits are delivered as read, and a word that failed sets POISON and has the trailer CRC-32
computed afresh (R216). -/
def Pkt.read (p : Pkt) (fs : List (Nat × Fin 8)) (fail : Bool) : Pkt :=
  if !p.complete then { p with flips := p.flips ++ fs, poisoned := p.poisoned || fail }
  else let bs := flipBytes fs p.bytes
       { p with bytes := if fail then recrc (setLate bs 4) else bs }

/-- One request of a packet that the read side has begun (R215, R216): the wrong bits of bytes off to off + k - 1, and how many words or
staging copies fail. -/
def chunkRead (p : Pkt) (bad : SramBad) (off k : Nat) : List (Nat × Fin 8) × Nat × Bool :=
  let mine (fs : List (Nat × Fin 8)) := fs.filter fun f => decide (off ≤ f.1) && decide (f.1 < off + k)
  let staged := p.cut && (off == 0 || decide (p.len ≤ off + 32))
  let fs := mine bad.flips
  let fails := ((wordsOf off k).filter (wordFails (if p.cut then fs else bad.flips))).length
  if fails = 0 || !staged then (fs, fails, decide (0 < fails))
  else
    let gs := mine bad.copies
    let again := (wordsOf off k).any (wordFails gs)
    (gs, fails + b2n again, again)

/-- The read side offers its queue a request (R215, R216). `cut`: the payload bytes of an incomplete front packet that are in the tail.
The header and trailer words of a packet that is no cut-through packet are read before its first request; later a trailer word counts
with the payload.
[DEDUCED, unsafe: log entry 51] -/
def readRequest (s : State) (n : Nat) (bad : SramBad) (cut : List Byte) : State :=
  let s := padFront s n
  let f := fifoOf s n
  match f.offer, f.pkts with
  | none, p :: t =>
    -- a packet not yet written may start as cut-through (R214)
    let cutOk := !p.complete && p.place == .tail && s.rd (FIFO_CFG_CUT n) != 0 && middleEmpty f &&
      decide (256 * s.rd (FIFO_CFG_CUT n) ≤ cut.length)
    if !(p.place == .head || cutOk) || p.discard then s else
    let len := if cutOk then s.rd (PACK_PKTLEN_LEN n) else p.len
    let p := if p.offered then p
      else { p with offered := true, cut := cutOk, place := .head, len := len, extra := if cutOk then p.len - len else 0 }
    let whole := p.handed = 0 && !p.cut
    let hdr := whole && wordFails bad.flips 0
    let trl := whole && wordFails bad.flips (p.len / 64 - 1)
    if hdr || trl then
      let bs := flipBytes bad.flips p.bytes
      let s := parFails s n p.info.line (b2n hdr + b2n trl)
      let r := lostMarker s n 6 (if hdr then none else some (bs.take 64)) (if trl then none else some (bs.drop (p.len - 32))) []
        (nextLine t) p.granted
      fifoWatch (r.2.modFifo n fun f => { f with pkts := r.1 :: t }) n
    else
      match nextChunk p (if p.complete then p.len - 96 else cut.length) with
      | none => showFifo (s.modFifo n fun f => { f with pkts := p :: t }) n
      | some (off, k) =>
        let c := chunkRead p bad off k
        let s := parFails s n p.info.line c.2.1
        let q := p.read c.1 c.2.2
        let src := if q.complete then q.bytes else flipBytes q.flips (List.replicate 64 0 ++ cut)
        showFifo (s.modFifo n fun f =>
          { f with pkts := q :: t,
                   offer := some { off := off, bytes := (src.drop off).take k, last := decide (p.handed + k = p.len) } }) n
  | _, _ => s

/-- Remember the last line packet handed over (R145, R221). -/
def noteOut (f : FifoSt) (p : Pkt) : FifoSt :=
  if p.kind = 1 then { f with lastOut := some p.info, lastJig := jigField p.bytes } else f

/-- The offered request is handed to the DMA engine: OUTBYTES counts, the fill falls (R215, R222). -/
def handOver (s : State) (n : Nat) : State :=
  let f := fifoOf s n
  match f.offer, f.pkts with
  | some o, p :: t =>
    let k := o.bytes.length
    let s := s.wr64 (FIFO_OUTBYTES_LO_COUNT n) (FIFO_OUTBYTES_HI_COUNT n)
      ((s.rd64 (FIFO_OUTBYTES_LO_COUNT n) (FIFO_OUTBYTES_HI_COUNT n) + k) % 2 ^ 64)
    let p' := { p with handed := p.handed + k }
    let s := s.modFifo n fun f =>
      if o.last then noteOut { f with offer := none, pkts := t } p else { f with offer := none, pkts := p' :: t }
    fifoWatch s n
  | _, _ => s

/-! ## The join correlator (R228, R229). -/

/-- The profile of a row: tile means (R228). -/
def tileMeans (row : List Nat) : List Nat :=
  (List.range (ceilDiv row.length 64)).map fun t =>
    let xs := (row.drop (64 * t)).take 64
    (xs.sum + xs.length / 2) / xs.length

/-- Contribution of an overlap line at a shift: the sum D over tiles, where every profile it needs is kept and usable. -/
def joinTerm (b : List JoinRow) (a : JoinRow) (sh : Int) : Option (Nat × Nat) :=
  let u : Int := 16 * (a.line : Int) + sh
  let j := u / 16
  let f := (u % 16).toNat
  let prof (k : Int) : Option (List Nat) :=
    (b.find? fun r => decide ((r.line : Int) = k) && r.usable).map (·.means)
  match prof j, (if f = 0 then some [] else prof (j + 1)) with
  | some bj, some bk =>
    let d := (List.range a.means.length).map fun t =>
      (16 * (a.means.getD t 0 : Int) - ((16 - f : Nat) * (bj.getD t 0 : Int) + f * (bk.getD t 0 : Int))).natAbs
    some (d.sum, a.means.length)
  | _, _ => none

/-- The misfit E(s) and the lines that contribute (R228). -/
def joinMisfit (b as : List JoinRow) (sh : Int) : Option (Nat × Nat) :=
  let ts := (as.filter (·.usable)).filterMap fun a => joinTerm b a sh
  let pairs := (ts.map (·.2)).sum
  if pairs = 0 then none else some (16 * (ts.map (·.1)).sum / pairs, ts.length)

/-- Shifts in the order of preference at equal misfit: the smallest |s|, the negative one first (R228). -/
def joinShifts : List Int := 0 :: (List.range 16).flatMap fun (i : Nat) => [-((i : Int) + 1), (i : Int) + 1]

/-- The shift of least misfit (R228). -/
def joinBest (b as : List JoinRow) : Option (Int × Nat × Nat) :=
  joinShifts.foldl (fun (best : Option (Int × Nat × Nat)) sh =>
    match joinMisfit b as sh with
    | none => best
    | some (e, k) => match best with
      | none => some (sh, e, k)
      | some (_, e0, _) => if e < e0 then some (sh, e, k) else best) none

/-- The result of the join (R228 to R230): `vmode` says whether the vertical unit can be corrected.
[DEDUCED, unsafe: log entry 52] -/
def joinResult (f : FifoSt) (vmode : Bool) (lim : Nat) : JoinRes :=
  let no : JoinRes := { off := 0, ovl := 0, nocheck := decide (f.joinTrigs < 8), ran := false, misfit := false, res := 0xFFFFFFFF }
  if f.joinTrigs < 8 then no else
  let N := (f.stopLine.map (·.line)).getD 0
  let kept := f.normal.filter fun r => decide (N < r.line + 8) && decide (r.line ≤ N)
  match joinBest kept f.overlap with
  | none => no
  | some (sh, e, k) =>
    let res := if vmode then some e else (joinMisfit kept f.overlap 0).map (·.1)
    match res with
    | none => no
    | some r => { off := sh, ovl := k, nocheck := false, ran := true, misfit := decide (lim < r), res := r }

/-- JOINMIS of a join (R230). -/
def JoinRes.mis (r : JoinRes) : Bool := r.misfit || !r.ran

/-- A join record's payload (R147, R230). -/
def joinPayload (r : JoinRes) (last first : SpanEnd) (vmode : Bool) (lim : Nat) : List Byte :=
  let far := if vmode then decide (r.off.natAbs = 16) else decide (r.off ≠ 0)
  leBytes 8 last.line ++ leBytes 8 first.line ++ leBytes 8 last.pos.toNat ++ leBytes 8 first.pos.toNat ++
  leBytes 4 (toBits 32 r.off) ++ leBytes 2 r.ovl ++ leBytes 2 (b2n r.nocheck + 2 * b2n r.misfit + 4 * b2n far) ++
  leBytes 4 r.res ++ leBytes 4 lim ++ leBytes 48 0

/-- Count a join and raise its events (R227, R230, R235). -/
def joinCount (s : State) (n : Nat) (r : JoinRes) (line : Nat) : State :=
  let s := s.bump (FIFO_JOINCNT_JOINS n)
  let s := if r.mis then (s.bump (FIFO_JOINCNT_MIS n)).raise ((ev (EV_FIFO_JOINMIS n)).line_ line) else s
  let s := (s.wr (FIFO_DTSTAT_OVL n) r.ovl).wr (FIFO_DTSTAT_OFFSET n) (toBits 16 r.off)
  (s.wr (FIFO_JOINRES_RES n) r.res).raise ((ev (EV_FIFO_JOIN n)).line_ line)

/-! ## Configuration (R225). -/

/-- The checks of R225 on a channel's configuration, its tables, and the packet length it will have. -/
def fifoOk (s : State) (n : Nat) (tabs : List (Nat × Byte)) (pktlen : Nat) : Bool :=
  let high := s.rd (FIFO_HIGH_LEVEL n)
  let es := (List.range 16).map (paceEntry tabs)
  let used := (es.takeWhile (·.2.1))
  decide (s.rd (FIFO_LOW_LEVEL n) < high) && s.rd (FIFO_BACKOFF_DIST n) != 0 &&
  (List.range 16).all (fun e => bits (leNat (readBytes tabs (0x6C000 + 8 * e + 4) 4)) 30 23 == 0) &&
  (!driven s n ||
    match feedAxis s n with
    | none => false
    | some a =>
      decide (levelBytes high + (s.rd (FIFO_STOPLINES_LINES n) + 3) * (pktlen + 192) ≤ 1044480 + dataRing s n) &&
      (!s.rb (FIFO_PACECFG_EN n) ||
        (!used.isEmpty && (es.drop used.length).all (fun e => !e.2.1) && (used.map (·.1)).headD 1 == 0 &&
          decide ((used.map (·.1)).Pairwise (· < ·)) && decide ((used.map (·.2.2)).Pairwise (· ≥ ·)) &&
          used.all fun e => s.rd (MOTA_V1_V n a) ≤ e.2.2)))

/-- The FIFO counters that CLRCNT clears: never OUTBYTES (R236). -/
def fifoCounters (n : Nat) : List Fld :=
  [FIFO_MAXFILL_F n, FIFO_KERFLINES_COUNT n, FIFO_KERFMARKS_COUNT n, FIFO_ERR_PAR n, FIFO_ERR_DPOISON n, FIFO_ERR2_DLOST n,
   FIFO_PACEREF_REFUSED n, FIFO_JOINCNT_MIS n, FIFO_JOINCNT_JOINS n]

end Sys2Proof.Machine
end

