-- ==== Sys2Proof/Machine/EvtOps.lean ====
section
/-! DEFINITION. Machine/EvtOps.lean: the event unit (spec/15_events_faults_availability.md): the event table (R361), counting
(R362), the log ring (R366, R367), MSI-X messages (R368) and the pins (R369). The action that an event's class takes stands in
Machine/ActOps.lean. -/

namespace Sys2Proof.Machine

/-! ## The event table (R361). -/

def evWord0 (s : State) (e : Nat) : Nat := (s.word (0xA000 + 8 * e)).toNat
def evWord1 (s : State) (e : Nat) : Nat := (s.word (0xA004 + 8 * e)).toNat

def evClass (s : State) (e : Nat) : Nat := bits (evWord0 s e) 31 29
/-- The window of event e, in ms, at least 1 (R361).
[DEDUCED, unsafe: log entry 63] -/
def evWin (s : State) (e : Nat) : Nat := max 1 (bits (evWord0 s e) 23 0)
def evThr (s : State) (e : Nat) : Nat := bits (evWord1 s e) 31 24
def evVec (s : State) (e : Nat) : Nat := bits (evWord1 s e) 23 18
def evMsiEn (s : State) (e : Nat) : Bool := bit (evWord1 s e) 17
def evLogEn (s : State) (e : Nat) : Bool := bit (evWord1 s e) 16
def evPins (s : State) (e : Nat) : Nat := bits (evWord1 s e) 15 12
def evFltPin (s : State) (e : Nat) : Bool := bit (evWord1 s e) 11
def evUmd (s : State) (e : Nat) : Bool := bit (evWord1 s e) 10

/-- The bits of an event-table half that a write can change. -/
def evTableMask (a : Nat) : Word := if a % 8 = 0 then 0xE0FFFFFF else 0xFFFFFC00

/-- Is an address a half of the entry of an event in use (R359, R361)? -/
def isEvTable (a : Nat) : Bool := 0xA000 ≤ a && a < 0xC000 && a % 4 == 0 && evInUse (evTableEv a)

/-- Status and lasting bits (R365). -/
def evStat (s : State) (e : Nat) : Bool := bit (s.rd (EVT_STAT_STAT (e / 32))) (e % 32)
def evLast (s : State) (e : Nat) : Bool := bit (s.rd (EVT_LAST_LAST (e / 32))) (e % 32)

def setEvStat (s : State) (e : Nat) : State :=
  s.setW1c (EVT_STAT_STAT (e / 32)) (2 ^ (e % 32))

def setEvLast (s : State) (e : Nat) : State :=
  s.setW1c (EVT_LAST_LAST (e / 32)) (2 ^ (e % 32))

/-! ## Pins (R369). -/

/-- EVT_N[p] is low.
[DESIGN CHOICE, safe: log entry 13] -/
def evtPinLow (s : State) (p : Nat) : Bool :=
  (List.range 1024).any fun e => evStat s e && bit (evPins s e) p

/-- FAULT_N is low, but for forwarding over Umade.
[DESIGN CHOICE, safe: log entry 13] -/
def faultLow (s : State) : Bool :=
  s.safe || (List.range 1024).any fun e =>
    (evLast s e && 3 ≤ evClass s e) || (evStat s e && (evFltPin s e || e == EV_LIB_NONE))

/-! ## Control requests (R281) and messages (R368). -/

def State.modEvt (s : State) (f : EvtSt → EvtSt) : State := { s with evt := f s.evt }
def State.modDma (s : State) (f : DmaSt → DmaSt) : State := { s with dma := f s.dma }

/-- A control request becomes ready. -/
def ctlPush (s : State) (c : CtlReq) : State := s.modDma fun d => { d with ctl := d.ctl ++ [c] }

/-- The device may master the bus (R267). -/
def canMaster (s : State) : Bool := s.rb DMA_LINK_BME && s.rd DMA_LINK_DSTATE == 0

/-- MSI-X table and Pending Bit Array (R266). -/
def msiMasked (s : State) (v : Nat) : Bool := s.dma.cfg.fmask || bit (s.word (0x18000 + 16 * v + 12)).toNat 0

def pbaAddr (v : Nat) : Nat := 0x19000 + 4 * (v / 32)

def pbaBit (s : State) (v : Nat) : Bool := bit (s.word (pbaAddr v)).toNat (v % 32)

def setPba (s : State) (v : Nat) (b : Bool) : State :=
  s.setWord (pbaAddr v) (BitVec.ofNat 32 (withBit (s.word (pbaAddr v)).toNat (v % 32) b))

/-- Issue the message of a vector: pending while it is masked, nothing while MSI-X is off. -/
def msiIssue (s : State) (v : Nat) : State :=
  if !s.dma.cfg.msixEn then s
  else if msiMasked s v then setPba s v true
  else
    let a := (s.word (0x18000 + 16 * v)).toNat + 2 ^ 32 * (s.word (0x18000 + 16 * v + 4)).toNat
    ctlPush (setPba s v false) (.write a (leBytes 4 (s.word (0x18000 + 16 * v + 8)).toNat))

/-- A message of a vector, merged within the hold (R368). -/
def msiSend (s : State) (v : Nat) : State :=
  let h := s.rd EVT_MSIHOLD_HOLD
  let near := match s.evt.msiLast.find? (·.1 == v) with
    | some (_, t) => h != 0 && decide (s.now < t + 1000 * h)
    | none => false
  if near then s.modEvt fun x => { x with msiMerge := if x.msiMerge.contains v then x.msiMerge else x.msiMerge ++ [v] }
  else msiIssue (s.modEvt fun x => { x with msiLast := (v, s.now) :: x.msiLast.filter (·.1 != v) }) v

/-- The hold of a vector ends: one merged message (R368). -/
def msiHoldExpire (s : State) (v : Nat) : State :=
  if !s.evt.msiMerge.contains v then s else
  let s := s.modEvt fun x => { x with msiMerge := x.msiMerge.erase v, msiLast := (v, s.now) :: x.msiLast.filter (·.1 != v) }
  if canMaster s then msiIssue s v else s.modEvt fun x => { x with held := x.held ++ [{ entry := none, msi := some v }] }

/-- Pending vectors that are no longer masked issue their message. -/
def msiPending (s : State) : State :=
  iterate 64 s fun s v => if pbaBit s v && s.dma.cfg.msixEn && !msiMasked s v then msiIssue s v else s

/-! ## The log ring (R366, R367). -/

/-- Slots of the ring. -/
def logSlots (s : State) : Nat := 2 ^ min 16 (max 6 (s.rd EVT_LOGSIZE_LOG2))

/-- Write an entry, or count it where the ring is full. -/
def logWrite (s : State) (entry : List Byte) : State :=
  let n := logSlots s
  let slot := s.rd EVT_LOGTAIL_SLOT % n
  let next := (slot + 1) % n
  if next = s.rd EVT_LOGHEAD_SLOT % n then
    let s := s.bump EVT_LOST_COUNT
    s.raise (ev EV_EVT_LOGFULL)
  else
    let ph := s.rb EVT_LOGTAIL_PHASE
    let a := s.rd64 EVT_LOGBASE_LO_ADDR EVT_LOGBASE_HI_ADDR + 32 * slot
    let s := ctlPush (ctlPush s (.write a entry)) (.write (a + 0x1C) (leBytes 2 s.evt.seq ++ leBytes 2 (if ph then 0x8000 else 0)))
    let s := s.modEvt fun x => { x with seq := (x.seq + 1) % 65536 }
    (s.wr EVT_LOGTAIL_SLOT next).wb EVT_LOGTAIL_PHASE (if next = 0 then !ph else ph)

def logOn (s : State) : Bool := s.rb EVT_CTL_LOGEN && canMaster s

/-- An entry or message goes out, or is held back behind those already held (R366). -/
def logOut (s : State) (w : LogWait) : State :=
  let ready := canMaster s && (w.entry.isNone || s.rb EVT_CTL_LOGEN)
  if ready then
    let s := match w.entry with | some b => logWrite s b | none => s
    match w.msi with | some v => msiSend s v | none => s
  else s.modEvt fun x => { x with held := x.held ++ [w] }

/-- What was held back goes out once logging and mastering allow (R366). -/
def logRelease (s : State) : State :=
  s.evt.held.foldl logOut (s.modEvt fun x => { x with held := [] })

/-- Bytes 0x00 to 0x1B of an entry (R367). -/
def entryHead (s : State) (r : Raise) (count : Nat) (lasting : Bool) : List Byte :=
  leBytes 2 r.ev ++ leBytes 1 (evClass s r.ev + 8 * b2n lasting) ++ leBytes 1 (s.rd UMD_STAT_NODE) ++
  leBytes 2 (r.kind * 4096 + r.idx) ++ leBytes 2 (min count 65535) ++ leBytes 8 s.timeBase.toNat ++ leBytes 6 r.line ++
  leBytes 2 r.code ++ leBytes 4 r.detail

/-! ## Counting (R362). -/

/-- The unit on which an occurrence counts under an event. -/
def evUnit (r : Raise) (e : Nat) : EvUnit :=
  { ev := e, kind := r.kind, idx := r.idx,
    row := if 128 ≤ e ∧ e < 160 ∧ e % 8 = 2 then r.detail + 1 else 0 }

def Tracker.open_ (t : Tracker) (now : Nat) : Bool := decide (now < t.opened + t.win * 1000000)

/-- EVT_TRK.USED follows the trackers. -/
def showTrk (s : State) : State := s.wr EVT_TRK_USED ((s.evt.trackers.filter (·.unit.kind != 0)).length)

/-- Count an occurrence on a unit: its count, and whether it makes the unit lasting. -/
def evCount (s : State) (u : EvUnit) : Nat × Bool × State :=
  let live := s.evt.trackers.filter (·.open_ s.now)
  let old := live.find? (·.unit == u)
  let full := old.isNone && u.kind != 0 && decide (2048 ≤ (live.filter (·.unit.kind != 0)).length)
  if full then (0, false, (s.modEvt fun x => { x with trackers := live }).bump EVT_TRK_FULL) else
  let t : Tracker := match old with
    | some t => { t with count := min 65535 (t.count + 1) }
    | none => { unit := u, opened := s.now, win := evWin s u.ev, count := 1 }
  let thr := evThr s u.ev
  let new := evClass s u.ev != 0 && thr != 0 && decide (thr ≤ t.count) && !s.evt.lasting.contains u
  let s := s.modEvt fun x =>
    { x with trackers := t :: live.filter (fun y => !(y.unit == u)), lasting := if new then u :: x.lasting else x.lasting }
  (t.count, new, showTrk s)

/-- The windows that have lapsed free their trackers (R362). -/
def trackersLapse (s : State) : State :=
  showTrk (s.modEvt fun x => { x with trackers := x.trackers.filter (·.open_ s.now) })

/-! ## Writes (R365, R366, R383). -/

/-- W1C of EVT_STAT_w (R9). -/
def evStatClear (s : State) (w v : Nat) : State := s.clearW1c (EVT_STAT_STAT w) v

/-- W1C of EVT_LAST_w: the lasting state of every unit of the events, and their counting, start afresh.
[DEDUCED, unsafe: log entry 63] -/
def evLastClear (s : State) (w v : Nat) : State :=
  let f := EVT_LAST_LAST w
  let t := s.clearW1c f v
  let gone (e : Nat) : Bool := e / 32 == w && evLast s e && !bit (t.rd f) (e % 32)
  let s := t
  let s := s.modEvt fun x =>
    { x with lasting := x.lasting.filter fun u => !gone u.ev, trackers := x.trackers.filter fun t => !gone t.unit.ev }
  let s := iterate 4 s fun s n => s.modCh n fun c =>
    { c with stopHold := match c.stopHold with | some e => if gone e then none else some e | none => none }
  iterate 4 (showTrk s) showFifo

/-- EVT_FORCE.GO: any event in use, without its class action (R365). -/
def evForce (s : State) (e : Nat) : State :=
  if evInUse e then s.raise { ev e with forced := true } else s

/-- EVT_CTL.LOGEN is written. -/
def logEnable (s : State) (on : Bool) : State :=
  let s := s.wb EVT_CTL_LOGEN on
  if on then logRelease s else s

end Sys2Proof.Machine
end

