-- ==== Sys2Proof/Machine/Sign.lean ====
section
/-! DEFINITION. Machine/Sign.lean: the signature check of images (spec/02_jigs_boot_job_switch.md R35, R36): SHA-256 and ECDSA
over NIST P-256. -/

namespace Sys2Proof.Machine

/-! ## SHA-256. -/

/-- The largest r < 2 ^ k with r ^ e ≤ v, bit by bit from the top. -/
def rootFloor (e v : Nat) : Nat → Nat → Nat
  | 0, r => r
  | k + 1, r => rootFloor e v k (if (r + 2 ^ k) ^ e ≤ v then r + 2 ^ k else r)

/-- The first 32 bits of the fraction of the e-th root of p, the numbers that SHA-256 is built on. -/
def rootBits (e p : Nat) : Nat := rootFloor e (p * 2 ^ (32 * e)) 36 0 % 2 ^ 32

/-- The primes below a limit, by trial division. -/
def primesBelow (m : Nat) : List Nat :=
  (List.range m).filter fun p => 2 ≤ p && (List.range p).all fun d => d < 2 || p % d != 0

/-- A round's constant: of the cube root of one of the first 64 primes. -/
def shaRoundWords : List Nat := (primesBelow 312).map (rootBits 3)

/-- The hash before the first block: of the square roots of the first eight primes. -/
def shaStart : List Nat := (primesBelow 20).map (rootBits 2)

/-- Rotate a 32-bit word right. -/
def rotr (v k : Nat) : Nat := v / 2 ^ k + v % 2 ^ k * 2 ^ (32 - k)

/-- The message schedule: 16 words and 48 more, newest first. -/
def shaSchedule : Nat → List Nat → List Nat
  | 0, w => w
  | k + 1, w =>
    let a := w.getD 14 0
    let b := w.getD 1 0
    let s0 := rotr a 7 ^^^ rotr a 18 ^^^ a / 8
    let s1 := rotr b 17 ^^^ rotr b 19 ^^^ b / 1024
    shaSchedule k ((w.getD 15 0 + s0 + w.getD 6 0 + s1) % 2 ^ 32 :: w)

/-- One round on the eight working words. -/
def shaRound (h : List Nat) (kw : Nat) : List Nat :=
  match h with
  | [a, b, c, d, e, f, g, hh] =>
    let s1 := rotr e 6 ^^^ rotr e 11 ^^^ rotr e 25
    let chs := (e &&& f) ^^^ ((2 ^ 32 - 1 - e) &&& g)
    let t1 := hh + s1 + chs + kw
    let s0 := rotr a 2 ^^^ rotr a 13 ^^^ rotr a 22
    let maj := (a &&& b) ^^^ (a &&& c) ^^^ (b &&& c)
    [(t1 + s0 + maj) % 2 ^ 32, a, b, c, (d + t1) % 2 ^ 32, e, f, g]
  | h => h

/-- A big-endian number. -/
def beNat (bs : List Byte) : Nat := leNat bs.reverse

/-- One 64-byte block into the hash. -/
def shaBlock (h : List Nat) (block : List Byte) : List Nat :=
  let w0 := ((List.range 16).map fun i => beNat ((block.drop (4 * i)).take 4)).reverse
  let ws := (shaSchedule 48 w0).reverse
  let r := (List.zipWith (· + ·) shaRoundWords ws).foldl shaRound h
  List.zipWith (fun a b => (a + b) % 2 ^ 32) h r

/-- Blocks of 64 bytes, at most `fuel`. -/
def shaBlocks : Nat → List Nat → List Byte → List Nat
  | 0, h, _ => h
  | k + 1, h, bs => if bs.isEmpty then h else shaBlocks k (shaBlock h (bs.take 64)) (bs.drop 64)

/-- SHA-256 as 32 bytes.
[DEDUCED, unsafe: log entry 73] -/
def sha256 (bs : List Byte) : List Byte :=
  let z := (119 - bs.length % 64) % 64
  let m := bs ++ [0x80#8] ++ List.replicate z 0 ++ (leBytes 8 (8 * bs.length)).reverse
  (shaBlocks (m.length / 64) shaStart m).flatMap fun v => (leBytes 4 v).reverse

/-! ## ECDSA over P-256. -/

def p256p : Nat := 0xffffffff00000001000000000000000000000000ffffffffffffffffffffffff
def p256n : Nat := 0xffffffff00000000ffffffffffffffffbce6faada7179e84f3b9cac2fc632551
def p256b : Nat := 0x5ac635d8aa3a93e7b3ebbd55769886bc651d06b0cc53b0f63bce3c3e27d2604b
def p256g : Nat × Nat :=
  (0x6b17d1f2e12c4247f8bce6e563a440f277037d812deb33a0f4a13945d898c296,
   0x4fe342e2fe1a7f9b8ee7eb4a7c0f9e162bce33576b315ececbb6406837bf51f5)

/-- b to a power modulo m, over the exponent's bits. -/
def powMod (m : Nat) : Nat → Nat → Nat → Nat
  | 0, _, _ => 1 % m
  | k + 1, b, e =>
    let r := powMod m k (b * b % m) (e / 2)
    if e % 2 = 1 then r * b % m else r

/-- Inverse modulo a prime of 256 bits. -/
def invMod (m a : Nat) : Nat := powMod m 256 (a % m) (m - 2)

/-- The sum of two curve points; none is the point at infinity. -/
def ecAdd (a b : Option (Nat × Nat)) : Option (Nat × Nat) :=
  match a, b with
  | none, q => q
  | q, none => q
  | some (x1, y1), some (x2, y2) =>
    if x1 = x2 ∧ (y1 + y2) % p256p = 0 then none else
    let l := if x1 = x2 then (3 * x1 * x1 + (p256p - 3)) * invMod p256p (2 * y1) % p256p
             else (y2 + p256p - y1) * invMod p256p (x2 + p256p - x1) % p256p
    let x := (l * l + 2 * p256p - x1 - x2) % p256p
    some (x, (l * (x1 + p256p - x) + p256p - y1) % p256p)

/-- A multiple of a point, over the multiplier's bits. -/
def ecMul : Nat → Nat → Option (Nat × Nat) → Option (Nat × Nat)
  | 0, _, _ => none
  | k + 1, e, q =>
    let r := ecMul k (e / 2) (ecAdd q q)
    if e % 2 = 1 then ecAdd r q else r

/-- Does a signature verify over a message hash?
[DEDUCED, unsafe: log entry 73] -/
def ecdsaOk (hash : Nat) (qx qy r s : Nat) : Bool :=
  if qx < p256p ∧ qy < p256p ∧ qy * qy % p256p = (qx * qx * qx + (p256p - 3) * qx + p256b) % p256p ∧
      0 < r ∧ r < p256n ∧ 0 < s ∧ s < p256n then
    let w := invMod p256n s
    match ecAdd (ecMul 256 (hash * w % p256n) (some p256g)) (ecMul 256 (r * w % p256n) (some (qx, qy))) with
    | some (x, _) => x % p256n == r
    | none => false
  else false

/-- Does an image end with a signature block of algorithm 0x01 (R35)?
[DESIGN CHOICE, safe: log entry 75] -/
def signPresent (img : List Byte) : Bool :=
  let sg := img.drop (img.length - 192)
  fieldAt sg 0 4 == 0x47535853 && fieldAt sg 4 1 == 1

/-- Is an image accepted under R35 and R36? The image ends with its 192-byte signature block; `key` is the fused hash, blank
where it is empty.
[DEDUCED, unsafe: log entry 73] -/
def signOk (key : List Byte) (img : List Byte) : Bool :=
  let o := img.length - 192
  let sg := img.drop o
  let alg := fieldAt sg 4 1
  if alg ≠ 0 ∧ alg ≠ 1 then false
  else if fieldAt sg 0 4 ≠ 0x47535853 then key.isEmpty
  else if key.isEmpty then true
  else alg == 1 && decide (sha256 ((sg.drop 8).take 64) = key) &&
    ecdsaOk (beNat (sha256 (img.take o))) (fieldAt sg 0x08 32) (fieldAt sg 0x28 32) (fieldAt sg 0x48 32) (fieldAt sg 0x68 32)

end Sys2Proof.Machine
end

