-- ==== Sys2Proof/Machine/LibOps.lean ====
section
/-! DEFINITION. Machine/LibOps.lean: the jig library (spec/02_jigs_boot_job_switch.md): the DRAM library and BAR 2 (R47, R48), the
images and their checks (R38 to R46), and the parts of a jig that blocks stage (R44, R45, spec/12_dram_controller.md R300). -/

namespace Sys2Proof.Machine

/-! ## The DRAM library (R47, R48). -/

/-- Controller k is in service. -/
def dramOk (s : State) (k : Nat) : Bool := bit (s.rd GLB_BOOTSTAT_DRAMOK) k

/-- DRAM training is complete, as GLB_BOOTSTAT shows. -/
def dramTrained (s : State) : Bool := 2 ≤ s.rd GLB_BOOTSTAT_PHASE

/-- A maintenance window is open on controller k (R317). -/
def inWindow (s : State) (k : Nat) : Bool := s.rd (DRC_STAT_STATE k) == 4

/-- Controller k is in service and serves library reads.
[DEDUCED, unsafe: log entry 58] -/
def libServes (s : State) (k : Nat) : Bool := dramOk s k && !inWindow s k

/-- The lowest-numbered controller in service. -/
def libCtl (s : State) : Option Nat := (List.range 4).find? (libServes s)

/-- The controller whose copy serves controller k's reads: its own, else the next in service (R47). -/
def libFrom (s : State) (k : Nat) : Nat :=
  if libServes s k then k else ((List.range 4).find? fun i => k < i && libServes s i).getD ((libCtl s).getD k)

def jigBit (s : State) (j : Nat) : Bool :=
  bit (s.rd (if j < 32 then GLB_LIBVALID_LO_VALID else GLB_LIBVALID_HI_VALID)) (j % 32)

def setJigBit (s : State) (j : Nat) (b : Bool) : State :=
  let f := if j < 32 then GLB_LIBVALID_LO_VALID else GLB_LIBVALID_HI_VALID
  s.wr f (withBit (s.rd f) (j % 32) b)

/-- A slot that holds an active jig or the jig of a pending switch (R48).
[DEDUCED, safe: log entry 19] -/
def libLocked (s : State) (j : Nat) : Bool :=
  (List.range 4).any (fun n => !s.rb (GLB_SW_STAT_NOJIG n) && s.rd (GLB_SW_STAT_ACTIVE n) == j) || s.switches.any (·.jig == j)

def drcOf (s : State) (k : Nat) : DrcSt := s.drc.get k

def State.modDrc (s : State) (k : Nat) (f : DrcSt → DrcSt) : State := { s with drc := s.drc.set k (f (s.drc.get k)) }

/-- Controller k's copy gives the library burst at `a`: no read of it failed twice since it was written (R305). -/
def copyGives (s : State) (k a : Nat) : Bool := libServes s k && !(drcOf s k).dead.contains (a / 64 * 64)

/-- The lowest controller in service whose copy gives a library burst (R47, R48). -/
def libSource (s : State) (a : Nat) : Option Nat := (List.range 4).find? fun k => copyGives s k a

/-- Read library bytes through BAR 2: each from the first copy that gives it. -/
def libRead (s : State) (a n : Nat) : List Byte :=
  match libCtl s with
  | some k =>
    if dramTrained s then (List.range n).map fun i => sget zeroByte (s.dram ((libSource s (a + i)).getD k)) (a + i)
    else List.replicate n 0xFF
  | none => List.replicate n 0xFF

/-- No copy gives one of the bytes that a read of the library returns (R305). -/
def libLost (s : State) (a n : Nat) : Bool :=
  (libCtl s).isSome && dramTrained s && (List.range n).any fun i => (libSource s (a + i)).isNone

/-- Write one library byte to every copy in service; the write makes its burst readable again (R304). -/
def libPut (s : State) (a : Nat) (b : Byte) : State :=
  iterate 4 s fun s k =>
    if dramOk s k then
      (s.modDram k fun m => sput zeroByte m a b).modDrc k fun d => { d with dead := d.dead.filter (· != a / 64 * 64) }
    else s

/-- Write library bytes, each with its enable, through BAR 2 (R48): discarded on a locked slot.
[DEDUCED, safe: log entry 19] -/
def libWrite (s : State) (a : Nat) (bs : List (Byte × Bool)) : State :=
  if !dramTrained s then s
  else if (List.range 4).any (inWindow s) then s.raise (ev EV_LIB_BUSY)
  else
  let slots := ((List.range bs.length).map fun i => (a + i) / 0x100000).eraseDups
  let s := slots.foldl (fun s j => if libLocked s j then s.raise (ev EV_LIB_BUSY) else setJigBit s j false) s
  (List.range bs.length).foldl (fun s i =>
    match bs[i]? with
    | some (b, true) => if libLocked s ((a + i) / 0x100000) then s else libPut s (a + i) b
    | _ => s) s

/-! ## Jig images (R42 to R46). -/

structure JigSec where
  ty : Nat
  tgt : Nat
  sub : Nat
  off : Nat
  len : Nat
  crc : Nat
  rsv : Nat
  deriving DecidableEq, Repr

/-- The section directory of a jig (R43). -/
def jigSecs (bs : List Byte) : List JigSec :=
  (List.range (fieldAt bs 8 1)).map fun i =>
    let o := 0x40 + 16 * i
    { ty := fieldAt bs o 1, tgt := fieldAt bs (o + 1) 1, sub := fieldAt bs (o + 2) 1, rsv := fieldAt bs (o + 3) 1,
      off := fieldAt bs (o + 4) 4, len := fieldAt bs (o + 8) 4, crc := fieldAt bs (o + 12) 4 }

/-- A section's bytes. -/
def secBytes (bs : List Byte) (c : JigSec) : List Byte := (bs.drop c.off).take c.len

/-- The image of jig j in a controller's library copy. -/
def jigImage (m : List (Nat × Byte)) (j : Nat) : List Byte :=
  readBytes m (j * 0x100000) (min (leNat (readBytes m (j * 0x100000 + 0x0C) 4)) 0x100000)

/-- Entries of a register image (R45). -/
def imageEntries (bs : List Byte) : List (Nat × Nat) :=
  (List.range (bs.length / 8)).map fun i => (fieldAt bs (8 * i) 4, fieldAt bs (8 * i + 4) 4)

/-- Has a register a field that an image can set?
[DEDUCED, unsafe: log entry 17] -/
def imageSettable (a : Nat) : Bool :=
  isEvTable a || (fieldsAt a).any fun f => f.acc == .rw || f.acc == .rws || f.acc == .rwl

/-- Is an entry of a register image valid, for the device (none) or channel n (R45)? -/
def imageEntryOk (ch : Option Nat) (off : Nat) : Bool :=
  match ch with
  | none => off % 4 == 0 && 0x8000 ≤ off && off < 0x50000 && imageSettable off
  | some n => off % 4 == 0 && off < 0x40000 && imageSettable (chBase n + off)

/-- Does a region of the table window lie within the tables that a section can load (R400)? -/
def tableRegionOk (off n : Nat) : Bool :=
  [(0x60000, 0x60600), (0x60800, 0x60840), (0x61000, 0x61180), (0x64000, 0x6C080)].any fun r =>
    decide (r.1 ≤ off) && decide (off + n ≤ r.2)

/-- The words of a sequence section. -/
def seqWords (bs : List Byte) : List (BitVec 64) :=
  (List.range (bs.length / 8)).map fun i => BitVec.ofNat 64 (fieldAt bs (8 * i) 8)

/-- Only commands that an activate list may hold (R53); the second word of a WRITEM is no command. -/
def activateOk : List (BitVec 64) → Bool
  | [] => true
  | w :: t =>
    let op := bits w.toNat 63 60
    if op = 2 then (match t with | [] => false | _ :: u => activateOk u)
    else (op == 0 || op == 1 || op == 4 || op == 9) && activateOk t

/-- The DRAM part of a type 0x0B section (R300). -/
def drcPartOk (bs : List Byte) : Bool :=
  bs.length == 384 && fieldAt bs 0 2 == 1 && ((bs.drop 2).take 62).all (· == 0) &&
  (List.range 4).all fun k =>
    let o := 0x40 + 64 * k
    (List.range 6).all (fun i => fieldAt bs (o + 4 * i) 4 < 2 ^ 17) &&
    [0, 8, 16, 24].contains (fieldAt bs (o + 0x1A) 1) && fieldAt bs (o + 0x1B) 1 == 0 &&
    ((bs.drop (o + 0x1E)).take 34).all (· == 0)

/-- Is a section's type, target and content valid by itself (R44, R45, R46, R50, R53, R300)? -/
def secTypeOk (bs : List Byte) (c : JigSec) : Bool :=
  let b := secBytes bs c
  let chan := decide (c.tgt < 4)
  let dev := c.tgt == 0xFF
  c.rsv == 0 && (c.sub == 0 || c.ty == 4) &&
  match c.ty with
  | 0x01 => dev && c.len % 8 == 0 && (imageEntries b).all fun e => imageEntryOk none e.1
  | 0x02 => chan && c.len % 8 == 0 && (imageEntries b).all fun e => imageEntryOk (some c.tgt) e.1
  | 0x03 => chan
  | 0x04 => c.len % 8 == 0 && ((dev && c.sub == 0) || (chan && c.sub ≤ 4))
  | 0x0B => dev
  | 0x0C => dev
  | 0x7F => true
  | t => chan && 5 ≤ t && t ≤ 10 && 8 ≤ c.len && fieldAt b 4 4 + 8 ≤ c.len && tableRegionOk (fieldAt b 0 4) (fieldAt b 4 4)

/-- The channels that a jig's sections target. -/
def jigMask (bs : List Byte) : Nat :=
  (List.range 4).foldl (fun m n => m + b2n ((jigSecs bs).any fun c => c.tgt == n) * 2 ^ n) 0

/-- Header and section CRCs, and the layout that they cover (R42, R43). -/
def jigCrcsOk (bs : List Byte) (j : Nat) : Bool :=
  let k := fieldAt bs 8 1
  fieldAt bs 0 4 == 0x474A5853 && fieldAt bs 4 2 == 1 && fieldAt bs 6 1 == j && fieldAt bs 0x0C 4 == bs.length &&
  bs.length % 64 == 0 && decide (bs.length ≤ 0x100000) && 1 ≤ k && k ≤ 60 && fieldAt bs 0x3C 4 == crc32 (bs.take 0x3C ++ (bs.drop 0x40).take (16 * k)) &&
  (jigSecs bs).all fun c => c.off % 64 == 0 && c.off + c.len ≤ bs.length && crc32 (secBytes bs c) == c.crc

/-- The number of the first check of R46 that a jig fails, counted from 1 in the rule's order; 0 where it is valid.
[DESIGN CHOICE, unsafe: log entry 18] -/
def jigCheck (key : List Byte) (bs : List Byte) (j : Nat) (dirCrc : Option Nat) : Nat :=
  let secs := jigSecs bs
  if !jigCrcsOk bs j then 1
  else if (match dirCrc with | some c => crc32 bs != c | none => false) then 2
  else if !signOk key bs then 3
  else if fieldAt bs 9 1 ≠ 0xB0 then 4
  else if !secs.all (secTypeOk bs) then 5
  else if bits (fieldAt bs 7 1) 3 0 ≠ jigMask bs then 6
  else if !secs.all (fun c => c.ty != 4 ||
      (decide (c.len ≤ 8 * 6144) && (c.sub != 1 || (decide (c.len ≤ 8 * 512) && activateOk (seqWords (secBytes bs c)))))) then 7
  else if !secs.all (fun c => c.ty != 0x0B || drcPartOk (secBytes bs c)) then 8
  else 0

/-- The sections of a type for a target. -/
def secsOf (bs : List Byte) (ty tgt : Nat) : List JigSec := (jigSecs bs).filter fun c => c.ty == ty && c.tgt == tgt

/-- The list of a type for a target: the first such section in the directory.
[DESIGN CHOICE, unsafe: log entry 74] -/
def jigList (bs : List Byte) (tgt sub : Nat) : Option (List (BitVec 64)) :=
  ((secsOf bs 4 tgt).find? (·.sub == sub)).map fun c => seqWords (secBytes bs c)

/-- The device's first type 0x0B or 0x0C section.
[DESIGN CHOICE, unsafe: log entry 74] -/
def devSec (bs : List Byte) (ty : Nat) : Option (List Byte) := ((secsOf bs ty 0xFF).head?).map (secBytes bs)

/-! ## What a jig puts into registers and tables. -/

/-- A register word after an image entry: only its RW, RWS and RWL fields take the value.
[DEDUCED, unsafe: log entry 17] -/
def imageWord (a : Nat) (old : Word) (v : Nat) : Word :=
  if isEvTable a then (old &&& ~~~ evTableMask a) ||| (BitVec.ofNat 32 v &&& evTableMask a) else
  (fieldsAt a).foldl (fun w f =>
    if f.acc = .rw ∨ f.acc = .rws ∨ f.acc = .rwl then f.put w (f.of (BitVec.ofNat 32 v)) else w) old

/-- Take an image entry into a register, as plain data.
[DEDUCED, unsafe: log entry 17] -/
def imagePut (s : State) (a v : Nat) : State := s.setWord a (imageWord a (s.word a) v)

/-- The register entries of channel n, in directory order, as absolute addresses. -/
def chanEntries (bs : List Byte) (n : Nat) : List (Nat × Nat) :=
  (secsOf bs 2 n).flatMap fun c => (imageEntries (secBytes bs c)).map fun e => (chBase n + e.1, e.2)

/-- The table sections of channel n put into its tables. -/
def chanTables (bs : List Byte) (n : Nat) (tabs : List (Nat × Byte)) : List (Nat × Byte) :=
  ((jigSecs bs).filter fun c => 5 ≤ c.ty && c.ty ≤ 10 && c.tgt == n).foldl (fun m c =>
    let b := secBytes bs c
    writeBytes m (fieldAt b 0 4) ((b.drop 8).take (fieldAt b 4 4))) tabs

/-- The sensor timing schedule section of channel n: the last of them, as entries apply in order.
[DESIGN CHOICE, unsafe: log entry 74] -/
def chanSched (bs : List Byte) (n : Nat) : Option (List Byte) := ((secsOf bs 3 n).getLast?).map (secBytes bs)

/-- The DRAM masks of a type 0x0B section, controller by controller (R300). -/
def drcMasks (b : List Byte) (k : Nat) : List Nat := (List.range 6).map fun i => fieldAt b (0x40 + 64 * k + 4 * i) 4

end Sys2Proof.Machine
end

