-- ==== Sys2Proof/Machine/DmaOps.lean ====
section
/-! DEFINITION. Machine/DmaOps.lean: the DMA engine (spec/11_host_link_dma.md): descriptors (R270 to R273), scatter lists (R274),
FIFO packets (R275 to R277), barriers and completion records (R278 to R280), arbitration (R281), memory transfers (R283 to
R286), reads and their failures (R287 to R289), ABORT and PAUSE (R282, R290). -/

namespace Sys2Proof.Machine

def dmaQ (s : State) (q : Nat) : DmaQ := s.dma.qs.getD q DmaQ.idle

def modQ (s : State) (q : Nat) (f : DmaQ → DmaQ) : State := s.modDma fun d => { d with qs := d.qs.modify q f }

/-- The channel whose FIFO the queue takes (R269). -/
def queueChan (s : State) (q : Nat) : Option Nat :=
  let v := s.rd (DMAQ_CFG_SRC q)
  if v = 0 ∨ 4 < v then none else some (v - 1)

/-- The queue holding channel n's FIFO. -/
def chanQueue (s : State) (n : Nat) : Option Nat := (List.range 16).find? fun q => s.rd (DMAQ_CFG_SRC q) == n + 1

/-- The queue issues nothing: paused by the host, or mastering is off (R267, R282). -/
def queueHeld (s : State) (q : Nat) : Bool := s.rb (DMAQ_CTL_PAUSE q) || !canMaster s

/-- Write TLPs that hold a barrier tracker (R278). -/
def trackersUsed (s : State) : Nat := s.dma.tlps + (s.dma.flight.map (·.2)).sum

/-- Non-posted requests outstanding (R267, R294). -/
def tagsUsed (s : State) : Nat := (s.dma.qs.map fun x => x.flying.length).sum

/-- The most non-posted requests outstanding, by the tags in use (R267). -/
def tagLimit (s : State) : Nat := if s.dma.cfg.tag14 then 4096 else if s.dma.cfg.tag10 then 768 else 256

/-- DMA_TRACK (R294). -/
def showTrack (s : State) : State := (s.wr DMA_TRACK_TRK (trackersUsed s)).wr DMA_TRACK_TAGS (tagsUsed s)

/-- A read of a queue goes out. -/
def flyOut (s : State) (q : Nat) (w : ReadWhat) : State := showTrack (modQ s q fun x => { x with flying := x.flying ++ [w] })

/-- A read of a queue has come back, well or failed. -/
def flyBack (s : State) (q : Nat) (w : ReadWhat) : State := showTrack (modQ s q fun x => { x with flying := x.flying.erase w })

/-! ## Completion ring (R279, R280). -/

def crSlots (s : State) (q : Nat) : Nat := 2 ^ min 16 (max 6 (s.rd (DMAQ_CRSIZE_LOG2 q)))

def crFull (s : State) (q : Nat) : Bool :=
  let n := crSlots s q
  (s.rd (DMAQ_CRTAIL_SLOT q) + 1) % n == s.rd (DMAQ_CRHEAD_SLOT q) % n

/-- STAT.STATE of a queue (R294), and where a paused queue stands once its reads and barriers in flight have ended (R282). -/
def showQ (s : State) (q : Nat) : State :=
  let x := dmaQ s q
  let paused := queueHeld s q && x.flying.isEmpty
  let code := match x.mode with
    | .idle => 0
    | .halted => 5
    | .run => if paused then 4 else if crFull s q then 7 else 1
    | .notReady => if paused then 4 else 2
    | .end_ => if paused then 4 else 3
    | .reg => if paused then 4 else 6
    | .abort => 1
  let s := s.wr (DMAQ_STAT_STATE q) code
  if code = 4 then
    let s := s.wr64 (DMAQ_POSDESC_LO_ADDR q) (DMAQ_POSDESC_HI_ADDR q) ((x.desc.map (·.at_)).getD 0)
    s.wr (DMAQ_POSOFF_OFF q) (match x.staged, x.pkt with
      | b :: _, _ => b.off
      | [], some k => k.place + k.done
      | [], none => x.off)
  else s

/-- The bytes of a record (R279). -/
def recBytes (r : Rec) (q : Nat) (ph : Bool) : List Byte :=
  leBytes 2 r.seq ++ leBytes 2 r.psn ++ leBytes 1 r.status ++ leBytes 1 (r.kind * 16 + q) ++ leBytes 2 0 ++ leBytes 4 r.off ++
  leBytes 4 r.bytes ++ leBytes 8 r.tag ++ leBytes 6 r.line ++ leBytes 2 (if ph then 0x8000 else 0)

/-- Raise EV_DMA_CMPL. -/
def dmaCmpl (s : State) (q : Nat) : State :=
  (modQ s q fun x => { x with coalCnt := 0, coalAt := none }).raise ((ev (EV_DMA_CMPL q)).at_ 6 q)

/-- Write one record into the ring, as two writes (R279, R280). -/
def recWrite (s : State) (q : Nat) (r : Rec) : State :=
  let n := crSlots s q
  let slot := s.rd (DMAQ_CRTAIL_SLOT q) % n
  let ph := s.rb (DMAQ_CRTAIL_PHASE q)
  let a := s.rd64 (DMAQ_CRBASE_LO_ADDR q) (DMAQ_CRBASE_HI_ADDR q) + 32 * slot
  let b := recBytes r q ph
  let s := ctlPush (ctlPush s (.write a (b.take 0x1C))) (.write (a + 0x1C) (b.drop 0x1C))
  let s := (s.wr (DMAQ_CRTAIL_SLOT q) ((slot + 1) % n)).wb (DMAQ_CRTAIL_PHASE q) (if (slot + 1) % n = 0 then !ph else ph)
  let x := dmaQ s q
  let s := modQ s q fun x => { x with coalCnt := x.coalCnt + 1, coalAt := some (x.coalAt.getD s.now) }
  let lim := s.rd (DMAQ_COAL_COUNT q)
  if r.irq ∨ (lim ≠ 0 ∧ lim ≤ x.coalCnt + 1) then dmaCmpl s q else s

/-- Records that wait are written while the ring has slots. -/
def recDrain : Nat → State → Nat → State
  | 0, s, q => showQ s q
  | k + 1, s, q =>
    match (dmaQ s q).recs with
    | r :: t => if crFull s q then showQ s q else recDrain k (recWrite (modQ s q fun x => { x with recs := t }) q r) q
    | [] => showQ s q

/-- A record is due. -/
def recDue (s : State) (q : Nat) (rs : List Rec) : State :=
  let s := modQ s q fun x => { x with recs := x.recs ++ rs }
  recDrain ((dmaQ s q).recs.length) s q

/-- COAL.TIME after the first record not yet signalled (R280). -/
def coalTimer (s : State) (q : Nat) : State :=
  match (dmaQ s q).coalAt with
  | some t =>
    if s.rd (DMAQ_COAL_TIME q) ≠ 0 ∧ t + 1000 * s.rd (DMAQ_COAL_TIME q) ≤ s.now then dmaCmpl s q else s
  | none => s

/-! ## Halts (R289). -/

/-- Halt a queue with a cause and position. -/
def dmaHalt (s : State) (q cause posDesc posOff : Nat) (h : HaltSt) (tries pseq : Nat) : State :=
  let s := modQ s q fun x => { x with mode := .halted, halt := h }
  let s := s.wr (DMAQ_STAT_CAUSE q) cause
  let s := (s.wr64 (DMAQ_POSDESC_LO_ADDR q) (DMAQ_POSDESC_HI_ADDR q) posDesc).wr (DMAQ_POSOFF_OFF q) posOff
  let s := ((s.wr (DMAQ_FAILINFO_CAUSE q) cause).wr (DMAQ_FAILINFO_TRIES q) tries).wr (DMAQ_FAILINFO_PSEQ q) pseq
  showQ (s.raise (((ev (if cause = 5 ∨ cause = 6 then EV_DMA_LOOP q else EV_DMA_HALT q)).at_ 6 q).code_ cause)) q

def haltDesc (s : State) (q cause at_ off : Nat) : State := dmaHalt s q cause at_ off .desc 0 0

/-! ## Descriptors (R270 to R273). -/

/-- NEXT_LO holds address bits 31 to 6. -/
def nextAddr (s : State) (q : Nat) : Nat :=
  64 * s.rd (DMAQ_NEXT_LO_ADDR q) + 2 ^ 32 * s.rd (DMAQ_NEXT_HI_ADDR q)

def setNext (s : State) (q a : Nat) : State :=
  (s.wr (DMAQ_NEXT_LO_ADDR q) (a % 2 ^ 32 / 64)).wr (DMAQ_NEXT_HI_ADDR q) (a / 2 ^ 32)

/-- Ask for the descriptor at an address. -/
def dmaFetch (s : State) (q a : Nat) : State :=
  ctlPush (modQ s q fun x => { x with fetching := true, refetch := a }) (.fetch q a)

def parseDesc (bs : List Byte) (a : Nat) : Desc :=
  let c := fieldAt bs 0x30 4
  { at_ := a, next := fieldAt bs 0 8, buf := fieldAt bs 8 8, len := fieldAt bs 0x10 4, dev := fieldAt bs 0x14 4,
    pattern := fieldAt bs 0x18 8, incr := fieldAt bs 0x20 8, tag := fieldAt bs 0x28 8, one := bit c 7, irq := bit c 6,
    swap := bits c 5 4, sgl := bit c 3, kind := bits c 2 0, seq := fieldAt bs 0x3C 2, rm := false }

/-- Reserved bits of a descriptor are zero. -/
def descRsvOk (bs : List Byte) : Bool :=
  fieldAt bs 0 8 % 64 == 0 && bits (fieldAt bs 0x30 4) 31 8 == 0 && fieldAt bs 0x34 8 == 0 && bits (fieldAt bs 0x3C 4) 30 16 == 0

/-- Bytes of a SWAP unit. -/
def swapUnit (sw : Nat) : Nat := 2 ^ sw

/-- Why a descriptor halts its queue, if it does (R271, R273, R283, R286). -/
def descCause (d : Desc) (fifo rsvOk : Bool) : Option Nat :=
  if !rsvOk || 4 < d.kind || (d.kind == 0) != fifo || (d.kind == 0 && d.swap != 0) || d.len == 0 then some 8
  else if d.next = d.at_ ∧ d.next ≠ 0 then some 5
  else if (d.kind = 1 ∨ d.kind = 2) ∧ 0x4000000 < d.dev + d.len then some 8
  else if d.kind ≠ 0 ∧ d.len % swapUnit d.swap ≠ 0 then some 10
  else none

/-- A descriptor becomes the one in execution, from its start or where it halted; the next is fetched ahead. -/
def descBegin (s : State) (q : Nat) (d : Desc) : State :=
  let s := modQ s q fun x =>
    { x with mode := .run, desc := some d, ahead := if x.cont then x.ahead else none, off := if x.cont then x.off else 0,
             pkt := if x.cont then x.pkt else none, grp := if x.cont then x.grp else [], cont := false,
             els := if d.sgl then [] else [(d.buf, d.len)], elAddr := d.buf, elSeg := d.buf, elEnd := !d.sgl, elFetch := false,
             elCount := 0 }
  let x := dmaQ s q
  showQ (if d.next ≠ 0 ∧ !x.fetching ∧ x.ahead.isNone ∧ x.bad.isNone then dmaFetch s q d.next else s) q

/-- The descriptor in execution is finished (R273). -/
def descDone (s : State) (q : Nat) : State :=
  let x := dmaQ s q
  match x.desc with
  | none => s
  | some d =>
    let s := modQ s q fun x => { x with desc := none, bad := none }
    match x.bad, x.ahead with
    | some (c, a), _ => haltDesc s q c a 0
    | none, some e => descBegin s q e
    | none, none =>
      if d.next = 0 then showQ (modQ s q fun x => { x with mode := .end_ }) q
      else if x.fetching then s
      else dmaFetch s q d.next

/-- The queue stops because a descriptor is not ready (R272). -/
def notReady (s : State) (q cause : Nat) : State :=
  let s := modQ s q fun x => { x with mode := .notReady }
  showQ ((s.wr (DMAQ_STAT_CAUSE q) cause).raise (((ev (EV_DMA_NOTREADY q)).at_ 6 q).code_ cause)) q

/-- A descriptor that cannot run halts the queue at its turn: at once, or after the descriptor in execution (R271, R273, R283, R286).
[DEDUCED, unsafe: log entry 55] -/
def descBad (s : State) (q cause a : Nat) : State :=
  if (dmaQ s q).desc.isSome then showQ (modQ s q fun x => { x with bad := some (cause, a) }) q else haltDesc s q cause a 0

/-- An aborted queue is idle once its reads and barriers in flight have ended (R290).
[DEDUCED, unsafe: log entry 55] -/
def abortEnd (s : State) (q : Nat) : State :=
  let x := dmaQ s q
  showQ (if x.mode == .abort && x.flying.isEmpty && x.barriers.isEmpty then modQ s q fun x => { x with mode := .idle } else s) q

/-- A descriptor read returns (R272, R273): accepted, not ready, or not run.
[DEDUCED, unsafe: log entry 55] -/
def descArrive (s : State) (q : Nat) (bs : List Byte) : State :=
  let x := dmaQ s q
  if !x.flying.contains .desc then s else
  let a := x.refetch
  let s := modQ (flyBack s q .desc) q fun x => { x with fetching := false, retry := x.retry.filter (·.what != .desc) }
  if x.mode == .idle || x.mode == .halted || x.mode == .abort then abortEnd s q else
  let d := parseDesc bs a
  let own := bit (fieldAt bs 0x3C 4) 31
  if !own || d.seq != s.rd (DMAQ_DSEQ_EXP q) then
    -- a prefetch that is not ready counts only once the descriptor in execution ends
    if x.again then dmaFetch (modQ s q fun x => { x with again := false }) q a
    else if x.desc.isSome then showQ s q
    else notReady s q (if own then 2 else 1)
  else if s.rd (DMAQ_CHAINLIM_LIM q) ≤ x.chain then descBad s q 6 a
  else
    let s := (setNext s q d.next).wr (DMAQ_DSEQ_EXP q) ((s.rd (DMAQ_DSEQ_EXP q) + 1) % 65536)
    let s := modQ s q fun x => { x with chain := x.chain + 1, again := false }
    match descCause d (queueChan s q).isSome (descRsvOk bs) with
    | some c => descBad s q c a
    | none =>
      if x.desc.isSome then showQ (modQ s q fun x => { x with ahead := some d }) q else descBegin s q d

/-- DMA_Q_q_CTL.START (R272, R294): on a queue that is IDLE or END. -/
def dmaStart (s : State) (q : Nat) : State :=
  let x := dmaQ s q
  if x.mode != .idle && x.mode != .end_ then s.raise ((ev EV_DMA_CFG).at_ 6 q) else
  let s := modQ s q fun x =>
    { x with mode := .run, chain := 0, desc := none, ahead := none, bad := none, cont := false, again := false }
  showQ (dmaFetch (s.wr (DMAQ_STAT_CAUSE q) 0) q (nextAddr s q)) q

/-- A write of the doorbell (R272, R273). -/
def doorbell (s : State) (q : Nat) : State :=
  let x := dmaQ s q
  let s := modQ s q fun x => { x with chain := 0 }
  match x.mode with
  | .notReady => showQ (dmaFetch (modQ s q fun x => { x with mode := .run }) q (nextAddr s q)) q
  | .end_ => if nextAddr s q = 0 then s else showQ (dmaFetch (modQ s q fun x => { x with mode := .run }) q (nextAddr s q)) q
  | .run =>
    if x.fetching then modQ s q fun x => { x with again := true }
    else if x.ahead.isNone && x.bad.isNone && (match x.desc with | some d => d.next != 0 | none => false) then
      dmaFetch s q ((x.desc.map (·.next)).getD 0)
    else s
  | _ => s

/-! ## Scatter lists (R274). -/

/-- Buffer bytes that the elements read so far cover. -/
def elTotal (x : DmaQ) : Nat := (x.els.map (·.2)).sum

/-- The effective length of a buffer. -/
def bufLen (x : DmaQ) (d : Desc) : Nat := if x.elEnd then min d.len (elTotal x) else d.len

/-- Are bytes up to `k` of the buffer covered? -/
def covered (x : DmaQ) (d : Desc) (k : Nat) : Bool := x.elEnd || decide (min k d.len ≤ elTotal x)

/-- The host address of a buffer offset and the bytes that its element still holds from there. -/
def elAt : List (Nat × Nat) → Nat → Option (Nat × Nat)
  | [], _ => none
  | (a, n) :: t, o => if o < n then some (a + o, n - o) else elAt t (o - n)

/-- Read more of a scatter list. -/
def sglAsk (s : State) (q : Nat) : State :=
  let x := dmaQ s q
  if x.elFetch then s
  else ctlPush (modQ s q fun x => { x with elFetch := true }) (.sgl q (x.elAddr / 64 * 64))

/-- Take one element, where the queue does not halt: links count among the elements (R274). -/
def sglElement (s : State) (q : Nat) (b : List Byte) : State :=
  let x := dmaQ s q
  match x.desc with
  | none => s
  | some d =>
    if x.elEnd || d.len ≤ elTotal x || x.mode == .halted then s else
    let a := fieldAt b 0 8
    let n := fieldAt b 8 4
    let c := fieldAt b 12 4
    if s.rd (DMAQ_CHAINLIM_LIM q) ≤ x.elCount then haltDesc s q 6 d.at_ (elTotal x) else
    let s := modQ s q fun x => { x with elCount := x.elCount + 1 }
    if bits c 29 0 ≠ 0 then haltDesc s q 9 d.at_ (elTotal x)
    else if bit c 31 then
      if a = x.elSeg then haltDesc s q 5 d.at_ (elTotal x)
      else modQ s q fun x => { x with elAddr := a, elSeg := a }
    else if n = 0 then haltDesc s q 9 d.at_ (elTotal x)
    else modQ s q fun x => { x with els := x.els ++ [(a, n)], elAddr := x.elAddr + 16, elEnd := bit c 30 }

/-- A scatter list read of 64 bytes returns: its elements from the next one on, up to a LINK. -/
def sglArrive (s : State) (q : Nat) (bs : List Byte) : State :=
  let x := dmaQ s q
  if !x.flying.contains .sgl then s else
  let base := x.elAddr / 64 * 64
  let s := modQ (flyBack s q .sgl) q fun x => { x with elFetch := false, retry := x.retry.filter (·.what != .sgl) }
  if x.mode == .idle || x.mode == .halted || x.mode == .abort then abortEnd s q else
  showQ (iterate 4 s fun s i =>
    if (dmaQ s q).elAddr = base + 16 * i then sglElement s q ((bs.drop (16 * i)).take 16) else s) q

/-! ## Records in order (R278). -/

/-- A register-mode transfer ends with its result code (R285). -/
def rmEnd (s : State) (q status : Nat) : State :=
  let s := modQ s q fun x => { x with mode := if x.mode == .reg then .idle else x.mode, desc := none }
  dmaCmpl (showQ ((s.setW1c (DMAQ_STAT_RMDONE q) 1).wr (DMAQ_STAT_RMRES q) status) q) q

/-- Records whose barriers have completed are written, in the order of the queue's packets and transfers (R278). -/
def recordsOut : Nat → State → Nat → State
  | 0, s, q => abortEnd s q
  | k + 1, s, q =>
    match (dmaQ s q).barriers with
    | b :: t =>
      if !b.done then abortEnd s q else
      let s := recDue (modQ s q fun x => { x with barriers := t }) q b.recs
      recordsOut k (match b.rm with | some st => rmEnd s q st | none => s) q
    | [] => abortEnd s q

/-- Records that need no barrier follow those that wait (R278, R279). -/
def recordPlain (s : State) (q : Nat) (rs : List Rec) (rm : Option Nat) : State :=
  let b : Barrier := { id := 0, addr := 0, recs := rs, desc := 0, off := 0, pseq := 0, rm := rm, done := true }
  let s := modQ s q fun x => { x with barriers := x.barriers ++ [b] }
  recordsOut ((dmaQ s q).barriers.length) s q

/-- A barrier follows the last byte written, and its records wait for it (R278). -/
def barrierAsk (s : State) (q : Nat) (rs : List Rec) (desc off pseq : Nat) (rm : Option Nat) : State :=
  let id := s.dma.barCtr + 1
  let a := (dmaQ s q).lastAddr / 4 * 4
  let b : Barrier := { id := id, addr := a, recs := rs, desc := desc, off := off, pseq := pseq, rm := rm, done := false }
  let s := modQ (s.modDma fun d => { d with barCtr := id }) q fun x => { x with barriers := x.barriers ++ [b], trk := 0 }
  ctlPush s (.barrier q id a)

/-! ## FIFO packets (R275 to R277). -/

/-- Close the buffer with a close record, which follows the records of its packets (R276, R278, R279). -/
def closeBuf (s : State) (q : Nat) (d : Desc) : State :=
  let x := dmaQ s q
  let r : Rec := { seq := d.seq, psn := 0, status := 1, kind := 0, off := x.off, bytes := 0, tag := d.tag, line := 0, irq := d.irq }
  descDone (recordPlain (modQ s q fun x => { x with closeDue := false }) q [r] none) q

/-- Close the buffer now, or once its staged bursts are written. -/
def closeSoon (s : State) (q : Nat) (d : Desc) : State :=
  if (dmaQ s q).staged.isEmpty then closeBuf s q d else modQ s q fun x => { x with closeDue := true }

/-- The bytes of a request with the packet sequence number in its trailer (R277). -/
def stampSeq (len psn off : Nat) (bs : List Byte) : List Byte :=
  let o := len - 8
  (List.range bs.length).map fun i =>
    let p := off + i
    if p = o then BitVec.ofNat 8 (psn % 256) else if p = o + 1 then BitVec.ofNat 8 (psn / 256) else bs.getD i 0

/-- Take the offered request as a burst into the staging buffer (R275 to R277). -/
def dmaTake (s : State) (q n : Nat) (d : Desc) : State :=
  match (fifoOf s n).offer, (fifoOf s n).pkts with
  | some o, p :: _ =>
    let x := dmaQ s q
    let new := x.pkt.isNone
    let k : PktIn := x.pkt.getD { place := x.off, len := p.len, psn := s.rd (DMAQ_DSEQ_PSEQ q), line := p.info.line, done := 0 }
    let s := if new then s.wr (DMAQ_DSEQ_PSEQ q) ((k.psn + 1) % 65536) else s
    let rec_ : Rec := { seq := d.seq, psn := k.psn, status := 0, kind := 0, off := k.place, bytes := k.len, tag := d.tag,
                        line := k.line, irq := false }
    let b : Burst := { off := k.place + o.off, bytes := stampSeq k.len k.psn o.off o.bytes, fin := if o.last then some rec_ else none }
    let s := modQ s q fun x =>
      { x with staged := x.staged ++ [b], pkt := if o.last then none else some { k with done := o.off + o.bytes.length },
               off := if o.last then k.place + k.len else x.off }
    let s := handOver s n
    if o.last && d.one then closeSoon s q d else s
  | _, _ => s

/-- DMA_BURST (R275, R276): the queue serves the FIFO's request, closes the buffer, or halts. -/
def dmaBurst (s : State) (q : Nat) : State :=
  let x := dmaQ s q
  if x.mode != .run || queueHeld s q || crFull s q || x.closeDue || 2 ≤ x.staged.length then s else
  match queueChan s q, x.desc with
  | some n, some d =>
    match (fifoOf s n).offer, (fifoOf s n).pkts with
    | some _, p :: _ =>
      if x.pkt.isSome then dmaTake s q n d
      else if !covered x d (x.off + p.len) then sglAsk s q
      else if x.off + p.len ≤ bufLen x d then dmaTake s q n d
      else if x.off = 0 then haltDesc s q 7 d.at_ 0
      else closeSoon s q d
    | _, _ => s
  | _, _ => s

/-! ## Memory transfers (R283 to R286). -/

/-- Reverse the bytes within units (R286). -/
def swapBytes (u : Nat) (bs : List Byte) : List Byte :=
  if u ≤ 1 then bs else
  (List.range bs.length).map fun i => bs.getD (i / u * u + (u - 1 - i % u)) (bs.getD i 0)

/-- The expected value of buffer byte i (R284). -/
def patternByte (d : Desc) (i : Nat) : Byte :=
  BitVec.ofNat 8 ((d.pattern + i / 8 * d.incr) % 2 ^ 64 / 2 ^ (8 * (i % 8)) % 256)

/-- Byte i of the buffer that kinds 1 and 3 write. -/
def xferByte (s : State) (d : Desc) (i : Nat) : Byte :=
  let u := swapUnit d.swap
  let j := if u ≤ 1 then i else i / u * u + (u - 1 - i % u)
  if d.kind = 3 then patternByte d j else (libRead s (d.dev + j) 1).headD 0

/-- A memory transfer ends (R279, R285): `wrote`: it wrote host memory, so a barrier comes first. A transfer of register mode writes no
record. -/
def xferDone (s : State) (q : Nat) (d : Desc) (status off bytes : Nat) (wrote : Bool) : State :=
  let r : Rec := { seq := d.seq, psn := 0, status := status, kind := d.kind, off := off, bytes := bytes, tag := d.tag, line := 0,
                   irq := d.irq }
  let rs := if d.rm then [] else [r]
  let rm := if d.rm then some status else none
  let s := if wrote then barrierAsk s q rs d.at_ (dmaQ s q).mark.2 0 rm else recordPlain s q rs rm
  if d.rm then modQ s q fun x => { x with desc := none } else descDone s q

/-- GO: one transfer of the register-mode registers (R285). -/
def dmaGo (s : State) (q : Nat) : State :=
  let x := dmaQ s q
  let k := s.rd (DMAQ_RM_CFG_KIND q)
  if (x.mode != .idle && x.mode != .end_) || (queueChan s q).isSome then s.raise ((ev EV_DMA_CFG).at_ 6 q) else
  let d : Desc :=
    { at_ := 0, next := 0, buf := s.rd64 (DMAQ_RM_HADDR_LO_ADDR q) (DMAQ_RM_HADDR_HI_ADDR q), len := s.rd (DMAQ_RM_LEN_LEN q),
      dev := s.rd (DMAQ_RM_DADDR_ADDR q), pattern := s.rd64 (DMAQ_PATTERN_LO_VALUE q) (DMAQ_PATTERN_HI_VALUE q),
      incr := s.rd64 (DMAQ_INCR_LO_VALUE q) (DMAQ_INCR_HI_VALUE q), tag := 0, one := false, irq := false,
      swap := s.rd (DMAQ_RM_CFG_SWAP q), sgl := false, kind := k, seq := 0, rm := true }
  match descCause d false true with
  | some c => haltDesc s q c 0 0
  | none =>
    let s := modQ s q fun x =>
      { x with mode := .reg, desc := some d, ahead := none, bad := none, off := 0, els := [(d.buf, d.len)], elEnd := true, grp := [] }
    showQ (s.wr (DMAQ_STAT_CAUSE q) 0) q

/-- The read request that kinds 2 and 4 make next, rounded outward within the 4 KiB and Max_Read_Request_Size limits (R267, R287): its
address and length, the bytes before the buffer's, and the bytes of the buffer. -/
def readReq (s : State) (q : Nat) (x : DmaQ) (d : Desc) : Option (Nat × Nat × Nat × Nat) :=
  match elAt x.els x.off with
  | none => none
  | some (a, room) =>
    let g := if s.rb (DMAQ_CFG_RDRND q) then 64 else 4
    let lo := a / g * g
    let top := min (lo + s.dma.cfg.mrrs) (a / 4096 * 4096 + 4096)
    let k := min (min room (bufLen x d - x.off)) (top - a)
    if k = 0 then none else some (lo, min (alignUp (a + k) g) top - lo, a - lo, k)

/-- Issue the data read of a queue, where one is due and a tag is free. -/
def dmaAskRead (s : State) (q : Nat) : State :=
  let x := dmaQ s q
  match x.desc with
  | some d =>
    if (x.mode == .run || x.mode == .reg) && (d.kind == 2 || d.kind == 4) && x.reading.isNone && !queueHeld s q &&
        !(x.retry.any fun r => r.what == .data && r.backoff) && decide (tagsUsed s < tagLimit s) then
      if !covered x d (x.off + 1) then sglAsk s q else
      match readReq s q x d with
      | some (a, len, lead, k) => (flyOut (modQ s q fun x => { x with reading := some (lead, k) }) q .data).emit (.hostRead a len)
      | none => s
    else s
  | none => s

/-- The actual bytes of an 8-byte group at a difference; of bytes beyond the buffer the spec gives no value.
[DEDUCED, unsafe: log entry 55] -/
def groupValue (s : State) (bs : List Byte) : Nat × State :=
  if 8 ≤ bs.length then (leNat (bs.take 8), s) else
  let f := s.free 0x11284 (2 ^ (8 * (8 - bs.length)))
  (leNat bs + 2 ^ (8 * bs.length) * f.1, f.2)

/-- Compared bytes: whole 8-byte groups of the buffer in order, after swapping (R284, R286).
[DEDUCED, unsafe: log entry 55] -/
def compareTake (s : State) (q : Nat) (d : Desc) (got : List Byte) : State :=
  let x := dmaQ s q
  let raw := x.grp ++ got
  let base := x.off - x.grp.length
  let end_ := x.off + got.length
  let last := decide (bufLen x d ≤ end_)
  let n := if last then raw.length else raw.length / 8 * 8
  let bs := swapBytes (swapUnit d.swap) (raw.take n)
  match (List.range n).find? fun i => bs.getD i 0 != patternByte d (base + i) with
  | some i =>
    let g := i / 8 * 8
    let v := groupValue s ((bs.drop g).take 8)
    let s := (v.2.wr64 (DMAQ_CMPACT_LO_DATA q) (DMAQ_CMPACT_HI_DATA q) v.1).wr (DMAQ_CMPOFF_OFF q) (base + g)
    xferDone (s.raise ((ev (EV_DMA_CMPFAIL q)).at_ 6 q)) q d 3 (base + i) (base + i) false
  | none =>
    let s := modQ s q fun x => { x with off := end_, grp := raw.drop n }
    if last then xferDone s q d 2 0 end_ false else s

/-- Data of a copy or compare returns (R283, R284, R287): the bytes of the request; those outside the buffer are discarded. -/
def dataArrive (s : State) (q : Nat) (bs : List Byte) : State :=
  let x := dmaQ s q
  if !x.flying.contains .data then s else
  let s := flyBack s q .data
  match x.reading, x.desc with
  | some (lead, k), some d =>
    let s := modQ s q fun x => { x with reading := none, retry := x.retry.filter (·.what != .data) }
    let got := (List.range k).map fun i => bs.getD (lead + i) 0
    if d.kind = 4 then showQ (compareTake s q d got) q else
    let u := swapUnit d.swap
    let pos (i : Nat) : Nat := let j := x.off + i; if u ≤ 1 then j else j / u * u + (u - 1 - j % u)
    let s := (List.range k).foldl (fun s i => libWrite s (d.dev + pos i) [(got.getD i 0, true)]) s
    let s := modQ s q fun x => { x with off := x.off + k }
    showQ (if bufLen (dmaQ s q) d ≤ (dmaQ s q).off then xferDone s q d 2 0 (dmaQ s q).off false else s) q
  | _, _ => abortEnd s q

/-! ## Beats (R281). -/

/-- The next write TLP of a queue: host address and bytes. -/
def nextBeat (s : State) (q : Nat) : Option (Nat × List Byte) :=
  let x := dmaQ s q
  if (x.mode != .run && x.mode != .reg) || queueHeld s q || crFull s q then none else
  let cut (o n : Nat) : Option (Nat × Nat) :=
    match elAt x.els o with
    | none => none
    | some (a, room) => some (a, min (min n room) (min s.dma.cfg.mps (4096 - a % 4096)))
  match x.staged with
  | b :: _ => (cut b.off b.bytes.length).map fun r => (r.1, b.bytes.take r.2)
  | [] =>
    match x.desc with
    | some d =>
      if d.kind = 1 ∨ d.kind = 3 then
        if x.off < bufLen x d then
          (cut x.off (bufLen x d - x.off)).map fun r => (r.1, (List.range r.2).map fun i => xferByte s d (x.off + i))
        else none
      else none
    | none => none

/-- Of the next k bytes of a kind 1 transfer, one is of library data that no copy gives: its TLP is poisoned (R305). -/
def beatLost (s : State) (q k : Nat) : Bool :=
  let x := dmaQ s q
  x.staged.isEmpty && match x.desc with
    | some d =>
      let u := swapUnit d.swap
      d.kind == 1 && (List.range k).any fun i =>
        let j := x.off + i
        libLost s (d.dev + (if u ≤ 1 then j else j / u * u + (u - 1 - j % u))) 1
    | none => false

/-- Send a queue's next write TLP, with No Snoop and Relaxed Ordering as configured (R291); the barrier of a packet or transfer follows its
last byte. -/
def sendBeat (s : State) (q : Nat) : State :=
  match nextBeat s q with
  | none => s
  | some (a, bs) =>
    let x := dmaQ s q
    let k := bs.length
    let s := s.emit (.hostWrite a bs (s.rb (DMAQ_CFG_NS q)) (s.rb DMA_CFG_RLXO) (beatLost s q k))
    let s := showTrack (s.modDma fun d => { d with tlps := d.tlps + 1 })
    let s := s.wr64 (DMAQ_BYTES_LO_COUNT q) (DMAQ_BYTES_HI_COUNT q) ((s.rd64 (DMAQ_BYTES_LO_COUNT q) (DMAQ_BYTES_HI_COUNT q) + k) % 2 ^ 64)
    let at_ := (x.desc.map (·.at_)).getD 0
    let off0 := match x.staged with | b :: _ => b.off | [] => x.off
    let s := modQ s q fun x => { x with trk := x.trk + 1, lastAddr := a + k - 1, deficit := x.deficit - k,
                                        mark := if x.trk = 0 then (at_, off0) else x.mark }
    match x.staged with
    | b :: t =>
      if b.bytes.length ≤ k then
        let s := modQ s q fun x => { x with staged := t, deficit := if t.isEmpty then 0 else x.deficit }
        let s := match b.fin with
          | some r => barrierAsk s q [r] (dmaQ s q).mark.1 r.off r.psn none
          | none => s
        match x.desc with
        | some d => if t.isEmpty && x.closeDue then closeBuf s q d else s
        | none => s
      else modQ s q fun x => { x with staged := { b with off := b.off + k, bytes := b.bytes.drop k } :: t }
    | [] =>
      let s := modQ s q fun x => { x with off := x.off + k }
      match x.desc with
      | some d => if bufLen x d ≤ x.off + k then xferDone (modQ s q fun x => { x with deficit := 0 }) q d 2 0 (x.off + k) true else s
      | none => s

/-- A control request of a queue is held back: its queue is paused, or stands halted with a fetch (R267, R282). -/
def ctlHeld (s : State) (c : CtlReq) : Bool :=
  match c with
  | .write _ _ => false
  | .barrier q _ _ => queueHeld s q && (dmaQ s q).mode != .abort
  | .fetch q _ => queueHeld s q || (dmaQ s q).mode == .halted
  | .sgl q _ => queueHeld s q || (dmaQ s q).mode == .halted

/-- A control request goes out; a barrier takes its place among those in flight (R278). -/
def ctlOut (s : State) (c : CtlReq) : State :=
  match c with
  | .fetch q a => (flyOut s q .desc).emit (.hostRead a 64)
  | .sgl q a => (flyOut s q .sgl).emit (.hostRead a 64)
  | .barrier q id a =>
    let s := s.modDma fun d => { d with flight := d.flight ++ [(id, d.tlps)], tlps := 0 }
    (flyOut s q .barrier).emit (.hostRead a 0)
  | .write a b => s.emit (.hostWrite a b false false false)

/-- Every control request that is ready is issued, in order (R281); a read for which no tag is free waits, and what follows it (R267). -/
def issueCtl (s : State) : State :=
  let r := s.dma.ctl.foldl (fun (a : State × List CtlReq × Bool) c =>
    let full := match c with | .write _ _ => false | _ => decide (tagLimit a.1 ≤ tagsUsed a.1)
    if ctlHeld a.1 c then (a.1, a.2.1 ++ [c], a.2.2)
    else if a.2.2 || full then (a.1, a.2.1 ++ [c], true)
    else (ctlOut a.1 c, a.2)) (s, [], false)
  r.1.modDma fun d => { d with ctl := r.2.1 }

/-- Queues with a beat to send at the highest level. -/
def beatQueues (s : State) : List Nat :=
  let qs := (List.range 16).filter fun q => (nextBeat s q).isSome
  let top := (qs.map fun q => s.rd (DMAQ_ARB_PRIO q)).foldl max 0
  qs.filter fun q => s.rd (DMAQ_ARB_PRIO q) == top

/-- Deficit round robin among the queues of one level: the queue that sends, after as many visits as it takes. -/
def drrPick : Nat → State → List Nat → Nat → Nat → State × Option Nat
  | 0, s, _, _, _ => (s, none)
  | k + 1, s, qs, lev, c =>
    let need (q : Nat) : Nat := ((nextBeat s q).map (·.2.length)).getD 0
    if qs.contains c && decide (need c ≤ (dmaQ s c).deficit) then
      (s.modDma fun d => { d with cur := d.cur.set lev c }, some c)
    else
      match (qs.find? (c < ·)).or qs.head? with
      | none => (s, none)
      | some q =>
        let s := modQ s q fun x => { x with deficit := x.deficit + 64 * max 1 (s.rd (DMAQ_ARB_WEIGHT q)) }
        drrPick k s qs lev q

/-- DMA_BEAT_ARBITRATION (R281): ready control requests go first, data reads are asked for, then one beat. -/
def beatArbitration (s : State) : State :=
  if !canMaster s then s else
  let s := issueCtl s
  let s := iterate 16 s dmaAskRead
  let s := iterate 16 s fun s q =>
    let x := dmaQ s q
    match x.staged, x.desc with
    | b :: _, some d => if covered x d (b.off + 1) then s else sglAsk s q
    | [], some d => if (d.kind = 1 ∨ d.kind = 3) ∧ !covered x d (x.off + 1) then sglAsk s q else s
    | _, none => s
  if 8192 ≤ trackersUsed s then s else
  match beatQueues s with
  | [] => s
  | q :: t =>
    let lev := s.rd (DMAQ_ARB_PRIO q)
    let r := drrPick 200 s (q :: t) lev (s.dma.cur.getD lev 0)
    match r.2 with
    | some p => showQ (sendBeat r.1 p) p
    | none => r.1

/-! ## Barriers (R278), failures (R288, R289). -/

/-- The number of a queue's oldest barrier in flight. -/
def barrierFlying (s : State) (q : Nat) : Option Nat :=
  ((dmaQ s q).barriers.find? fun b => !b.done && s.dma.flight.any (·.1 == b.id)).map (·.id)

/-- A barrier has completed: every write TLP issued before it is in place, of whatever queue, and its tracker is free (R278). -/
def trackersFree (s : State) (id : Nat) : State :=
  s.modDma fun d => { d with flight := ((d.flight.takeWhile (·.1 != id)).filter (·.1 != 0)).map (fun p => (p.1, 0)) ++
                                       (d.flight.dropWhile (·.1 != id)).drop 1 }

/-- A barrier has failed: it proves nothing. -/
def trackersKeep (s : State) (id : Nat) : State :=
  s.modDma fun d => { d with flight := d.flight.map fun p => if p.1 == id then (0, p.2) else p }

/-- The oldest barrier in flight of a queue completes (R278). -/
def barrierDone (s : State) (q : Nat) : State :=
  if !(dmaQ s q).flying.contains .barrier then s else
  let s' := flyBack s q .barrier
  match barrierFlying s q with
  | none => abortEnd s' q
  | some id =>
    let s := showTrack (trackersFree s' id)
    let s := modQ s q fun x =>
      { x with barriers := x.barriers.map (fun b => if b.id == id then { b with done := true } else b),
               retry := x.retry.filter fun r => !(r.what == .barrier && r.id == id) }
    recordsOut ((dmaQ s q).barriers.length) s q

/-- A barrier fails for good: the queue halts at the first unconfirmed write (R289). -/
def barrierHalt (s : State) (q cause tries : Nat) : State :=
  let x := dmaQ s q
  let open_ := x.barriers.filter fun b => !b.done
  let b := open_.head?
  let s := open_.foldl (fun s b => trackersKeep s b.id) s
  let ids := open_.map (·.id)
  let s := s.modDma fun d => { d with ctl := d.ctl.filter fun c => match c with | .barrier _ id _ => !ids.contains id | _ => true }
  let s := modQ s q fun x => { x with retry := x.retry.filter (·.what != .barrier) }
  dmaHalt s q cause ((b.map (·.desc)).getD 0) ((b.map (·.off)).getD 0) (if x.mode == .abort then .drain else .read .barrier) tries
    ((b.map (·.pseq)).getD 0)

/-- A read fails (R288, R289): cause 1 timeout, 2 UR, 3 CA, 4 poisoned. What an aborted queue reads is discarded, but for its barriers
(R290).
[DEDUCED, unsafe: log entry 55] -/
def readFail (s : State) (q : Nat) (w : ReadWhat) (cause : Nat) : State :=
  let x := dmaQ s q
  let bar := if w = .barrier then barrierFlying s q else none
  if !x.flying.contains w then s else
  let s := flyBack s q w
  if (w = .barrier ∧ bar.isNone) ∨ (w ≠ .barrier ∧ (x.mode = .abort ∨ x.mode = .idle)) then abortEnd s q else
  let id := bar.getD 0
  let s := if w = .barrier then trackersKeep s id else s
  let mine (r : ReadSt) : Bool := r.what == w && r.id == id
  let tries := ((x.retry.find? mine).map (·.tries)).getD 0
  let others := x.retry.filter fun r => !mine r
  if tries < s.rd (DMAQ_RETRY_COUNT q) then
    modQ s q fun x => { x with retry := others ++ [{ what := w, id := id, tries := tries + 1, cause := cause, backoff := true }] }
  else
    let s := modQ s q fun x => { x with retry := others }
    let at_ := (x.desc.map (·.at_)).getD 0
    match w with
    | .desc => dmaHalt (modQ s q fun x => { x with fetching := false }) q cause x.refetch 0 (.read w) (tries + 1) 0
    | .sgl => dmaHalt (modQ s q fun x => { x with elFetch := false }) q cause at_ (elTotal x) (.read w) (tries + 1) 0
    | .data => dmaHalt (modQ s q fun x => { x with reading := none }) q cause at_ x.off (.read w) (tries + 1) 0
    | .barrier => barrierHalt s q cause (tries + 1)

/-- A barrier is issued again at its own address (R288). -/
def barrierAgain (s : State) (q id : Nat) : State :=
  match (dmaQ s q).barriers.find? fun b => b.id == id && !b.done with
  | some b => ctlPush s (.barrier q id b.addr)
  | none => s

/-- A back-off expires and the read is issued again (R288), a data read with the next arbitration. -/
def retryNow (s : State) (q : Nat) : State :=
  let x := dmaQ s q
  match x.retry.find? (·.backoff) with
  | none => s
  | some r =>
    let s := modQ s q fun x => { x with retry := x.retry.map fun p =>
      if p.what == r.what && p.id == r.id then { p with backoff := false } else p }
    match r.what with
    | .desc => ctlPush s (.fetch q x.refetch)
    | .sgl => ctlPush s (.sgl q (x.elAddr / 64 * 64))
    | .data => modQ s q fun x => { x with reading := none }
    | .barrier => barrierAgain s q r.id

/-- A read that succeeds on a retry counts (R288). -/
def retryCount (s : State) (q : Nat) (w : ReadWhat) : State :=
  let id := if w = .barrier then (barrierFlying s q).getD 0 else 0
  let x := dmaQ s q
  if x.flying.contains w && x.retry.any (fun r => r.what == w && r.id == id && !r.backoff) then s.bump (DMAQ_CNT_RETRIES q) else s

/-- After a barrier failure (R289): packets that stay unconfirmed have status 4 records, in order; the barrier of a memory transfer is read
again.
[DEDUCED, unsafe: log entry 55] -/
def unconfirm (s : State) (q : Nat) : State :=
  let mem (b : Barrier) : Bool := b.rm.isSome || b.recs.any (·.kind != 0)
  let give (b : Barrier) : Barrier :=
    if b.done || mem b then b
    else { b with done := true, recs := b.recs.map fun r => if r.status == 0 then { r with status := 4 } else r }
  let s := modQ s q fun x => { x with barriers := x.barriers.map give }
  let again := ((dmaQ s q).barriers.filter fun b => !b.done).map (·.id)
  recordsOut ((dmaQ s q).barriers.length) (again.foldl (fun s id => barrierAgain s q id) s) q

/-- RESUME (R289).
[DEDUCED, unsafe: log entry 55] -/
def dmaResume (s : State) (q : Nat) : State :=
  let x := dmaQ s q
  if x.mode != .halted then s else
  let rm := (match x.desc with | some d => d.rm | none => false) || x.barriers.any (·.rm.isSome)
  let s := (modQ s q fun x => { x with mode := if rm then .reg else .run }).wr (DMAQ_STAT_CAUSE q) 0
  match x.halt with
  | .desc =>
    let s := modQ s q fun x => { x with mode := .run, desc := none, cont := x.desc.isSome }
    showQ (dmaFetch s q (s.rd64 (DMAQ_POSDESC_LO_ADDR q) (DMAQ_POSDESC_HI_ADDR q))) q
  | .read .desc => showQ (dmaFetch s q x.refetch) q
  | .read .sgl => showQ (sglAsk s q) q
  | .read .data => showQ s q
  | .read .barrier => showQ (unconfirm s q) q
  | .drain => abortEnd (unconfirm (modQ s q fun x => { x with mode := .abort }) q) q

/-- The rest of the packet at the front of a FIFO is drained and discarded (R268, R290): at once, or as the packer writes it. -/
def drainFront (s : State) (n : Nat) : State :=
  fifoWatch (s.modFifo n fun f =>
    { f with offer := none,
             pkts := match f.pkts with
               | p :: t => if p.complete then t else { p with discard := true } :: t
               | [] => [] }) n

/-- ABORT (R290): reads in flight are discarded, barriers still complete, and what was taken of packets and not written is counted.
[DEDUCED, unsafe: log entry 55] -/
def dmaAbort (s : State) (q : Nat) : State :=
  let x := dmaQ s q
  if x.mode == .idle || x.mode == .abort then s else
  let lost := (x.staged.filter fun b => b.fin.isSome).length + b2n x.pkt.isSome
  let s := match x.pkt, queueChan s q with
    | some _, some n => drainFront s n
    | _, _ => s
  let s := iterate lost s fun s _ => s.bump (DMAQ_CNT_DROPPKT q)
  let s := s.modDma fun d => { d with ctl := d.ctl.filter fun c => match c with | .fetch p _ => p != q | .sgl p _ => p != q | _ => true }
  let s := modQ s q fun x =>
    { DmaQ.idle with mode := .abort, barriers := x.barriers, recs := x.recs, trk := x.trk, lastAddr := x.lastAddr, mark := x.mark,
                     coalCnt := x.coalCnt, coalAt := x.coalAt, flying := x.flying,
                     retry := x.retry.filter (·.what == .barrier) }
  -- barriers that a failure had given up are read again
  let waits (b : Barrier) : Bool := b.done || s.dma.flight.any (·.1 == b.id) || x.retry.any (·.id == b.id) ||
    s.dma.ctl.any fun c => match c with | .barrier _ id _ => id == b.id | _ => false
  let ids := (x.barriers.filter fun b => !waits b).map (·.id)
  abortEnd (ids.foldl (fun s id => barrierAgain s q id) s) q

/-- A write of PAUSE (R282). -/
def dmaPause (s : State) (q : Nat) (on : Bool) : State := showQ (s.wb (DMAQ_CTL_PAUSE q) on) q

/-- A host write of CRHEAD (R280). -/
def crheadWrite (s : State) (q v : Nat) : State :=
  let s := s.wr (DMAQ_CRHEAD_SLOT q) v
  recDrain ((dmaQ s q).recs.length) s q

/-- A write of CFG.SRC (R269, R294): ignored while the queue is not idle, or where another queue has the channel; 5 to 7 act as 0. -/
def srcWrite (s : State) (q v : Nat) : State :=
  if v = s.rd (DMAQ_CFG_SRC q) then s else
  let taken := v != 0 && decide (v ≤ 4) && (List.range 16).any fun p => p != q && s.rd (DMAQ_CFG_SRC p) == v
  if (dmaQ s q).mode != .idle || taken then s.raise ((ev EV_DMA_CFG).at_ 6 q) else s.wr (DMAQ_CFG_SRC q) v

/-- The counters that CLRCNT clears: never BYTES (R294). -/
def dmaCounters (q : Nat) : List Fld := [DMAQ_CNT_DROPPKT q, DMAQ_CNT_RETRIES q]

/-- Every queue idle and every control request gone; what the read side had begun to hand over is drained and discarded (R268). -/
def dmaReset (s : State) : State :=
  let s := iterate 4 s fun s n =>
    match chanQueue s n with
    | none => s
    | some q =>
      if (dmaQ s q).pkt.isSome then drainFront s n else s.modFifo n fun f => { f with offer := none }
  showTrack (s.modDma fun d =>
    { d with qs := List.replicate 16 DmaQ.idle, ctl := [], cur := [0, 0, 0, 0], tlps := 0, flight := [] })

end Sys2Proof.Machine
end

