-- ==== Sys2Proof/Machine/LmpOps.lean ====
section
/-! DEFINITION. Machine/LmpOps.lean: the lamp controller of a channel (spec/06_illumination.md): sink drive (R152 to R155),
levels, fades and the follow (R156, R157), derating (R158), effect lines (R159), colour hold (R161), diagnosis and faults
(R162 to R164) and headroom (R165). -/

namespace Sys2Proof.Machine

/-- One entry of the lamp table (R155). -/
structure LampEntry where
  cur : Nat
  shim : Nat
  duty : Nat
  phase : Nat
  group : Nat
  pwm : Bool
  en : Bool
  w0 : Nat
  wn : Nat
  plane : Nat
  sref : Nat
  deriving DecidableEq, Repr

def lampEntry (tabs : List (Nat × Byte)) (i : Nat) : LampEntry :=
  let o := 0x61000 + 32 * i
  let g (k n : Nat) : Nat := leNat (readBytes tabs (o + k) n)
  { cur := bits (g 0 2) 11 0, shim := g 2 2, duty := g 4 2, phase := g 6 1, group := bits (g 7 1) 1 0,
    pwm := bit (g 7 1) 2, en := bit (g 7 1) 3, w0 := g 8 2, wn := g 10 1, plane := bits (g 11 1) 1 0, sref := g 12 2 }

/-- The checks of R155 on entry i. -/
def lampEntryOk (tabs : List (Nat × Byte)) (P i : Nat) : Bool :=
  let o := 0x61000 + 32 * i
  let g (k n : Nat) : Nat := leNat (readBytes tabs (o + k) n)
  let e := lampEntry tabs i
  bits (g 0 2) 15 12 == 0 && bits (g 7 1) 7 4 == 0 && bits (g 11 1) 7 2 == 0 && (readBytes tabs (o + 14) 18).all (· == 0) &&
  (!e.en || (0x2000 ≤ e.shim && e.shim ≤ 0x6000 && e.duty ≤ 4096 && e.plane ≤ 2 && e.sref ≤ 4095 &&
    (e.wn == 0 || e.w0 + e.wn ≤ P)))

/-- The level register field in force of group g. -/
def lvNow (n g : Nat) : Fld :=
  match g with | 0 => LMP_LVNOW_LO_RD n | 1 => LMP_LVNOW_LO_GN n | 2 => LMP_LVNOW_HI_BU n | _ => LMP_LVNOW_HI_WH n

def holdReg (n g : Nat) : Fld :=
  match g with | 0 => LMP_HOLD_LO_RD n | 1 => LMP_HOLD_LO_GN n | 2 => LMP_HOLD_HI_BU n | _ => LMP_HOLD_HI_WH n

def holdTgt (n g : Nat) : Fld :=
  match g with | 0 => LMP_HOLDTGT_LO_RD n | 1 => LMP_HOLDTGT_LO_GN n | 2 => LMP_HOLDTGT_HI_BU n | _ => LMP_HOLDTGT_HI_WH n

def followReg (n c : Nat) : Fld :=
  match c with | 0 => LMP_FOLLOW_LO_RD n | 1 => LMP_FOLLOW_LO_GN n | _ => LMP_FOLLOW_HI_BU n

def whwReg (n c : Nat) : Fld := match c with | 0 => LMP_WHW_RD n | 1 => LMP_WHW_GN n | _ => LMP_WHW_BU n

/-- Amplitude code and limit flag of a sink (R152). -/
def sinkAmp (e : LampEntry) (hold der lv : Nat) : Nat × Bool :=
  let m2 := rndMul (rndMul e.shim hold) der
  let m3 := if e.pwm then m2 else rndMul m2 lv
  let a := rndMul e.cur m3
  if 4095 < a then (4095, true) else (a, false)

/-- Sub-period in ticks of 2.5 ns (R153). -/
def subPeriod (tint nsub : Nat) : Nat := 2 * tint / (5 * nsub)

/-- Pulse width in ticks (R153). -/
def pulseWidth (e : LampEntry) (lv tint nsub : Nat) : Nat :=
  min (rndMul lv e.duty) 4096 * subPeriod tint nsub / 4096

/-- Low duty (R162): a pulse below 600 ns, or no current. -/
def lowDuty (e : LampEntry) (amp width : Nat) : Bool := if e.pwm then decide (5 * width < 1200) else amp == 0

def tintOf (sc : Schedule) : Nat := sc.iClose - sc.iOpen

/-- The diagnosis mode of an enabled sink (R162); none where it has low duty with neither a test pulse nor an optical check.
[DEDUCED, unsafe: log entry 46] -/
def diagMode (e : LampEntry) (amp width : Nat) (sc : Schedule) (testen opten : Bool) : Option Nat :=
  if !lowDuty e amp width then some (if e.pwm then 0 else 3)
  else if 1200 ≤ sc.pmin - tintOf sc && testen then some 1
  else if opten && e.wn != 0 then some 2
  else none

/-- The values a setting of R164 is judged with. -/
structure LampCfg where
  nsub : Nat
  testen : Bool
  opten : Bool
  sched : Schedule

def lampCfg (s : State) (n : Nat) : LampCfg :=
  { nsub := s.rd (LMP_PWMCFG_NSUBM1 n) + 1, testen := s.rb (LMP_PWMCFG_TESTEN n), opten := s.rb (LMP_DIAGCFG_OPTEN n),
    sched := (s.ch n).sns.sched }

/-- The same settings as the drive die has them (R16). -/
def driveLampCfg (s : State) (n : Nat) : LampCfg :=
  { nsub := driveRd s (LMP_PWMCFG_NSUBM1 n) + 1, testen := driveRd s (LMP_PWMCFG_TESTEN n) != 0,
    opten := driveRd s (LMP_DIAGCFG_OPTEN n) != 0, sched := (s.ch n).sns.sched }

/-- Would a level leave sink i without a diagnosis mode (R164)? -/
def levelBad (s : State) (n : Nat) (c : LampCfg) (tabs : List (Nat × Byte)) (i lv : Nat) : Bool :=
  let e := lampEntry tabs i
  e.en && (diagMode e (sinkAmp e (s.rd (holdReg n e.group)) (s.rd (LMP_DER_DER n)) lv).1 (pulseWidth e lv (tintOf c.sched) c.nsub)
    c.sched c.testen c.opten).isNone

/-- The levels a group is judged on: in force, the target of a running fade and a staged target (R164). -/
def groupLevels (s : State) (n g : Nat) : List Nat :=
  let u := (s.ch n).lmp
  [s.rd (lvNow n g)] ++ (match u.fades.getD g none with | some f => [f.target] | none => []) ++
    (match u.staged.getD g none with | some t => [t.level] | none => [])

/-- Is a configuration acceptable on every level of every group (R164)? -/
def lampCfgOk (s : State) (n : Nat) (c : LampCfg) : Bool :=
  (List.range 12).all fun i =>
    let g := (lampEntry (s.ch n).tabs i).group
    (groupLevels s n g).all fun lv => !levelBad s n c (s.ch n).tabs i lv

/-- Refuse a lamp setting (R164). -/
def lampRefuse (s : State) (n : Nat) : State := (s.bump (LMP_CNT_REFUSED n)).raise (ev (EV_LMP_CFG n))

/-! ## State of the sinks. -/

def sinkOf (s : State) (n i : Nat) : SinkSt := (s.ch n).lmp.sinks.getD i SinkSt.init

def modSink (s : State) (n i : Nat) (f : SinkSt → SinkSt) : State :=
  s.modLmp n fun u => { u with sinks := u.sinks.modify i f }

/-- The drive die holds its outputs off: on its own authority (R16, R410), and until step 7 of the boot (R54). -/
def driveOff (s : State) : Bool := !s.drv.linkUp || s.drv.under || !s.stepSeven

/-- A dark capture holds every sink of the channel dark (R240). -/
def captureDark (s : State) (n : Nat) : Bool :=
  match (s.ch n).cal.capture with
  | some k => k.kind == 0 && !k.writing && !k.invalid
  | none => false

/-- Every sink of the channel is dark (R16, R154, R166, R240): OFF as the drive die has it. -/
def lampsOff (s : State) (n : Nat) : Bool :=
  driveRd s (LMP_CTL_OFF n) != 0 || captureDark s n || s.rb (GLB_SW_STAT_NOJIG n) || s.safe || s.stopped n || s.bootHoming n || driveOff s

/-- A sink is turned off by a fault (R163). -/
def sinkDead (s : State) (n i : Nat) : Bool := (sinkOf s n i).dead || (sinkOf s n i).shortOff

/-- A sink is enabled, on and not diverted. -/
def sinkLit (s : State) (n i : Nat) : Bool :=
  (lampEntry (s.ch n).tabs i).en && !lampsOff s n && !sinkDead s n i && !(sinkOf s n i).testing

/-- LMP_n_STAT (R168). -/
def showLamp (s : State) (n : Nat) : State :=
  let u := (s.ch n).lmp
  let mode := if s.safe then 3 else if s.rb (LMP_CTL_OFF n) || s.rb (GLB_SW_STAT_NOJIG n) then 2
    else if s.rough n then 1 else 0
  let on := (List.range 12).foldl (fun a i =>
    a + b2n ((lampEntry (s.ch n).tabs i).en && !sinkDead s n i) * 2 ^ i) 0
  let s := (s.wr (LMP_STAT_MODE n) mode).wb (LMP_STAT_FADING n) (u.fades.any Option.isSome)
  let s := (s.wb (LMP_STAT_DERATING n) (s.rd (LMP_DER_DER n) < 16384)).wb (LMP_STAT_PEND n) (u.staged.any Option.isSome)
  let s := s.wb (LMP_STAT_INTMARK n) (!s.running n && !s.rb (GLB_SW_STAT_NOJIG n))
  s.wr (LMP_STAT_ON n) on

/-- A sink takes its diagnosis mode: what counted in a row under another mode starts afresh (R162, R163). -/
def SinkSt.take (k : SinkSt) (amp width mode : Nat) : SinkSt :=
  let k := { k with amp := amp, width := width }
  if k.mode = mode then k else { k with mode := mode, openRun := 0, openSince := none, optRun := 0 }

/-- Bring every sink's amplitude, pulse width and mode up to date; ISAT is live (R152, R153, R162). A sink at low duty with no mode
shows 0, the spec giving no code, and is not checked.
[DEDUCED, unsafe: log entry 46] -/
def sinkUpdate (s : State) (n : Nat) : State :=
  iterate 12 s fun s i =>
    let e := lampEntry (s.ch n).tabs i
    let lv := s.rd (lvNow n e.group)
    let c := driveLampCfg s n
    let aw := if e.en then sinkAmp e (s.rd (holdReg n e.group)) (s.rd (LMP_DER_DER n)) lv else (0, false)
    let w := if e.en && e.pwm then pulseWidth e lv (tintOf c.sched) c.nsub else 0
    let was := bit (s.rd (LMP_SINKFLT_ISAT n)) i
    let m := if e.en then (diagMode e aw.1 w c.sched c.testen c.opten).getD 0 else 0
    let s := modSink s n i fun k => k.take aw.1 w m
    let s := (s.wr (LMP_SINKFLT_ISAT n) (withBit (s.rd (LMP_SINKFLT_ISAT n)) i aw.2)).raiseIf (aw.2 && !was)
      ((ev (EV_LMP_ISAT n)).at_ 4 i)
    let d := s.rd (LMP_DIAGMODE_MODE n)
    s.wr (LMP_DIAGMODE_MODE n) (d - bits d (2 * i + 1) (2 * i) * 2 ^ (2 * i) + m * 2 ^ (2 * i))

/-- The drive die reports a sink over the inter-die link (R16).
[DEDUCED, unsafe: log entry 46] -/
def lampReport (s : State) (n i : Nat) (r : Fin 4 → Fin 12 → DriveReport) : State :=
  if h : n < 4 ∧ i < 12 then s.modDrv fun d => { d with reports := d.reports ++ [r ⟨n, h.1⟩ ⟨i, h.2⟩] } else s

/-- A declared lamp fault also counts as a lamp event of a calibration attempt (R245 test 3). -/
def lampFaultEv (s : State) (n : Nat) (e i code : Nat) : State :=
  (s.raise (((ev e).at_ 4 i).code_ code)).modCal n fun c => { c with lampEvent := true }

/-- A short found (R163): the drive die turns the sink off and reports it.
[DEDUCED, unsafe: log entry 46] -/
def declareShort (s : State) (n i : Nat) : State :=
  lampReport (modSink s n i fun k => { k with shortOff := true, shortRun := 0, relight := none }) n i .lampShort

/-- The self-test of a sink begins (R163). -/
def selfTest (s : State) (n i : Nat) : State :=
  modSink s n i fun k => { k with openRun := 0, openSince := none, testing := true }

/-- Voltage, measured current and the outcome of a check at an amplitude (R162): open, short.
[DEDUCED, unsafe: log entry 46] -/
def checkAt (s : State) (n : Nat) (sn : SinkSense) (amp : Nat) : Nat × Bool × Bool :=
  let i := sn.i.getD amp
  (i, decide (2 * i < amp), decide (driveRd s (LMP_DIAGCFG_SHORTV n) * 100 < sn.v))

/-- Record a check's measurement and count a failure, for the next status refresh to show (R16, R163, R168).
[DEDUCED, unsafe: log entry 46] -/
def recordCheck (s : State) (n i v cur : Nat) (bad conducting : Bool) : State :=
  let s := modSink s n i fun k => { k with v := min v 65535, i := cur, fails := k.fails + b2n bad }
  if conducting then s.modLmp n fun u => { u with vmin := some (match u.vmin with | some m => min m v | none => v) } else s

/-- One check of a sink in mode 0 or 1 (R162, R163): `need` opens in a row start the self-test. -/
def pulseCheck (s : State) (n i amp need : Nat) (conducting : Bool) : State :=
  if !sinkLit s n i then s else
  let k := sinkOf s n i
  let r := checkAt s n k.sense amp
  let s := recordCheck s n i k.sense.v r.1 (r.2.1 || r.2.2) conducting
  let s := modSink s n i fun k => { k with openRun := if r.2.1 then k.openRun + 1 else 0,
                                           shortRun := if r.2.2 then k.shortRun + 1 else 0 }
  let k := sinkOf s n i
  if 2 ≤ k.shortRun then declareShort s n i
  else if need ≤ k.openRun then selfTest s n i else s

/-- The pulses of a sink in PWM mode in a line whose line start is at t0 (R153), times in half nanoseconds: pulse k starts at integration
open + k × S ticks + the phase's offset. -/
def lampPulses (s : State) (n i t0 : Nat) : List Out :=
  let e := lampEntry (s.ch n).tabs i
  let c := driveLampCfg s n
  let S := subPeriod (tintOf c.sched) c.nsub
  let w := (sinkOf s n i).width
  if !e.pwm || w == 0 || !sinkLit s n i then [] else
  (List.range c.nsub).map fun k =>
    .lampPulse n i (2 * (t0 + c.sched.iOpen) + 5 * (k * S + e.phase * (S - w) / 255)) (5 * w)

/-- The checks of one line start (R162): every pulse in mode 0, the test pulse in mode 1; a dark sink has none. -/
def lineChecks (s : State) (n : Nat) : State :=
  iterate 12 s fun s i =>
    let e := lampEntry (s.ch n).tabs i
    let m := (sinkOf s n i).mode
    if !e.en then s
    else if m = 0 ∧ e.pwm ∧ 1200 ≤ 5 * (sinkOf s n i).width then
      iterate (driveRd s (LMP_PWMCFG_NSUBM1 n) + 1) s fun s _ => pulseCheck s n i (sinkOf s n i).amp 2 true
    else if m = 1 ∧ (s.ch n).lmp.diagCount % 256 = 21 * i then
      pulseCheck s n i (sinkAmp e (s.rd (holdReg n e.group)) (s.rd (LMP_DER_DER n)) 0x4000).1 1 false
    else s

/-! ## Line starts. -/

/-- Is a staged change due at a line start (R159)? `line`: the number of a normal trigger; `trig`: a trigger, not an
internal mark.
[DEDUCED, unsafe: log entry 45] -/
def stageDue (t : LvStage) (t0 : Nat) (line : Option Nat) (trig : Bool) : Bool :=
  match t.when_ with
  | 1 => (match line with | some l => decide (t.line ≤ l) | none => false)
  | 2 => (match t.edge with | some e => trig && decide (e + 200 ≤ t0) | none => false)
  | _ => decide (t.at_ + 100 ≤ t0)

/-- Put a staged change in force (R156). -/
def applyStage (s : State) (n g : Nat) (t : LvStage) : State :=
  let lv0 := s.rd (lvNow n g)
  let fade : Option Fade := if t.fade = 0 then none else some { lv0 := lv0, target := t.level, len := t.fade, k := 0 }
  let s := s.modLmp n fun u => { u with staged := u.staged.set g none, fades := u.fades.set g fade }
  if t.fade = 0 then s.wr (lvNow n g) t.level else s

/-- The level on line k of a fade (R156). -/
def fadeLevel (f : Fade) (k : Nat) : Nat :=
  ((f.lv0 : Int) + roundAway (((f.target : Int) - f.lv0) * k) f.len).toNat

/-- Advance a fade by one line; EV_LMP_FADE_DONE at its target (R156). Fades stop in rough-cut mode (R166).
[DEDUCED, unsafe: log entry 45] -/
def fadeStep (s : State) (n g : Nat) : State :=
  if s.rough n then s else
  match (s.ch n).lmp.fades.getD g none with
  | none => s
  | some f =>
    let s := s.wr (lvNow n g) (fadeLevel f (f.k + 1))
    if f.len ≤ f.k + 1 then
      (s.modLmp n fun u => { u with fades := u.fades.set g none }).raise (ev (EV_LMP_FADE_DONE n))
    else s.modLmp n fun u => { u with fades := u.fades.set g (some { f with k := f.k + 1 }) }

/-- End every fade at the level in force (R156). -/
def fadeStop (s : State) (n : Nat) : State := s.modLmp n fun u => { u with fades := List.replicate 4 none }

/-- The derating target of a temperature (R158). -/
def derTarget (s : State) (n : Nat) : Nat :=
  let th := (s.ch n).lmp.theta.toInt
  let tk := sext 16 (s.rd (LMP_DERCFG_TK n))
  if th ≤ tk then 16384 else (max (16384 - s.rd (LMP_DERCFG_DSLOPE n) * (th - tk)) (s.rd (LMP_DERLIM_DMIN n) : Int)).toNat

/-- DER moves towards its target by at most 16 codes a line; a reading out of range holds it (R158). -/
def derStep (s : State) (n : Nat) : State :=
  if (s.ch n).lmp.tempBad then s else
  let d := s.rd (LMP_DER_DER n)
  let t := derTarget s n
  let d' := if d < t then min (d + 16) t else max (d - 16) t
  (s.wr (LMP_DER_DER n) d').raiseIf (16384 ≤ d && d' < 16384) (ev (EV_LMP_DERATE n))

/-- New colour-hold trims reach their effect line (R161); in rough-cut mode the trims are held (R166).
[DEDUCED, unsafe: log entry 45] -/
def holdStep (s : State) (n t0 : Nat) : State :=
  if s.rough n then s else
  iterate 4 s fun s g =>
    match ((s.ch n).lmp.hold[g]?).bind (·.new) with
    | none => s
    | some (v, at_) =>
      if at_ + 100 ≤ t0 then
        (s.wr (holdReg n g) v).modLmp n fun u => { u with hold := u.hold.modify g fun h => { h with new := none } }
      else s

/-- Sinks cleared of a short come back at their effect line (R163).
[DEDUCED, unsafe: log entry 46] -/
def relightStep (s : State) (n t0 : Nat) : State :=
  iterate 12 s fun s i =>
    match (sinkOf s n i).relight with
    | some at_ => if at_ + 100 ≤ t0 then modSink s n i fun k => { k with shortOff := false, relight := none } else s
    | none => s

/-- The relative light of a colour at the levels in force (R157). -/
def lambdaOf (s : State) (n c : Nat) : Nat :=
  let der := s.rd (LMP_DER_DER n)
  let w := s.rd (whwReg n c)
  ((256 - w) * rndMul (s.rd (lvNow n c)) der + w * rndMul (s.rd (lvNow n 3)) der) / 256

def lambdas (s : State) (n : Nat) : List Nat := (List.range 3).map (lambdaOf s n)

/-- The follow factor of a relative light (R157). -/
def followOf (l : Nat) : Nat := if l = 0 then 0xFFFF else min ((268435456 + l / 2) / l) 0xFFFF

/-- The pulses of a line leave at the pins (R153). -/
def lampsPulse (s : State) (n t0 : Nat) : State :=
  { s with outbox := s.outbox ++ (List.range 12).flatMap fun i => lampPulses s n i t0 }

/-- The lamp controller at a line start at `start` whose t0 is `t0`: staged changes, fades, trims, derating, pulses, the diagnosis mark
count and the checks that follow it (R153, R156 to R163). In rough-cut mode the levels are held, and staged changes wait (R166).
[DEDUCED, unsafe: log entry 45] -/
def lmpLineStart (s : State) (n t0 : Nat) (line : Option Nat) (trig : Bool) : State :=
  let s := iterate 4 s fun s g =>
    match (s.ch n).lmp.staged.getD g none with
    | none => s
    | some t =>
      if !s.rough n && stageDue t t0 line trig then
        let late := match t.when_, line with | 1, some l => decide (t.line < l) | _, _ => false
        applyStage (if late then s.bump (LMP_CNT2_LATE n) else s) n g t
      else s
  let s := iterate 4 s fun s g => fadeStep s n g
  let s := derStep (holdStep (relightStep s n t0) n t0) n
  let s := sinkUpdate s n
  let s := lineChecks (lampsPulse s n t0) n
  showLamp (s.modLmp n fun u => { u with diagCount := (u.diagCount + 1) % 2 ^ 48 }) n

/-- The follow factors of a trigger, as LMP_n_FOLLOW shows them (R157). -/
def follow (s : State) (n : Nat) : List Nat × State :=
  let fs := (lambdas s n).map followOf
  (fs, iterate 3 s fun s c => s.wr (followReg n c) (fs.getD c 0x4000))

/-! ## Writes. -/

/-- Would a level write be refused (R164)?
[DEDUCED, unsafe: log entry 45] -/
def levelRefused (s : State) (n g level : Nat) : Bool :=
  (List.range 12).any fun i =>
    (lampEntry (s.ch n).tabs i).group == g &&
      [level, s.rd (lvNow n g)].any (levelBad s n (lampCfg s n) (s.ch n).tabs i)

/-- A write of LMP_n_LV_g, staged with a WHEN and a line (R156, R159, R164).
[DEDUCED, unsafe: log entry 45] -/
def levelStage (s : State) (n g level fade when_ line : Nat) : State :=
  if levelRefused s n g level then lampRefuse s n else
  let s := (s.wr (LMP_LV_LEVEL n g) level).wr (LMP_LV_FADE n g) fade
  let t : LvStage := { level := level, fade := fade, when_ := when_, line := line, at_ := s.now, edge := none }
  showLamp (s.modLmp n fun u => { u with staged := u.staged.set g (some t) }) n

/-- A write of LMP_n_LV_g under the channel's own WHEN. -/
def levelWrite (s : State) (n g level fade : Nat) : State :=
  levelStage s n g level fade (s.rd (LMP_CTL_WHEN n)) (s.rd64 (LMP_STLINE_LO_LINE n) (LMP_STLINE_HI_LINE n))

/-- A write of LMP_n_CTL.OFF (R158, R166): relighting is refused while too hot, with the channel off. -/
def offWrite (s : State) (n : Nat) (off : Bool) : State :=
  let hot := sext 16 (s.rd (LMP_DERLIM_TOFF n)) - 80 < (s.ch n).lmp.theta.toInt
  if !off && s.rb (LMP_CTL_OFF n) && decide hot then s.bump (LMP_CNT_REFUSED n)
  else showLamp (s.wb (LMP_CTL_OFF n) off) n

/-- A falling edge of LD_SYNC (R159): it sets the effect of changes staged with WHEN 2; at once on a channel that is not
running. -/
def ldSyncEdge (s : State) : State :=
  iterate 4 s fun s n => iterate 4 s fun s g =>
    match (s.ch n).lmp.staged.getD g none with
    | some t =>
      if t.when_ = 2 ∧ t.edge = none then
        if s.running n || s.rough n then s.modLmp n fun u => { u with staged := u.staged.set g (some { t with edge := some s.now }) }
        else showLamp (sinkUpdate (applyStage s n g t) n) n
      else s
    | none => s

/-- A temperature reading (R158); none: out of the input's range. LMP_n_DER.TEMP shows it from the next status refresh (R16). -/
def lampTemp (s : State) (n : Nat) (theta : Option (BitVec 16)) : State :=
  match theta with
  | none => (s.modLmp n fun u => { u with tempBad := true }).raise (ev (EV_LMP_TEMP_FLT n))
  | some t =>
    let s := s.modLmp n fun u => { u with theta := t, tempBad := false }
    let hot := sext 16 (s.rd (LMP_DERLIM_TOFF n)) < t.toInt
    let s := s.raiseIf (decide hot && !(s.ch n).lmp.overTemp) (ev (EV_LMP_OVERTEMP n))
    let s := s.modLmp n fun u => { u with overTemp := decide hot }
    if hot then showLamp (driveSet (s.wr (LMP_CTL_OFF n) 1) (LMP_CTL_OFF n).addr) n else s

/-- The strip reference of sink i in force (R155, R247). -/
def stripRef (s : State) (n i : Nat) : Nat :=
  let e := lampEntry (s.ch n).tabs i
  if e.sref = 0 then s.rd (CAL_SREF_SREF n i) else e.sref

/-- The expected value's target for a group: the register, or the mean of its sinks' strip references (R161). -/
def holdTarget (s : State) (n g : Nat) : Nat :=
  let t := s.rd (holdTgt n g)
  if t ≠ 0 then t else
  let rs := ((List.range 12).filter fun i =>
    let e := lampEntry (s.ch n).tabs i
    e.en && e.group == g && e.wn != 0).map (stripRef s n)
  if rs.isEmpty then 0 else rs.sum / rs.length

/-- The hold source of a group (R168): 3 acts as 0. -/
def holdSrc (s : State) (n g : Nat) : Nat :=
  let v := bits (s.rd (LMP_HOLDCFG_SRC n)) (2 * g + 1) (2 * g)
  if v = 3 then 0 else v

/-- The converter input of a group's photodiode. -/
def holdInput (s : State) (n g : Nat) : Nat :=
  s.rd (match g with | 0 => LMP_HOLDIN_RD n | 1 => LMP_HOLDIN_GN n | 2 => LMP_HOLDIN_BU n | _ => LMP_HOLDIN_WH n)

/-- The trim's step of R161 from a mean M = sum ÷ cnt and the expected value E = en ÷ 16,384.
[DEDUCED, unsafe: log entry 45] -/
def holdDelta (ki : Nat) (sum : Int) (cnt en : Nat) : Int :=
  (ki * 64 * (cnt * en - 16384 * sum)) / ((cnt * en : Nat) : Int)

/-- The end of a hold period of group g (R161). With an expected value of 0 the spec states no trim: the step is a free
value within its limits. -/
def holdUpdate (s : State) (n g : Nat) : State :=
  let src := holdSrc s n g
  let h := ((s.ch n).lmp.hold[g]?).getD { sum := 0, cnt := 0, good := 0, lines := 0, lastGood := false, new := none }
  if src = 0 ∨ h.lines < max 1 (s.rd (LMP_HOLDCFG_HPER n)) then s else
  let s := s.modLmp n fun u => { u with hold := u.hold.modify g fun h => { h with sum := 0, cnt := 0, good := 0, lines := 0 } }
  if s.rough n || h.good = 0 || h.cnt = 0 then s else
  let tgt := holdTarget s n g
  if tgt = 0 then s.wr (holdReg n g) 0x4000 else
  let en := tgt * rndMul (s.rd (lvNow n g)) (s.rd (LMP_DER_DER n))
  let st : Int := s.rd (LMP_HOLDSTEP_HSTEP n)
  let fr := s.free 1 (2 * s.rd (LMP_HOLDSTEP_HSTEP n) + 1)
  let d := if en = 0 then (fr.1 : Int) - st else clampI (holdDelta (s.rd (LMP_HOLDCFG_KI n)) h.sum h.cnt en) (-st) st
  let s := if en = 0 then fr.2 else s
  let v := (clampI (s.rd (holdReg n g) + d) 0x3000 0x5000).toNat
  let s := s.modLmp n fun u => { u with hold := u.hold.modify g fun h => { h with new := some (v, s.now) } }
  s.raiseIf (v == 0x3000 || v == 0x5000) (ev (EV_LMP_HOLD_LIM n))

/-- A photodiode result of converter input k goes to the newest line of each channel whose groups it serves, and counts once that line
is known to; after the last line has left it counts as that line did (R161).
[DEDUCED, unsafe: log entry 45] -/
def holdSample (s : State) (k : Nat) (y : Int) : State :=
  iterate 4 s fun s n => iterate 4 s fun s g =>
    if holdSrc s n g = 1 ∧ holdInput s n g = k then
      match (s.ch n).pipe.lines.getLast? with
      | some l => modLine s n l.trig fun l => { l with hold := l.hold.modify g fun h => (h.1 + y, h.2 + 1) }
      | none => s.modLmp n fun u => { u with hold := u.hold.modify g fun h =>
          if h.lastGood then { h with sum := h.sum + y, cnt := h.cnt + 1 } else h }
    else s

/-- Stage a of R98 summed over a strip window of a line, with its pixel count. -/
def stripSum (p : PipeSt) (l : LineRec) (e : LampEntry) : Int × Nat :=
  (((List.range e.wn).map fun i =>
      ((x12 l (e.w0 + i) e.plane : Int) - (profEntry p l.gains (e.w0 + i) e.plane).1)).sum, e.wn)

/-- A line's strip windows go into colour hold and the optical check (R161, R162 mode 2). -/
def stripLine (s : State) (n : Nat) (l : LineRec) (cal : Bool) : State :=
  let p := (s.ch n).pipe
  let s := iterate 4 s fun s g =>
    if holdSrc s n g = 0 then s else
    let use_ := !(l.spoil || l.poison || cal)
    let sums := ((List.range 12).filter fun i =>
      let e := lampEntry (s.ch n).tabs i
      e.en && e.group == g && e.wn != 0).map fun i => stripSum p l (lampEntry (s.ch n).tabs i)
    let take (h : HoldSt) : HoldSt :=
      let h := { h with lines := h.lines + 1, good := h.good + b2n use_, lastGood := use_ }
      let d := if holdSrc s n g = 2 then ((sums.map (·.1)).sum, (sums.map (·.2)).sum) else l.hold.getD g (0, 0)
      if use_ then { h with sum := h.sum + d.1, cnt := h.cnt + d.2 } else h
    s.modLmp n fun u => { u with hold := u.hold.modify g take }
  if l.spoil || cal then s else
  iterate 12 s fun s i =>
    let e := lampEntry (s.ch n).tabs i
    let ref := stripRef s n i
    if !e.en || (sinkOf s n i).mode != 2 || ref == 0 || e.wn == 0 || !sinkLit s n i then
      modSink s n i fun k => { k with optRun := 0 } else
    let sm := stripSum p l e
    let lim := ref * rndMul (s.rd (lvNow n e.group)) (s.rd (LMP_DER_DER n))
    let low := decide (sm.1 * 16384 * 5 < ((4 * lim * sm.2 : Nat) : Int))
    let run := if low then (sinkOf s n i).optRun + 1 else 0
    let s := if low then s.bump (LMP_CNT_TESTFAIL n) else s
    let s := modSink s n i fun k => { k with optRun := run }
    if run = 64 then lampFaultEv s n (EV_LMP_OPEN n) i 1 else s

/-- The self-test of a sink ends (R163): the drive die reports an open string, or a sink fault, with the sink off from then on. -/
def selfTestDone (s : State) (n i : Nat) (regulates : Bool) : State :=
  if !(sinkOf s n i).testing then s else
  let s := modSink s n i fun k => { k with testing := false, dead := k.dead || !regulates }
  lampReport s n i (if regulates then .lampOpen else .sinkFault)

/-- The report of an open string, a short or a sink fault has come over the link: its bit and its event (R16, R163). -/
def openReport (s : State) (n i : Nat) : State := lampFaultEv (s.setW1c (LMP_FAULT_OPEN n) (2 ^ i)) n (EV_LMP_OPEN n) i 0
def shortReport (s : State) (n i : Nat) : State :=
  showLamp (lampFaultEv (s.setW1c (LMP_FAULT_SHORT n) (2 ^ i)) n (EV_LMP_SHORT n) i 0) n
def sinkReport (s : State) (n i : Nat) : State :=
  showLamp (lampFaultEv (s.wr (LMP_SINKFLT_SINK n) (withBit (s.rd (LMP_SINKFLT_SINK n)) i true)) n (EV_LMP_SINK_FLT n) i 0) n

/-- A W1C write of LMP_n_FAULT (R163).
[DEDUCED, unsafe: log entry 46] -/
def lampFaultClear (s : State) (n : Nat) (w : Word) : State :=
  let sh := (LMP_FAULT_SHORT n).of w
  let op := (LMP_FAULT_OPEN n).of w
  let s := iterate 12 s fun s i =>
    if bit sh i ∧ bit (s.rd (LMP_FAULT_SHORT n)) i ∧ (sinkOf s n i).shortOff then
      modSink s n i fun k => { k with relight := some s.now } else s
  (s.clearW1c (LMP_FAULT_SHORT n) sh).clearW1c (LMP_FAULT_OPEN n) op

/-- A check of a sink in mode 3 (R162, R163): opens for 10 µs start the self-test, two shorts turn it off. -/
def continuousCheck (s : State) (n i : Nat) (sn : SinkSense) : State :=
  let s := modSink s n i fun k => { k with sense := sn }
  if (sinkOf s n i).mode ≠ 3 ∨ !sinkLit s n i then modSink s n i fun k => { k with openSince := none } else
  let r := checkAt s n sn (sinkOf s n i).amp
  let s := recordCheck s n i sn.v r.1 (r.2.1 || r.2.2) true
  let s := modSink s n i fun k => { k with
    openSince := if r.2.1 then (match k.openSince with | some t => some t | none => some s.now) else none,
    shortRun := if r.2.2 then k.shortRun + 1 else 0 }
  let k := sinkOf s n i
  if 2 ≤ k.shortRun then declareShort s n i
  else match k.openSince with
    | some t => if t + 10000 ≤ s.now then selfTest s n i else s
    | none => s

/-- The headroom demand (R165). -/
def headroom (s : State) (n : Nat) : State :=
  match (s.ch n).lmp.vmin with
  | none => s
  | some v =>
    let hd := s.rd (LMP_HDRM_HD n)
    let tgt := s.rd (LMP_HDRMCFG_TGT n) * 100
    let d := clampI ((s.rd (LMP_HDRMCFG_KH n) * ((tgt : Int) - v)) / 160) (-32) 32
    let hd' := (clampI (hd + d) 0 1023).toNat
    let top := if hd' = 1023 ∧ v < tgt then (s.ch n).lmp.hdTop + 1 else 0
    let s := ((s.wr (LMP_HDRM_VMIN n) (min v 65535)).wr (LMP_HDRM_HD n) hd').modLmp n fun u =>
      { u with vmin := none, hdTop := top }
    s.raiseIf (top == 10) (ev (EV_LMP_HDRM n))

/-- Is LD_HDRM_n driven (R165)? Its high time in ns where it is: not with every sink of the channel off. -/
def hdrmHigh (s : State) (n : Nat) : Option Nat :=
  let lit (i : Nat) : Bool := (lampEntry (s.ch n).tabs i).en && !sinkDead s n i
  if driveRd s (LMP_HDRMCFG_EN n) = 0 || s.safe || lampsOff s n || !(List.range 12).any lit then none
  else some (2500 + 45000 * s.rd (LMP_HDRM_HD n) / 1023)

/-- The staged lamp content of a jig is acceptable (R155, R164): every table entry, and every enabled sink at the
content's levels. -/
def lampOk (s : State) (n : Nat) (c : LampCfg) (tabs : List (Nat × Byte)) (P : Nat) : Bool :=
  (List.range 12).all fun i => lampEntryOk tabs P i &&
    !levelBad s n c tabs i (s.rd (LMP_LV_LEVEL n (lampEntry tabs i).group))

/-- Every LMP counter (R168). -/
def lmpCounters (n : Nat) : List Fld := [LMP_CNT_REFUSED n, LMP_CNT_TESTFAIL n, LMP_CNT2_LATE n]

end Sys2Proof.Machine
end

