-- ==== Sys2Proof/Machine/CalOps.lean ====
section
/-! DEFINITION. Machine/CalOps.lean: the calibration controller of a channel (spec/10_shading_calibration.md): captures
(R240, R241), the evaluation (R242 to R247), the gap (R252, R253, R427, R428), activation (R254), requests (R248, R249), and the
profile slots (R237 to R239). -/

namespace Sys2Proof.Machine

def calOf (s : State) (n : Nat) : CalSt := (s.ch n).cal

/-! ## The slide (R252). -/

/-- The slide axis stands still at PARK; a channel with no slide axis has nothing to park. -/
def slideParked (s : State) (n : Nat) : Bool :=
  match roleAxis s n 2 with
  | none => true
  | some a => let x := axis s n a
              !x.moving && x.p == sext 32 (s.rd (CAL_PARK_POS n)) * uStep

/-- The slide axis is not at PARK. -/
def slideIn (s : State) (n : Nat) : Bool :=
  match roleAxis s n 2 with
  | none => false
  | some a => (axis s n a).p != sext 32 (s.rd (CAL_PARK_POS n)) * uStep

/-- Follow the slide axis after anything that may have moved it: SLIDEIN, and a park move that ended elsewhere (R252). -/
def slideWatch (s : State) (n : Nat) : State :=
  let s := s.wb (CAL_STAT_SLIDEIN n) (slideIn s n)
  match roleAxis s n 2 with
  | none => s
  | some a =>
    if (calOf s n).parkTried && !(axis s n a).moving then
      (s.modCal n fun c => { c with parkTried := false }).raiseIf (slideIn s n) (ev (EV_CAL_SLIDE n))
    else s

/-! ## Activation (R254). -/

/-- The active profile is stored in a slot, whose valid bit takes a value (R239, R254). -/
def storeSlot (s : State) (n slot : Nat) (valid : Bool) : State :=
  let prof := profBank (s.ch n).pipe (s.ch n).pipe.bank
  (s.modDram n fun m => copyRegion prof m 0 (profSlotAddr slot) 0x60000).wr (CAL_STAT_PSLOTV n)
    (withBit (s.rd (CAL_STAT_PSLOTV n)) slot valid)

/-- An accepted calibration becomes active (R254): `line` and `ts` are what LASTLINE and LASTTS take. -/
def calActivate (s : State) (n line ts : Nat) : State :=
  let c := calOf s n
  let s := profileSwap s n true
  let s := storeSlot s n (s.rd (PIPE_CFG_PROF n)) true
  let s := match c.whiteTemp with
    | some t => (s.wr (CAL_TEMP_TREF n) t).wr (CAL_STAT_TREFV n) 1
    | none => s
  let s := s.bump (CAL_CALCNT_COUNT n)
  let s := (s.wr64 (CAL_LASTLINE_LO_LINE n) (CAL_LASTLINE_HI_LINE n) line).wr64 (CAL_LASTTS_LO_TS n) (CAL_LASTTS_HI_TS n) ts
  let s := ((c.eval.map (·.srefs)).getD []).foldl (fun s p => s.wr (CAL_SREF_SREF n p.1) p.2) s
  s.modCal n fun c => { c with actDue := false, eval := none }

/-- Activation with the channel not running: LASTLINE is the next normal trigger's number (R254, R427, R428). -/
def calActivateIdle (s : State) (n : Nat) (ts : BitVec 64) : State :=
  if (calOf s n).actDue then calActivate s n (posOf s n).line ts.toNat else s

/-! ## The gap (R252, R253). -/

/-- Is a normal trigger at t0 a gap line? -/
def gapLineAt (s : State) (n t0 : Nat) : Bool :=
  let c := calOf s n
  match c.closedAt with
  | some k => decide (c.gapOpenAt + 100 ≤ t0) && decide (t0 < k + 100)
  | none => s.rb (CAL_STAT_GAP n) && decide (c.gapOpenAt + 100 ≤ t0)

/-- Note a gap line's latched data. -/
def noteGapLine (s : State) (n : Nat) (e : SpanEnd) : State :=
  s.modCal n fun c => { c with gapFirst := some (c.gapFirst.getD e), gapLast := some e }

/-- The payload of the gap record of line A (R148, R253).
[DESIGN CHOICE, safe: log entry 53] -/
def gapPayload (s : State) (n : Nat) (a : SpanEnd) : List Byte :=
  let c := calOf s n
  let f := c.gapFirst.getD a
  let l := c.gapLast.getD { line := (a.line + 2 ^ 48 - 1) % 2 ^ 48, pos := c.gapOpenPos, ts := c.gapOpenTs }
  leBytes 8 f.line ++ leBytes 8 l.line ++ leBytes 8 f.pos.toNat ++ leBytes 8 l.pos.toNat ++
  leBytes 8 c.gapOpenTs.toNat ++ leBytes 8 c.closeTs.toNat ++ leBytes 1 c.recResult ++ leBytes 1 c.recCause ++
  leBytes 2 0 ++ leBytes 4 (s.rd (CAL_CALCNT_COUNT n)) ++ leBytes 40 0

/-- Trigger A: the first normal trigger whose t0 comes at least 100 ns after the gap closed (R252 to R254). The flag says that
this trigger is A.
[DEDUCED, safe: log entry 67] -/
def calAtTrigger (s : State) (n t0 : Nat) (e : SpanEnd) : Bool × State :=
  match (calOf s n).closedAt with
  | none => (false, s)
  | some k =>
    if t0 < k + 100 then (false, s) else
    let s := if (calOf s n).actDue then calActivate s n e.line e.ts.toNat else s
    let s := s.modCal n fun c => { c with closedAt := none, gapRec := some (gapPayload s n e) }
    (true, s.wr (CAL_STAT_STATE n) 0)

/-- The gap closes (R252): with the channel running it waits for A; otherwise an accepted result is activated at once. -/
def gapClose (s : State) (n : Nat) : State :=
  let c := calOf s n
  let acc := (c.eval.map (·.accepted)).getD false
  let res := if c.abandoned then 2 else match c.eval with | some e => if e.accepted then 0 else 1 | none => 2
  let s := (s.wr (CAL_STAT_GAP n) 0).modCal n fun c =>
    { c with closeTs := s.timeBase, recResult := res, recCause := s.rd (CAL_STAT_CAUSE n), actDue := acc && !c.abandoned,
             parkTried := false }
  if s.running n then (s.wr (CAL_STAT_STATE n) 4).modCal n fun c => { c with closedAt := some s.now }
  else calActivateIdle (s.wr (CAL_STAT_STATE n) 0) n s.timeBase

/-- CAL_GAP_CLOSE (R252): the list has ended and the slide stands at PARK. -/
def calGapClose (s : State) (n : Nat) : State :=
  if s.rb (CAL_STAT_GAP n) && !(calOf s n).listOn && slideParked s n then gapClose s n else s

/-- A calibration list starts (R241, R249, R252, R428).
[DEDUCED, unsafe: log entry 21] -/
def calListStart (s : State) (n : Nat) : State :=
  let wait := (calOf s n).closedAt.isSome
  let s := if wait then calActivateIdle s n s.timeBase else s
  let going := wait || s.rb (CAL_STAT_GAP n)
  let s := s.modCal n fun c =>
    { c with capture := none, eval := none, evalBusy := false, retried := false, anyInvalid := false, lambdas := [],
             lampEvent := false, whiteTemp := none, tempRun := 0, reqFirst := false, lastStart := some s.now, listOn := true,
             closedAt := none, actDue := false, parkTried := false, abandoned := false }
  let s := if going then s else s.modCal n fun c =>
    { c with gapOpenTs := s.timeBase, gapOpenPos := BitVec.ofInt 64 (posOf s n).count, gapOpenAt := s.now, gapFirst := none,
             gapLast := none }
  let s := iterate 4 s fun s j => s.wr (CAL_STORE_VALID n j) 0
  let s := ((s.wr (CAL_STAT_GAP n) 1).wr (CAL_STAT_STATE n) 1).wr (CAL_STAT_TREQ n) 0
  s.raise (ev (EV_CAL_START n))

/-- A list's result is abandoned (R254). -/
def calAbandon (s : State) (n : Nat) : State :=
  if (calOf s n).abandoned then s else
  (((s.modCal n fun c => { c with abandoned := true }).wr (CAL_STAT_RESULT n) 3).bump (CAL_REJCNT_ABANDON n)).raise
    (ev (EV_CAL_ABANDON n))

/-- A calibration list has ended (R252, R254, R256): the slide is sent to PARK, or the gap waits for CAL_GAP_CLOSE. -/
def calListEnd (s : State) (n : Nat) (failed : Bool) : State :=
  if !(calOf s n).listOn then s else
  let none_ := (calOf s n).eval.isNone
  let s := s.modCal n fun c => { c with listOn := false, capture := none, evalBusy := false }
  let s := if none_ then calAbandon (if failed then s.wr (CAL_STAT_CAUSE n) 11 else s) n else s
  let s := s.wr (CAL_STAT_STATE n) 3
  match roleAxis s n 2 with
  | none => s
  | some a =>
    if slideParked s n then s else
    let r := axisMove s n a (sext 32 (s.rd (CAL_PARK_POS n))) .park
    if r.2 then r.1.modCal n fun c => { c with parkTried := true } else r.1.raise (ev (EV_CAL_SLIDE n))

/-- Entry into rough-cut mode or the safe state ends a calibration at once, with result 2 and cause 12 (R256). -/
def calRough (s : State) (n : Nat) : State :=
  if !s.rb (CAL_STAT_GAP n) then s else
  let s := s.modCal n fun c => { c with listOn := false, capture := none, evalBusy := false }
  let s := (calAbandon s n).wr (CAL_STAT_CAUSE n) 12
  let s := slideWatch (gapClose s n) n
  s

/-- RUN is cleared: a gap held open by a slide that could not be parked closes (R252). -/
def calRunClear (s : State) (n : Nat) : State :=
  if s.rb (CAL_STAT_GAP n) && !(calOf s n).listOn && !(calOf s n).parkTried && slideIn s n then gapClose s n else s

/-- The channel stops running before A comes (R427). -/
def calRunningEnd (s : State) (n : Nat) : State :=
  if (calOf s n).closedAt.isNone then s else
  (calActivateIdle s n s.timeBase |>.modCal n fun c => { c with closedAt := none, actDue := false }).wr (CAL_STAT_STATE n) 0

/-! ## Captures (R240, R241). -/

/-- CAPTURE begins in a calibration list (R241): its store's counts start afresh, and lines in flight that an earlier capture asked for
are not taken.
[DEDUCED, safe: log entry 67] -/
def captureStart (s : State) (n store kind want : Nat) : State :=
  let s := (s.wr (CAL_STORE_KIND n store) kind).wr (CAL_STORE_VALID n store) 0
  let s := (s.wr (CAL_STORE_LINES n store) 0).wr (CAL_STORE_REPL n store) 0
  let s := s.modPipe n fun p => { p with lines := p.lines.map fun (l : LineRec) => { l with capUse := false } }
  s.modCal n fun c =>
    { c with capture := some { store := store, kind := kind, want := want, taken := 0, repl := 0, invalid := false, sums := [],
                               lambda := none, writing := false },
             lampEvent := c.lampEvent && kind != 0 }

/-- Lines in flight that a capture has taken. -/
def captureFlying (s : State) (n : Nat) : Nat := ((s.ch n).pipe.lines.filter (·.capUse)).length

/-- Does the capture in progress take the line of a trigger? -/
def captureWants (s : State) (n : Nat) : Bool :=
  match (calOf s n).capture with
  | some k => !k.invalid && !k.writing && decide (k.taken + captureFlying s n < k.want)
  | none => false

/-- A line's raw samples x12, pixel by pixel RD GN BU. -/
def rawLine (l : LineRec) : List Nat :=
  (List.range l.sched.pixels).flatMap fun p => (List.range 3).map fun c => x12 l p c

/-- Add a line to sums (none yet: the line itself). -/
def addSums (a b : List Nat) : List Nat := if a.isEmpty then b else List.zipWith (· + ·) a b

/-- The sums build up in the shadow profile SRAM as 32-bit entries (R241). -/
def sumsToShadow (s : State) (n : Nat) (sums : List Nat) : State :=
  s.modPipe n fun p => setBank p p.shadow (writeBytes (profBank p p.shadow) 0 (sums.flatMap (leBytes 4)))

/-- A capture line has been received: accumulated, or replaced (R241).
[DEDUCED, safe: log entry 67] -/
def captureLine (s : State) (n : Nat) (l : LineRec) : State :=
  match (calOf s n).capture with
  | none => s
  | some k =>
    if k.invalid || k.writing then s else
    if l.poison || l.spoil then
      let k := { k with repl := k.repl + 1, invalid := decide (17 ≤ k.repl + 1) }
      (s.wr (CAL_STORE_REPL n k.store) k.repl).modCal n fun c => { c with capture := some k }
    else
      let first := k.kind == 1 && (calOf s n).whiteTemp.isNone
      let lit := k.kind == 1 || k.kind == 2
      let k := { k with taken := k.taken + 1, sums := addSums k.sums (rawLine l), writing := decide (k.want ≤ k.taken + 1),
                        lambda := some l.lambda }
      let s := sumsToShadow (s.wr (CAL_STORE_LINES n k.store) k.taken) n k.sums
      s.modCal n fun c =>
        { c with capture := some k,
                 whiteTemp := if first then some (s.rd (CAL_TEMP_TNOW n)) else c.whiteTemp,
                 lambdas := if lit && !c.lambdas.contains l.lambda then l.lambda :: c.lambdas else c.lambdas }

/-- Has the capture in progress come to its end: all lines taken, or invalid? -/
def captureOver (s : State) (n : Nat) : Bool :=
  match (calOf s n).capture with
  | some k => k.invalid || k.writing
  | none => false

/-- CAPTURE_DONE (R241): the sums are copied into the capture store, or the capture ends invalid. -/
def captureFinish (s : State) (n : Nat) : State :=
  match (calOf s n).capture with
  | none => s
  | some k =>
    let s := s.modCal n fun c => { c with capture := none, anyInvalid := c.anyInvalid || k.invalid }
    if k.invalid then s.wr (CAL_STORE_VALID n k.store) 0 else
    let s := s.modDram n fun m => writeBytes m (capStoreAddr k.store) (k.sums.flatMap (leBytes 4))
    let s := s.wr (CAL_STORE_VALID n k.store) 1
    match k.kind, k.lambda with
    | 1, some ls =>
      ((s.wr (CAL_LCAL_LO_RD n) (ls.getD 0 0)).wr (CAL_LCAL_LO_GN n) (ls.getD 1 0)).wr (CAL_LCAL_HI_BU n) (ls.getD 2 0)
    | _, _ => s

/-! ## The evaluation (R242 to R247). -/

/-- A mean of a capture store in 1/16 code; n > 0 lines (R242). -/
def capMean (sum lines : Nat) : Nat := (16 * sum + lines / 2) / lines

/-- The sum of pixel p, colour c in a capture store. -/
def capSum (s : State) (n j p c : Nat) : Nat := leNat (readBytes (s.dram n) (capStoreAddr j + 12 * p + 4 * c) 4)

def capLines (s : State) (n j : Nat) : Nat := s.rd (CAL_STORE_LINES n j)

def calMean (s : State) (n j p c : Nat) : Nat := capMean (capSum s n j p c) (capLines s n j)

/-- Δ of pixel p, colour c (R242). -/
def calDelta (s : State) (n p c : Nat) : Int :=
  ((calMean s n 1 p c + calMean s n 2 p c + 1) / 2 : Nat) - (calMean s n 0 p c : Int)

/-- λ_c of the white lines. -/
def lcal (s : State) (n c : Nat) : Nat :=
  s.rd (match c with | 0 => CAL_LCAL_LO_RD n | 1 => CAL_LCAL_LO_GN n | _ => CAL_LCAL_HI_BU n)

/-- W_raw for Δ > 0 (R242). -/
def calWraw (s : State) (n c : Nat) (d : Nat) : Nat :=
  (s.rd (CAL_TGT_TGT n) * s.rd (CAL_REFL_REFL n c) * lcal s n c + 2048 * d) / (4096 * d)

/-- D, W and whether the colour of the pixel is out of range (R242). -/
def calEntry (s : State) (n p c : Nat) : Nat × Nat × Bool :=
  let D := min ((calMean s n 0 p c + 8) / 16) 4095
  let lo := s.rd (CAL_GRANGE_WMIN n)
  let hi := s.rd (CAL_GRANGE_WMAX n)
  let d := calDelta s n p c
  if d ≤ 0 then (D, hi, true) else
  let w := calWraw s n c d.toNat
  (D, max lo (min w hi), decide (w < lo) || decide (hi < w))

/-- The 4 bytes of a profile entry (R102). -/
def entryBytes (D W : Nat) : List Byte := leBytes 4 (D + 65536 * W)

/-- The profile of pixels 0 to k − 1. -/
def calProfile (s : State) (n k : Nat) : List Byte :=
  (List.range k).flatMap fun p => (List.range 3).flatMap fun c => let e := calEntry s n p c; entryBytes e.1 e.2.1

/-- The statistics of an evaluation (R244). -/
structure CalStats where
  mu : List Nat
  spread2 : List Nat             -- Σ (m_d − μ_d)²
  white : List Int
  pred : List Nat
  disagree : Nat
  out : Nat
  deriving DecidableEq, Repr

def calStats (s : State) (n P : Nat) : CalStats :=
  let px := List.range P
  let cs := List.range 3
  let mu (c : Nat) : Nat := ((px.map fun p => calMean s n 0 p c).sum + P / 2) / P
  let tol := s.rd (CAL_AGREE_TOL n)
  { mu := cs.map mu,
    spread2 := cs.map fun c => (px.map fun p => ((calMean s n 0 p c : Int) - mu c).natAbs ^ 2).sum,
    white := cs.map fun c => ((px.map fun p => calDelta s n p c).sum + (P / 2 : Nat)) / (P : Int),
    pred := cs.map fun c => (s.rd (CAL_WREF_WREF n c) * s.rd (CAL_REFL_REFL n c) * lcal s n c + 2 ^ 29) / 2 ^ 30,
    disagree := (px.filter fun p => cs.any fun c =>
      decide (tol < ((calMean s n 1 p c : Int) - calMean s n 2 p c).natAbs)).length,
    out := (px.filter fun p => cs.any fun c => (calEntry s n p c).2.2).length }

/-- The first test of R245 that fails, as its cause code; 0 when all pass. -/
def calCause (s : State) (n P : Nat) (t : CalStats) (stopped : Bool) : Nat :=
  let v (j k : Nat) : Bool := s.rb (CAL_STORE_VALID n j) && s.rd (CAL_STORE_KIND n j) == k
  let cs := List.range 3
  let allow := s.rd (CAL_AGREE_ALLOW n)
  let band := s.rd (CAL_BAND_BAND n)
  let w (c : Nat) : Int := t.white.getD c 0
  let q (c : Nat) : Nat := t.pred.getD c 0
  let off (c : Nat) : Bool := decide (band * q c < 256 * (w c - q c).natAbs)
  let c := calOf s n
  if stopped then 10
  else if !(v 0 0 && v 1 1 && v 2 1 && cs.all fun c => s.rd (CAL_WREF_WREF n c) != 0) then 9
  else if c.anyInvalid then 7
  else if 1 < c.lambdas.length || c.lampEvent then 8
  else if cs.any fun c => decide (s.rd (CAL_DARKLIM_DMEAN n) < t.mu.getD c 0) then 4
  else if cs.any fun c => decide (s.rd (CAL_DARKLIM_DSPREAD n) ^ 2 * P < t.spread2.getD c 0) then 5
  else if allow * P < 10000 * t.disagree then 1
  else match cs.find? off with
    | some c => if w c < q c then 2 else 3
    | none => if allow * P < 10000 * t.out then 6 else 0

/-- The strip references of an accepted evaluation (R247). With λ = 0 the spec states no result: a free value. -/
def calSrefs (s : State) (n : Nat) : List (Nat × Nat) × State :=
  let use3 := s.rb (CAL_STORE_VALID n 3) && s.rd (CAL_STORE_KIND n 3) == 2
  (List.range 12).foldl (fun (acc : List (Nat × Nat) × State) i =>
    let e := lampEntry (s.ch n).tabs i
    if !e.en || e.sref != 0 || e.wn == 0 then acc else
    let lam := lcal s n e.plane
    if lam = 0 then let f := acc.2.free 2 4096; (acc.1 ++ [(i, f.1)], f.2) else
    let d (p : Nat) : Int := if use3 then (calMean s n 3 p e.plane : Int) - calMean s n 0 p e.plane else calDelta s n p e.plane
    let sum := ((List.range e.wn).map fun k => d (e.w0 + k)).sum
    let v := (sum * 16384 / (lam : Int) + 8 * e.wn) / (16 * e.wn : Nat)
    (acc.1 ++ [(i, (clampI v 0 4095).toNat)], acc.2)) ([], s)

/-- The statistics registers show an evaluation (R260). -/
def showStats (s : State) (n P : Nat) (t : CalStats) : State :=
  let sd (c : Nat) : Nat := Nat.sqrt (t.spread2.getD c 0 / P)
  let w (c : Nat) : Nat := toBits 16 (t.white.getD c 0)
  let s := ((s.wr (CAL_DMEAN_LO_RD n) (t.mu.getD 0 0)).wr (CAL_DMEAN_LO_GN n) (t.mu.getD 1 0)).wr (CAL_DMEAN_HI_BU n) (t.mu.getD 2 0)
  let s := ((s.wr (CAL_DSPRD_LO_RD n) (sd 0)).wr (CAL_DSPRD_LO_GN n) (sd 1)).wr (CAL_DSPRD_HI_BU n) (sd 2)
  let s := ((s.wr (CAL_WMEAN_LO_RD n) (w 0)).wr (CAL_WMEAN_LO_GN n) (w 1)).wr (CAL_WMEAN_HI_BU n) (w 2)
  (s.wr (CAL_DISAGREE_AGREE n) t.disagree).wr (CAL_DISAGREE_GRANGE n) t.out

/-- Statistics of an evaluation that stopped, or that has no lines to divide by: the spec states none, so free values.
[DESIGN CHOICE, safe: log entry 53] -/
def freeStats (s : State) (n : Nat) : State :=
  [CAL_DMEAN_LO_RD n, CAL_DMEAN_LO_GN n, CAL_DMEAN_HI_BU n, CAL_DSPRD_LO_RD n, CAL_DSPRD_LO_GN n, CAL_DSPRD_HI_BU n,
   CAL_WMEAN_LO_RD n, CAL_WMEAN_LO_GN n, CAL_WMEAN_HI_BU n, CAL_DISAGREE_AGREE n, CAL_DISAGREE_GRANGE n].foldl
    (fun s f => let r := s.free 3 65536; r.2.wr f r.1) s

/-- EVAL is written (R242): ignored outside a calibration list. -/
def calEval (s : State) (n : Nat) : State :=
  if s.calList n && (calOf s n).listOn then (s.modCal n fun c => { c with evalBusy := true }).wr (CAL_STAT_STATE n) 2 else s

/-- An evaluation ends (R243 to R247). `again`: pixels computed a second time; `stop`: the pixel whose second computation
disagreed too.
[DESIGN CHOICE, safe: log entry 53] -/
def calEvalDone (s : State) (n again : Nat) (stop : Option Nat) : State :=
  if !(calOf s n).evalBusy then s else
  let P := (s.ch n).sns.sched.pixels
  let bad := again + b2n stop.isSome
  let s := s.addSat (CAL_CHKERR_COUNT n) bad
  let s := iterate bad s fun s _ => s.raise (ev (EV_CAL_CHK n))
  let lines := (List.range 3).all fun j => capLines s n j != 0
  let t := calStats s n P
  let k := calCause s n P t stop.isSome
  let s := if lines then shadowWrite s n 0 (calProfile s n (stop.getD P)) else s
  let s := if lines && P != 0 && stop.isNone then showStats s n P t else freeStats s n
  let acc := k == 0
  let r := if acc then calSrefs s n else ([], s)
  let s := r.2
  let retry := !acc && s.rb (CAL_CFG_RETRY n) && !(calOf s n).retried
  let s := s.modCal n fun c =>
    { c with evalBusy := false, eval := some { accepted := acc, srefs := r.1 }, retried := c.retried || retry, anyInvalid := false,
             lambdas := [], whiteTemp := if acc then c.whiteTemp else none }
  let s := (((s.wr (CAL_STAT_NEXT n) (if acc then 0 else if retry then 1 else 2)).wr (CAL_STAT_RESULT n) (if acc then 1 else 2)).wr
    (CAL_STAT_CAUSE n) k).wr (CAL_STAT_STATE n) 1
  let s := if acc then s.raise (ev (EV_CAL_ACCEPT n))
    else (s.bump (CAL_REJCNT_REJECT n)).raise ((ev (EV_CAL_REJECT n)).code_ k)
  s.raise (ev (EV_CAL_EVAL n))

/-! ## Requests (R248, R249). -/

/-- A temperature reading in 1/16 °C; none: the converter marks it invalid (R248). -/
def calTemp (s : State) (n : Nat) (t : Option Int) : State :=
  match t with
  | none => s.modCal n fun c => { c with tempRun := 0 }
  | some v =>
    let s := s.wr (CAL_TEMP_TNOW n) (toBits 16 v)
    let far := s.rb (CAL_STAT_TREFV n) &&
      decide (s.rd (CAL_TDRIFT_DRIFT n) ≤ (v - sext 16 (s.rd (CAL_TEMP_TREF n))).natAbs)
    let run := if far then (calOf s n).tempRun + 1 else 0
    let s := s.modCal n fun c => { c with tempRun := run }
    if run = 10 then
      ((s.wr (CAL_STAT_TREQ n) 1).modCal n fun c => { c with reqFirst := false, reqAt := s.now }).raise (ev (EV_CAL_TEMP n))
    else s

/-- RUN set from 0 with no valid profile asks for a first-use calibration (R248). -/
def calFirstUse (s : State) (n : Nat) : State :=
  if s.rb (CAL_CFG_FIRST n) && !s.rb (PIPE_STAT_PVALID n) && snsReady s n then
    (s.wr (CAL_STAT_TREQ n) 1).modCal n fun c => { c with reqFirst := true, reqAt := s.now }
  else s

/-- May the controller start the list by itself (R249)? -/
def calMayStart (s : State) (n : Nat) : Bool :=
  let c := calOf s n
  s.rb (CAL_STAT_TREQ n) && (c.reqFirst || s.rb (CAL_CFG_TAUTO n)) && !s.listRuns (1 + n) && !s.switching n &&
  !s.rough n && !s.safe &&
  (c.reqFirst || match c.lastStart with
    | some t => decide (t + s.rd (CAL_CFG_MININT n) * 1000000000 ≤ s.now)
    | none => true) &&
  (!driven s n || (dtState s n == 0 && match feedAxis s n with | some a => !(axis s n a).moving | none => true)) &&
  (!(s.rb (RSMP_EDGECFG_EN n) && s.rb (RSMP_EDGECFG_MODE n)) || (s.ch n).rsmp.sheet.isNone || decide (c.reqAt + 1000000000 ≤ s.now))

/-! ## Profile slots (R239). -/

/-- STORE and LOAD are refused (R239). -/
def copyRefused (s : State) (n : Nat) : Bool :=
  s.calList n || s.switching n || s.rb (CAL_STAT_BUSY n) || s.rb (PIPE_STAT_SWPEND n)

def calStore (s : State) (n : Nat) : State :=
  if copyRefused s n then s.raise (ev (EV_CAL_BUSY n)) else
  (s.modCal n fun c => { c with copying := some (true, s.rd (PIPE_CFG_PROF n)) }).wr (CAL_STAT_BUSY n) 1

def calLoad (s : State) (n slot : Nat) : State :=
  if copyRefused s n then s.raise (ev (EV_CAL_BUSY n)) else
  (s.modCal n fun c => { c with copying := some (false, slot) }).wr (CAL_STAT_BUSY n) 1

/-- A profile slot's bytes at profile offsets. -/
def slotProfile (s : State) (n slot : Nat) : List (Nat × Byte) := copyRegion (s.dram n) [] (profSlotAddr slot) 0 0x60000

/-- A STORE or LOAD ends. -/
def profileCopyDone (s : State) (n : Nat) : State :=
  match (calOf s n).copying with
  | none => s
  | some (store, slot) =>
    let s := (s.modCal n fun c => { c with copying := none }).wr (CAL_STAT_BUSY n) 0
    if store then storeSlot s n slot (s.rb (PIPE_STAT_PVALID n)) else shadowLoad s n (slotProfile s n slot)

/-- The counters that CLRCNT clears (R260). -/
def calCounters (n : Nat) : List Fld := [CAL_REJCNT_ABANDON n, CAL_REJCNT_REJECT n, CAL_CHKERR_COUNT n]

end Sys2Proof.Machine
end

