-- ==== Sys2Proof/Machine/DrcOps.lean ====
section
/-! DEFINITION. Machine/DrcOps.lean: the DRAM controllers (spec/12_dram_controller.md): capacity and regions (R297, R302), address
mapping (R298, R299), failing reads (R304 to R306), scheduling (R307 to R309), refresh management and row hammer (R311 to
R314), and repairs (R316, R317). -/

namespace Sys2Proof.Machine

/-! ## Capacity and regions (R297, R302). -/

/-- Detected capacity in GiB of a population (R297). -/
def detected (dens ranks : Nat) : Nat := (if dens = 1 then 16 else if dens = 2 then 24 else 0) * ranks

/-- Usable capacity C in GiB. -/
def drcCapacity (s : State) (k : Nat) : Nat :=
  let d := detected (s.rd (DRC_STAT_DENS k)) (1 + s.rd (DRC_STAT_RANK2 k))
  let c := min d 32
  let l := (drcOf s k).capLim
  if l = 0 then c else min c l

/-- The largest spill region that fits, in 64 MiB units. -/
def spillMax (capGiB : Nat) : Nat := 16 * capGiB - 2

/-- Divide controller k's space: the spill region of the boot jig, or the largest that fits (R302). -/
def drcRegions (s : State) (k : Nat) : State :=
  let c := drcCapacity s k
  let s := s.wr (DRC_STAT_CAPG k) c
  if !dramOk s k then s else
  let u := match (drcOf s k).spillWant with | some w => min w (spillMax c) | none => spillMax c
  (s.wr (DRC_SPILL_SIZE k) u).wr (FIFO_SPILLCAP_MIB k) (64 * u)

/-- The mask registers in the order of R300. -/
def maskFlds (k : Nat) : List Fld :=
  [DRC_MAP_SC_MASK k, DRC_MAP_BG0_MASK k, DRC_MAP_BG1_MASK k, DRC_MAP_BG2_MASK k, DRC_MAP_BA0_MASK k, DRC_MAP_BA1_MASK k]

/-- Take the SPILL, CAPLIM and threshold fields of a DRAM part, and its masks where asked, into every controller in service
(R301); without a part each controller takes the largest region. -/
def drcTakePart (s : State) (part : Option (List Byte)) (masks : Bool) : State :=
  iterate 4 s fun s k =>
    if !dramOk s k then s else
    match part with
    | none => drcRegions (s.modDrc k fun d => { d with capLim := 0, spillWant := none }) k
    | some b =>
      let o := 0x40 + 64 * k
      let s := if masks then ((maskFlds k).zip (drcMasks b k)).foldl (fun s p => s.wr p.1 p.2) s else s
      let s := s.modDrc k fun d => { d with capLim := fieldAt b (o + 0x1A) 1, spillWant := some (fieldAt b (o + 0x18) 2) }
      drcRegions (s.wr (DRC_RHCFG_THR k) (fieldAt b (o + 0x1C) 2)) k

/-- Set or clear MAPLOCK of every controller. -/
def drcLock (s : State) (on : Bool) : State :=
  iterate 4 s fun s k => if dramOk s k then s.wb (DRC_STAT_MAPLOCK k) on else s

/-- Do a DRAM part's masks differ from those in force (R301)? An absent part differs from none.
[DEDUCED, unsafe: log entry 57] -/
def masksDiffer (s : State) (part : Option (List Byte)) : Bool :=
  match part with
  | none => false
  | some b => (List.range 4).any fun k => dramOk s k && (maskFlds k).map s.rd != drcMasks b k

/-! ## Address mapping (R298, R299). -/

/-- Parity of a number's low 17 bits. -/
def parity17 (v : Nat) : Bool := (List.range 17).foldl (fun p i => xor p (bit v i)) false

structure DrcPlace where
  rank : Nat
  sc : Nat
  bg : Nat
  ba : Nat
  row : Nat
  col : Nat
  deriving DecidableEq, Repr

/-- Where a controller address lies after hashing; rank, row and column pass unhashed. -/
def drcPlace (s : State) (k a : Nat) : DrcPlace :=
  let u := bits a 34 18
  let h (f : Fld) (b : Nat) : Nat := b2n (xor (bit a b) (parity17 (u &&& s.rd f)))
  let two := s.rb (DRC_STAT_RANK2 k)
  { rank := if two then bits u 16 16 else 0, sc := h (DRC_MAP_SC_MASK k) 6,
    bg := h (DRC_MAP_BG0_MASK k) 9 + 2 * h (DRC_MAP_BG1_MASK k) 10 + 4 * h (DRC_MAP_BG2_MASK k) 11,
    ba := h (DRC_MAP_BA0_MASK k) 12 + 2 * h (DRC_MAP_BA1_MASK k) 13, row := if two then bits u 15 0 else u,
    col := 16 * (4 * bits a 17 14 + bits a 8 7) }

def DrcPlace.bank (p : DrcPlace) : Nat := 64 * p.rank + 32 * p.sc + 4 * p.bg + p.ba

/-- A place in the layout of DRC_k_PPR_e, with V and FAIL 0. -/
def DrcPlace.word (p : DrcPlace) : Nat :=
  p.rank * 2 ^ 29 + p.sc * 2 ^ 28 + p.bg * 2 ^ 25 + p.ba * 2 ^ 23 + p.row

/-! ## The check bits (R303). -/

/-- The check bytes of the burst written at controller address `a` with 64 bytes of data: byte i of CRC_q is the check byte of beat
4q + i. -/
def checkBytes (a : Nat) (data : List Byte) : List Byte :=
  (List.range 4).flatMap fun q => leBytes 4 (crc32 (leBytes 8 (a / 64 * 4 + q) ++ (data.drop (16 * q)).take 16))

/-- The data and check bytes that stand in the cells of the burst at `a`: every write is a whole burst with fresh check bits (R304).
[DEDUCED, unsafe: log entry 58] -/
def burstCells (m : List (Nat × Byte)) (a : Nat) : List Byte :=
  let d := readBytes m (a / 64 * 64) 64
  d ++ checkBytes (a / 64 * 64) d

/-- The 64 data and 16 check bytes that a read of the burst at `a` returns.
[DEDUCED, unsafe: log entry 58] -/
def burstReturned (m : List (Nat × Byte)) (a : Nat) (r : BurstRead) : List Byte :=
  flipBytes r.flips (burstCells m (r.cells.getD a))

/-- The check of a burst read at `a`: the data that came give the check bytes that came with them.
[DEDUCED, unsafe: log entry 58] -/
def burstGood (a : Nat) (b : List Byte) : Bool := b.drop 64 == checkBytes a (b.take 64)

/-! ## Failing reads (R304, R305). -/

/-- The copies, in service, that failed to give a library burst take it from controller k's, which gave it (R305). -/
def writeBack (s : State) (k a : Nat) : State :=
  let bs := readBytes (s.dram k) a 64
  iterate 4 s fun s i =>
    if libServes s i && (drcOf s i).dead.contains a then
      (s.modDram i fun m => writeBytes m a bs).modDrc i fun d => { d with dead := d.dead.filter (· != a) }
    else s

/-- The burst at `a` passed its check: a library burst is written back to the copies that failed. -/
def readServed (s : State) (k a : Nat) : State := if a < 0x04000000 then writeBack s k a else s

/-- The burst at `a` failed twice: what its requester does, by region (R47, R305). A library burst is read from the copy of the next
controller in service, whose answer is the next read to return; once every copy failed, the jig is invalid. -/
def readFailed (s : State) (k a : Nat) : State :=
  if a < 0x04000000 then
    let s := s.modDrc k fun d => { d with dead := a :: d.dead.filter (· != a) }
    if (libSource s a).isNone then setJigBit s (a / 0x100000) false else s
  else if profCopyAddr 0 ≤ a ∧ a < profCopyAddr 2 then
    let b := (a - profCopyAddr 0) / 0x60000
    let t := (a - profCopyAddr b) / 768
    let u := (a + 63 - profCopyAddr b) / 768
    s.modCal k fun c => { c with
      reload := c.reload.filter fun x => x.2.2 != b || (64 * x.1 + x.2.1 != t && 64 * x.1 + x.2.1 != u) }
  else if a < profCopyAddr 0 then
    let j := (a - 0x04000000) / 0x60000
    let loading := (calOf s k).copying == some (false, j)
    let staging := s.switches.any fun q => bit q.mask k && q.profs.any (·.1 == k) && s.rd (GLB_SW_STAT_STATE k) == 1
    if loading || staging then s.wr (CAL_STAT_PSLOTV k) (withBit (s.rd (CAL_STAT_PSLOTV k)) j false) else s
  else if capStoreAddr 0 ≤ a ∧ a < capStoreAddr 4 ∧ (calOf s k).evalBusy then
    (s.wr (CAL_STORE_VALID k ((a - capStoreAddr 0) / 0x60000)) 0).modCal k fun c => { c with anyInvalid := true }
  else s

/-- A burst's read returns and its check bits are compared (R303 to R305).
[DEDUCED, unsafe: log entry 58] -/
def drcReadReturn (s : State) (k addr : Nat) (r : BurstReads) : State :=
  let a := addr / 64 * 64
  let again := burstReturned (s.dram k) a r.again
  let det := (drcPlace s k a).word
  let failed (s : State) : State :=
    ((((s.bump (DRC_CRCERR_FAIL k)).wr (DRC_FAILADDR_LO_ADDR k) (a % 2 ^ 32)).wr (DRC_FAILADDR_HI_ADDR k) (a / 2 ^ 32)).raise
      (((ev (EV_DRC_CRC_FAIL k)).at_ 8 k).detail_ det))
  if burstGood a (burstReturned (s.dram k) a r.first) then readServed s k a
  else if burstGood a again then
    readServed ((s.bump (DRC_CRCERR_REREAD k)).raise (((ev (EV_DRC_CRC k)).at_ 8 k).detail_ det)) k a
  else
    match r.merge with
    | none => readFailed (failed s) k a
    | some new =>
      let merged := new.foldl (fun b p => b.set p.1.val p.2) (again.take 64)
      ((failed s).modDram k fun m => writeBytes m a merged).modDrc k fun d => { d with dead := d.dead.filter (· != a) }

/-- A row reaches lasting fault: it takes the first free repair entry, or the list is full (R306). The list-full cause is
CODE 1.
[DEDUCED, unsafe: log entry 58] -/
def drcRepairEnter (s : State) (k det : Nat) : State :=
  let rsg (v : Nat) : Nat := bits v 29 25
  let same := (List.range 8).any fun e => s.rb (DRC_PPR_V k e) && rsg (s.word (DRC_PPR_V k e).addr).toNat == rsg det
  let pend : Raise := ((ev (EV_DRC_PPR_PEND k)).at_ 8 k).detail_ det
  match (List.range 8).find? fun e => !s.rb (DRC_PPR_V k e) with
  | some e =>
    if same then s.raise (pend.code_ 1)
    else (s.setWord (DRC_PPR_V k e).addr (BitVec.ofNat 32 (2 ^ 31 + det))).raise pend
  | none => s.raise (pend.code_ 1)

/-! ## Refresh management and row hammer (R311 to R314). -/

def assocSet (l : List (Nat × Nat)) (a v : Nat) : List (Nat × Nat) := (a, v) :: l.filter (·.1 != a)
def assocGet (l : List (Nat × Nat)) (a : Nat) : Nat := ((l.find? (·.1 == a)).map (·.2)).getD 0

/-- RFMsb to a bank: its open row closes and its rolling count falls by RAAIMT (R312).
[PRESUMED, unsafe: log entry 59] -/
def issueRfm (s : State) (k bank : Nat) : State :=
  s.modDrc k fun d =>
    { d with openRows := d.openRows.filter (·.1 != bank), raa := assocSet d.raa bank (assocGet d.raa bank - d.raaimt) }

/-- The requester's number in the order of R314. -/
def DrcWho.num : DrcWho → Nat
  | .spill => 0
  | .staging => 1
  | .engine => 2
  | .bar2 => 3
  | .calibration => 4
  | .dma q => 8 + q.val

/-- The row counters after an activation: an untracked row takes a free counter, or every counter of the bank falls.
[PRESUMED, unsafe: log entry 59] -/
def hammerCount (h : List (Nat × Nat × Nat)) (bank row : Nat) : List (Nat × Nat × Nat) :=
  if h.any (fun x => x.1 == bank && x.2.1 == row) then
    h.map fun x => if x.1 == bank && x.2.1 == row then (x.1, x.2.1, x.2.2 + 1) else x
  else if (h.filter (·.1 == bank)).length < 16 then (bank, row, 1) :: h
  else (h.map fun x => if x.1 == bank then (x.1, x.2.1, x.2.2 - 1) else x).filter fun x => x.2.2 != 0

/-- Activate a row for a requester (R312, R313, R314). -/
def activate (s : State) (k : Nat) (p : DrcPlace) (who : DrcWho) : State :=
  let b := p.bank
  let again (t : Throttle) : Throttle :=
    if t.bank == b && t.row == p.row && t.who == who then { t with last := s.now } else t
  let s := s.modDrc k fun d =>
    { d with openRows := (b, p.row) :: d.openRows.filter (·.1 != b), hammer := hammerCount d.hammer b p.row,
             raa := assocSet d.raa b (assocGet d.raa b + 1), throttles := d.throttles.map again }
  let cnt := (((drcOf s k).hammer.find? fun x => x.1 == b && x.2.1 == p.row).map (·.2.2)).getD 0
  let s :=
    if max 1 (s.rd (DRC_RHCFG_THR k)) ≤ cnt then
      let s := s.modDrc k fun d =>
        { d with hammer := d.hammer.filter (fun x => !(x.1 == b && x.2.1 == p.row)),
                 throttles := { bank := b, row := p.row, who := who, last := s.now } ::
                   d.throttles.filter (fun t => !(t.bank == b && t.row == p.row && t.who == who)) }
      ((issueRfm s k b).bump (DRC_HAMMER_CAUGHT k)).raise
        (((ev (EV_DRC_HAMMER k)).at_ 8 k).detail_ (p.word + (Config.requesterCode who.num).toNat * 2 ^ 19))
    else s
  if s.rb (DRC_STAT_RFM k) && (drcOf s k).raaimt ≤ assocGet (drcOf s k).raa b then issueRfm s k b else s

/-- Subchannel that periodic training holds now (R315): each in turn for 400 ns.
[DEDUCED, unsafe: log entry 58] -/
def trainHolds (s : State) (k : Nat) : Option Nat :=
  match (drcOf s k).trainAt with
  | none => none
  | some t => if s.now < t + 400 then some 0 else if s.now < t + 800 then some 1 else none

/-- Periodic training starts, or merges into the run (R315, R318). -/
def drcTrain (s : State) (k : Nat) : State :=
  if s.rd (DRC_STAT_STATE k) != 2 || (trainHolds s k).isSome then s
  else s.modDrc k fun d => { d with trainAt := some s.now }

/-! ## Scheduling (R307 to R309, R314). -/

/-- Queue entries of a class (R307). -/
def drcShare : Nat → Nat
  | 0 => 128
  | 1 => 512
  | 2 => 256
  | _ => 128

/-- Move waiting requests into free entries of their class, in order. -/
def drcAdmit (d : DrcSt) : DrcSt :=
  d.waiting.foldl (fun d r =>
    if (d.queue.filter (·.share == r.share)).length < drcShare r.share then { d with queue := d.queue ++ [r] }
    else { d with waiting := d.waiting ++ [r] }) { d with waiting := [] }

/-- New requests join a controller (R305, R308).
[DEDUCED, unsafe: log entry 58] -/
def drcArrive (d : DrcSt) (now : Nat) (as : List DrcAsk) : DrcSt :=
  drcAdmit (as.foldl (fun d a =>
    let r : DrcReq := ⟨a.cls.val, a.cls.val, a.who, a.addr / 64 * 64, a.write, now, d.nextSeq, false⟩
    { d with waiting := d.waiting ++ [r], nextSeq := d.nextSeq + 1 }) d)

/-- Must a request wait for the throttling of its row?
[PRESUMED, unsafe: log entry 59] -/
def throttled (s : State) (k : Nat) (r : DrcReq) : Bool :=
  let p := drcPlace s k r.addr
  let d := drcOf s k
  !d.openRows.contains (p.bank, p.row) && d.throttles.any fun t =>
    t.bank == p.bank && t.row == p.row && t.who == r.who && decide (s.now < t.last + 1000 * max 1 (s.rd (DRC_RHCFG_TINT k)))

/-- Can a request's bank take it now, but for throttling? -/
def bankTakes (s : State) (k : Nat) (busy : List Nat) (r : DrcReq) : Bool :=
  let p := drcPlace s k r.addr
  let d := drcOf s k
  !busy.contains p.bank && trainHolds s k != some p.sc &&
  !(s.rb (DRC_STAT_RFM k) && decide (d.raammt ≤ assocGet d.raa p.bank) && !d.openRows.contains (p.bank, p.row)) &&
  !d.queue.any (fun x => x.addr == r.addr && decide (x.seq < r.seq))

/-- The request that a scheduling decision takes (R308).
[DEDUCED, unsafe: log entry 58] -/
def drcPick (s : State) (k : Nat) (busy : List Nat) (used : Nat) : Option DrcReq :=
  let q := (drcOf s k).queue.filter fun r => bankTakes s k busy r && !throttled s k r
  let first (c : Nat) : Option DrcReq := q.find? (·.cls == c)
  let low := (first 2).or (first 3)
  ((first 0).or (if used < 32 then low else none)).or ((first 1).or low)

/-- One scheduling decision (R308): requests arrive, throttled ones are counted, and one is served. -/
def drcSchedule (s : State) (k : Nat) (as : List DrcAsk) (busy : List Nat) : State :=
  if s.rd (DRC_STAT_STATE k) != 2 then s else
  let s := s.modDrc k fun d => drcArrive d s.now as
  let hold := (drcOf s k).queue.filter fun r => bankTakes s k busy r && throttled s k r && !r.delayed
  let s := s.addSat (DRC_HAMMER_THROTTLED k) hold.length
  let mark (r : DrcReq) : DrcReq := if hold.contains r then { r with delayed := true } else r
  let s := s.modDrc k fun d => { d with queue := d.queue.map mark }
  let used := if (drcOf s k).frame = s.now / 1000 then (drcOf s k).used else 0
  match drcPick s k busy used with
  | none => s
  | some r =>
    let p := drcPlace s k r.addr
    let s := if (drcOf s k).openRows.contains (p.bank, p.row) then s else activate s k p r.who
    s.modDrc k fun d => drcAdmit
      { d with queue := d.queue.filter (·.seq != r.seq), frame := s.now / 1000,
               used := used + b2n (r.cls == 2 || r.cls == 3) }

/-- Age limit of a class in ns (R308); class 0 has none. -/
def ageLimit (s : State) (k c : Nat) : Option Nat :=
  if c = 1 then some (100 * max 1 (s.rd (DRC_AGE_A1 k)))
  else if c = 2 then some (100 * max 1 (s.rd (DRC_AGE_A2 k)))
  else if c = 3 then some (1000 * max 1 (s.rd (DRC_AGE_A3 k)))
  else none

def tooOld (s : State) (k : Nat) (r : DrcReq) : Bool :=
  match ageLimit s k r.cls with
  | some l => decide (r.at_ + l < s.now)
  | none => false

/-- Promote the requests past their age limit, with every earlier request to the same burst (R308, R309): they go behind the
class 0 requests already waiting, in order of arrival.
[DEDUCED, unsafe: log entry 58] -/
def drcPromote (s : State) (k : Nat) : State :=
  let q := (drcOf s k).queue
  let old := q.filter (tooOld s k)
  let up := q.filter fun r => r.cls != 0 && old.any fun o => r.seq == o.seq || (r.addr == o.addr && decide (r.seq < o.seq))
  let stay := q.filter fun r => !up.contains r
  let lift (r : DrcReq) : DrcReq := { r with cls := 0 }
  s.modDrc k fun d => { d with queue := stay ++ up.map lift }

/-! ## Refresh (R311, R313). -/

/-- REFsb on a bank: the row closes and the rolling count falls.
[PRESUMED, unsafe: log entry 59] -/
def drcRefresh (s : State) (k bank : Nat) : State :=
  s.modDrc k fun d =>
    { d with openRows := d.openRows.filter (·.1 != bank), raa := assocSet d.raa bank (assocGet d.raa bank - d.refDec) }

/-- MR4 of a rank is read: its field, whether it asks for double rate, and whether it lies beyond the operating range. -/
def drcMr4 (s : State) (k rank mr4 : Nat) (double beyond : Bool) : State :=
  let s := s.modDrc k fun d => { d with mr4 := d.mr4.set rank mr4, dbl := d.dbl.set rank (double || beyond) }
  let s := (s.wr (DRC_TEMP_MR4 k) ((drcOf s k).mr4.foldl max 0)).wb (DRC_STAT_REF2X k) ((drcOf s k).dbl.any id)
  s.raiseIf beyond ((ev (EV_DRC_TEMP k)).at_ 8 k)

/-- The 32 ms window ends (R313, R314). -/
def rhClear (s : State) (k : Nat) : State := s.modDrc k fun d => { d with hammer := [], throttles := [] }

/-! ## Training and repair (R296, R315 to R317). -/

/-- The outcome of one repair of entry e (R317). -/
def repairOne (s : State) (k e : Nat) (ok : Bool) : State :=
  if ok then
    (((s.wr (DRC_PPR_V k e) 0).wr (DRC_PPR_FAIL k e) 0).bump (DRC_PPRCNT_COUNT k)).raise ((ev (EV_DRC_PPR_DONE k)).at_ 8 k)
  else (s.wr (DRC_PPR_FAIL k e) 1).raise ((ev (EV_DRC_PPR_FAIL k)).at_ 8 k)

/-- The lowest valid repair entry. -/
def firstRepair (s : State) (k : Nat) : Option Nat := (List.range 8).find? fun e => s.rb (DRC_PPR_V k e)

/-- Full training ends at a bin (0: it failed at every bin), and the lowest repair entry was repaired or refused. -/
def drcTrained (s : State) (k : Nat) (bin : Fin 6) (parts : DramParts) (repair : Bool) : State :=
  let s := match firstRepair s k with | some e => repairOne s k e repair | none => s
  if bin.val = 0 then
    ((s.wr (DRC_STAT_STATE k) 3).wr (DRC_STAT_BIN k) 0).raise ((ev (EV_DRC_TRAIN_FAIL k)).at_ 8 k)
  else
    let s := (((s.wr (DRC_STAT_STATE k) 2).wr (DRC_STAT_BIN k) bin.val).wr (DRC_STAT_DENS k) (1 + parts.dens.val)).wb
      (DRC_STAT_RANK2 k) parts.rank2
    let s := (s.wb (DRC_STAT_RFM k) parts.rfm).modDrc k fun d =>
      { d with raaimt := parts.raaimt, raammt := parts.raammt, refDec := parts.refDec }
    let s := s.wr GLB_BOOTSTAT_DRAMOK (withBit (s.rd GLB_BOOTSTAT_DRAMOK) k true)
    let s := s.wr (DRC_STAT_CAPG k) (drcCapacity s k)
    s.raiseIf (bin.val < 5) ((ev (EV_DRC_SLOW k)).at_ 8 k)

/-- PPRNOW (R317).
[DEDUCED, unsafe: log entry 58] -/
def drcPprNow (s : State) (k : Nat) : State :=
  if s.running k || s.switching k || s.calList k || s.rb (FIFO_STAT_SPILL k) || s.rd (DRC_STAT_STATE k) != 2 then
    s.raise ((ev (EV_DRC_PPR_FAIL k)).at_ 8 k)
  else s.wr (DRC_STAT_STATE k) 4

/-- The maintenance window ends: what each entry's repair did, then the copies (R317). -/
def pprWindowEnd (s : State) (k : Nat) (oks : List Bool) : State :=
  if !inWindow s k then s else
  let s := iterate 8 s fun s e => if s.rb (DRC_PPR_V k e) then repairOne s k e (oks.getD e true) else s
  let s := match libCtl s with
    | some j => s.modDram k fun m => copyRegion (s.dram j) m 0 0 0x04000000
    | none => s
  let s := (s.wr (DRC_STAT_STATE k) 2).modDrc k fun d => { d with dead := [] }
  let p := (s.ch k).pipe
  let s := s.modDram k fun m =>
    copyRegion p.prof1 (copyRegion p.prof0 m 0 (profCopyAddr 0) 0x60000) 0 (profCopyAddr 1) 0x60000
  iterate 4 (s.wr (CAL_STAT_PSLOTV k) 0) fun s j => s.wr (CAL_STORE_VALID k j) 0

/-- The counters that CLRCNT clears (R321). -/
def drcCounters (k : Nat) : List Fld :=
  [DRC_CRCERR_FAIL k, DRC_CRCERR_REREAD k, DRC_HAMMER_THROTTLED k, DRC_HAMMER_CAUGHT k, DRC_PPRCNT_COUNT k]

/-- A controller whose full training is to run again after a warm reset (R66, R319): its RWS registers, its repair entries and its
contents stay. -/
def drcRestart (s : State) (k : Nat) : State :=
  let base := 0x20000 + 0x4000 * k
  let keep := s.regs.filter fun p => decide (base ≤ p.1 ∧ p.1 < base + 0x4000 ∧
    (base + 0x80 ≤ p.1 ∧ p.1 < base + 0xA0 ∨ (fieldsAt p.1).any fun f => f.acc == .rws))
  let s := s.resetRange base (base + 0x4000)
  let s := keep.foldl (fun s p => s.setWord p.1 p.2) s
  s.modDrc k fun d => { DrcSt.init with dead := d.dead }

end Sys2Proof.Machine
end

