-- ==== Sys2Proof/Machine/MonOps.lean ====
section
/-! DEFINITION. Machine/MonOps.lean: the monitoring converter (spec/13_monitoring_converter.md) and what motion takes from it
(spec/08_transport_motion.md R202). -/

namespace Sys2Proof.Machine

def State.modMon (s : State) (f : MonSt → MonSt) : State := { s with mon := f s.mon }

def conv (s : State) (c : Nat) : MonConv := if c = 0 then s.mon.c0 else s.mon.c1

def State.modConv (s : State) (c : Nat) (f : MonConv → MonConv) : State :=
  s.modMon fun m => if c = 0 then { m with c0 := f m.c0 } else { m with c1 := f m.c1 }

def State.modIn (s : State) (i : Nat) (f : MonIn → MonIn) : State := s.modMon fun m => { m with ins := m.ins.modify i f }

def monIn (s : State) (i : Nat) : MonIn := s.mon.ins.getD i MonIn.init

/-- Converter c is out of service (R336). -/
def convOut (s : State) (c : Nat) : Bool := bit (s.rd MON_STAT_CFLT) c

/-! ## Window and settling time (R324, R328). -/

def clampN (v lo hi : Nat) : Nat := min hi (max lo v)

/-- The window K in ticks of 100 ns. -/
def monK (s : State) : Nat :=
  if s.rb MON_CFG_MSYNC && s.rb MON_STAT_MAINSOK then s.mon.kMains else 10 * clampN (s.rd MON_CFG_TPER) 16667 1000000

/-- Settling time in µs. -/
def monTset (s : State) : Nat := clampN (s.rd MON_SETTLE_TSET) 100 16000

def showPeriod (s : State) : State := s.wr MON_PERIOD_K (monK s)

/-! ## From count to result (R325, R326). -/

/-- u of a count. -/
def convU (cnt k : Nat) : Int := Int.fdiv ((2 * (cnt : Int) - k) * 2 ^ 23) k

/-- x of u with the self-calibration z and f; with f = z the spec gives no value and it is free.
[DEDUCED, unsafe: log entry 60] -/
def convX (s : State) (u z f : Int) : Int × State :=
  if f = z then
    let r := s.free 0x13001 (2 ^ 32)
    (sext 32 r.1, r.2)
  else (Int.fdiv ((u - z) * 2 ^ 23) (f - z), s)

def sat32 (v : Int) : Int := clampI v (-2 ^ 31) (2 ^ 31 - 1)

def word32 (s : State) (f : Fld) : Int := sext 32 (s.rd f)

/-- y of a value that is in range; none: invalid. -/
def convY (s : State) (i : Nat) (x : Int) : Option Int :=
  if i < 24 then
    if s.rd (MON_IN_CFG_MODE i) = 1 then
      if x < 0 then none else
      let t := min (x.toNat / 2 ^ 18) 31
      let e0 := s.rd (MON_NTC_TEMP t)
      let e1 := s.rd (MON_NTC_TEMP (t + 1))
      if e0 = 0x8000 ∨ e1 = 0x8000 then none
      else some (sext 16 e0 + Int.fdiv ((sext 16 e1 - sext 16 e0) * (x - 2 ^ 18 * t)) (2 ^ 18))
    else some (sat32 (Int.fdiv ((x - word32 s (MON_IN_OFF_V i)) * word32 s (MON_IN_GAIN_V i) + 2 ^ 19) (2 ^ 20)))
  else if i < 29 then some (Config.monFixed i x).toInt
  else some x

/-! ## Consumers (R333). -/

/-- A supply reading for a channel's motion (R202), at most once per 1 ms. -/
def vsupTake (s : State) (n : Nat) (y : Int) : State :=
  let late := match (s.ch n).mot.vsupAt with | some t => decide (t + 1000000 ≤ s.now) | none => true
  if !late then s else
  let vm := (clampI y 0 65535).toNat
  let vn := s.rd (MOT_VSUP_VNOM n)
  let s := (s.wr (MOT_VMEAS_VM n) vm).modMot n fun m => { m with vsupAt := some s.now }
  if !s.rb (MOT_VSUP_EN n) then csupPut s n 0x4000
  else if 2 * vm < vn ∨ 2 * vn < vm then s.raise (ev (EV_MOT_SUPPLY n))
  else if vm = 0 then
    let r := s.free 0x8202 32768
    csupPut r.2 n r.1
  else csupPut s n (min ((16384 * vn + vm / 2) / vm) 32767)

/-- A valid result goes to every consumer that names its input.
[DESIGN CHOICE, safe: log entry 50] -/
def monPass (s : State) (i : Nat) (y : Int) : State :=
  let s := iterate 4 s fun s n => if s.rd (MOT_VSUP_SRC n) = i then vsupTake s n y else s
  holdSample s i y

/-- The temperature reading of an input (R333); none: marked invalid. -/
def monTemp (s : State) (i : Nat) : Option Int :=
  let m := monIn s i
  match m.latest with
  | none => none
  | some (y, t) =>
    let age := max 1000000000 (2 * (100 * monK s + 1000 * monTset s) * ceilDiv (min (s.rd MON_SEQLEN_LEN) 32) 2)
    if m.bad || decide (t + age < s.now) then none else some y

/-! ## Accumulators (R330, R332). -/

def monInst (r : Raise) (i : Nat) : Raise := r.at_ 10 i

/-- An overrange or invalid result (R325, R326). -/
def monBad (s : State) (i : Nat) (ovr : Bool) : State :=
  let fire := ovr && (monIn s i).ovrArmed
  let s := s.modIn i fun m =>
    if ovr then { m with ovr := true, ovrCnt := min 255 (m.ovrCnt + 1), bad := true, ovrArmed := false }
    else { m with inv := true, invCnt := min 255 (m.invCnt + 1), bad := true }
  s.raiseIf fire (monInst (ev EV_MON_OVR) i)

/-- A valid result: accumulated, compared with the limits, and passed on. The side of EV_MON_LIMIT is CODE 1 below, 2 above.
[DEDUCED, unsafe: log entry 60] -/
def monAccept (s : State) (i : Nat) (y : Int) : State :=
  let m := monIn s i
  let lim := s.rb (MON_IN_CFG_LIMEN i)
  let lo := lim && decide (y < word32 s (MON_IN_LIMLO_V i))
  let hi := lim && decide (word32 s (MON_IN_LIMHI_V i) < y)
  let grow := decide (m.count < 0xFFFFFFFF)
  let top := grow && m.count + 1 == 0xFFFFFFFF
  let m1 := if grow then { m with sum := m.sum + y, count := m.count + 1, sat := m.sat || top } else m
  let m2 := { m1 with mn := min m.mn y, mx := max m.mx y, limlo := m.limlo || lo, limhi := m.limhi || hi }
  let m3 := { m2 with limArmed := !(lo || hi), ovrArmed := true, latest := some (y, s.now), bad := false }
  let s := s.modIn i fun _ => m3
  let s := s.raiseIf top (monInst (ev EV_MON_SAT) i)
  let s := s.raiseIf ((lo || hi) && m.limArmed) ((monInst (ev EV_MON_LIMIT) i).code_ (if lo then 1 else 2))
  monPass s i y

/-- SNAP: copy the live accumulators of the masked inputs, and reset them (R331).
[DEDUCED, unsafe: log entry 60] -/
def monSnap (s : State) (rst : Bool) : State :=
  iterate 32 s fun s i =>
    if !bit (s.rd MON_SNAPMASK_MASK) i then s else
    let m := monIn s i
    let s := s.wr64 (MON_R_SUM_LO_V i) (MON_R_SUM_HI_V i) (toBits 64 m.sum)
    let s := ((s.wr (MON_R_COUNT_V i) m.count).wr (MON_R_MIN_V i) (toBits 32 m.mn)).wr (MON_R_MAX_V i) (toBits 32 m.mx)
    let s := ((s.wb (MON_R_STAT_SAT i) m.sat).wb (MON_R_STAT_OVR i) m.ovr).wb (MON_R_STAT_INV i) m.inv
    let s := (s.wb (MON_R_STAT_LIMLO i) m.limlo).wb (MON_R_STAT_LIMHI i) m.limhi
    let s := (s.wr (MON_R_STAT_OVRCNT i) m.ovrCnt).wr (MON_R_STAT_INVCNT i) m.invCnt
    let back (u : MonIn) : MonIn :=
      { MonIn.init with ovrArmed := u.ovrArmed, limArmed := u.limArmed, latest := u.latest, bad := u.bad }
    if rst then s.modIn i back else s

/-! ## System calibration (R337). -/

/-- A SYSCAL step is asked for.
[DEDUCED, unsafe: log entry 60] -/
def sysCalStart (s : State) (full : Bool) : State :=
  if s.rb MON_STAT_BUSY then s
  else if 24 ≤ s.rd MON_SYSCAL_INPUT then (if full then s.wr MON_STAT_SYSERR 1 else s)
  else (s.wr MON_STAT_BUSY 1).modMon fun m =>
    { m with sys := some { input := s.rd MON_SYSCAL_INPUT, full := full, want := max 1 (s.rd MON_SYSCAL_N), cnt := 0, sum := 0 } }

/-- A valid conversion of the input under system calibration. -/
def sysCalTake (s : State) (q : SysCal) (x : Int) : State :=
  let q := { q with cnt := q.cnt + 1, sum := q.sum + x }
  if q.cnt < q.want then s.modMon fun m => { m with sys := some q } else
  let s := (s.modMon fun m => { m with sys := none }).wr MON_STAT_BUSY 0
  let s := s.raise (monInst (ev EV_MON_SYSCAL) q.input)
  if !q.full then s.wr (MON_IN_OFF_V q.input) (toBits 32 (roundAway q.sum q.cnt)) else
  let den := q.sum - word32 s (MON_IN_OFF_V q.input) * q.cnt
  if den ≤ 0 then s.wr MON_STAT_SYSERR 1 else
  let g := roundAway (word32 s (MON_IN_FSV_V q.input) * 2 ^ 20 * q.cnt) den.toNat
  if g < -2 ^ 31 ∨ 2 ^ 31 ≤ g then s.wr MON_STAT_SYSERR 1
  else (s.wr MON_STAT_SYSERR 0).wr (MON_IN_GAIN_V q.input) (toBits 32 g)

/-- A regular or injected conversion gives a result: u, or an overload. -/
def monResult (s : State) (c i : Nat) (u : Option Int) : State :=
  let xs : Option Int × State := match u with
    | none => (none, s)
    | some u => let r := convX s u (word32 s (MON_ZERO_Z c)) (word32 s (MON_FULL_F c)); (some r.1, r.2)
  let s := xs.2
  let x : Option Int := match xs.1 with | some x => if x.natAbs ≤ 2 ^ 23 then some x else none | none => none
  match s.mon.sys with
  | some q =>
    if q.input = i then
      match x with
      | some v => if (convY s i v).isSome then sysCalTake s q v else s
      | none => s
    else match x with
      | none => monBad s i true
      | some v => match convY s i v with | some y => monAccept s i y | none => monBad s i false
  | none => match x with
    | none => monBad s i true
    | some v => match convY s i v with | some y => monAccept s i y | none => monBad s i false

/-! ## The sequences (R327 to R329). -/

/-- MON_STAT shows the converters. -/
def showMon (s : State) : State :=
  let b (c : Nat) : Nat := b2n (conv s c).job.isSome * 2 ^ c
  let s := s.wr MON_STAT_CONV (b 0 + b 1)
  let t (c : Nat) : Bool := (conv s c).test.isSome || (conv s c).testDue.isSome
  (s.wb MON_STAT_DIAGBUSY (t 0 || t 1 || s.mon.diagNext)).wb MON_STAT_SCALOK (s.mon.c0.scal && s.mon.c1.scal)

/-- Regular entry p. -/
def seqEntry (s : State) (p : Nat) : Nat :=
  s.rd ([MON_SEQ_E0 (p / 4), MON_SEQ_E1 (p / 4), MON_SEQ_E2 (p / 4), MON_SEQ_E3 (p / 4)].getD (p % 4) (MON_SEQ_E0 0))

/-- The entries that converter c runs. -/
def convEntries (s : State) (c : Nat) : List Nat :=
  let len := min (s.rd MON_SEQLEN_LEN) 32
  if convOut s (1 - c) then List.range len
  else if len = 1 then [0]
  else (List.range len).filter (· % 2 == c)

/-- The inputs of a self-test, step by step (R335). -/
def testInput (step : Nat) : Nat := if step = 0 then 30 else if step = 1 then 31 else 29

/-- Start a conversion on converter c: the settling one first, where the input changes or a self-test asks for it. -/
def convStart (s : State) (c i : Nat) (kind : ConvKind) (at_ : Nat) : State :=
  let settle := (conv s c).prev != some i || kind == .test
  let job : ConvJob := { input := i, kind := kind, settle := settle, k := if settle then 10 * monTset s else monK s, start := at_ }
  s.modConv c fun v => { v with job := some job, prev := some i }

/-- Converter c takes its next conversion, at or after a time: a self-test due or under way, an injected entry, a regular
entry, or nothing. -/
def convNext (s : State) (c at_ : Nat) : State :=
  let v := conv s c
  if (v.job.isSome || convOut s c) || !s.rb MON_CTL_RUN then s else
  match v.test, v.testDue with
  | some t, _ => convStart s c (testInput t.step) .test at_
  | none, some full =>
    let t : ConvTest := { full := full, step := 0, us := [], failed := false, again := false }
    convStart (s.modConv c fun v => { v with test := some t, testDue := none }) c 30 .test at_
  | none, none =>
    if s.mon.startUp then s else
    match s.mon.injDue, s.mon.inj with
    | true, i :: rest =>
      let more : MonSt → MonSt := fun m => { m with inj := rest, injDue := !rest.isEmpty }
      convStart (s.modMon more) c i .injected at_
    | _, _ =>
      let es := convEntries s c
      if es.isEmpty then s else convStart s c (seqEntry s (es.getD (v.pos % es.length) 0)) .regular at_

/-- Both converters take their next conversions; converter 1's first starts half a window later at a start (R327). -/
def convBoth (s : State) (half : Bool) : State :=
  showMon (convNext (convNext s 0 s.now) 1 (s.now + if half then 50 * monK s else 0))

/-- A self-test attempt ends on converter c (R335, R336). -/
def testEnd (s : State) (c : Nat) (t : ConvTest) : State :=
  let z := t.us.getD 0 0
  let f := t.us.getD 1 0
  let near (s : State) (u want : Int) : Bool × State :=
    let r := convX s u z f
    (decide ((r.1 - want).natAbs ≤ s.rd MON_DIAGCFG_TOL), r.2)
  let chk : Bool × State :=
    if t.full then
      let a := near s (t.us.getD 2 0) 2097152
      let b := near a.2 (t.us.getD 3 0) 6291456
      (a.1 && b.1, b.2)
    else (true, s)
  let s := chk.2
  let pass := chk.1 && !t.failed
  if !pass && !t.again then
    s.modConv c fun v => { v with test := some { t with step := 0, us := [], failed := false, again := true } }
  else
    let s := s.modConv c fun v => { v with test := none }
    let s :=
      if pass then
        ((s.wr (MON_ZERO_Z c) (toBits 32 z)).wr (MON_FULL_F c) (toBits 32 f)).modConv c fun v => { v with scal := true }
      else (s.bump MON_CNT3_DIAGFAIL).raise ((ev EV_MON_DIAG).at_ 7 c)
    if t.full && c = 0 && s.mon.diagNext then
      let s := s.modMon fun m => { m with diagNext := false }
      if convOut s 1 then s else s.modConv 1 fun v => { v with testDue := some true }
    else s

/-- Has the self-calibration of RUN ended on both converters? -/
def startUpOver (s : State) : Bool :=
  [0, 1].all fun c => convOut s c || ((conv s c).test.isNone && (conv s c).testDue.isNone)

/-- After a converter's work: the start-up ends, and the converters go on. -/
def convGoOn (s : State) : State :=
  if s.mon.startUp && startUpOver s then convBoth (s.modMon fun m => { m with startUp := false }) true
  else convBoth s false

/-- A conversion ends on converter c (R322, R325, R328, R335). -/
def monConversionEnd (s : State) (c : Nat) (r : ConvCount) : State :=
  match (conv s c).job with
  | none => s
  | some j =>
    let s := s.modConv c fun v => { v with job := none }
    if j.settle then
      let s := s.bump MON_CNT_DISCARD
      let stopped := !s.rb MON_CTL_RUN || (j.kind == .test && (conv s c).test.isNone)
      if stopped then convGoOn s else
      let job : ConvJob := { j with settle := false, k := monK s, start := s.now }
      showMon (s.modConv c fun v => { v with job := some job })
    else
      let bad := r.a != r.b
      let s := if bad then (s.bump MON_CNT2_CHKERR).raise ((ev EV_MON_CHK).at_ 7 c) else s
      let u : Option Int := if r.overload then none else some (convU r.a j.k)
      let s := match j.kind with
        | .test =>
          match (conv s c).test with
          | none => s
          | some t =>
            if bad then s else
            let t' := { t with step := t.step + 1, us := t.us ++ [u.getD 0], failed := t.failed || u.isNone }
            if t'.step = (if t.full then 4 else 2) then testEnd s c t'
            else s.modConv c fun v => { v with test := some t' }
        | .regular =>
          let s := s.modConv c fun v => { v with pos := v.pos + 1 }
          if bad then s else monResult s c j.input u
        | .injected => if bad then s else monResult s c j.input u
      convGoOn s

/-- RUN is written (R327, R338). -/
def monRun (s : State) (on : Bool) : State :=
  let was := s.rb MON_CTL_RUN
  let s := s.wb MON_CTL_RUN on
  if on && !was then
    let due (s : State) (c : Nat) : State :=
      if convOut s c then s else s.modConv c fun v => { v with testDue := some false, test := none, pos := 0 }
    let s := due (due (s.modMon fun m => { m with startUp := true, diagNext := false }) 0) 1
    convGoOn (showPeriod s)
  else if !on && was then
    let stop (s : State) (c : Nat) : State := s.modConv c fun v => { v with test := none, testDue := none }
    showMon (stop (stop (s.modMon fun m => { m with startUp := false, diagNext := false, inj := [], injDue := false }) 0) 1)
  else s

/-- A full self-test of converter 0 and then converter 1 (R335), ignored while one runs (R338).
[DEDUCED, unsafe: log entry 60] -/
def monDiag (s : State) : State :=
  if !s.rb MON_CTL_RUN || s.rb MON_STAT_DIAGBUSY then s
  else if !convOut s 0 then
    convGoOn ((s.modMon fun m => { m with diagNext := !convOut s 1 }).modConv 0 fun v => { v with testDue := some true })
  else if !convOut s 1 then convGoOn (s.modConv 1 fun v => { v with testDue := some true })
  else s

/-- A converter gives no result in time (R336): the conversion is given up.
[DEDUCED, unsafe: log entry 60] -/
def monStall (s : State) (c : Nat) : State :=
  match (conv s c).job with
  | none => s
  | some j =>
    let s := (s.bump MON_CNT3_STALL).raise ((ev EV_MON_STALL).at_ 7 c)
    let s := s.modConv c fun v => { v with job := none, pos := if j.kind = .regular then v.pos + 1 else v.pos }
    convGoOn s

/-- A converter leaves service (R336). -/
def convFault (s : State) (c : Nat) : State :=
  if convOut s c then s else
  let s := s.wr MON_STAT_CFLT (withBit (s.rd MON_STAT_CFLT) c true)
  let s := s.raise ((ev EV_MON_CONV_FLT).at_ 7 c)
  let s := s.modConv c fun v => { v with job := none, test := none, testDue := none }
  let s := if c = 0 ∧ s.mon.diagNext then
      (s.modMon fun m => { m with diagNext := false }).modConv 1 fun v => { v with testDue := some true } else s
  convGoOn (s.modConv (1 - c) fun v => { v with pos := 0 })

/-- MON_SEQLEN or MON_SEQ_w is written: each converter goes on from its first entry (R338). -/
def monSeqWritten (s : State) : State :=
  convGoOn ((s.modConv 0 fun v => { v with pos := 0 }).modConv 1 fun v => { v with pos := 0 })

/-! ## Injected conversions (R329). -/

/-- A trigger of a source: dropped while an earlier run has entries to start.
[DEDUCED, unsafe: log entry 60] -/
def monTrigger (s : State) : State :=
  if !s.rb MON_INJCFG_EN || !s.rb MON_CTL_RUN then s
  else if !s.mon.inj.isEmpty then (s.bump MON_CNT2_INJOVR).raise (ev EV_MON_INJOVR)
  else
    let es := [s.rd MON_INJSEQ_E0, s.rd MON_INJSEQ_E1, s.rd MON_INJSEQ_E2, s.rd MON_INJSEQ_E3]
    s.modMon fun m => { m with inj := es.take (1 + s.rd MON_INJCFG_LENM1), injDue := false }

/-- SRC as R329 reads it. -/
def injSrc (s : State) : Nat := if s.rd MON_INJCFG_SRC < 5 then s.rd MON_INJCFG_SRC else 0

/-- A trigger of source k, of channel n and axis a where the source has them. -/
def monTriggerSrc (s : State) (k n a : Nat) : State :=
  let mine := injSrc s == k && (k != 2 || s.rd MON_INJCFG_CH == n) &&
    (k != 3 || (s.rd MON_INJCFG_CH == n && s.rd MON_INJCFG_AX == a))
  if mine then monTrigger s else s

/-- The converter that PREEMPT takes: of those running regular conversions, the one whose conversion started last. -/
def preemptable (s : State) : Option Nat :=
  let reg (c : Nat) : Option Nat := match (conv s c).job with
    | some j => if j.kind = .regular then some j.start else none
    | none => none
  match reg 0, reg 1 with
  | some a, some b => some (if a ≤ b then 1 else 0)
  | some _, none => some 0
  | none, some _ => some 1
  | none, none => none

/-- Take a converter for the next injected entry by PREEMPT. -/
def injPreempt (s : State) : State :=
  if s.mon.inj.isEmpty || !s.rb MON_INJCFG_PREEMPT then s else
  match preemptable s with
  | none => s
  | some c => convGoOn ((s.bump MON_CNT_ABORT).modConv c fun v => { v with job := none })

/-- The injected request is due. -/
def monInjDue (s : State) : State :=
  if s.mon.inj.isEmpty || s.mon.injDue then s
  else injPreempt (injPreempt (convGoOn (s.modMon fun m => { m with injDue := true })))

/-! ## Mains (R324). -/

/-- MAINSOK takes a value. -/
def mainsOk (s : State) (ok : Bool) : State :=
  let was := s.rb MON_STAT_MAINSOK
  let s := showPeriod (s.wb MON_STAT_MAINSOK ok)
  s.raiseIf (was != ok) (ev EV_MON_MAINS)

/-- A rising edge of MAINS_SYNC; one closer than 10 µs to the edge before it is ignored (R416).
[DEDUCED, unsafe: log entry 60] -/
def mainsEdge (s : State) : State :=
  let close := s.mon.sync.any fun t => decide (s.now < t + 10000)
  let s := s.modMon fun m => { m with sync := some s.now }
  if close then s else
  let s := monTriggerSrc s 4 0 0
  if !s.rb MON_CFG_MSYNC then s else
  let prev := s.mon.period
  let p := s.mon.edge.map fun e => (s.now - e) / 100
  let s := s.modMon fun m => { m with edge := some s.now, period := p }
  match p with
  | none => s
  | some p =>
    let near := match prev with | some q => decide (100 * ((p : Int) - q).natAbs ≤ q) | none => false
    if decide (165000 ≤ p ∧ p ≤ 225000) && near then
      let s := s.modMon fun m => { m with okRun := m.okRun + 1, kMains := p }
      if 3 ≤ s.mon.okRun then mainsOk s true else s
    else mainsOk (s.modMon fun m => { m with okRun := 0 }) false

/-- No edge for 25 ms. -/
def mainsTimeout (s : State) : State :=
  mainsOk (s.modMon fun m => { m with edge := none, period := none, okRun := 0 }) false

/-- MON_CFG is written.
[DEDUCED, unsafe: log entry 60] -/
def monCfgWritten (s : State) : State :=
  if s.rb MON_CFG_MSYNC then showPeriod s
  else mainsTimeout s

/-- The counters that CLRCNT clears (R341). -/
def monCounters : List Fld :=
  [MON_CNT_DISCARD, MON_CNT_ABORT, MON_CNT2_INJOVR, MON_CNT2_CHKERR, MON_CNT3_DIAGFAIL, MON_CNT3_STALL]

/-- The converter after a reset (R339): OFF, GAIN, z and f stay at a warm reset. -/
def monReset (s : State) (warm : Bool) : State :=
  let keep := s.regs.filter fun p => decide (0x30060 ≤ p.1 ∧ p.1 < 0x30070) || ((List.range 32).any fun i =>
    p.1 == (MON_IN_OFF_V i).addr || p.1 == (MON_IN_GAIN_V i).addr)
  let s := s.resetRange 0x30000 0x34000
  let s := if warm then keep.foldl (fun s p => s.setWord p.1 p.2) s else s
  s.modMon fun _ => MonSt.init

end Sys2Proof.Machine
end

