-- ==== Sys2Proof/Machine/DrvOps.lean ====
section
/-! DEFINITION. Machine/DrvOps.lean: the drive die and the inter-die link (spec/01_architecture.md R16,
spec/17_electrical_package.md R410), the position check (spec/08_transport_motion.md R204), the PWM (R200 to R203), motion content
that waits for a moving axis (spec/02_jigs_boot_job_switch.md R61), and the clock and power supervisor
(spec/15_events_faults_availability.md R377, R383). -/

namespace Sys2Proof.Machine

/-! ## Forwarded writes (R16). -/

/-- The drive die has a register's new word, and its sinks follow it. -/
def driveTake (s : State) (a : Nat) (w : Word) : State :=
  let s := s.modDrv fun d => { d with image := sput resetWord d.image a w }
  if 0x80000 ≤ a ∧ 0x10000 ≤ chanOff a ∧ chanOff a < 0x14000 then sinkUpdate s (chanOf a) else s

/-- The drive die applies the oldest forwarded write. What has not reached it when the link is lost waits, and is applied once the
link is up again.
[DEDUCED, unsafe: log entry 65] -/
def driveApply (s : State) : State :=
  if !s.drv.linkUp then s else
  match s.drv.fwd with
  | [] => s
  | (a, w) :: t => driveTake (s.modDrv fun d => { d with fwd := t }) a w

/-- Content that a switch exchanges on one line stands ready on the drive die (R60, R61): it is in force at once, and no write of the
register from before is applied after it.
[DEDUCED, unsafe: log entry 65] -/
def driveNow (s : State) (a : Nat) : State :=
  if driveReg a then driveTake (driveSet s a) a (s.word a) else s

/-! ## Axes and bridges (R204, R207, R208). -/

/-- An axis has its bridges out of the off state. In the safe state a standing axis holds only with CFG.HOLDSAFE (R207). -/
def bridgesOn (s : State) (n a : Nat) : Bool :=
  let x := axis s n a
  driveRd s (MOTA_CFG_EN n a) != 0 && !x.bridgesOff && !x.jumpOff && !driveOff s &&
  (!s.safe || x.moving || driveRd s (MOTA_CFG_HOLDSAFE n a) != 0)

/-- MOT_n_STAT.ENOUT: a copy that the status refresh brings (R16). -/
def showEnout (s : State) (n : Nat) : State := s.wb (MOT_STAT_ENOUT n) ((List.range 4).any (bridgesOn s n))

/-- Motion content of a switch that waited for axis a to stand still (R61, R200). -/
def motLateApply (s : State) (n : Nat) : State :=
  iterate 4 s fun s a =>
    if (axis s n a).moving then s else
    let mine := (s.ch n).motLate.filter (·.1 == a)
    if mine.isEmpty && !(axis s n a).tableWait then s else
    let s := mine.foldl (fun s e => driveNow (s.setWord e.2.1 e.2.2) e.2.1) s
    modAxis (s.modCh n fun c => { c with motLate := c.motLate.filter (·.1 != a) }) n a fun x => { x with tableWait := false }

/-- Whatever may have moved or stopped an axis of channel n is followed up: waiting content, the slide, and the dovetail control.
[DEDUCED, unsafe: log entry 68] -/
def motWatch (s : State) (n : Nat) : State := dtWatch (slideWatch (motLateApply s n) n) n

def motWatchAll (s : State) : State := iterate 4 s motWatch

/-! ## The inter-die link (R16, R204). -/

/-- What follows the drive die's state is brought up to date. -/
def driveShow (s : State) : State := iterate 4 s fun s n => showLamp (sinkUpdate s n) n

/-- An axis position as the link carries it. -/
def sentPos (s : State) (n a : Nat) : Int := (axis s n a).p / (uStep : Int)

/-- A position of one axis reaches the drive die with an error: the jump check, and the sum of steps. -/
def drivePos (s : State) (n a : Nat) (err : Int) : State :=
  let x := axis s n a
  let p := sentPos s n a
  let step := sext 32 (toBits 32 (p + err - x.dPos))
  let y : AxisSt := { x with dPos := p + err, dLead := leadOf s n a, dDir := x.fwd, sumOwn := p, dSum := x.dSum + step }
  let s := setAxis s n a y
  if 20 < step.natAbs && !x.jumpOff then
    let s := modAxis s n a fun x => { x with jumpOff := true }
    if h : n < 4 ∧ a < 4 then s.modDrv fun d => { d with reports := d.reports ++ [.stepJump ⟨n, h.1⟩ ⟨a, h.2⟩] } else s
  else s

/-- The drive die receives a frame. -/
def linkFrame (s : State) (bad : FrameBad) : State :=
  if !s.drv.linkUp then s
  else if bad.crc then s.raise (ev EV_DIE_LINK_CRC)
  else
    let err (n a : Nat) : Int := ((bad.errs.find? fun e => e.1.val == n && e.2.1.val == a).map (·.2.2)).getD 0
    iterate 4 s fun s n => iterate 4 s fun s a => drivePos s n a (err n a)

/-- No valid frame for 10 µs: everything off on the drive die's own authority. -/
def linkTimeout (s : State) : State :=
  if !s.drv.linkUp then s else
  driveShow (((s.modDrv fun d => { d with linkUp := false }).wr CLK_STAT_LINK 0).raise (ev EV_DIE_LINK_LOST))

/-- The link is up again. -/
def linkUp (s : State) : State := driveShow ((s.modDrv fun d => { d with linkUp := true }).wr CLK_STAT_LINK 1)

/-- The drive die enters its undervoltage state (R410).
[DEDUCED, unsafe: log entry 65] -/
def driveUnder (s : State) : State := driveShow (s.modDrv fun d => { d with under := true })

/-- The supply is back: the undervoltage state ends with the link up (R410).
[DEDUCED, unsafe: log entry 65] -/
def driveUnderEnd (s : State) : State :=
  if s.drv.linkUp then driveShow (s.modDrv fun d => { d with under := false }) else s

/-- The status of an axis as the drive die has it: the reference input, the duties and their limits. -/
def axisRefresh (s : State) (n a : Nat) (ref : Bool) : State :=
  let s := showRef (modAxis s n a fun x => { x with refIn := ref }) n a
  let x := axis s n a
  let s := (s.wr (MOTA_DUTY_DA n a) (toBits 16 x.dA)).wr (MOTA_DUTY_DB n a) (toBits 16 x.dB)
  let s := (s.wb (MOTA_STAT_SAT n a) x.dSat).addSat (MOTA_CNT2_SAT n a) x.satNew
  modAxis s n a fun x => { x with satNew := 0 }

/-- The status of a sink: voltage, current and failed checks. -/
def sinkRefresh (s : State) (n i : Nat) : State :=
  let k := sinkOf s n i
  let s := ((s.wr (LMP_SINK_V n i) k.v).wr (LMP_SINK_I n i) k.i).addSat (LMP_CNT_TESTFAIL n) k.fails
  modSink s n i fun k => { k with fails := 0 }

/-- The status fields come back from the drive die: the levels of the reference inputs, duties, bridges, the light-bar temperature,
and what the sinks measured last (R16).
[DEDUCED, unsafe: log entry 65] -/
def statusRefresh (s : State) (refs : BitVec 16) (senses : List (Fin 4 × Fin 12 × SinkSense)) : State :=
  if !s.drv.linkUp then s else
  let s := senses.foldl (fun s e => modSink s e.1 e.2.1 fun k => { k with sense := e.2.2 }) s
  iterate 4 s fun s n =>
    let s := iterate 4 s fun s a => axisRefresh s n a (refs.getLsbD (4 * n + a))
    let s := iterate 12 s fun s i => sinkRefresh s n i
    showEnout (s.wr (LMP_DER_TEMP n) (s.ch n).lmp.theta.toNat) n

/-- The pixel die learns of a jump: the axis stops at once (R204, R207).
[DESIGN CHOICE, safe: log entry 50] -/
def jumpReport (s : State) (n a : Nat) : State := motWatch (axisFault (axisDrop s n a) n a true) n

/-- A duty was limited on entry (R202). -/
def limitedReport (s : State) (n a : Nat) : State := s.raise (axisEv (EV_MOT_SAT n) a)

/-- A report reaches the event unit: the drive die's thermal one, else the oldest that waits.
[DEDUCED, unsafe: log entry 65] -/
def driveReport (s : State) (thermal : Bool) : State :=
  if thermal then s.raise (ev EV_CLK_THERM)
  else if !s.drv.linkUp then s
  else match s.drv.reports with
    | [] => s
    | r :: t =>
      let s := s.modDrv fun d => { d with reports := t }
      match r with
      | .thermal => s.raise (ev EV_CLK_THERM)
      | .stepJump n a => jumpReport s n a
      | .limited n a => limitedReport s n a
      | .lampShort n i => shortReport s n i
      | .lampOpen n i => openReport s n i
      | .sinkFault n i => sinkReport s n i

/-- The drive die's sums come back (R204). `err` is what a fault adds to one of them. Every comparison that fails raises its event.
[DESIGN CHOICE, safe: log entry 50] -/
def stepSums (s : State) (errs : List (Fin 4 × Fin 4 × Int)) : State :=
  if !s.drv.linkUp then s else
  iterate 4 s fun s n => motWatch (iterate 4 s fun s a =>
    let x := axis s n a
    let err := ((errs.find? fun e => e.1.val == n && e.2.1.val == a).map (·.2.2)).getD 0
    if toBits 32 (x.dSum + err) = toBits 32 x.sumOwn then s
    else
      let s := axisFault s n a true
      if x.moving then axisEstop (modAxis s n a fun x => { x with offAfter := true }) n a
      else modAxis s n a fun x => { x with bridgesOff := true }) n

/-! ## The PWM (R200 to R203). -/

/-- The tables that axis a drives with: the old ones while it waits (R200). -/
def sineTabs (s : State) (n a : Nat) : List (Nat × Byte) :=
  if (axis s n a).tableWait then (s.ch n).mot.oldSine else (s.ch n).tabs

/-- The codes of both bridges of an axis in the period that begins, by drive clocks; bridge B's period begins half a period later
(R203). The pins carry them while the bridges are out of the off state.
[DEDUCED, unsafe: log entry 14] -/
def axisPlan (s : State) (n a : Nat) : List (Nat × Nat) × List (Nat × Nat) :=
  let x := axis s n a
  let p := max (driveRd s (MOT_PWMCFG_PWMP n)) 1000
  let plan (base : Nat) (d : Int) := bridgePlan base p (driveRd s (MOT_PWMCFG_DEADT n)) d (driveRd s (MOTA_CFG_DECAY n a) != 0)
  if bridgesOn s n a then (plan 0 x.dA, plan (p / 2) x.dB) else ([(0, 0)], [(0, 0)])

/-- A PWM period of an axis starts: its duties (R202, R203). -/
def pwmDuties (s : State) (n a : Nat) : State :=
  if !bridgesOn s n a then
    modAxis s n a fun x => { x with dA := 0, dB := 0, dSat := false }
  else
    let x := axis s n a
    let ab := sineEntry (sineTabs s n a) a (tableIndex x.moving x.dDir x.dPos x.dLead)
    let d := duties (driveAmp s n a) (driveRd s (MOT_VMEAS_CSUP n)) ab (driveRd s (MOTA_CFG_DIRINV n a) != 0)
    let s := modAxis s n a fun y => { y with dA := d.1, dB := d.2.1, dSat := d.2.2, satNew := x.satNew + b2n d.2.2 }
    if d.2.2 && !x.dSat then
      if h : n < 4 ∧ a < 4 then s.modDrv fun v => { v with reports := v.reports ++ [.limited ⟨n, h.1⟩ ⟨a, h.2⟩] } else s
    else s

/-- A PWM period of an axis starts: its duties, and the codes of its bridges leave on the MT pins (R203). -/
def pwmPeriod (s : State) (n a : Nat) : State :=
  let s := pwmDuties s n a
  let p := axisPlan s n a
  s.emit (.bridge n a p.1 p.2)

/-! ## Clock and power supervisor (R360, R377, R383). -/

/-- A stretch begins. -/
def droop (s : State) : State :=
  if s.rb CLK_STAT_STRETCH then s else
  let s := ((s.wr CLK_STAT_STRETCH 1).bump CLK_STRCNT_COUNT).modEvt fun x => { x with stretchOn := some s.now }
  let recent := match s.evt.stretchAt with | some t => decide (s.now < t + 1000000) | none => false
  if recent then s else (s.modEvt fun x => { x with stretchAt := some s.now }).raise (ev EV_CLK_STRETCH)

/-- A stretch ends: its length in ns. -/
def stretchEnd (s : State) : State :=
  match s.evt.stretchOn with
  | none => s
  | some t =>
    let ns := s.now - t
    let s := ((s.wr CLK_STAT_STRETCH 0).peak CLK_STRTIME_NS ns).modEvt fun x => { x with stretchOn := none }
    s.raiseIf (20000 < ns) (ev EV_CLK_DROOP_LONG)

/-- The pixel die's junction temperature in 1/16 °C is read. -/
def dieTemp (s : State) (t : BitVec 16) : State :=
  let s := s.wr CLK_TEMP_TJ t.toNat
  let s := s.raiseIf (decide (sext 16 (s.rd CLK_TEMP_LIM) < t.toInt)) (ev EV_CLK_TEMP)
  s.raiseIf (decide (120 * 16 ≤ t.toInt)) (ev EV_CLK_THERM)

def pllLoss (s : State) (p : Pll) : State :=
  (match p with
    | .pixel => s.wr CLK_STAT_PIXLOCK 0
    | .control => s.wr CLK_STAT_CTLLOCK 0
    | .dram => s.wr CLK_STAT_DRAMLOCK 0).raise (ev EV_CLK_LOCK)

def sysclkLoss (s : State) : State := (s.wr CLK_STAT_SYSCLK 0).raise (ev EV_CLK_SYSCLK)

end Sys2Proof.Machine
end

