-- ==== Sys2Proof/Machine/UmdOps.lean ====
section
/-! DEFINITION. Machine/UmdOps.lean: the Umade link (spec/14_multi_device_umade.md): ports and numbers (R342, R344), frames (R345,
R346), hop latency (R347), time (R352), status, events and lost nodes (R355, R356). Commands stand in Machine/UmdCmd.lean. -/

namespace Sys2Proof.Machine

def State.modUmd (s : State) (f : UmdSt → UmdSt) : State := { s with umd := f s.umd }

def isManager (s : State) : Bool := s.rb GLB_BOOTSTAT_ROLE

/-- The link is in use. -/
def umdOn (s : State) : Bool := s.rb UMD_CFG_EN

def umdNode (s : State) : Nat := s.rd UMD_STAT_NODE

/-! ## Frames (R345). -/

structure UmdFrame where
  ty : Nat
  src : Nat
  bcast : Bool
  dst : Nat
  age : Nat
  body : List Byte               -- up to 25 bytes
  deriving DecidableEq, Repr

/-- Bytes 0 to 28 of a frame. -/
def UmdFrame.head (f : UmdFrame) : List Byte :=
  let h := leBytes 1 (f.ty * 16 + f.src) ++ leBytes 1 (b2n f.bcast * 16 + f.dst) ++ leBytes 2 f.age
  (h ++ f.body ++ List.replicate 25 0).take 29

/-- A frame's 31 bytes; the register of the CRC starts as R86 says. -/
def UmdFrame.bytes (f : UmdFrame) : List Byte := f.head ++ leBytes 2 (crc16 0xFFFF f.head).toNat

/-- Read a frame of 31 bytes; none where its CRC fails or its type is none of the table.
[DEDUCED, unsafe: log entry 61] -/
def parseFrame (bs : List Byte) : Option UmdFrame :=
  let b0 := fieldAt bs 0 1
  let ty := bits b0 7 4
  let ok := bs.length == 31 && fieldAt bs 29 2 == (crc16 0xFFFF (bs.take 29)).toNat && 1 ≤ ty && ty ≤ 7
  if ok then some ⟨ty, bits b0 3 0, bit (fieldAt bs 1 1) 4, bits (fieldAt bs 1 1) 3 0, fieldAt bs 2 2, (bs.drop 4).take 25⟩
  else none

/-- A frame is discarded. -/
def umdBad (s : State) : State := (s.bump UMD_CNT_CRCERR).raise (ev EV_UMD_CRC)

/-- A node that carries traffic: the link is in use, and a worker has a number (R342).
[DEDUCED, unsafe: log entry 61] -/
def umdLive (s : State) : Bool := umdOn s && (s.umd.numbered || isManager s)

/-- Send a frame out of a port that is up: it waits for the end of its command, where the frames go out by type (R346).
[DEDUCED, unsafe: log entry 61] -/
def umdSend (s : State) (up : Bool) (f : UmdFrame) : State :=
  if umdLive s && s.rb (if up then UMD_STAT_UPUP else UMD_STAT_DNUP) then
    s.modUmd fun u => { u with tx := u.tx ++ [(up, f.ty, f.bytes)] }
  else s

/-- The frames that a command has made go out: TICK, TIME, CMD, REPLY, EVENT, STATUS, ECHO, and within a type in order of arrival (R346).
[DEDUCED, unsafe: log entry 61] -/
def umdFlush (s : State) : State :=
  if s.umd.tx.isEmpty then s else
  let fs := [1, 2, 3, 4, 6, 5, 7].flatMap fun t => s.umd.tx.filter (·.2.1 == t)
  { s with outbox := s.outbox ++ fs.map (fun f => .frame f.1 f.2.2), umd := { s.umd with tx := [] } }

/-- A frame is addressed to this node alone: it goes no further (R346). -/
def umdMine (s : State) (f : UmdFrame) : Bool := !f.bcast && f.dst == umdNode s

/-- Units of 1/1.5 ns to ns, and ns to units.
[DESIGN CHOICE, safe: log entry 71] -/
def unitsToNs (u : Nat) : Nat := (2 * u + 1) / 3
def nsToUnits (t : Nat) : Nat := (3 * t + 1) / 2

/-- Send a TICK or TIME frame down with its age: its own age at the start character, which waits for a frame boundary for a
time that the spec leaves open, and the hop (R347).
[DEDUCED, unsafe: log entry 61] -/
def umdSendAged (s : State) (f : UmdFrame) (age : Nat) : State :=
  let r := s.free 0x14347 192
  umdSend r.2 false { f with age := (age + r.1 + s.rd UMD_HOP_H) % 65536 }

/-- Receive a frame of some types on a port: bad ones are discarded, and a frame that is not for this node goes on (R346).
[DEDUCED, unsafe: log entry 61] -/
def umdReceive (s : State) (up : Bool) (bs : List Byte) (ty : Nat) (k : State → UmdFrame → State) : State :=
  if !umdLive s || !s.rb (if up then UMD_STAT_UPUP else UMD_STAT_DNUP) then s else
  match parseFrame bs with
  | none => umdBad s
  | some f => if f.ty = ty then k s f else s

/-! ## Ports (R342, R344, R356). -/

/-- The manager shows a node present, or not. -/
def showNode (s : State) (j : Nat) (here : Bool) : State :=
  s.wr UMD_STAT_PRESENT (withBit (s.rd UMD_STAT_PRESENT) j here)

def nodePresent (s : State) (j : Nat) : Bool := bit (s.rd UMD_STAT_PRESENT) j

/-- Node j and every node beyond it are lost (R356). -/
def nodesLost (s : State) (j : Nat) : State :=
  iterate 16 s fun s i =>
    if j ≤ i ∧ 1 ≤ i ∧ nodePresent s i then
      (((showNode s i false).setWord (UMD_NODE_STAT_PRES i).addr 0).bump UMD_CNT2_LOST).raise ((ev EV_UMD_NODE_LOST).at_ 9 i)
    else s

/-- A port comes up; `above` is the number of the node above.
[DEDUCED, unsafe: log entry 61] -/
def portUp (s : State) (up : Bool) (above : Nat) : State :=
  if !umdOn s || (up && isManager s) then s else
  let s := (s.wr (if up then UMD_STAT_UPUP else UMD_STAT_DNUP) 1).raise (ev EV_UMD_LINK)
  if !up then s
  else if 15 ≤ above then
    ((s.wr UMD_STAT_NODE 0).modUmd fun u => { u with numbered := false, above := above }).raise (ev EV_UMD_CFG)
  else (s.wr UMD_STAT_NODE (above + 1)).modUmd fun u => { u with numbered := true, above := above }

/-- A port goes down.
[DEDUCED, unsafe: log entry 61] -/
def portDown (s : State) (up : Bool) : State :=
  let f := if up then UMD_STAT_UPUP else UMD_STAT_DNUP
  if !s.rb f then s else
  let s := (s.wr f 0).raise (ev EV_UMD_LINK)
  if up then s.wr UMD_STAT_TIMEOK 0
  else
    let s := s.modUmd fun u => { u with echo := none }
    if isManager s then nodesLost s 1 else s

/-! ## ECHO (R347). -/

/-- The transmit count of an ECHO: this node's time in units. -/
def txCount (s : State) : Nat := nsToUnits s.now % 2 ^ 32

/-- Send an ECHO down and wait for its reply. -/
def echoSend (s : State) : State :=
  if !umdOn s || !s.rb UMD_STAT_DNUP then s else
  let c := txCount s
  umdSend (s.modUmd fun u => { u with echo := some c }) false ⟨7, umdNode s, false, 0, 0, leBytes 4 c⟩

/-- A port that had nothing to send for 10 µs sends an ECHO (R344). -/
def keepAlive (s : State) (up : Bool) : State :=
  if up then umdSend s true ⟨7, umdNode s, false, 0, 0, leBytes 4 (txCount s)⟩ else echoSend s

/-- An ECHO arrives: from above it goes back with its measured turnaround; from below it is the reply whose round trip was
measured. -/
def echoArrive (s : State) (up : Bool) (bs : List Byte) (measured : Nat) : State :=
  umdReceive s up bs 7 fun s f =>
    if up then umdSend s true ⟨7, umdNode s, false, 0, 0, f.body.take 4 ++ leBytes 2 measured⟩
    else if s.umd.echo = some (fieldAt f.body 0 4) then
      (s.modUmd fun u => { u with echo := none }).wr UMD_HOP_H ((measured - fieldAt f.body 4 2) / 2)
    else s

/-! ## Time (R352). -/

/-- Some channel of the device runs. -/
def anyRunning (s : State) : Bool := s.rd GLB_CHSTAT_RUNNING != 0

/-- A TIME frame arrives; `lag` is the time since it reached the age counter, in units.
[DEDUCED, unsafe: log entry 61; DESIGN CHOICE, safe: log entry 71] -/
def timeArrive (s : State) (bs : List Byte) (lag : Nat) : State :=
  umdReceive s true bs 2 fun s f =>
    if isManager s then s else
    let age := f.age + lag
    let s := if umdMine s f then s else umdSendAged s f age
    let target := fieldAt f.body 0 8 + unitsToNs age
    let e : Int := (s.timeBase.toNat : Int) - target
    let step (s : State) : State :=
      { s with timeBase := BitVec.ofNat 64 (target / 4 * 4), umd := { s.umd with slew := 0, slewAt := s.now } }
    if !s.rb UMD_STAT_TIMEOK then
      if anyRunning s then s else (step s).wr UMD_STAT_TIMEOK 1
    else
      let far := decide (1000 < e.natAbs)
      let s := s.raiseIf far (ev EV_UMD_TIME)
      if far && !anyRunning s then step s else s.modUmd fun u => { u with slew := e }

/-- Control clocks pass: the time base advances by 4 ns each, or by 0 or 8 ns on a worker that slews, at most once per 1 µs
(R23, R352). -/
def timeTick (s : State) (clocks : Nat) : State :=
  let now := s.now + 4 * clocks
  let first := max (s.umd.slewAt + 1000) (s.now + 4)
  let slots := if now < first then 0 else 1 + (now - first) / 1000
  let k := if isManager s || !s.rb UMD_STAT_TIMEOK then 0 else min slots (min clocks (s.umd.slew.natAbs / 4))
  let adv := if 0 < s.umd.slew then 4 * clocks - 4 * k else 4 * clocks + 4 * k
  let slew : Int := if 0 < s.umd.slew then s.umd.slew - 4 * k else s.umd.slew + 4 * k
  let at_ := if k = 0 then s.umd.slewAt else first + 1000 * (k - 1)
  { s with now := now, timeBase := s.timeBase + BitVec.ofNat 64 adv, umd := { s.umd with slew := slew, slewAt := at_ } }

/-- The manager sends its time. -/
def timeSend (s : State) : State :=
  if !isManager s then s
  else umdSendAged s ⟨2, 0, true, 0, 0, leBytes 8 s.timeBase.toNat⟩ 0

/-! ## Status and events (R355). -/

/-- The STATUS image of this node. -/
def statusWord (s : State) : Nat :=
  let rough := (List.range 4).foldl (fun m n => m + b2n (s.rough n) * 2 ^ n) 0
  let pend := (List.range 4).foldl (fun m n => m + b2n (s.switching n) * 2 ^ n) 0
  2 ^ 31 + b2n (faultLow s) * 2 ^ 30 + b2n s.safe * 2 ^ 29 + s.rd UMD_STAT_TIMEOK * 2 ^ 28 +
    s.rd GLB_CHSTAT_RUNNING * 2 ^ 24 + rough * 2 ^ 20 + pend * 2 ^ 16

/-- Send this node's status record to the manager (R355).
[DESIGN CHOICE, safe: log entry 62] -/
def statusSend (s : State) : State :=
  if isManager s || !s.umd.numbered then s else
  let jigs := (List.range 4).flatMap fun n => leBytes 1 (jigOf s n)
  umdSend s true ⟨5, umdNode s, false, 0, 0, leBytes 4 (statusWord s) ++ jigs⟩

/-- A worker passes a frame on towards the manager. -/
def passUp (s : State) (f : UmdFrame) : State := umdSend s true f

def statusArrive (s : State) (bs : List Byte) : State :=
  umdReceive s false bs 5 fun s f =>
    if !isManager s then passUp s f
    else if f.src = 0 then s else
    let new := !nodePresent s f.src
    let w := BitVec.ofNat 32 (fieldAt f.body 0 4)
    let s := (showNode s f.src true).setWord (UMD_NODE_STAT_PRES f.src).addr (w &&& 0xFFFF0000)
    s.raiseIf new ((ev EV_UMD_NODE_UP).at_ 9 f.src)

/-- An event of this worker goes to the manager, with bytes 0x10 to 0x17 of its log entry (R345, R367). -/
def eventSend (s : State) (r : Raise) : State :=
  if isManager s || !s.umd.numbered then s else
  umdSend s true ⟨6, umdNode s, false, 0, 0,
    leBytes 2 r.ev ++ leBytes 8 s.timeBase.toNat ++ leBytes 6 r.line ++ leBytes 2 r.code⟩

def eventArrive (s : State) (bs : List Byte) : State :=
  umdReceive s false bs 6 fun s f =>
    if !isManager s then passUp s f else
    s.raise (((((ev EV_UMD_WORKER_EVT).at_ 9 f.src).line_ (fieldAt f.body 10 6)).code_ (fieldAt f.body 16 2)).detail_
      (fieldAt f.body 0 2 % 1024))

/-- FAULT_N as the pin drives it, forwarding included (R355, R369). -/
def faultPinLow (s : State) : Bool :=
  faultLow s || (isManager s && s.rb UMD_CFG_FAULTFWD && (List.range 16).any fun j =>
    nodePresent s j && s.rb (UMD_NODE_STAT_FAULT j))

/-- The counters that UMD_CNT_CLR clears (R358). -/
def umdCounters : List Fld := [UMD_CNT_CRCERR, UMD_CNT_LATE, UMD_CNT2_TICKGAP, UMD_CNT2_LOST]

end Sys2Proof.Machine
end

