-- ==== Sys2Proof/Machine/SeqOps.lean ====
section
/-! DEFINITION. Machine/SeqOps.lean: the runners of the sequence engine (spec/02_jigs_boot_job_switch.md R50 to R53, R426): starting,
ending and failing a list, and what a command word says. Runner 0 is the device's, runner 1 + n channel n's. -/

namespace Sys2Proof.Machine

/-! ## A runner's status (R68). -/

def seqState (r : Nat) : Fld := if r = 0 then SEQ_DEV_STAT_STATE else SEQ_STAT_STATE (r - 1)
def seqType (r : Nat) : Fld := if r = 0 then SEQ_DEV_STAT_TYPE else SEQ_STAT_TYPE (r - 1)
def seqCause (r : Nat) : Fld := if r = 0 then SEQ_DEV_STAT_CAUSE else SEQ_STAT_CAUSE (r - 1)
def seqJig (r : Nat) : Fld := if r = 0 then SEQ_DEV_STAT_JIG else SEQ_STAT_JIG (r - 1)
def seqPc (r : Nat) : Fld := if r = 0 then SEQ_DEV_STAT_PC else SEQ_STAT_PC (r - 1)

def runnerOf (s : State) (r : Nat) : Runner := (s.runners[r]?).getD .idle

def modRunner (s : State) (r : Nat) (f : Runner → Runner) : State := { s with runners := s.runners.modify r f }

/-- EV_SEQ_FAIL of runner r: its list type, jig and word index in DETAIL (R52).
[DEDUCED, unsafe: log entry 21; DEDUCED, unsafe: log entry 69] -/
def seqFailEv (r ty jig pc cause : Nat) : Raise :=
  (((ev EV_SEQ_FAIL).at_ 11 r).code_ cause).detail_ (ty * 2 ^ 26 + jig * 2 ^ 16 + pc)

/-- The running list ends as failed (R52); a calibration list goes on as R256 sets out. -/
def seqFail (s : State) (r cause : Nat) : State :=
  let ty := s.rd (seqType r)
  let s := ((s.wr (seqState r) 6).wr (seqCause r) cause).raise (seqFailEv r ty (s.rd (seqJig r)) (s.rd (seqPc r)) cause)
  if 1 ≤ r ∧ ty = 2 then calListEnd s (r - 1) true else s

/-- The running list ends as passed. -/
def seqPass (s : State) (r : Nat) : State :=
  let s := s.wr (seqState r) 5
  if 1 ≤ r ∧ s.rd (seqType r) = 2 then calListEnd s (r - 1) false else s

/-- A list starts on a runner: the engine copies it into the runner's area (R50). A write of the list before that still waits at the
port is applied, and moves the new list on by nothing.
[DEDUCED, unsafe: log entry 76] -/
def seqBegin (s : State) (r ty jig : Nat) (words : List (BitVec 64)) (boot : Bool) : State :=
  let s := { s with port := s.port.map fun (q : PortReq) => if q.src = r + 1 then { q with words := 0 } else q }
  let s := ((((s.wr (seqState r) 1).wr (seqType r) ty).wr (seqCause r) 0).wr (seqJig r) jig).wr (seqPc r) 0
  modRunner s r fun _ => { Runner.idle with words := words, boot := boot }

/-- A start that ends failed before its first command (R53).
[DEDUCED, unsafe: log entry 21] -/
def seqStartFail (s : State) (r ty cause : Nat) : State :=
  let jig := if r = 0 then s.rd GLB_BOOTSTAT_BOOTJIG else jigOf s (r - 1)
  let s := (((((s.wr (seqState r) 6).wr (seqType r) ty).wr (seqCause r) cause).wr (seqJig r) jig).wr (seqPc r) 0)
  s.raise (seqFailEv r ty jig 0 cause)

/-- The image of a jig as channel k, or the device (none), reads it (R47). -/
def jigFor (s : State) (k : Option Nat) (j : Nat) : List Byte :=
  match k with
  | some n => jigImage (s.dram (libFrom s n)) j
  | none => match libCtl s with | some k => jigImage (s.dram k) j | none => []

/-- Start list TYPE of channel n's active jig (R53): a busy runner's list is left untouched. A calibration list also needs
what R250 asks: no switch under way, and no rough-cut mode or safe state.
[DEDUCED, unsafe: log entry 21] -/
def seqStart (s : State) (n ty : Nat) : State :=
  let r := n + 1
  if s.listRuns r then s.raise (seqFailEv r ty (jigOf s n) 0 7)
  else if ty == 2 && s.switching n then seqStartFail s r ty 7
  else if s.rb (GLB_SW_STAT_NOJIG n) || !(2 ≤ ty && ty ≤ 4) || (ty == 2 && (s.rough n || s.safe)) then
    seqStartFail s r ty 4
  else match jigList (jigFor s (some n) (jigOf s n)) n ty with
    | none => seqStartFail s r ty 4
    | some ws =>
      let s := seqBegin s r ty (jigOf s n) ws false
      if ty = 2 then calListStart s n else s

/-- ABORT (R53): the running list ends as failed. -/
def seqAbort (s : State) (r : Nat) : State := if s.listRuns r then seqFail s r 8 else s

/-! ## Command words (R51). -/

def opOf (w : BitVec 64) : Nat := bits w.toNat 63 60

/-- Words that a command takes. -/
def opLen (w : BitVec 64) : Nat := if opOf w = 2 ∨ opOf w = 7 then 2 else 1

/-- The words of the command at a word index: its first, and its second where it has one. -/
def wordAt (s : State) (r i : Nat) : Option (BitVec 64) := (runnerOf s r).words[i]?

/-- A DW of SNS_n_SCHED (R97), which the register map has no field list for. -/
def isSched (a : Nat) : Bool :=
  decide (0x80000 ≤ a ∧ a < 0x180000) && decide (0x2000 ≤ (a - 0x80000) % 0x40000 ∧ (a - 0x80000) % 0x40000 < 0x3000)

/-- RSMP_n_VPOS (R126): a read gives the fraction of y. -/
def isVpos (a : Nat) : Bool :=
  decide (0x80000 ≤ a ∧ a < 0x180000) && decide ((a - 0x80000) % 0x40000 = 0x8018)

/-- PIPE_n_LAG (R118): a read gives the lag of the moment. -/
def isPipeLag (a : Nat) : Bool :=
  decide (0x80000 ≤ a ∧ a < 0x180000) && decide ((a - 0x80000) % 0x40000 = 0x4028)

/-- RSMP_n_LAG (R151): a read gives the lag of the moment. -/
def isRsmpLag (a : Nat) : Bool :=
  decide (0x80000 ≤ a ∧ a < 0x180000) && decide ((a - 0x80000) % 0x40000 = 0x8054)

/-- POS_n_LINE_LO and _HI (R172): a write sets the preset, a read gives the number of the next normal trigger. -/
def isLine (a : Nat) : Bool :=
  decide (0x80000 ≤ a ∧ a < 0x180000) && decide ((a - 0x80000) % 0x40000 = 0x14020 ∨ (a - 0x80000) % 0x40000 = 0x14024)

/-- The absolute offset that a command names, if R426 lets it name one: a register or a table window DW.
[DEDUCED, unsafe: log entry 12] -/
def seqTarget (r : Nat) (w : BitVec 64) : Option Nat :=
  let off := bits w.toNat 55 32
  let rel := bit w.toNat 59
  if rel && (r == 0 || decide (0x40000 ≤ off)) then none else
  let a := if rel then chBase (r - 1) + off else off
  if a % 4 ≠ 0 then none
  else if 0x200000 ≤ a ∧ a < 0x400000 then some a
  else if a < 0x8000 then none
  else if (fieldsAt a).isEmpty && !isEvTable a && !isSched a then none
  else some a

/-- A WRITE or WRITEM may go to an offset (R426): some field of it is not RO.
[DEDUCED, unsafe: log entry 12] -/
def seqWritable (r : Nat) (w : BitVec 64) : Option Nat :=
  match seqTarget r w with
  | none => none
  | some a => if 0x200000 ≤ a || isEvTable a || (fieldsAt a).any (fun f => f.acc != .ro) then some a else none

/-- Is a command within the fields that R51 gives it (R52)? `len` is the list's length.
[DEDUCED, unsafe: log entry 20] -/
def cmdOk (r len : Nat) (w : BitVec 64) (w2 : Option (BitVec 64)) : Bool :=
  let v := w.toNat
  let zero (hi lo : Nat) : Bool := bits v hi lo == 0
  match opOf w with
  | 0 => zero 59 1
  | 1 => zero 58 56
  | 2 => zero 58 56 && (match w2 with | some m => bits m.toNat 63 32 == 0 | none => false)
  | 3 => zero 59 58 && zero 47 32
  | 4 => zero 59 32 && 1 ≤ bits v 31 0
  | 5 => 1 ≤ r && zero 59 58 && zero 53 32
  | 6 => 1 ≤ r && zero 59 58 && zero 55 54 && zero 51 16 && 1 ≤ bits v 15 0
  | 7 => zero 58 56 && (seqTarget r w).isSome &&
      (match w2 with
       | some m => bits m.toNat 63 60 ≤ 3 && bits m.toNat 59 58 == 0 && bits m.toNat 57 56 ≤ 2 && bits m.toNat 55 48 == 0 &&
           (bits m.toNat 57 56 != 1 || decide (bits m.toNat 47 32 < len))
       | none => false)
  | 8 => zero 59 16 && decide (bits v 15 0 < len)
  | 9 => zero 59 16
  | _ => false

/-- The command at the program counter of a running list, when it has the opcode asked for and is legal: its words. -/
def cmdNow (s : State) (r op : Nat) : Option (BitVec 64 × BitVec 64) :=
  if s.rd (seqState r) ≠ 1 || (runnerOf s r).capturing then none else
  let pc := s.rd (seqPc r)
  match wordAt s r pc with
  | none => none
  | some w =>
    let w2 := wordAt s r (pc + 1)
    if opOf w = op && cmdOk r (runnerOf s r).words.length w w2 then some (w, w2.getD 0) else none

/-- Has the runner reached an illegal command, or the end of its list (R52)? -/
def cmdIllegal (s : State) (r : Nat) : Bool :=
  s.rd (seqState r) == 1 && !(runnerOf s r).capturing &&
  (match wordAt s r (s.rd (seqPc r)) with
   | none => true
   | some w => !cmdOk r (runnerOf s r).words.length w (wordAt s r (s.rd (seqPc r) + 1)))

/-- The runner goes on at a word index, which counts no further than its 13 bits. -/
def seqGoto (s : State) (r pc : Nat) : State := (s.wr (seqPc r) (min pc 8191)).wr (seqState r) 1

/-- The list moves on past a command of k words. -/
def seqNext (s : State) (r k : Nat) : State := seqGoto s r (s.rd (seqPc r) + k)

/-- A comparison of CMP. -/
def cmpHolds (cond : Nat) (a b : Nat) : Bool :=
  match cond with
  | 0 => a == b
  | 1 => a != b
  | 2 => decide (b ≤ a)
  | _ => decide (a < b)

/-- The length of the command at a word index, as a skip counts it. -/
def lenAt (s : State) (r i : Nat) : Nat := match wordAt s r i with | some w => opLen w | none => 1

end Sys2Proof.Machine
end

