-- ==== Sys2Proof/Machine/RegOps.lean ====
section
/-! DEFINITION. Machine/RegOps.lean: what a register's new word sets going, whoever writes it
(spec/16_register_map.md R385 to R399, each owning chapter). -/

namespace Sys2Proof.Machine

/-- A word with one field as another word has it. -/
def keepFld (f : Fld) (old new : Word) : Word := f.put new (f.of old)

/-- A device-level register takes a word, which goes on to the drive die as it then stands. -/
def devPut (s : State) (a : Nat) (w : Word) : State :=
  let old := s.word a
  let plain := driveForward (s.setWord a w) a
  if a = MON_CTL_RUN.addr then
    let s := s.setWord a (keepFld MON_CTL_RUN old w)
    driveForward (if MON_CTL_RUN.of old = MON_CTL_RUN.of w then s else monRun s (MON_CTL_RUN.of w != 0)) a
  else if a = MON_CFG_TPER.addr then monCfgWritten plain
  else if a = MON_SEQLEN_LEN.addr ∨ (0x30020 ≤ a ∧ a < 0x30040) then monSeqWritten plain
  else if a = EVT_CTL_LOGEN.addr then logEnable s (EVT_CTL_LOGEN.of w != 0)
  else if 0x11000 ≤ a ∧ a < 0x12000 then
    let q := (a - 0x11000) / 0x100
    if a % 0x100 = 0 then
      let s := s.setWord a (keepFld (DMAQ_CTL_PAUSE q) old w)
      if (DMAQ_CTL_PAUSE q).of old = (DMAQ_CTL_PAUSE q).of w then s else dmaPause s q ((DMAQ_CTL_PAUSE q).of w != 0)
    else if a % 0x100 = 0x34 then crheadWrite s q ((DMAQ_CRHEAD_SLOT q).of w)
    else if a % 0x100 = 0x30 then showQ plain q
    else plain
  else plain

/-- A channel register takes a word: blocks whose status follows their configuration show it. -/
def chanPut (s : State) (a : Nat) (w : Word) : State :=
  let n := chanOf a
  let o := chanOff a
  let old := s.word a
  let plain := driveForward (s.setWord a w) a
  if a = (LMP_CTL_OFF n).addr then
    let s := s.setWord a (keepFld (LMP_CTL_OFF n) old w)
    driveForward (if (LMP_CTL_OFF n).of old = (LMP_CTL_OFF n).of w then s else offWrite s n ((LMP_CTL_OFF n).of w != 0)) a
  else if a = (POS_GEN_LOOP n).addr then
    (if (POS_GEN_LOOP n).of old = (POS_GEN_LOOP n).of w then plain else genSelect plain n)
  else if a = (POS_DIVCFG_SRC n).addr then
    (if (POS_DIVCFG_SRC n).of old = (POS_DIVCFG_SRC n).of w then plain else divSelect plain n)
  else if a = (POS_CMPCTL_EN n).addr then cmpEnable plain n ((POS_CMPCTL_EN n).of w)
  else if 0x8000 ≤ o ∧ o < 0xC000 then showPktLen plain n
  else if o = 0xC000 ∨ o = 0xC010 ∨ o = 0xC014 then fifoWatch plain n
  else if 0x10028 ≤ o ∧ o < 0x11000 then showLamp plain n
  else if a = (MOT_VSUP_EN n).addr then
    (if (MOT_VSUP_EN n).of w = 0 then csupPut plain n 0x4000 else plain)
  else if 0x18100 ≤ o ∧ o < 0x18500 then
    let k := (o - 0x18100) / 0x100
    let set := o % 0x100 = 0 ∧ (MOTA_CFG_ENCCHK n k).of old = 0 ∧ (MOTA_CFG_ENCCHK n k).of w = 1
    let s := if set then slipBegin plain n k else plain
    motWatch (showAxis (showRef s n k) n k) n
  else if o = 0x1C044 then slideWatch plain n
  else plain

/-- A register takes a word. -/
def regPut (s : State) (a : Nat) (w : Word) : State := if a < 0x80000 then devPut s a w else chanPut s a w

end Sys2Proof.Machine
end

