-- ==== Sys2Proof/Machine/JigOps.lean ====
section
/-! DEFINITION. Machine/JigOps.lean: job switching (spec/02_jigs_boot_job_switch.md R58 to R64): requests and refusals, staging and the
blocks' checks, commit, the switch on line L, and cancellation. -/

namespace Sys2Proof.Machine

/-! ## What a jig would make of a channel, and the blocks' checks (R60). -/

/-- Channel n as a jig would set it: registers, tables and schedule, as data. -/
def jigTrial (s : State) (n : Nat) (bs : List Byte) : State :=
  let s := (chanEntries bs n).foldl (fun t e => imagePut t e.1 e.2) s
  let s := s.modCh n fun c => { c with tabs := chanTables bs n c.tabs }
  match chanSched bs n with
  | some b => s.modSns n fun u => { u with sched := parseSchedule b }
  | none => s

/-- Pitch of at least 1.0 (R176) and sound compare lists (R180).
[DEDUCED, unsafe: log entry 47] -/
def posOk (s : State) (n : Nat) (tabs : List (Nat × Byte)) : Bool :=
  1 ≤ s.rd (POS_PITCH_HI_INT n) && (List.range 4).all (cmpListOk tabs)

/-- No TICKSRC channel and no source channel is in driven mode (R351). -/
def umdOk (s : State) (n : Nat) : Bool :=
  !umdOn s || !driven s n || !(bit (s.rd UMD_CFG_TICKSRC) n || (isManager s && s.rd UMD_CFG_SRCCH == n))

/-- Is the motion content accepted (R187, R190, R200)? -/
def stageMotOk (s : State) (n : Nat) (bs : List Byte) : Bool :=
  let t := jigTrial s n bs
  motOk t n (t.ch n).tabs

/-- Every entry of a jig for the FIFO block leaves the reserved bits zero (R225 check 6). -/
def fifoEntriesOk (bs : List Byte) (n : Nat) : Bool :=
  (chanEntries bs n).all fun e =>
    let used := (fieldsAt e.1).foldl (fun (m : Word) f => m ||| f.mask) 0
    !(0xC000 ≤ chanOff e.1 && chanOff e.1 < 0x10000) || BitVec.ofNat 32 e.2 &&& ~~~ used == 0

/-- The rest of a channel's content: whether every block accepts it, and the events of those that do not.
[DEDUCED, unsafe: log entry 17] -/
def stageRest (s : State) (n : Nat) (bs : List Byte) : Bool × List Nat :=
  let t := jigTrial s n bs
  let tabs := (t.ch n).tabs
  let sc := (t.ch n).sns.sched
  let fmt := t.rd (PACK_CFG_FMT n)
  let cfg := rsmpCfg t n
  let sns := match chanSched bs n with | some b => schedOk b (t.rd (SNS_CFG_SPIDIV n)) | none => (s.ch n).sns.hasSched
  let rsmp := rsmpOk cfg (t.rd (RSMP_XCFG_BIN n)) tabs fmt sc.pixels sc.pmin
  let lamp := lampOk t n (lampCfg t n) tabs sc.pixels
  let fifo := fifoOk t n tabs (pktLen fmt (outPixels cfg sc.pixels)) && fifoEntriesOk bs n
  let umd := umdOk t n
  let bad := [(sns, EV_SNS_SCHED_BAD n), (rsmp, EV_RSMP_TABLE_BAD n), (lamp, EV_LMP_CFG n), (fifo, EV_FIFO_CFG_BAD n),
              (umd, EV_UMD_CFG)].filter fun p => !p.1
  (bad.isEmpty && posOk t n tabs, bad.map (·.2))

/-- The check of a channel's content, with the events of the blocks that refuse it. -/
def stageCheck (s : State) (n : Nat) (bs : List Byte) : Bool × State :=
  let m := stageMotOk s n bs
  let r := stageRest s n bs
  (m && r.1, r.2.foldl (fun s e => s.raise (ev e)) (s.raiseIf (!m) (ev (EV_MOT_TABLE_BAD n))))

/-! ## Taking a jig's content. -/

/-- Registers and tables that change with the packet of line L (R61): RSMP, PACK and FIFO blocks; resampling tables, edge
bands and the pace table. -/
def lateReg (a : Nat) : Bool := 0x8000 ≤ chanOff a && chanOff a < 0x10000

/-- The axis that a register belongs to. -/
def axisReg (a : Nat) : Option Nat :=
  let k := chanOff a / 0x100
  if 0x181 ≤ k ∧ k < 0x185 then some (k - 0x181) else none

/-- One register entry of a channel comes into force (R45, R61): a gain and a level are in force at once; a register of an
axis that moves waits until it stands still.
[DEDUCED, unsafe: log entry 28] -/
def jigReg (s : State) (e : Nat × Nat) : State :=
  let n := chanOf e.1
  let w := imageWord e.1 (s.word e.1) e.2
  match axisReg e.1 with
  | some a =>
    if (axis s n a).moving then s.modCh n fun c => { c with motLate := c.motLate ++ [(a, e.1, w)] } else driveNow (regPut s e.1 w) e.1
  | none =>
    let s := driveNow (regPut s e.1 w) e.1
    let s := if (gainRegs n).contains e.1 then s.modPipe n fun p => { p with gainsIn := sput resetWord p.gainsIn e.1 w } else s
    if chanOff e.1 < 0x10010 ∨ 0x10020 ≤ chanOff e.1 then s else
    let g := (chanOff e.1 - 0x10010) / 4
    (s.wr (lvNow n g) ((LMP_LV_LEVEL n g).of w)).modLmp n fun u => { u with fades := u.fades.set g none }

/-- Replace a region of a channel's tables by a jig's. -/
def tabRegion (new cur : List (Nat × Byte)) (a b : Nat) : List (Nat × Byte) := copyRegion new cur a a (b - a)

/-- Axes of channel n whose sine table differs between two tables and which move keep the old one (R200). -/
def sineWait (s : State) (n : Nat) (new : List (Nat × Byte)) : State :=
  let cur := (s.ch n).tabs
  let m := (List.range 4).filter fun a =>
    (axis s n a).moving && readBytes cur (0x68000 + 0x1000 * a) 4096 != readBytes new (0x68000 + 0x1000 * a) 4096
  if m.isEmpty then s else
  m.foldl (fun s a =>
    if (axis s n a).tableWait then s else
    let s := s.modMot n fun u => { u with oldSine := tabRegion cur u.oldSine (0x68000 + 0x1000 * a) (0x69000 + 0x1000 * a) }
    modAxis s n a fun x => { x with tableWait := true }) s

/-- Does a switch change vertical resampling (R127)? Configurations, tables and pixels before and after.
[DEDUCED, unsafe: log entry 28] -/
def vertChange (a b : RsmpCfg) (ta tb : List (Nat × Byte)) (pa pb : Nat) : Bool :=
  a.vmode != b.vmode ||
  (a.vmode && (a.sv != b.sv || a.y0f != b.y0f || a.bypass != b.bypass || a.bin != b.bin || a.x0 != b.x0 || a.step != b.step ||
    outPixels a pa != outPixels b pb || readBytes ta 0x60000 0x600 != readBytes tb 0x60000 0x600))

/-- Do two schedules differ in what spoils lines (R62): in anything but row delays?
[DEDUCED, unsafe: log entry 28] -/
def schedSpoils (a b : Schedule) : Bool := !decide ({ b with offs := a.offs } = a)

/-- The packet length of an accepted jig is shown, and the status that follows the content. -/
def jigShow (s : State) (n : Nat) : State := motWatch (fifoWatch (showLamp (sinkUpdate (showPktLen s n) n) n) n) n

/-- A channel takes a jig's content: all of it where it does not run; else from line L on, whose trigger is `run`'s, with the
late part waiting for L's packet (R61 to R63).
[DEDUCED, unsafe: log entry 45] -/
def jigTake (s : State) (n : Nat) (bs : List Byte) (run : Option (Nat × Nat)) : State :=
  let t := jigTrial s n bs
  let tabs := (t.ch n).tabs
  let old := (s.ch n).sns.sched
  let new := (t.ch n).sns.sched
  let es := chanEntries bs n
  let vert := vertChange (rsmpCfg s n) (rsmpCfg t n) (s.ch n).tabs tabs old.pixels new.pixels
  let s := sineWait s n tabs
  let s := match chanSched bs n with | some b => snsSetSchedule s n b | none => s
  match run with
  | none =>
    let s := s.modCh n fun c => { c with tabs := tabs, late := none }
    jigShow (es.foldl jigReg (cmpRest s n)) n
  | some (trig, line) =>
    let rs := es.filter fun e => lateReg e.1
    let l : LateSet := { trig := trig, line := line, regs := rs, tabs := tabs, vert := vert, dev := false }
    let s := s.modCh n fun c => { c with tabs := tabRegion tabs c.tabs 0x61000 0x6C000, late := some l }
    let s := cmpRest s n
    let s := (es.filter fun e => !lateReg e.1).foldl jigReg s
    let s := s.modSns n fun u =>
      { u with spoilNext := if schedSpoils old new then max 2 u.spoilNext else u.spoilNext,
               switchWait := if (chanSched bs n).isSome then new.switches else u.switchWait }
    let len := if s.rough n then pktLen 0 new.pixels else pktLen (t.rd (PACK_CFG_FMT n)) (outPixels (rsmpCfg t n) new.pixels)
    motWatch (showLamp (sinkUpdate (s.wr (PACK_PKTLEN_LEN n) len) n) n) n

/-- The Umade configuration of a type 0x0C section (R343), where its version is known.
[DEDUCED, unsafe: log entry 57] -/
def umdTake (s : State) (b : List Byte) : State :=
  if fieldAt b 0 2 ≠ 1 then s else
  let s := (s.wr UMD_CFG_EN (bits (fieldAt b 2 1) 0 0)).wr UMD_CFG_FAULTFWD (bits (fieldAt b 2 1) 1 1)
  let s := (s.wr UMD_CFG_SRCCH (bits (fieldAt b 3 1) 1 0)).wr UMD_CFG_TICKSRC (bits (fieldAt b 4 1) 3 0)
  s.wr UMD_TICKDLY_D (fieldAt b 6 2)

/-- The arbitration entries of a type 0x0B section (R281). -/
def arbTake (s : State) (b : List Byte) : State :=
  iterate 16 s fun s q =>
    let a := (DMAQ_ARB_PRIO q).addr
    regPut s a (imageWord a (s.word a) (fieldAt b (0x140 + 4 * q) 4))

/-- A register entry of the device (R45). -/
def devReg (s : State) (e : Nat × Nat) : State := regPut s e.1 (imageWord e.1 (s.word e.1) e.2)

/-- One device section (R44): the Umade configuration counts only at boot (R343).
[DEDUCED, unsafe: log entry 57] -/
def devSecTake (boot : Bool) (bs : List Byte) (s : State) (c : JigSec) : State :=
  if c.ty = 1 then (imageEntries (secBytes bs c)).foldl devReg s
  else if c.ty = 0x0B then arbTake s (secBytes bs c)
  else if c.ty = 0x0C && boot then umdTake s (secBytes bs c)
  else s

/-- The device sections of a jig, in directory order (R54, R61).
[DEDUCED, unsafe: log entry 57] -/
def devTake (s : State) (bs : List Byte) (boot : Bool) : State :=
  ((jigSecs bs).filter (·.tgt == 0xFF)).foldl (devSecTake boot bs) s

/-- What waited for the packet of L comes into force (R61, R62).
[DEDUCED, unsafe: log entry 28; DEDUCED, unsafe: log entry 42] -/
def lateTake (s : State) (n : Nat) : State :=
  match (s.ch n).late with
  | none => s
  | some l =>
    let s := s.modCh n fun c =>
      { c with late := none, tabs := tabRegion l.tabs (tabRegion l.tabs c.tabs 0x60000 0x61000) 0x6C000 0x6D000 }
    let s := l.regs.foldl (fun s e => regPut s e.1 (imageWord e.1 (s.word e.1) e.2)) s
    let s := if l.dev then devTake s (jigFor s (some n) (jigOf s n)) false else s
    if l.vert then s.modRsmp n fun r => { setY (rsmpCfg s n) r l.line with spoilOut := 3 } else s

/-- The late content for the packet of a line of trigger `trig`. -/
def lateDue (s : State) (n trig : Nat) : State :=
  match (s.ch n).late with
  | some l => if l.trig ≤ trig then lateTake s n else s
  | none => s

/-! ## Requests (R58, R59). -/

/-- The request that names channel n. -/
def swIndex (s : State) (n : Nat) : Option Nat := s.switches.findIdx? fun r => bit r.mask n

def modSw (s : State) (i : Nat) (f : SwReq → SwReq) : State := { s with switches := s.switches.modify i f }

def maskChans (m : Nat) : List Nat := (List.range 4).filter (bit m)

/-- The largest line number of the most recent trigger on any running channel of a mask, plus 512 (R59).
[DESIGN CHOICE, safe: log entry 27] -/
def swAhead (s : State) (mask : Nat) : Option Nat :=
  let ls := (maskChans mask).filter (s.running ·) |>.map fun n => (posOf s n).line - 1
  if ls.isEmpty then none else some (ls.foldl max 0 + 512)

/-- Why a request is refused (R59); 0 where it is accepted. `line`: an explicit target.
[DEDUCED, unsafe: log entry 25; DEDUCED, unsafe: log entry 26] -/
def swReason (s : State) (src jig mask : Nat) (line : Option Nat) : Nat :=
  let cs := maskChans mask
  let bs := jigFor s none jig
  if src < 2 && !isManager s then 6
  else if cs.isEmpty || s.safe || cs.any (fun n => !dramOk s n || s.rough n || s.stopped n) then 7
  else if cs.any (fun n => s.switching n || s.calList n) then 1
  else if !jigBit s jig then 2
  else if cs.any (fun n => !bit (jigMask bs) n) then 3
  else if masksDiffer s (devSec bs 0x0B) then 5
  else match line, swAhead s mask with
    | some l, some a => if l < a then 4 else 0
    | _, _ => 0

def setTgt (s : State) (n line : Nat) : State :=
  (s.wr (GLB_SW_TGT_LO_LINE n) (line % 2 ^ 32)).wr (GLB_SW_TGT_HI_LINE n) (line / 2 ^ 32)

/-- A refused request changes nothing but what shows the reason (R59).
[DEDUCED, unsafe: log entry 25] -/
def swRefuse (s : State) (src mask reason : Nat) : State :=
  let s := (maskChans mask).foldl (fun s n =>
    if s.switching n then s.wr (GLB_SW_STAT_REASON n) reason
    else ((s.wr (GLB_SW_STAT_STATE n) 6).wr (GLB_SW_STAT_REASON n) reason).wr (GLB_SW_STAT_SRC n) src) s
  s.raise ((ev EV_JOB_REFUSED).code_ reason)

/-- A switch request (R58, R59). Where the device chooses the target and no channel of the mask runs, the spec gives no line
number to count from: a free one.
[DESIGN CHOICE, safe: log entry 27] -/
def swRequest (s : State) (src jig mask : Nat) (line : Option Nat) (go : Bool) : State :=
  let why := swReason s src jig mask line
  if why ≠ 0 then swRefuse s src mask why else
  let r := match line with
    | some l => (l, s)
    | none => (match swAhead s mask with | some a => (a % 2 ^ 48, s) | none => s.free 0x2059 (2 ^ 48))
  let tgts := (List.range 4).map fun n => s.rd64 (GLB_SW_TGT_LO_LINE n) (GLB_SW_TGT_HI_LINE n)
  let s := (maskChans mask).foldl (fun s n =>
    setTgt ((((s.wr (GLB_SW_STAT_STATE n) 1).wr (GLB_SW_STAT_REASON n) 0).wr (GLB_SW_STAT_SRC n) src).wr
      (GLB_SW_STAT_PEND n) jig) n r.1) r.2
  let m := mask % 16
  { s with switches := s.switches ++
      [{ src := src, jig := jig, mask := m, all := m, line := r.1, armed := 0, go := go, committed := false, profs := [],
         devDone := false, tgts := tgts }] }

/-! ## Cancellation (R64). -/

/-- Cancel request i for every channel of its mask: GLB_SW_n_TGT shows the last completed switch again (R68). -/
def swCancelAt (s : State) (i reason : Nat) : State :=
  match s.switches[i]? with
  | none => s
  | some r =>
    let s := (maskChans r.mask).foldl (fun s n =>
      setTgt ((s.wr (GLB_SW_STAT_STATE n) 7).wr (GLB_SW_STAT_REASON n) reason) n (r.tgts.getD n 0)) s
    { s with switches := s.switches.eraseIdx i }.raise ((ev EV_JOB_CANCEL).code_ reason)

/-- Cancel the uncommitted request that names channel n. -/
def swCancelChan (s : State) (n reason : Nat) : State :=
  match swIndex s n with
  | none => s
  | some i => if (s.switches[i]?).any (·.committed) then s else swCancelAt s i reason

/-- Cancel uncommitted requests on the channels of a mask. -/
def swCancel (s : State) (mask reason : Nat) : State := (maskChans mask).foldl (fun s n => swCancelChan s n reason) s

/-! ## The switch (R61, R63). -/

/-- The channel runs a jig: ACTIVE and NOJIG show it. -/
def jigActive (s : State) (n jig : Nat) : State := (s.wr (GLB_SW_STAT_ACTIVE n) jig).wr (GLB_SW_STAT_NOJIG n) 0

/-- Start the activate list of a jig on channel n (R53, R61). -/
def activateStart (s : State) (n jig : Nat) (bs : List Byte) : State :=
  match jigList bs n 1 with
  | none => s
  | some ws => if s.listRuns (n + 1) then s.raise (seqFailEv (n + 1) 1 jig 0 7) else seqBegin s (n + 1) 1 jig ws false

/-- Channel n switches, and every fade that runs ends (R160): `run` is the trigger it starts with and line L, where it runs.
[DEDUCED, unsafe: log entry 28] -/
def swApply (s : State) (n i : Nat) (run : Option (Nat × Nat)) : State :=
  match s.switches[i]? with
  | none => s
  | some r =>
    let bs := jigFor s (some n) r.jig
    let dev := !r.devDone && (maskChans r.mask).head? == some n
    let s := fadeStop s n
    let s := jigTake s n bs run
    let s := match r.profs.find? (·.1 == n) with | some p => profileSwap s n p.2 | none => s
    let s := if dev then
        (match run with
         | none => devTake s bs false
         | some _ => s.modCh n fun c => { c with late := c.late.map fun l => { l with dev := true } })
      else s
    let s := jigActive (setTgt (s.wr (GLB_SW_STAT_STATE n) 5) n r.line) n r.jig
    let s := modSw s i fun r => { r with mask := withBit r.mask n false, devDone := r.devDone || dev }
    let s := { s with switches := s.switches.filter fun r => r.mask != 0 }
    (activateStart s n r.jig bs).raise ((ev (EV_JOB_DONE)).line_ r.line)

/-- Line L of a committed switch that names channel n. -/
def swLine (s : State) (n : Nat) : Option Nat :=
  ((swIndex s n).bind (s.switches[·]?)).bind fun r => if r.committed then some r.line else none

/-- A committed switch of a running channel applies at the line start of L or the first line after it.
[DEDUCED, unsafe: log entry 28] -/
def swAtLine (s : State) (n trig line : Nat) : State :=
  match swIndex s n with
  | none => s
  | some i =>
    match s.switches[i]? with
    | some r => if r.committed && decide (r.line ≤ line) then swApply s n i (some (trig, r.line)) else s
    | none => s

/-- A committed switch of a channel that is not running applies now (R63).
[DEDUCED, unsafe: log entry 28; DEDUCED, unsafe: log entry 63] -/
def swIdle (s : State) (n : Nat) : State :=
  if s.running n then s else
  match swIndex s n with
  | none => s
  | some i => if (s.switches[i]?).any (·.committed) then swApply s n i none else s

/-- Line L − 64 of a Umade request with no commit message (R64): `line` is that of channel n's trigger. -/
def swUmdLate (s : State) (n line : Nat) : State :=
  match swIndex s n with
  | none => s
  | some i =>
    match s.switches[i]? with
    | some r => if r.src = 2 ∧ ¬ r.go ∧ ¬ r.committed ∧ r.line ≤ line + 64 then swCancelAt s i 10 else s
    | none => s

/-- Schedule and pitch of a committed switch whose line L a trigger has reached (R61, R77, R176). -/
def swImageAt (s : State) (n line : Nat) : Option (List Byte) :=
  match (swIndex s n).bind (s.switches[·]?) with
  | some r => if r.committed && decide (r.line ≤ line) then some (jigFor s (some n) r.jig) else none
  | none => none

/-- P_min that a line's schedule has, which is the staged one from L on. -/
def swPmin (s : State) (n line : Nat) : Nat :=
  match (swImageAt s n line).bind fun bs => chanSched bs n with
  | some b => (parseSchedule b).pmin
  | none => (s.ch n).sns.sched.pmin

/-- The new pitch is in force from t0 of L, even where L's line start is deferred (R61, R176). -/
def swPitch (s : State) (n line : Nat) : State :=
  match swImageAt s n line with
  | none => s
  | some bs =>
    ((chanEntries bs n).filter fun e => e.1 == (POS_PITCH_LO_FRAC n).addr || e.1 == (POS_PITCH_HI_INT n).addr).foldl
      (fun s e => imagePut s e.1 e.2) s

/-! ## Staging and commit (R60). -/

/-- GLB_WARMJIG names a jig for channel n. -/
def warmFlds (n : Nat) : Fld × Fld :=
  match n with
  | 0 => (GLB_WARMJIG_V0, GLB_WARMJIG_JIG0)
  | 1 => (GLB_WARMJIG_V1, GLB_WARMJIG_JIG1)
  | 2 => (GLB_WARMJIG_V2, GLB_WARMJIG_JIG2)
  | _ => (GLB_WARMJIG_V3, GLB_WARMJIG_JIG3)

def setWarm (s : State) (n jig : Nat) : State := (s.wr (warmFlds n).1 1).wr (warmFlds n).2 jig

/-- A request is committed: idle channels take the jig at once (R60, R63). -/
def swCommit (s : State) (i : Nat) : State :=
  match s.switches[i]? with
  | none => s
  | some r =>
    let cs := maskChans r.mask
    let s := modSw s i fun r => { r with committed := true, go := true }
    let s := cs.foldl (fun s n => setWarm (s.wr (GLB_SW_STAT_STATE n) 4) n r.jig) s
    cs.foldl swIdle s

/-- Every channel of a request is armed: it is committed, or waits for the manager's message. -/
def swArmed (s : State) (i : Nat) : State :=
  match s.switches[i]? with
  | none => s
  | some r =>
    if r.armed ≠ r.mask then s
    else if r.go then swCommit s i
    else (maskChans r.mask).foldl (fun s n => s.wr (GLB_SW_STAT_STATE n) 3) s

/-- A channel finishes its staging (R60, R64, R239): `readFail` says that a library read failed in every copy. -/
def stagingDone (s : State) (n : Nat) (readFail : Bool) : State :=
  match swIndex s n with
  | none => s
  | some i =>
    match s.switches[i]? with
    | none => s
    | some r =>
      if r.committed || bit r.armed n then s
      else if readFail then swCancelAt (setJigBit s r.jig false) i 8
      else
        let bs := jigFor s (some n) r.jig
        let c := stageCheck s n bs
        let s := c.2
        if !c.1 then swCancelAt s i 9
        else
          let prof := (jigTrial s n bs).rd (PIPE_CFG_PROF n)
          let swap := prof != s.rd (PIPE_CFG_PROF n)
          let s := if swap then shadowLoad s n (slotProfile s n prof) else s
          let v := bit (s.rd (CAL_STAT_PSLOTV n)) prof
          let s := modSw s i fun r =>
            { r with armed := withBit r.armed n true, profs := if swap then r.profs ++ [(n, v)] else r.profs }
          swArmed (s.wr (GLB_SW_STAT_STATE n) 2) i

/-- The manager's commit message for a request (R60). -/
def swGo (s : State) (i : Nat) : State := swArmed (modSw s i fun r => { r with go := true }) i

end Sys2Proof.Machine
end

