-- ==== Sys2Proof/Machine/RunOps.lean ====
section
/-! DEFINITION. Machine/RunOps.lean: setting a channel running and stopping it (spec/02_jigs_boot_job_switch.md R68, R69;
spec/16_register_map.md R402). -/

namespace Sys2Proof.Machine

/-- The channel reached idle since its last reset (R54, R69). -/
def chOk (s : State) (n : Nat) : Bool := bit (s.rd GLB_BOOTSTAT_CHOK) n

/-- Why a RUN bit is refused (R69), as the log's CODE; 0 where it is not.
[DEDUCED, unsafe: log entry 29] -/
def runCause (s : State) (n : Nat) : Nat :=
  if s.rb (GLB_SW_STAT_NOJIG n) then 1
  else if !chOk s n then 2
  else if !dramOk s n then 3
  else if s.stopped n then 4
  else if s.safe then 5
  else 0

/-- The RUN bit and the running state (R402). -/
def setRunBit (s : State) (n : Nat) (b : Bool) : State := s.wr GLB_CHCTL_RUN (withBit (s.rd GLB_CHCTL_RUN) n b)

def setRunning (s : State) (n : Nat) (b : Bool) : State := s.wr GLB_CHSTAT_RUNNING (withBit (s.rd GLB_CHSTAT_RUNNING) n b)

/-- The channel starts running: the divider's threshold (R176), the vertical unit's start (R127), the alignment slots (R113), the
web centre and the sheet numbers (R135, R136), and the counts that begin here (R228, R248, R349).
[DEDUCED, unsafe: log entry 29; DEDUCED, unsafe: log entry 42; DEDUCED, unsafe: log entry 51] -/
def runStart (s : State) (n : Nat) : State :=
  let nt := startNt s n
  let s := setRunning (setRunBit s n true) n true
  let s := s.modPos n fun p => { p with nt := nt }
  let s := s.modRsmp n fun r => { r with yInit := true, yAt := none, centre := none, sheetCtr := 0 }
  let s := showFill (s.modPipe n fun p => { p with validFrom := p.slotCtr }) n
  let s := s.modFifo n fun f => { f with runTrigs := 0, stopPad := false }
  let s := s.modUmd fun u => { u with taken := u.taken.set n none }
  showLamp (calFirstUse s n) n

/-- RUN bit n is written 1 while it is 0 (R69).
[DEDUCED, unsafe: log entry 29] -/
def runSet (s : State) (n : Nat) : State :=
  let c := runCause s n
  if c ≠ 0 then s.raise (((ev EV_RUN_REFUSED).code_ c).detail_ n) else runStart s n

/-- A line triggered before has still to leave the packer (R402). -/
def linesOpen (s : State) (n : Nat) : Bool :=
  (s.ch n).pipe.lines.any (fun l => l.kind == .normal) ||
  (match (s.ch n).sns.waiting with | some w => w.kind == .normal | none => false)

/-- Running ends once RUN is cleared and no line is open (R402): what waited for the channel to stop is done (R61, R63, R427). -/
def runEnd (s : State) (n : Nat) : State :=
  if s.runBit n || !s.running n || linesOpen s n then s else
  let s := calRunningEnd (lateTake (setRunning s n false) n) n
  showLamp (spiIdleNext (swIdle s n) n) n

/-- A sheet open when RUN is cleared is closed with TRUNC (R136); its record follows the packets granted so far.
[DEDUCED, unsafe: log entry 43] -/
def sheetRunClose (s : State) (n : Nat) : State :=
  match (s.ch n).rsmp.sheet with
  | none => s
  | some sh =>
    let r := sheetClose s n sh true
    let e := ((fifoOf s n).lastTrig).getD sh.last
    let h := recordHeader (nodeOf s) n (jigOf s n) 3 e sh.num (e.line - sh.first.line)
    showFifo (reserveAppend r.2 n [recordPkt 3 e (recordBytes h r.1) .reserve false true]) n

/-- RUN bit n is cleared (R68, R136, R215, R220, R234, R252). -/
def runClear (s : State) (n : Nat) : State :=
  if !s.runBit n then s else
  let s := setRunBit s n false
  let s := closeSpanRun s n
  let s := sheetRunClose s n
  let s := calRunClear (dtRunClear s n) n
  runEnd (s.modFifo n fun f => { f with stopPad := true }) n

end Sys2Proof.Machine
end

