-- ==== Sys2Proof/Machine/BootOps.lean ====
section
/-! DEFINITION. Machine/BootOps.lean: the boot (spec/02_jigs_boot_job_switch.md R37 to R41, R54 to R56): the flash and its library
slots, the device steps, and the steps of each channel. -/

namespace Sys2Proof.Machine

def State.modBoot (s : State) (f : BootSt → BootSt) : State := { s with boot := f s.boot }

/-! ## The flash (R37 to R41). -/

/-- What an erased flash byte reads as.
[PRESUMED, unsafe: log entry 4] -/
def erased (_ : Nat) : Byte := 0xFF

def flashBytes (f : List (Nat × Byte)) (a n : Nat) : List Byte := (List.range n).map fun i => sget erased f (a + i)

/-- Permitted flash sizes, from the largest down (R37, R39). -/
def flashSizes : List Nat := [0x10000000, 0x8000000, 0x4000000, 0x2000000]

/-- Magic and CRC of a flash descriptor (R39). -/
def descOk (d : List Byte) : Bool := fieldAt d 0 4 == 0x44465853 && fieldAt d 0x3C 4 == crc32 (d.take 0x3C)

/-- The size that a flash device's descriptor gives: the primary's, else the backup's (R39). -/
def flashSize (f : List (Nat × Byte)) : Option Nat :=
  let d := flashBytes f 0 0x40
  let p := fieldAt d 8 4
  let given :=
    if descOk d then some p
    else
      ((if flashSizes.contains p then [p] else flashSizes).find? fun k => descOk (flashBytes f (k / 2) 0x40)).map
        fun k => fieldAt (flashBytes f (k / 2) 0x40) 8 4
  given.filter flashSizes.contains

/-- The flash device in use and its size: the first with a valid descriptor (R37).
[DEDUCED, unsafe: log entry 16] -/
def flashUsed (s : State) : Option (Nat × Nat) :=
  ((List.range 2).filterMap fun i => (flashSize (s.flash.getD i [])).map fun k => (i, k)).head?

/-- Start and size of library slot 1 (A) or 2 (B) of a flash of a size (R38). -/
def slotBase (size slot : Nat) : Nat := if slot = 1 then 0x10000 else size / 2 + 0x10000
def slotBytes (size : Nat) : Nat := size / 2 - 0x10000

/-- Library bytes of a slot. -/
def slotRead (s : State) (slot off n : Nat) : List Byte :=
  match flashUsed s with
  | some (i, size) => flashBytes (s.flash.getD i []) (slotBase size slot + off) n
  | none => []

/-- The header checks of R41 on the first 1,088 bytes of an image, for a slot of a size. -/
def libHeaderOk (h : List Byte) (slotLen : Nat) : Bool :=
  fieldAt h 0 4 == 0x424C5853 && fieldAt h 4 2 == 1 && fieldAt h 0x3C 4 == crc32 (h.take 0x3C ++ (h.drop 0x40).take 0x400) &&
  decide (fieldAt h 0x0C 4 ≤ slotLen)

def libGen (h : List Byte) : Nat := fieldAt h 8 4
def libBootJig (h : List Byte) : Nat := fieldAt h 7 1
def libLen (h : List Byte) : Nat := fieldAt h 0x0C 4

/-- Jig j of a library image, with the directory's CRC (R40). -/
def libJig (img : List Byte) (j : Nat) : Option (List Byte × Nat) :=
  let o := 0x40 + 16 * j
  if fieldAt img o 4 = 0 then none
  else some ((img.drop (fieldAt img o 4)).take (fieldAt img (o + 4) 4), fieldAt img (o + 8) 4)

/-- The first failing check of a jig of a library image; none where the image has no such jig. -/
def libJigCheck (key img : List Byte) (j : Nat) : Option Nat :=
  (libJig img j).map fun p => jigCheck key p.1 j (some p.2)

/-- Is a library image valid for a slot (R41)? -/
def libOk (key img : List Byte) (slotLen : Nat) : Bool :=
  libHeaderOk img slotLen && signOk key img && decide (libBootJig img < 64) && libJigCheck key img (libBootJig img) == some 0

/-- The image of a slot, as long as its header says. -/
def slotImage (s : State) (slot : Nat) : List Byte := slotRead s slot 0 (libLen (slotRead s slot 0 0x440))

/-- The slots whose headers pass, in the order of trying: higher generation first, slot A on a tie (R41, R54). -/
def slotOrder (s : State) : List Nat :=
  match flashUsed s with
  | none => []
  | some (_, size) =>
    let h (i : Nat) := slotRead s i 0 0x440
    let ok (i : Nat) := libHeaderOk (h i) (slotBytes size)
    if ok 1 && ok 2 then (if libGen (h 1) < libGen (h 2) then [2, 1] else [1, 2])
    else if ok 1 then [1] else if ok 2 then [2] else []

/-! ## Where the boot stands. -/

def bootPhase (s : State) (p : BootPhase) (code : Nat) : State :=
  (s.modBoot fun b => { b with phase := p }).wr GLB_BOOTSTAT_PHASE code

def chBoot (s : State) (n : Nat) : ChBoot := s.boot.chs.get n

def setChBoot (s : State) (n : Nat) (c : ChBoot) : State := s.modBoot fun b => { b with chs := b.chs.set n c }

def setChPhase (s : State) (n : Nat) (p : ChPhase) : State := setChBoot s n { chBoot s n with phase := p }

def ChPhase.over : ChPhase → Bool
  | .off => true
  | .idle => true
  | .failed => true
  | _ => false

/-- The boot fails: phase 6. -/
def bootFail (s : State) : State := bootPhase s .failed 6

/-- No valid library (R54 step 4).
[DEDUCED, unsafe: log entry 22] -/
def noLibrary (s : State) : State := bootFail (s.raise (ev EV_LIB_NONE))

/-- Step 8, once every channel is idle or has failed. -/
def bootDoneCheck (s : State) : State :=
  if s.boot.phase ≠ .channels ∨ !(List.range 4).all (fun n => (chBoot s n).phase.over) then s else
  let s := (bootPhase s .done 5).raise (ev EV_BOOT_DONE)
  if s.boot.autorun then iterate 4 s fun s n => if chOk s n then runSet s n else s else s

/-! ## Rough-cut mode (R371, R373). -/

/-- The marks of rough-cut mode that an event sets on channel n.
[DEDUCED, unsafe: log entry 41] -/
def roughMark (s : State) (n e : Nat) : State :=
  let s := (s.wr (EVT_ROUGH_ROUGH n) 1).wr (EVT_ROUGH_CAUSE n) e
  let s := (s.modCh n fun c => { c with roughAt := s.now }).raise (((ev (EV_CH_ROUGH n))).detail_ e)
  let s := s.wr (PIPE_STAT_MODE n) (if s.rb (PIPE_STAT_ALFLT n) then 2 else 1)
  showPktLen (s.raise (ev (EV_PIPE_ROUGH n))) n

/-! ## Step 7: one channel (R54). -/

/-- A channel's step 7 ends: idle, or left idle by a failure (R54, R69). -/
def chIdle (s : State) (n : Nat) : State :=
  bootDoneCheck (setChPhase (s.wr GLB_BOOTSTAT_CHOK (withBit (s.rd GLB_BOOTSTAT_CHOK) n true)) n .idle)

def chFail (s : State) (n : Nat) : State := bootDoneCheck (setChPhase s n .failed)

def bootImage (s : State) (n : Nat) : List Byte := jigFor s (some n) (chBoot s n).jig

/-- The channel start list (R53), after the boot list. -/
def chStartList (s : State) (n : Nat) : State :=
  match jigList (bootImage s n) n 4 with
  | some ws => setChPhase (seqBegin s (n + 1) 4 (chBoot s n).jig ws true) n .startList
  | none => chIdle s n

/-- After homing: the rest of the sections, then the lists. -/
def bootRest (s : State) (n : Nat) : State :=
  let bs := bootImage s n
  let j := (chBoot s n).jig
  let r := stageRest s n bs
  let s := r.2.foldl (fun s e => s.raise (ev e)) s
  if !r.1 then chFail s n else
  let s := setWarm (jigActive (jigTake s n bs none) n j) n j
  match jigList bs n 0 with
  | some ws => setChPhase (seqBegin s (n + 1) 0 j ws true) n .bootList
  | none => chStartList s n

/-- Axes of channel n that the jig makes calibration slides. -/
def slideAxes (s : State) (n : Nat) : List Nat :=
  (List.range 4).filter fun a => s.rb (MOTA_CFG_EN n a) && s.rd (MOTA_CFG_ROLE n a) == 2

/-- The motion registers and sine tables, then homing of the calibration slide.
[DEDUCED, unsafe: log entry 41] -/
def bootHome (s : State) (n : Nat) : State :=
  let bs := bootImage s n
  if !stageMotOk s n bs then chFail (s.raise (ev (EV_MOT_TABLE_BAD n))) n else
  let es := (chanEntries bs n).filter fun e => 0x18000 ≤ chanOff e.1 && chanOff e.1 < 0x1C000
  let s := es.foldl jigReg s
  let s := s.modCh n fun c => { c with tabs := tabRegion (chanTables bs n c.tabs) c.tabs 0x68000 0x6C000 }
  let s := iterate 4 s fun s a => modAxis s n a fun x => { x with bridgesOff := false }
  let as := slideAxes s n
  if as.isEmpty then bootRest (motWatch s n) n else
  motWatch (setChPhase (as.foldl (fun s a => axisHome s n a .boot) s) n (.homing as)) n

/-- The homing of a channel's calibration slide ends (R54, R199). -/
def bootHomed (s : State) (n : Nat) : State :=
  match (chBoot s n).phase with
  | .homing as =>
    if as.any fun a => (axis s n a).moving then s else
    let bad := as.filter fun a => !s.rb (MOTA_STAT_HOMED n a)
    if bad.isEmpty then bootRest s n else chFail (bad.foldl (fun s a => s.raise (axisEv EV_HOME_FAIL a)) s) n
  | _ => s

/-- The march test of a channel's stores ends; step 7 begins (R373). -/
def marchDone (s : State) (n : Nat) (f : MarchFault) : State :=
  if (chBoot s n).phase ≠ .march then s else
  let s := ((s.wb (PIPE_STAT_SHFLT n) f.shading).wb (PIPE_STAT_RWFLT n) f.retention).wb (PIPE_STAT_ALFLT n) f.align
  let s := s.raiseIf f.fifo ((ev (EV_FIFO_SRAM_FLT n)).at_ 3 3)
  let pipe := f.shading || f.retention || f.align
  let s := if pipe || f.fifo then roughMark s n (if pipe then EV_PIPE_SRAM_FLT n else EV_FIFO_SRAM_FLT n) else s
  bootHome s n

/-! ## Steps 6 and 7. -/

/-- The channel's jig after a warm or channel reset (R56): GLB_WARMJIG's, else the boot jig. -/
def warmJig (s : State) (n : Nat) : Option Nat :=
  let has (j : Nat) : Bool := jigBit s j && bit (jigMask (jigFor s (some n) j)) n
  let w := s.rd (warmFlds n).2
  let b := s.rd GLB_BOOTSTAT_BOOTJIG
  if s.rb (warmFlds n).1 && has w then some w else if has b then some b else none

/-- A channel restarts with its jig, or stays idle without one (R56). -/
def chRestart (s : State) (n : Nat) : State :=
  if !dramOk s n then setChPhase s n .off else
  match warmJig s n with
  | some j => setChBoot s n { phase := .march, jig := j }
  | none => (setChPhase s n .off).raise ((ev EV_JIG_BAD).detail_ (2 ^ 31 + n))

/-- Step 7 begins on every channel of the boot jig's mask whose controller is in service (R54). -/
def channelsStart (s : State) : State :=
  let s := bootPhase s .channels 4
  let b := s.rd GLB_BOOTSTAT_BOOTJIG
  let m := jigMask (jigFor s none b)
  let s := iterate 4 s fun s n =>
    if s.boot.warm then chRestart s n
    else if dramOk s n && bit m n && jigBit s b then setChBoot s n { phase := .march, jig := b }
    else setChPhase s n .off
  bootDoneCheck s

/-- Step 6 (R54, R301): the boot jig's device sections, then its device boot list. -/
def deviceStep (s : State) : State :=
  let s := bootPhase s .devList 3
  let b := s.rd GLB_BOOTSTAT_BOOTJIG
  let bs := jigFor s none b
  let s := s.modBoot fun x => { x with autorun := jigBit s b && bit (fieldAt bs 0x0A 1) 0 }
  if !jigBit s b then channelsStart s
  else if masksDiffer s (devSec bs 0x0B) then bootFail (s.raise (ev EV_DRC_MAP))
  else
    let s := devTake s bs true
    match jigList bs 0xFF 0 with
    | some ws => seqBegin s 0 0 b ws true
    | none => channelsStart s

/-- What follows the end of a boot list (R53, R54). -/
def bootWatch (s : State) : State :=
  let over_ (s : State) (r : Nat) : Bool := !((runnerOf s r).boot && s.listRuns r)
  let passed (s : State) (r : Nat) : Bool := (runnerOf s r).boot && s.rd (seqState r) == 5
  let s := if s.boot.phase = .devList ∧ over_ s 0 then (if passed s 0 then channelsStart s else bootFail s) else s
  iterate 4 s fun s n =>
    let p := (chBoot s n).phase
    if (p ≠ .bootList ∧ p ≠ .startList) ∨ !over_ s (n + 1) then s
    else if !passed s (n + 1) then chFail s n
    else if p = .bootList then chStartList s n
    else chIdle s n

/-! ## Steps 1 to 5. -/

/-- Masks and row-hammer threshold as after reset, before a slot's DRAM part is taken (R301). -/
def drcFresh (s : State) : State :=
  iterate 4 s fun s k => (DRC_RHCFG_THR k :: maskFlds k).foldl (fun s f => s.wr f f.rst) s

/-- The DRAM part of a jig that is read straight from flash: its section's bytes, or none where it is absent or fails
(R301); a failing one makes the slot invalid later. -/
def slotPart (s : State) (slot : Nat) : Option (List Byte) :=
  let img := slotImage s slot
  match libJig img (libBootJig img) with
  | none => none
  | some (bs, _) =>
    match (secsOf bs 0x0B 0xFF).head? with
    | none => none
    | some c => if crc32 (secBytes bs c) == c.crc && drcPartOk (secBytes bs c) then some (secBytes bs c) else none

/-- Begin streaming the first slot still to try (R54 step 4, R301). -/
def streamBegin (s : State) : State :=
  match s.boot.slots with
  | [] => noLibrary s
  | slot :: _ => drcLock (drcTakePart (drcFresh (drcLock s false)) (slotPart s slot) true) true

/-- Every controller's training has ended (R54, R55, R301). -/
def trainingOver (s : State) : State :=
  match s.rd GLB_BOOTSTAT_MODE with
  | 0 => streamBegin ((bootPhase s .library 2).modBoot fun b => { b with slots := slotOrder s })
  | 1 => drcLock (bootPhase s .hostWait 2) true
  | _ => drcLock (bootPhase s .maintenance 7) true

/-- The full training of controller k ends (R54 step 3, R296). -/
def trainingDone (s : State) (k : Nat) (bin : Fin 6) (parts : DramParts) (repair : Bool) : State :=
  if s.boot.phase ≠ .training ∨ bit s.boot.trained k then s else
  let s := (drcTrained s k bin parts repair).modBoot fun b => { b with trained := withBit b.trained k true }
  if s.boot.trained = 15 then trainingOver s else s

/-- A library image goes into the library region of every controller in service (R47, R54 steps 4 and 5).
[DESIGN CHOICE, unsafe: log entry 18] -/
def libStream (s : State) (img : List Byte) : State :=
  iterate 64 s fun s j =>
    match libJig img j with
    | none => s
    | some (bs, _) =>
      iterate 4 s fun s k => if dramOk s k then (s.modDram k fun m => writeBytes m (j * 0x100000) (bs.take 0x100000)).modDrc k fun d => { d with dead := [] }
        else s

/-- One valid bit for each jig of a library image that passes R46, and EV_JIG_BAD for each that does not (R54 step 5).
[DESIGN CHOICE, unsafe: log entry 18] -/
def libMark (s : State) (img : List Byte) : State :=
  iterate 64 s fun s j =>
    match libJigCheck s.keyHash img j with
    | none => s
    | some c => if c = 0 then setJigBit s j true else s.raise ((ev EV_JIG_BAD).code_ c)

/-- The report of R36 on an image checked while the fuses are blank. No register of the spec shows it: it stands in State.
[DESIGN CHOICE, safe: log entry 75] -/
def signReport (s : State) (img : List Byte) : State :=
  if s.keyHash.isEmpty then s.modBoot fun b => { b with signed := signPresent img } else s

/-- Streaming a slot ends (R54 steps 4 and 5).
[DEDUCED, unsafe: log entry 22] -/
def streamDone (s : State) : State :=
  if s.boot.phase ≠ .library then s else
  match s.boot.slots, flashUsed s with
  | slot :: rest, some (_, size) =>
    let img := slotImage s slot
    let s := signReport (libStream s img) img
    if libOk s.keyHash img (slotBytes size) then
      let s := libMark s img
      deviceStep (((s.wr GLB_LIBGEN_GEN (libGen img)).wr GLB_BOOTSTAT_SLOT slot).wr GLB_BOOTSTAT_BOOTJIG (libBootJig img))
    else if rest.isEmpty then noLibrary (drcLock s false)
    else
      let s := (s.raise (ev EV_LIB_FALLBACK)).wr GLB_BOOTSTAT_FALLBACK 1
      streamBegin (s.modBoot fun b => { b with slots := rest })
  | _, _ => noLibrary s

/-- GLB_LIBCTL.BOOT (R55, R301).
[DEDUCED, unsafe: log entry 22; DEDUCED, unsafe: log entry 57] -/
def hostBoot (s : State) (j : Nat) : State :=
  if s.boot.phase ≠ .hostWait ∨ !jigBit s j then s else
  let bs := jigFor s none j
  let part := ((secsOf bs 0x0B 0xFF).head?.filter fun c => crc32 (secBytes bs c) == c.crc).map (secBytes bs)
  deviceStep ((drcTakePart s part false).wr GLB_BOOTSTAT_BOOTJIG j)

/-- Step 1 ends (R54): the straps are sampled and DRAM training starts; the supervisor's status shows its clocks.
[DESIGN CHOICE, unsafe: log entry 2] -/
def bootRelease (s : State) (mode : Fin 4) (role : Bool) : State :=
  if s.boot.phase ≠ .held then s else
  let s := [CLK_STAT_PIXLOCK, CLK_STAT_CTLLOCK, CLK_STAT_DRAMLOCK, CLK_STAT_SYSCLK].foldl (fun s f => s.wr f 1) s
  let s := ((s.wr GLB_BOOTSTAT_MODE mode.val).wb GLB_BOOTSTAT_ROLE role).wb GLB_BOOTSTAT_FUSE (!s.keyHash.isEmpty)
  let s := (s.wb UMD_STAT_TIMEOK role).modBoot fun b => { b with trained := 0 }
  bootPhase (linkUp s) .training 1

end Sys2Proof.Machine
end

