-- ==== Sys2Proof/Machine/ResetOps.lean ====
section
/-! DEFINITION. Machine/ResetOps.lean: the resets (spec/15_events_faults_availability.md R382, R383; spec/02_jigs_boot_job_switch.md R56,
R66; spec/11_host_link_dma.md R268). -/

namespace Sys2Proof.Machine

/-- Set a register address to its reset value. -/
def State.resetAt (s : State) (a : Nat) : State := s.setWord a (resetWord a)

/-- Registers at addresses that a test keeps stay; every other returns to its reset value. -/
def State.keepRegs (s : State) (keep : Nat → Bool) : State := { s with regs := s.regs.filter fun p => keep p.1 }

/-! ## One channel. -/

/-- A channel after a reset, with the levels that its input pins still have. -/
def Chan.fresh (c : Chan) : Chan :=
  let ax (a : Nat) : AxisSt := { AxisSt.init with refIn := (c.mot.axes.get a).refIn }
  { Chan.init with
    pos := { PosSt.init with a := c.pos.pinA, b := c.pos.pinB, pinA := c.pos.pinA, pinB := c.pos.pinB },
    mot := { MotSt.init with axes := ⟨ax 0, ax 1, ax 2, ax 3⟩ } }

/-- Sinks that a fault has turned off stay off (R163). -/
def Chan.keepDead (c old : Chan) : Chan :=
  { c with lmp := { c.lmp with sinks := c.lmp.sinks.mapIdx fun i k =>
      { k with dead := (old.lmp.sinks.getD i SinkSt.init).dead } } }

/-- Registers that show the levels of input pins.
[DESIGN CHOICE, unsafe: log entry 24] -/
def showPins (s : State) (n : Nat) (present : Bool) : State :=
  let s := s.wb (SNS_STAT_PRES n) present
  iterate 4 s fun s a => showRef s n a

/-- Fields of a channel that warm and channel reset keep (R115, R163): the spare slice and the slices out of service, and the sinks
with a fault. -/
def keptFlds (n : Nat) : List Fld :=
  [PIPE_SPARE_V n, PIPE_SPARE_FOR n, PIPE_STAT_SLFLT n, LMP_SINKFLT_SINK n]

/-- Channel n's blocks are reset (R95, R115, R184, R207, R234, R237, R382). -/
def chanClear (s : State) (n : Nat) : State :=
  let old := s
  let pres := s.rb (SNS_STAT_PRES n)
  let s := s.resetRange (chBase n) (chBase n + 0x40000)
  let s := (keptFlds n).foldl (fun s f => s.wr f (old.rd f)) s
  let s := showPins ((snsOutputsOff s n).modCh n fun c => c.fresh.keepDead c) n pres
  let s : State := match chanQueue s n with
    | some q => modQ s q fun x => { x with pkt := none }
    | none => s
  let out (p : Nat × Word) : Bool := decide (p.1 < chBase n ∨ chBase n + 0x40000 ≤ p.1)
  let s := s.modDrv fun d => { d with fwd := d.fwd.filter out, image := d.image.filter out }
  let s := s.modUmd fun u =>
    { u with taken := u.taken.set n none,
             cals := (u.cals.map fun c => { c with left := withBit c.left n false }).filter (·.left != 0) }
  showFifo (if s.boot.phase = .maintenance then s else drcRegions s n) n

/-- Status and lasting bits, lasting units and windows of channel n's 200 events, and its rough-cut and stopped states. -/
def chanEvents (s : State) (n : Nat) : State :=
  let lo := 224 + 200 * n
  let mine (e : Nat) : Bool := lo ≤ e && e < lo + 200
  let s := iterate 200 s fun s i =>
    let e := lo + i
    let s := s.wr (EVT_STAT_STAT (e / 32)) (withBit (s.rd (EVT_STAT_STAT (e / 32))) (e % 32) false)
    s.wr (EVT_LAST_LAST (e / 32)) (withBit (s.rd (EVT_LAST_LAST (e / 32))) (e % 32) false)
  let s := s.modEvt fun x =>
    { x with lasting := x.lasting.filter fun u => !mine u.ev, trackers := x.trackers.filter fun t => !mine t.unit.ev }
  showTrk (s.resetAt (EVT_ROUGH_ROUGH n).addr)

/-- The list on a runner ends with cause abort, and the runner's status returns to its reset value (R56).
[DEDUCED, unsafe: log entry 23] -/
def listDrop (s : State) (n : Nat) : State :=
  let r := n + 1
  let s := s.raiseIf (s.listRuns r) (seqFailEv r (s.rd (seqType r)) (s.rd (seqJig r)) (s.rd (seqPc r)) 8)
  modRunner (s.resetAt (seqState r).addr) r fun _ => Runner.idle

/-- A switch that names a reset channel (R64): cancelled with reason 12 before commit; after it nothing prevents it, and the channel,
which the reset stops, takes the jig (R63).
[DEDUCED, unsafe: log entry 23] -/
def switchReset (s : State) (n : Nat) : State := swIdle (swCancelChan s n 12) n

/-- May step 7 run for one channel? -/
def BootPhase.restarts : BootPhase → Bool
  | .channels => true
  | .done => true
  | .failed => true
  | _ => false

/-- Channel reset (R56, R358, R382). In a maintenance boot, where the channels stay idle, it clears the channel and no more.
[DEDUCED, unsafe: log entry 23] -/
def channelReset (s : State) (n : Nat) : State :=
  let s := switchReset (setRunning (setRunBit (listDrop s n) n false) n false) n
  let s := s.wr GLB_BOOTSTAT_CHOK (withBit (s.rd GLB_BOOTSTAT_CHOK) n false)
  let s := (s.wr (GLB_SW_STAT_ACTIVE n) 0).wr (GLB_SW_STAT_NOJIG n) 1
  let s := (chanClear (chanEvents s n) n).clear umdCounters
  if s.boot.phase.restarts then bootDoneCheck (chRestart s n) else setChPhase s n .off

/-! ## The whole device. -/

/-- Barrier reads complete and their records are written (R268). -/
def dmaFinish (s : State) : State :=
  let s := s.modDma fun d => { d with ctl := d.ctl.filter fun c => match c with | .write _ _ => true | _ => false }
  let s := iterate 16 s fun s q =>
    let s := modQ s q fun x => { x with barriers := x.barriers.map fun (b : Barrier) => { b with done := true } }
    recordsOut ((dmaQ s q).barriers.length) s q
  if canMaster s then issueCtl s else s

/-- Registers outside the channels that a warm reset keeps (R9, R54, R268, R319, R382). -/
def warmKeeps (a : Nat) : Bool :=
  a == 0x14 || a == 0xC0 || a == 0x40 || a == 0x44 || a == 0x48 || a == 0x4C || (0xA000 ≤ a && a < 0xC000) || a == 0xC004 ||
  a == 0x10000 || (0x18000 ≤ a && a < 0x1A000) || (0x20000 ≤ a && a < 0x34000) || 0x80000 ≤ a

/-- What a warm reset makes of the blocks (R382). -/
def warmClear (s : State) : State :=
  let s := monReset (dmaReset (dmaFinish s)) true
  let s := s.keepRegs warmKeeps
  let s := s.wr GLB_BOOTSTAT_CHOK 0
  let s := { s with
    frozen := [], ldLow := false, evq := [], runners := List.replicate 5 Runner.idle, port := [], justSet := [], switches := [],
    upd := UpdSt.init, evt := EvtSt.init, umd := UmdSt.init, drv := { DrvSt.init with linkUp := s.drv.linkUp, under := s.drv.under } }
  let s := s.wb UMD_STAT_TIMEOK (isManager s)
  let s := s.modBoot fun b => { BootSt.init with phase := b.phase, trained := b.trained, warm := true }
  let s := iterate 4 s chanClear
  iterate 4 s fun s k => drcTrain (s.modDrc k fun d => { d with queue := [], waiting := [] }) k

/-- The valid jigs whose header or a section no longer passes its CRC lose their bits (R56). -/
def jigRecheck (s : State) : State :=
  iterate 64 s fun s j => if jigBit s j && !jigCrcsOk (jigFor s none j) j then setJigBit s j false else s

/-- The boot starts again from step 1 (R66).
[DEDUCED, unsafe: log entry 23] -/
def bootAgain (s : State) : State :=
  let s := iterate 4 s drcRestart
  let s := [GLB_BOOTSTAT_DRAMOK, GLB_BOOTSTAT_SLOT, GLB_BOOTSTAT_FALLBACK, GLB_BOOTSTAT_BOOTJIG, GLB_LIBGEN_GEN,
    GLB_LIBVALID_LO_VALID, GLB_LIBVALID_HI_VALID].foldl (fun s f => s.wr f 0) s
  bootPhase (s.modBoot fun _ => BootSt.init) .held 0

/-- Warm reset (R56, R66, R382).
[DEDUCED, unsafe: log entry 23] -/
def warmReset (s : State) : State :=
  let p := s.boot.phase
  let s := warmClear s
  match p with
  | .done => deviceStep (jigRecheck s)
  | .failed => deviceStep (jigRecheck s)
  | .maintenance => bootPhase (jigRecheck s) .maintenance 7
  | .held => s
  | _ => bootAgain s

/-- Power-on reset, and pin reset, which keeps the DRAM repair entries (R316, R319, R382). The flash, the fuses, the levels of
input pins and what has left the device stay as they are.
[DESIGN CHOICE, unsafe: log entry 24] -/
def hardReset (s : State) (pin : Bool) : State :=
  let s := iterate 4 s snsOutputsOff
  let old := s
  let t : State := { State.reset with
    pending := s.pending, now := s.now, freeCtr := s.freeCtr, outbox := s.outbox, flash := s.flash, keyHash := s.keyHash,
    drv := { DrvSt.init with under := s.drv.under }, dma := { DmaSt.init with perst := s.dma.perst } }
  let s := iterate 4 t fun t n => showPins (t.setCh n (old.ch n).fresh) n (old.rb (SNS_STAT_PRES n))
  if pin then
    (old.regs.filter fun p => (List.range 4).any fun k =>
      decide (0x20080 + 0x4000 * k ≤ p.1 ∧ p.1 < 0x200A0 + 0x4000 * k)).foldl (fun s p => s.setWord p.1 p.2) s
  else s

/-! ## The host side (R268, R383). -/

/-- Registers that a function-level reset keeps. -/
def flrKeeps (a : Nat) : Bool :=
  !((0x10004 ≤ a && a < 0x14000) || (0x18000 ≤ a && a < 0x1A000) || a == 0x8000 || (0x8008 ≤ a && a < 0x8024))

/-- Function-level reset.
[PRESUMED, unsafe: log entry 56] -/
def flrReset (s : State) : State :=
  let s := (dmaReset s).keepRegs flrKeeps
  let s := (s.wr DMA_LINK_BME 0).wr DMA_LINK_DSTATE 0
  (s.modDma fun d => { d with cfg := { CfgSpace.init with mps := d.cfg.mps } }).raise (ev EV_PCIE_FLR)

/-- PERST_N goes low: a function-level reset, with the link held down (R267, R268).
[PRESUMED, unsafe: log entry 56] -/
def perstAssert (s : State) : State :=
  let s := s.raiseIf (s.rb DMA_LINK_UP) (ev EV_PCIE_LINK)
  ((flrReset s).modDma fun d => { d with perst := true }).clear [DMA_LINK_UP, DMA_LINK_SPEED, DMA_LINK_WIDTH, DMA_LINK_FLIT]

end Sys2Proof.Machine
end

