-- ==== Sys2Proof/Machine/ActOps.lean ====
section
/-! DEFINITION. Machine/ActOps.lean: what the event unit does with the happenings of a command
(spec/15_events_faults_availability.md R362 to R375): status and lasting bits, counting, the log and its messages, and the action of
each class. -/

namespace Sys2Proof.Machine

/-! ## Class actions (R371, R374, R375). -/

/-- Channel n enters rough-cut mode because of event e (R371); the recovery list starts.
[DEDUCED, unsafe: log entry 41] -/
def roughEnter (s : State) (n e : Nat) : State :=
  if s.rough n then s else
  let s := motWatch (haltAll (roughMark s n e) n) n
  let s := calRough (fadeStop s n) n
  let s := swCancelChan (bootWatch (seqAbort s (n + 1))) n 12
  let s := if s.rb (GLB_SW_STAT_NOJIG n) then s else
    (match jigList (jigFor s (some n) (jigOf s n)) n 3 with
     | some ws => seqBegin s (n + 1) 3 (jigOf s n) ws false
     | none => s)
  showFifo (showLamp s n) n

/-- Channel n stops because of event e (R374). -/
def stopEnter (s : State) (n e : Nat) : State :=
  if s.stopped n then s else
  let s := (s.wr (EVT_ROUGH_STOP n) 1).wr (EVT_ROUGH_CAUSE n) e
  let s := motWatch (haltAll (runClear s n) n) n
  let s := offWrite (driveForward (s.wr (LMP_CTL_OFF n) 1) (LMP_CTL_OFF n).addr) n true
  let s := s.modCh n fun c => { c with stopHold := some e }
  let s := swCancelChan (bootWatch (seqAbort s (n + 1))) n 12
  showFifo (showLamp (sinkUpdate s n) n) n

/-- The device enters its safe state because of event e (R375). -/
def safeEnter (s : State) (e : Nat) : State :=
  if s.safe then s else
  let s := ((s.wr EVT_SAFE_SAFE 1).wr EVT_SAFE_CAUSE e).raise ((ev EV_SAFE).detail_ e)
  let s := iterate 4 s fun s n => calRough (motWatch (estopAll s n) n) n
  let s := swCancel (bootWatch (iterate 5 s seqAbort)) 15 12
  iterate 4 s fun s n => showFifo (showLamp (sinkUpdate s n) n) n

/-- The owning chapter's action on a unit that becomes lasting (R364): spare lane or slice, faulty store, repair entry,
converter out of service. -/
def unitAct (s : State) (u : EvUnit) (detail : Nat) : State :=
  let e := u.ev
  if e < 224 then
    if 128 ≤ e ∧ e < 160 ∧ e % 8 = 2 then drcRepairEnter s ((e - 128) / 8) detail
    else if e = EV_MON_DIAG ∨ e = EV_MON_STALL then convFault s u.idx
    else s
  else
    let n := (e - 224) / 200
    let store (f : Fld) (k : Nat) : State := (s.wr f 1).raise ((ev (EV_PIPE_SRAM_FLT n)).at_ 3 k)
    if e = EV_SNS_CRC n ∨ e = EV_SNS_LANE_FLT n then laneLasting s n u.idx (e = EV_SNS_CRC n)
    else if e = EV_PIPE_RESIDUE n then sliceLasting s n u.idx
    else if e = EV_PIPE_SHD_PAR n then store (PIPE_STAT_SHFLT n) 0
    else if e = EV_PIPE_RAW_PAR n then store (PIPE_STAT_RWFLT n) 1
    else if e = EV_PIPE_ALIGN_PAR n then
      let t := store (PIPE_STAT_ALFLT n) 2
      if t.rough n then t.wr (PIPE_STAT_MODE n) 2 else t
    else if e = EV_FIFO_PAR n then s.raise ((ev (EV_FIFO_SRAM_FLT n)).at_ 3 3)
    else s

/-- The channels that a class 3 or 4 action acts on (R363). -/
def actChans (s : State) (u : EvUnit) : List Nat :=
  let all := [0, 1, 2, 3]
  if 224 ≤ u.ev then [(u.ev - 224) / 200]
  else if u.kind = 8 then [u.idx]
  else if u.kind = 6 then (match queueChan s u.idx with | some n => [n] | none => all)
  else if u.kind = 11 ∧ 1 ≤ u.idx then [u.idx - 1]
  else all

/-- The class 3 and 4 actions of one clock, unless the safe state covers them (R370). -/
def classActs (s : State) (us : List EvUnit) : State :=
  match us.find? fun u => evClass s u.ev == 5 with
  | some u => safeEnter s u.ev
  | none => us.foldl (fun s u =>
      if evClass s u.ev = 3 then (actChans s u).foldl (fun s n => roughEnter s n u.ev) s
      else if evClass s u.ev = 4 then (actChans s u).foldl (fun s n => stopEnter s n u.ev) s
      else s) s

/-! ## One happening (R362, R365 to R368). -/

/-- Count a happening on every tracker that it belongs to: the count for its entry, and the units that become lasting. -/
def countAll (s : State) (r : Raise) : Nat × List EvUnit × State :=
  r.countOn.foldl (fun a e =>
    let u := evUnit r e
    let c := evCount a.2.2 u
    (if a.1 = 0 ∨ e = r.ev then c.1 else a.1, if c.2.1 then a.2.1 ++ [u] else a.2.1, c.2.2)) (0, [], s)

/-- The entry of a happening and its message (R366, R368). -/
def logRaise (s : State) (r : Raise) (count : Nat) (lasting : Bool) : State :=
  let entry := if evLogEn s r.ev && r.ev != EV_EVT_LOGFULL then some (entryHead s r count lasting) else none
  let msi := if evMsiEn s r.ev then some (evVec s r.ev) else none
  if entry.isNone && msi.isNone then s else logOut s { entry := entry, msi := msi }

/-- The event unit takes one happening; the units whose class action is due are added to a list. -/
def evTake (a : State × List EvUnit) (r : Raise) : State × List EvUnit :=
  let c := countAll (setEvStat a.1 r.ev) r
  let s := c.2.1.foldl (fun s u => (setEvLast s u.ev).raise (ev EV_EVT_LASTING)) c.2.2
  let s := logRaise s r c.1 (!c.2.1.isEmpty)
  let s := if evUmd s r.ev then eventSend s r else s
  if r.forced then (s, a.2)
  else (c.2.1.foldl (fun s u => if 2 ≤ evClass s u.ev then unitAct s u r.detail else s) s, a.2 ++ c.2.1)

/-- Insert a happening behind those of the same or a lower event number (R370). -/
def insertEv (r : Raise) : List Raise → List Raise
  | [] => [r]
  | x :: t => if r.ev < x.ev then r :: x :: t else x :: insertEv r t

/-- The happenings of one clock in ascending event number (R370). -/
def sortEv (rs : List Raise) : List Raise := rs.foldl (fun l r => insertEv r l) []

/-- Take what has happened, then what that makes happen, until nothing is left.
[DESIGN CHOICE, safe: log entry 10] -/
def settleLoop : Nat → State → State
  | 0, s => s
  | k + 1, s =>
    if s.evq.isEmpty then s else
    let a := (sortEv s.evq).foldl evTake ({ s with evq := [] }, [])
    settleLoop k (classActs a.1 a.2)

/-- The end of every command: the event unit takes what happened in it.
[DESIGN CHOICE, safe: log entry 10] -/
def settle (s : State) : State := settleLoop 64 s

/-! ## Lists that end. -/

/-- A list of runner r may have ended: its channel's motion is followed up, and the boot goes on (R54, R252). -/
def listOver (s : State) (r : Nat) : State := bootWatch (if 1 ≤ r then motWatch s (r - 1) else s)

/-- ABORT of a runner (R53), with what the boot makes of it. -/
def seqAbortWatch (s : State) (r : Nat) : State := listOver (seqAbort s r) r

end Sys2Proof.Machine
end

