-- ==== Sys2Proof/Machine/CmdOps.lean ====
section
/-! DEFINITION. Machine/CmdOps.lean: commands and system switches on the Umade link (spec/14_multi_device_umade.md R353, R354), and the
end of every command of this block. -/

namespace Sys2Proof.Machine

/-! ## CMD and REPLY frames (R345). -/

/-- The channels of node j that a system mask names. -/
def nodeMask (mask j : Nat) : Nat := mask / 2 ^ (4 * j) % 16

/-- The nodes beyond the manager that a system mask names. -/
def namedNodes (mask : Nat) : List Nat := (List.range 16).filter fun j => decide (1 ≤ j) && nodeMask mask j != 0

/-- The body of a CMD. -/
def cmdBody (code id line mask : Nat) (args : List Byte) : List Byte :=
  leBytes 1 code ++ leBytes 1 id ++ leBytes 6 line ++ leBytes 8 mask ++ args

/-- The manager sends a CMD and waits for the replies of the nodes it names (R353). -/
def cmdSend (s : State) (code line mask : Nat) (args : List Byte) : Nat × State :=
  let id := s.umd.nextId
  let body := cmdBody code id line mask args
  let s := umdSend s false ⟨3, umdNode s, true, 0, 0, body⟩
  (id, s.modUmd fun u => { u with
    nextId := (id + 1) % 256,
    outs := u.outs ++ (namedNodes mask).map fun j => { id := id, code := code, node := j, tries := 0, body := body } })

/-- The body of a REPLY: its result and the reasons of channels 0 to 3. -/
def replyBody (id code result : Nat) (reasons : List Nat) : List Byte :=
  let r := (List.range 4).foldl (fun v n => v + reasons.getD n 0 % 16 * 16 ^ n) 0
  leBytes 1 id ++ leBytes 1 code ++ leBytes 1 result ++ leBytes 2 r

/-- Command ids that a node remembers: fewer than there are ids, so that a fresh one is never taken for an old one. -/
def idsKept : Nat := 128

/-- A worker notes that a command is executed. -/
def idNote (s : State) (id : Nat) : State := s.modUmd fun u => { u with ids := ((id, []) :: u.ids).take idsKept }

/-- A worker replies to a command, and keeps the reply for repeats of it. -/
def cmdReply (s : State) (id code result : Nat) (reasons : List Nat) : State :=
  let b := replyBody id code result reasons
  let s := umdSend s true ⟨4, umdNode s, false, 0, 0, b⟩
  s.modUmd fun u => { u with ids := u.ids.map fun p => if p.1 = id then (id, b) else p }

/-- One reason on each channel of a mask. -/
def reasonsOn (mask r : Nat) : List Nat := (List.range 4).map fun n => if bit mask n then r else 0

/-! ## The manager's own command (R353). -/

/-- UMD_CMDCTL shows how the command followed there stands; it is no longer followed once it is decided. -/
def cmdShow (s : State) (st node : Nat) : State :=
  ((s.wr UMD_CMDCTL_STATE st).wr UMD_CMDCTL_NODE node).modUmd fun u =>
    { u with user := none, outs := u.outs.filter fun o => u.user != some o.id }

/-- The command is done once every node it names has replied and the manager's own channels have executed it. -/
def cmdCheck (s : State) : State :=
  match s.umd.user with
  | none => s
  | some id =>
    if s.umd.outs.any (·.id == id) || s.umd.cals.any (·.id == id) then s else cmdShow s 2 (s.rd UMD_CMDCTL_NODE)

/-- A node refuses a command. -/
def cmdRefused (s : State) (id node : Nat) : State := if s.umd.user = some id then cmdShow s 3 node else s

/-! ## LAMP and CAL (R353). -/

/-- LAMP on the channels of a mask: staged for line L. The reasons of refused channels: the spec gives no code, so a free one.
[DESIGN CHOICE, safe: log entry 62] -/
def lampCmd (s : State) (mask line g level fade : Nat) : List Nat × State :=
  (List.range 4).foldl (fun (a : List Nat × State) n =>
    if !bit mask n then (a.1 ++ [0], a.2)
    else if levelRefused a.2 n g level then
      let r := a.2.free 0x14353 15
      (a.1 ++ [r.1 + 1], levelStage r.2 n g level fade 1 line)
    else (a.1 ++ [0], levelStage a.2 n g level fade 1 line)) ([], s)

/-- A CAL command waits for t0 of its line on each channel of a mask.
[DESIGN CHOICE, safe: log entry 62] -/
def calCmd (s : State) (id mask line : Nat) : State :=
  s.modUmd fun u => { u with cals := u.cals ++ [{ id := id, line := line, left := mask, reasons := [0, 0, 0, 0] }] }

/-- The outcome of a CAL command is known on every channel: a worker replies, the manager shows it. -/
def calCmdOver (s : State) (c : UmdCal) : State :=
  let s := s.modUmd fun u => { u with cals := u.cals.filter fun x => x.id != c.id }
  let bad := c.reasons.any (· != 0)
  if isManager s then (if bad then cmdRefused s c.id 0 else cmdCheck s)
  else cmdReply s c.id 5 (b2n bad) c.reasons

/-- t0 of a line on channel n: a CAL command whose line is reached starts the calibration list, subject to R250. -/
def calCmdAt (s : State) (n line : Nat) : State :=
  match s.umd.cals.find? fun c => bit c.left n && decide (c.line ≤ line) with
  | none => s
  | some c =>
    let busy := s.listRuns (n + 1) || s.switching n
    let s := seqStart s n 2
    let r := if busy then 7 else if s.calList n then 0 else 4
    let c := { c with left := withBit c.left n false, reasons := c.reasons.set n r }
    let s := s.modUmd fun u => { u with cals := u.cals.map fun x => if x.id = c.id then c else x }
    if c.left = 0 then calCmdOver s c else s

/-- UMD_CMDCTL.GO (R353).
[DESIGN CHOICE, safe: log entry 62] -/
def cmdGo (s : State) : State :=
  if !umdOn s then s else
  let code := s.rd UMD_CMDCTL_CODE
  let line := s.rd64 UMD_CMDLINE_LO_LINE UMD_CMDLINE_HI_LINE
  let mask := s.rd64 UMD_CMDMASK_LO_MASK UMD_CMDMASK_HI_MASK
  let late := s.umd.latest.any fun t => decide (line < t + 64)
  if !isManager s || !(code = 4 || code = 5) || late then cmdShow s 3 (umdNode s) else
  let g := s.rd UMD_CMDCTL_GROUP
  let level := s.rd UMD_CMDARG_LEVEL
  let fade := s.rd UMD_CMDARG_FADE
  let args := if code = 4 then leBytes 1 g ++ leBytes 2 level ++ leBytes 2 fade else []
  let c := cmdSend (cmdShow s 1 0) code line mask args
  let s := c.2.modUmd fun u => { u with user := some c.1 }
  let own := nodeMask mask 0
  if code = 4 then
    let r := lampCmd s own line g level fade
    if r.1.any (· != 0) then cmdRefused r.2 c.1 0 else cmdCheck r.2
  else if own = 0 then cmdCheck s else calCmd s c.1 own line

/-! ## System switches (R354). -/

/-- The Umade request that is not committed yet. -/
def umdReq (s : State) : Option Nat := s.switches.findIdx? fun r => r.src == 2 && !r.committed

/-- UMD_SWSTAT. -/
def sysShow (s : State) (st reason node : Nat) : State :=
  ((s.wr UMD_SWSTAT_STATE st).wr UMD_SWSTAT_REASON reason).wr UMD_SWSTAT_NODE node

/-- The manager gives a system switch up (R354 step 5): state 3 for a refusal, 4 otherwise. -/
def sysFail (s : State) (st reason node : Nat) : State :=
  match s.umd.sys with
  | none => s
  | some q =>
    let s := s.modUmd fun u => { u with sys := none, prep := none, outs := u.outs.filter fun o => o.code != 1 }
    let s := (cmdSend s 3 q.line q.mask []).2
    let s := match umdReq s with | some i => swCancelAt s i 11 | none => s
    (sysShow s st reason node).raise (((ev EV_UMD_SYS_SW).at_ 9 node).code_ reason)

/-- A reason that the spec does not state: of a node that is lost or does not reply.
[DESIGN CHOICE, safe: log entry 62] -/
def sysLost (s : State) (node : Nat) : State :=
  let r := s.free 0x14354 16
  sysFail r.2 4 r.1 node

/-- A system request is refused at once (R354 step 2).
[DESIGN CHOICE, safe: log entry 62] -/
def sysRefuse (s : State) (reason node : Nat) : State :=
  (sysShow s 3 reason node).raise ((ev EV_JOB_REFUSED).code_ reason)

/-- A request on the manager with the link in use (R354). With no system tick so far the line of NEXT is free.
[DESIGN CHOICE, safe: log entry 27] -/
def sysRequest (s : State) (jig : Nat) (line : Option Nat) : State :=
  let mask := s.rd64 UMD_SWMASK_LO_MASK UMD_SWMASK_HI_MASK
  match (namedNodes mask).find? fun j => !nodePresent s j with
  | some j => sysRefuse s 7 j
  | none =>
    if mask = 0 then sysRefuse s 7 0
    else if (match line, s.umd.latest with | some l, some t => decide (l < t + 512) | _, _ => false) then sysRefuse s 4 0
    else if s.umd.sys.isSome then sysRefuse s 1 0
    else
      let l : Nat × State := match line, s.umd.latest with
        | some l, _ => (l, s)
        | none, some t => ((t + 512) % 2 ^ 48, s)
        | none, none => s.free 0x14355 (2 ^ 48)
      let s := (cmdSend (sysShow l.2 1 0 0) 1 l.1 mask (leBytes 1 jig)).2
      let own := nodeMask mask 0
      let s := s.modUmd fun u => { u with sys := some { jig := jig, line := l.1, mask := mask, waiting := namedNodes mask,
                                                        committed := false } }
      if own = 0 then s else
      let why := swReason s 2 jig own (some l.1)
      let s := swRequest s 2 jig own (some l.1) false
      if why ≠ 0 then sysFail s 3 why 0 else s.modUmd fun u => { u with prep := some (0, own) }

/-- The manager commits (R354 step 4). -/
def sysCommit (s : State) (q : UmdSys) : State :=
  let s := (cmdSend s 2 q.line q.mask []).2
  let s := s.modUmd fun u => { u with sys := some { q with committed := true } }
  let s := sysShow s 2 0 0
  match umdReq s with | some i => swGo s i | none => s

/-- A switch request of the host or of JOB_STB (R58, R354).
[DEDUCED, unsafe: log entry 26] -/
def request (s : State) (src jig mask : Nat) (line : Option Nat) : State :=
  if umdOn s && isManager s then sysRequest s jig line else swRequest s src jig mask line true

/-- GLB_SWREQ.CANCEL on the channels of a mask (R64, R354). -/
def hostCancel (s : State) (mask : Nat) : State :=
  let s := match s.umd.sys with | some q => if q.committed then s else sysFail s 4 11 0 | none => s
  swCancel s mask 11

/-! ## What arrives (R346, R353, R355). -/

/-- A worker executes a command on its own channels.
[DESIGN CHOICE, safe: log entry 62] -/
def cmdRun (s : State) (id code line mask : Nat) (args : List Byte) : State :=
  match code with
  | 1 =>
    let jig := fieldAt args 0 1 % 64
    let why := swReason s 2 jig mask (some line)
    let s := swRequest s 2 jig mask (some line) false
    if why ≠ 0 then cmdReply s id 1 1 (reasonsOn mask why) else s.modUmd fun u => { u with prep := some (id, mask) }
  | 2 =>
    (match umdReq s with
     | some i => cmdReply (swGo s i) id 2 0 []
     | none => cmdReply s id 2 2 ((List.range 4).map fun n => if bit mask n then s.rd (GLB_SW_STAT_REASON n) else 0))
  | 3 => (match umdReq s with | some i => cmdReply (swCancelAt s i 11) id 3 0 [] | none => cmdReply s id 3 0 [])
  | 4 =>
    let r := lampCmd s mask line (fieldAt args 0 1 % 4) (fieldAt args 1 2) (fieldAt args 3 2)
    cmdReply r.2 id 4 (b2n (r.1.any (· != 0))) r.1
  | 5 => calCmd s id mask line
  | _ => s

/-- A CMD frame arrives (R346, R353). -/
def cmdArrive (s : State) (bs : List Byte) : State :=
  umdReceive s true bs 3 fun s f =>
    if isManager s then s else
    let s := if umdMine s f then s else umdSend s false f
    let id := fieldAt f.body 1 1
    let mask := if f.bcast || umdMine s f then nodeMask (fieldAt f.body 8 8) (umdNode s) else 0
    if mask = 0 then s else
    match s.umd.ids.find? (·.1 == id) with
    | some (_, b) => if b.isEmpty then s else umdSend s true ⟨4, umdNode s, false, 0, 0, b⟩
    | none => cmdRun (idNote s id) id (fieldAt f.body 0 1) (fieldAt f.body 2 6) mask (f.body.drop 16)

/-- A REPLY frame arrives (R346, R353, R354). -/
def replyArrive (s : State) (bs : List Byte) : State :=
  umdReceive s false bs 4 fun s f =>
    if !isManager s then passUp s f else
    let id := fieldAt f.body 0 1
    let result := fieldAt f.body 2 1
    let reasons := (List.range 4).map fun n => bits (fieldAt f.body 3 2) (4 * n + 3) (4 * n)
    match s.umd.outs.find? fun o => o.id == id && o.node == f.src with
    | none => s
    | some o =>
      let s := s.modUmd fun u => { u with outs := u.outs.filter fun x => !(x.id == id && x.node == f.src) }
      if o.code = 1 then
        if result = 0 then
          s.modUmd fun u => { u with sys := u.sys.map fun q => { q with waiting := q.waiting.filter (· != f.src) } }
        else sysFail s (if result = 1 then 3 else 4) ((reasons.find? (· != 0)).getD 0) f.src
      else if result = 0 then cmdCheck s else cmdRefused s id f.src

/-- A CMD got no REPLY in time (R353): it is sent again, at most three times. -/
def replyTimeout (s : State) (id node : Nat) : State :=
  match s.umd.outs.find? fun o => o.id == id && o.node == node with
  | none => s
  | some o =>
    if o.tries < 3 then
      let s := umdSend s false ⟨3, umdNode s, true, 0, 0, o.body⟩
      s.modUmd fun u => { u with outs := u.outs.map fun x => if x.id = id ∧ x.node = node then { x with tries := x.tries + 1 } else x }
    else
      let s := s.modUmd fun u => { u with outs := u.outs.filter fun x => !(x.id == id && x.node == node) }
      if o.code = 1 then sysLost s node
      else if s.umd.user = some id then cmdShow s 4 node else s

/-! ## The end of every command. -/

/-- A PREPARE in staging: it is armed, or was cancelled (R353, R354).
[DESIGN CHOICE, safe: log entry 62] -/
def prepWatch (s : State) : State :=
  match s.umd.prep with
  | none => s
  | some (id, own) =>
    match (umdReq s).bind (s.switches[·]?) with
    | some r =>
      if r.armed ≠ r.mask then s else
      let s := s.modUmd fun u => { u with prep := none }
      if isManager s then s else cmdReply s id 1 0 []
    | none =>
      let rs := (List.range 4).map fun n => if bit own n then s.rd (GLB_SW_STAT_REASON n) else 0
      let s := s.modUmd fun u => { u with prep := none }
      if isManager s then sysFail s 4 ((rs.find? (· != 0)).getD 0) 0 else cmdReply s id 1 2 rs

/-- A system switch: a named node is lost, or every node is armed; it is over once its line has been ticked (R354, R356).
[DESIGN CHOICE, safe: log entry 62] -/
def sysWatch (s : State) : State :=
  match s.umd.sys with
  | none => s
  | some q =>
    if q.committed then
      (if s.umd.latest.any fun t => decide (q.line ≤ t) then s.modUmd fun u => { u with sys := none } else s)
    else match (namedNodes q.mask).find? fun j => !nodePresent s j with
    | some j => sysLost s j
    | none => if q.waiting.isEmpty && s.umd.prep.isNone then sysCommit s q else s

/-- What the Umade unit makes of a command's outcome.
[DESIGN CHOICE, safe: log entry 10] -/
def umdWatch (s : State) : State := settle (sysWatch (prepWatch s))

/-- The end of every command: the event unit takes what happened in it, the Umade unit follows its switches, and its frames go out.
[DESIGN CHOICE, safe: log entry 10] -/
def finish (s : State) : State :=
  let t := settle s
  umdFlush (if t.umd.prep.isNone && t.umd.sys.isNone then t else umdWatch t)

end Sys2Proof.Machine
end

