-- ==== Sys2Proof/Machine/TrigOps.lean ====
section
/-! DEFINITION. Machine/TrigOps.lean: line triggers (spec/07_position_feedback.md R171 to R179; spec/03_sensor_timing_lanes.md R77, R93;
spec/14_multi_device_umade.md R348 to R350; spec/10_shading_calibration.md R241): encoder counting, the divider, deferral and loss, and what a
line start sets going. -/

namespace Sys2Proof.Machine

/-! ## The line start. -/

/-- The latched data of a trigger as the FIFO keeps them. -/
def TrigInfo.spanEnd (i : TrigInfo) : SpanEnd := { line := i.line, pos := i.pos, ts := i.ts }

/-- Triggers may be issued on a channel (R93, R177). -/
def trigOn (s : State) (n : Nat) : Bool := s.runBit n && snsReady s n && !s.safe

/-- A trigger at t0 falls under rough-cut mode (R371).
[DEDUCED, unsafe: log entry 41] -/
def roughAtT0 (s : State) (n t0 : Nat) : Bool := s.rough n && decide ((s.ch n).roughAt + 100 ≤ t0)

/-- The shortest time from the last line start to the line start of a trigger (R61, R77, R372).
[DEDUCED, unsafe: log entry 31] -/
def spacing (s : State) (n line t0 : Nat) : Nat :=
  let p := max (s.ch n).sns.prevPmin (swPmin s n line)
  if roughAtT0 s n t0 then 2 * p else p

/-- The gap record of a line A that gets no packet goes to the kerf reserve; the next line packet carries CALGAP (R219, R253). -/
def gapToReserve (s : State) (n : Nat) (e : SpanEnd) : State :=
  match (calOf s n).gapRec with
  | none => s
  | some pay =>
    let h := recordHeader (nodeOf s) n (jigOf s n) 4 e 0 0
    let s := reserveAppend s n [recordPkt 4 e (recordBytes h pay) .reserve false true]
    s.modCal n fun c => { c with gapRec := none, calgapNext := true }

/-- A lost line enters its kerf span (R77, R177, R220). -/
def recordLost (s : State) (n : Nat) (x : LostTrig) : State :=
  let e := x.info.spanEnd
  let sheet := match (s.ch n).rsmp.sheet with | some sh => sh.num | none => 0
  let s := dropLine s n x.cause e sheet
  let s := s.modFifo n fun f => { f with span := f.span.map fun sp => { sp with count := sp.count + x.extra } }
  if x.lineA then showFifo (gapToReserve s n e) n else s

/-- Lines lost behind a waiting trigger are recorded after it. -/
def recordBehind (s : State) (n : Nat) : State :=
  let xs := (s.ch n).sns.behind
  xs.foldl (fun s x => recordLost s n x) (s.modSns n fun u => { u with behind := [] })

/-- A pending host swap takes effect at its effect line (R103). -/
def swapAtTrigger (s : State) (n t0 : Nat) : State :=
  match (s.ch n).pipe.swapPend with
  | some (v, at_) =>
    if at_ + 100 ≤ t0 then
      ((profileSwap s n v).modPipe n fun p => { p with swapPend := none }).wr (PIPE_STAT_SWPEND n) 0
    else s
  | none => s

/-- The schedule's edges go out on SN_n_CTL, in order, and each pin holds its idle level after the last (R72, R73): not into a bar
without power (R70). -/
def ctlEdges (s : State) (n : Nat) : State :=
  if !(s.ch n).sns.outputsOn then s else
  ctlIdle ((s.ch n).sns.sched.edges.foldl (fun s e => ctlDrive s n e.pin e.level) s) n

/-- The receptions that a line awaits, lane by lane. -/
def rxInit (sc : Schedule) : List LaneRx :=
  (lanesInUse sc).map fun l =>
    { lane := l, started := false, ended := false, words := [], crc := 0, framing := false, missing := false }

/-- The grant of a normal line (R218): whether it is granted, the span it closes, whether it is the first after a restart. -/
def lineGrant (s : State) (n : Nat) (w : WaitTrig) : Bool × Option Span × Bool × State :=
  if w.kind ≠ .normal ∨ w.gap then (false, none, false, s) else
  let f := fifoOf s n
  let first := f.joinDue && decide (f.joinFrom ≤ w.info.line) && !(s.ch n).pipe.lines.any (·.joinLine)
  let g := grantLine s n w.info.spanEnd w.lineA first
  (g.1, g.2.1, first, g.2.2)

/-- PIPE_n_GEFF_LO and _HI take the effective gains of a trigger.
[DEDUCED, unsafe: log entry 63] -/
def showGeff (s : State) (n : Nat) (g : GainSet) : State :=
  ((s.wr (PIPE_GEFF_LO_RD n) (g.geff.getD 0 0)).wr (PIPE_GEFF_LO_GN n) (g.geff.getD 1 0)).wr (PIPE_GEFF_HI_BU n) (g.geff.getD 2 0)

/-- A line starts (R61, R77, R100, R157, R218, R241): `start` is its line start, deferred or not. -/
def lineStart (s : State) (n : Nat) (w : WaitTrig) (start : Nat) : State :=
  let normal := w.kind == .normal
  let L := swLine s n
  let s := s.modPipe n fun p => gainsDue p fun t l => decide (t ≤ w.trig) && L.all fun x => decide (l < x)
  let s := if normal then swAtLine s n w.trig w.info.line else s
  let s := gainsShow (s.modPipe n fun p => gainsDue p fun t _ => decide (t ≤ w.trig)) n
  let s := spareAtTrigger s n w.trig
  let s := swapAtTrigger s n w.info.t0
  let s := lmpLineStart s n start (if normal then some w.info.line else none) true
  let fl := follow s n
  let gs := gainSet fl.2 n fl.1
  let s := if gs.2 then (fl.2.bump (PIPE_FOLLIM_COUNT n)).raise ((ev (EV_PIPE_FOLLOW_LIM n)).line_ w.info.line) else fl.2
  let s := showGeff s n gs.1
  let u := (s.ch n).sns
  let spoil := decide (0 < u.spoilNext) || u.spoilTrigs.contains w.trig
  let cap := w.kind != .overlap && captureWants s n
  let rough := if roughAtT0 s n w.info.t0 then s.rd (PIPE_STAT_MODE n) else 0
  let g := lineGrant s n w
  let s := g.2.2.2
  let l : LineRec := {
    kind := w.kind, trig := w.trig, slot := w.slot, info := w.info, start := start, jig := jigOf s n, sched := u.sched,
    gains := gs.1, spareFor := if s.rb (PIPE_SPARE_V n) then some (s.rd (PIPE_SPARE_FOR n)) else none, rough := rough,
    spoil := spoil, uncorr := !gs.1.pvalid || rough != 0, derate := gs.2 && rough == 0, poison := false, recomp := false,
    recN := 0, poiN := 0, granted := g.1, kerf := g.2.1, gap := w.gap, capUse := cap, pipePoison := false, lineA := w.lineA,
    joinLine := g.2.2.1, lambda := lambdas s n, edge := u.edges, hold := List.replicate 4 (0, 0), rx := rxInit u.sched, tiles := [] }
  let s := s.modPipe n fun p => { p with lines := p.lines ++ [l] }
  let s := if normal && !w.gap then s.modFifo n fun f => { f with runTrigs := f.runTrigs + 1 } else s
  ctlEdges (s.modSns n fun u =>
    { u with lastStart := some start, edges := u.edges + 1, prevPmin := u.sched.pmin, waiting := none, spoilNext := u.spoilNext - 1,
             spoilTrigs := u.spoilTrigs.filter fun t => w.trig < t }) n

/-! ## Deferral and loss (R77). -/

/-- A trigger that comes while one waits is lost.
[DEDUCED, unsafe: log entry 31] -/
def trigLost (s : State) (n : Nat) (w : WaitTrig) : State :=
  let s := (s.bump (SNS_TRIGLOST_COUNT n)).raise ((ev (EV_SNS_TRIGLOST n)).line_ w.info.line)
  if w.kind ≠ .normal then s else
  let s := if w.gap then s else showFill (pushSlot s n (badSlot w.slot)) n
  if w.gap then s else
  s.modSns n fun u => { u with behind := u.behind ++ [{ info := w.info, cause := 3, extra := 0, lineA := w.lineA }] }

/-- A trigger reaches the sensor timing unit: its line starts, it waits, or it is lost (R77). -/
def lineAccept (s : State) (n : Nat) (w : WaitTrig) : State :=
  let s := s.modPipe n fun p => effectLines p w.trig w.info.line w.info.t0
  let u := (s.ch n).sns
  if u.waiting.isSome then trigLost s n w else
  match u.lastStart with
  | none => lineStart s n w w.info.t0
  | some t =>
    if w.info.t0 < t + spacing s n w.info.line w.info.t0 then s.modSns n fun u => { u with waiting := some w }
    else lineStart s n w w.info.t0

/-- DEFERRED_LINE_START (R77, R220).
[DEDUCED, unsafe: log entry 31] -/
def deferredStart (s : State) (n : Nat) : State :=
  let u := (s.ch n).sns
  match u.waiting, u.lastStart with
  | some w, some t =>
    let at_ := t + spacing s n w.info.line w.info.t0
    if s.now < at_ then s else
    let s := ((s.bump (SNS_DEFER_COUNT n)).peak (SNS_DEFER_MAX n) (at_ - w.info.t0)).raise
      ((ev (EV_SNS_DEFER n)).line_ w.info.line)
    let s := recordBehind (lineStart s n w at_) n
    if s.runBit n then s else closeSpanRun s n
  | _, _ => s

/-! ## Triggers. -/

/-- Count a trigger: its number among all triggers, and among the alignment slots where it is a normal one (R113). -/
def countTrig (s : State) (n : Nat) (normal : Bool) : Nat × Nat × State :=
  let p := (s.ch n).pipe
  (p.trigCtr, p.slotCtr, s.modPipe n fun p =>
    { p with trigCtr := p.trigCtr + 1, slotCtr := p.slotCtr + b2n normal })

/-- Registers of channel n that were read clean remember the first line triggered since (R376).
[DESIGN CHOICE, safe: log entry 64] -/
def scrubTrig (s : State) (n line : Nat) : State :=
  let mine (p : Nat × Option Nat) : Bool := 0x80000 ≤ p.1 && chanOf p.1 == n && p.2.isNone
  s.modEvt fun x => { x with scrub := x.scrub.map fun p => if mine p then (p.1, some line) else p }

/-- A normal trigger of channel n with its latched data (R22, R252).
[DEDUCED, unsafe: log entry 31] -/
def normalTrigger (s : State) (n : Nat) (i : TrigInfo) : State :=
  let e := i.spanEnd
  let s := (scrubTrig s n i.line).modFifo n fun f => { f with lastTrig := some e }
  let s := monTriggerSrc (swPitch (swUmdLate s n i.line) n i.line) 2 n 0
  let s := calCmdAt s n i.line
  let s := if (s.ch n).rsmp.yInit then s.modRsmp n fun r => { r with yInit := false, yAt := some i.line } else s
  let gap := gapLineAt s n i.t0
  let a := if gap then (false, noteGapLine s n e) else calAtTrigger s n i.t0 e
  let c := countTrig a.2 n true
  let s := if gap then showFill (pushSlot c.2.2 n (badSlot c.2.1)) n else c.2.2
  lineAccept s n { info := i, kind := .normal, trig := c.1, slot := c.2.1, gap := gap, lineA := a.1 }

/-- Lines of channel n that give no trigger: they advance the slots, invalid, and are recorded as lost (R177, R350).
[DEDUCED, unsafe: log entry 47] -/
def missedLines (s : State) (n k : Nat) (xs : List LostTrig) : State :=
  let s0 := (s.ch n).pipe.slotCtr
  let s := s.modPipe n fun p => { p with slotCtr := p.slotCtr + k }
  let s := (List.range (min k 33)).foldl (fun s i => pushSlot s n (badSlot (s0 + k - min k 33 + i))) s
  let s := showFill s n
  if (s.ch n).sns.waiting.isSome then s.modSns n fun u => { u with behind := u.behind ++ xs }
  else xs.foldl (fun s x => recordLost s n x) s

/-- Does channel n take its triggers from system ticks (R349)? -/
def tickSrc (s : State) (n : Nat) : Bool := umdOn s && bit (s.rd UMD_CFG_TICKSRC) n

/-- Is channel n the manager's source channel (R348)? -/
def tickSource (s : State) (n : Nat) : Bool := umdOn s && isManager s && s.rd UMD_CFG_SRCCH == n

/-- A system tick of the manager: the TICK frame, and the tick for the manager's own channels (R348, R349). -/
def systemTick (s : State) (i : TrigInfo) : State :=
  let s := umdSendAged s ⟨1, umdNode s, true, 0, 0, leBytes 6 i.line ++ leBytes 8 i.pos.toNat ++ leBytes 8 i.ts.toNat⟩ 0
  let w : TickWait := { line := i.line, pos := i.pos, ts := i.ts, due := i.t0 + unitsToNs (s.rd UMD_TICKDLY_D) }
  s.modUmd fun u => { u with latest := some i.line, ticks := if s.rd UMD_CFG_TICKSRC = 0 then u.ticks else u.ticks ++ [w] }

/-! ## The divider (R176 to R179). -/

/-- The divider passes its threshold: the next line number, the high-water mark, and one pitch (R177). -/
def divAdvance (s : State) (n : Nat) : Nat × State :=
  let p := posOf s n
  let s := swPitch s n p.line
  (p.line, s.modPos n fun p =>
    { p with line := (p.line + 1) % 2 ^ 48, hwm := p.count, nt := p.nt + posPitch s n })

/-- A latched trigger at the present instant. -/
def latch (s : State) (n line : Nat) : TrigInfo :=
  { line := line, pos := BitVec.ofInt 64 (posOf s n).count, ts := s.timeBase, t0 := s.now }

/-- The normal trigger at NT (R177, R179, R227); where two thresholds are reached at once the second is skipped. -/
def divTrigger (s : State) (n tick : Nat) : State :=
  let a := divAdvance s n
  let s := correct a.2 n tick (some a.1)
  let s := if (posOf s n).ovlArmed then disarmOverlap s n else s
  let s := if dtState s n = 4 && !(fifoOf s n).joinWait then
      s.modFifo n fun f => { f with joinDue := true, joinFrom := a.1, joinRes := none, joinTrigs := f.runTrigs, joinWait := true }
    else s
  let i := latch s n a.1
  let s := divPulse s n tick
  let s := if tickSource s n then systemTick s i else s
  let s := if tickSrc s n then s else normalTrigger s n i
  let p := posOf s n
  if !reached p.count p.nt then s else
  let b := divAdvance s n
  if tickSrc b.2 n then b.2 else
  missedLines b.2 n 1 [{ info := latch b.2 n b.1, cause := 4, extra := 0, lineA := false }]

/-- An overlap trigger (R179): it repeats a line and advances neither line number, mark nor slot. -/
def overlapTrigger (s : State) (n tick line : Nat) : State :=
  let c := countTrig (divPulse (scrubTrig s n line) n tick) n false
  lineAccept c.2.2 n { info := latch s n line, kind := .overlap, trig := c.1, slot := 0, gap := false, lineA := false }

/-- The divider after a forward count change (R177, R179). -/
def divStep (s : State) (n tick : Nat) : State :=
  let p := posOf s n
  if !s.runBit n || (tickSrc s n && !tickSource s n) then s else
  match p.overlap.find? fun o => reached p.count o.2 with
  | some o =>
    let s := s.modPos n fun p => { p with overlap := p.overlap.filter fun x => !reached p.count x.2 }
    if trigOn s n then overlapTrigger s n tick o.1 else s
  | none =>
    if !reached p.count p.nt then s
    else if trigOn s n then divTrigger s n tick
    else
      let s := s.modPos n fun p => { p with nt := skipPitches p.count p.nt (posPitch s n), hwm := p.count }
      if (posOf s n).ovlArmed then disarmOverlap s n else s

/-! ## Encoder edges (R169, R171, R181). -/

/-- The count changes by one.
[DEDUCED, unsafe: log entry 47] -/
def countMove (s : State) (n tick : Nat) (up rise : Bool) : State :=
  let s := cmpStep s n tick (posOf s n).count up
  let s := divCount (s.modPos n fun p => { p with count := if up then p.count + 1 else p.count - 1 }) n
  let s := speedChange s n tick up
  let s := if rise then toothEdge s n tick up else s
  let s := refLostCheck s n
  let s := if up then divStep s n tick else s
  showPos (gateCheck s n) n

/-- The count source's A and B take new levels (R169, R171); in boot step 1 they are followed but not counted. -/
def sourceEdge (s : State) (n : Nat) (a b : Bool) (sub : Nat) : State :=
  let tick := s.tick sub
  let p := posOf s n
  let s := s.modPos n fun p => { absLatch p tick with a := a, b := b }
  if s.boot.phase = .held then s else
  match quadStep (s.rd (POS_CFG_MODE n)) (s.rb (POS_CFG_INV n)) p.a p.b a b with
  | .none => s
  | .error => ((s.bump (POS_CNT_QERR n)).wr (POS_STAT_SUSPECT n) 1).raise (ev (EV_POS_QERR n))
  | .move up => countMove s n tick up (!p.a && a)

/-- The generator gives its next count change, where one is due (R180, R181).
[DESIGN CHOICE, unsafe: log entry 66] -/
def genEdge (s : State) (n sub : Nat) : State :=
  match genStep (posOf s n).gen (s.rb (POS_GEN_DIR n)) (s.rd (POS_GEN_TOOTH n)) (s.rd (POS_GEN_TEETH n)) with
  | none => s
  | some g =>
    let s := s.modPos n fun p => { p with gen := g }
    let s := if s.rd (POS_DIVCFG_SRC n) = 3 then s.modPos n fun p => { p with divLevel := g.a } else s
    if s.rb (POS_GEN_LOOP n) then sourceEdge s n g.a g.b sub else s

/-- A and B take new levels, at the pins, or the test generator gives its next count change (R169, R171, R180, R181).
[DESIGN CHOICE, unsafe: log entry 66] -/
def encoderEdge (s : State) (n : Nat) (a b gen : Bool) (sub : Nat) : State :=
  if gen then genEdge s n sub else
  let s := s.modPos n fun p => { p with pinA := a, pinB := b }
  if s.rb (POS_GEN_LOOP n) then s else sourceEdge s n a b sub

/-- A rising edge of PS_n_Z, or of the generator's index where one is due (R173, R181).
[DESIGN CHOICE, unsafe: log entry 66] -/
def indexPulse (s : State) (n : Nat) (gen : Bool) : State :=
  let due := !gen || (posOf s n).gen.index
  let s := if gen then s.modPos n fun p => { p with gen := { p.gen with index := false } } else s
  if s.rb (POS_GEN_LOOP n) ≠ gen ∨ !due ∨ s.boot.phase = .held then s else indexEdge s n

/-! ## Captures (R241). -/

/-- The internal trigger of a capture: no line number, no position, no slot. -/
def captureTrigger (s : State) (n : Nat) : State :=
  let u := (s.ch n).sns
  let per := max (s.rd (CAL_CAPPER_PER n)) u.sched.pmin
  let due := match u.lastStart with | some t => decide (t + per ≤ s.now) | none => true
  if !captureWants s n || !due || u.waiting.isSome || !snsReady s n || s.safe then s else
  let c := countTrig s n false
  lineAccept c.2.2 n
    { info := { line := 0, pos := 0, ts := s.timeBase, t0 := s.now }, kind := .capture, trig := c.1, slot := 0, gap := false,
      lineA := false }

/-! ## System ticks (R349, R350). -/

/-- A tick gives t0 on a channel that takes ticks; lines missing before it are recorded as lost. -/
def tickTrigger (s : State) (n : Nat) (t : TickWait) : State :=
  if !s.runBit n || !tickSrc s n then s else
  let last := (s.umd.taken.getD n none)
  if last.any fun l => decide (t.line ≤ l) then s else
  let s := s.modUmd fun u => { u with taken := u.taken.set n (some t.line) }
  if !trigOn s n then s else
  let k := match last with | some l => t.line - l - 1 | none => 0
  let s := if k = 0 then s else
    let r1 := s.free 0x14350 (2 ^ 64)
    let r2 := r1.2.free 0x14350 (2 ^ 64)
    let r3 := r2.2.free 0x14350 (2 ^ 64)
    let r4 := r3.2.free 0x14350 (2 ^ 64)
    let i (l p ts : Nat) : TrigInfo := { line := l, pos := BitVec.ofNat 64 p, ts := BitVec.ofNat 64 ts, t0 := s.now }
    let first : LostTrig := { info := i (t.line - k) r1.1 r2.1, cause := 3, extra := 0, lineA := false }
    let last : LostTrig := { info := i (t.line - 1) r3.1 r4.1, cause := 3, extra := k - 2, lineA := false }
    let s := (r4.2.bump UMD_CNT2_TICKGAP).raise ((ev EV_UMD_TICKGAP).line_ t.line)
    missedLines s n k (if k = 1 then [first] else [first, last])
  let s := correct s n (s.tick 0) (some t.line)
  let s := if tickSource s n then s else s.modPos n fun p => { p with line := t.line + 1 }
  normalTrigger (divPulse s n (s.tick 0)) n { line := t.line, pos := t.pos, ts := t.ts, t0 := s.now }

/-- Every channel that takes ticks. -/
def tickAll (s : State) (t : TickWait) : State := iterate 4 s fun s n => tickTrigger s n t

/-- UMD_TICK_T0 (R349): the oldest tick's age reaches D. -/
def tickT0 (s : State) : State :=
  match s.umd.ticks with
  | [] => s
  | t :: rest => if s.now < t.due then s else tickAll (s.modUmd fun u => { u with ticks := rest }) t

/-- A TICK frame arrives (R346, R347, R349); `lag` is the time since it reached the age counter, in units.
[DESIGN CHOICE, safe: log entry 71] -/
def tickArrive (s : State) (bs : List Byte) (lag : Nat) : State :=
  umdReceive s true bs 1 fun s f =>
    if isManager s then s else
    let age := f.age + lag
    let s := (if umdMine s f then s else umdSendAged s f age).peak UMD_HOP_MAXAGE f.age
    let line := fieldAt f.body 0 6
    let t : TickWait := { line := line, pos := BitVec.ofNat 64 (fieldAt f.body 6 8), ts := BitVec.ofNat 64 (fieldAt f.body 14 8),
                          due := s.now + unitsToNs (s.rd UMD_TICKDLY_D - age) }
    let s := s.modUmd fun u => { u with latest := some line }
    if s.rd UMD_CFG_TICKSRC = 0 then s
    else if s.rd UMD_TICKDLY_D < age + 30 then
      tickAll ((s.bump UMD_CNT_LATE).raise ((ev EV_UMD_LATE).line_ line)) t
    else s.modUmd fun u => { u with ticks := u.ticks ++ [t] }

end Sys2Proof.Machine
end

