-- ==== Sys2Proof/Machine/LineOps.lean ====
section
/-! DEFINITION. Machine/LineOps.lean: a line leaves the pipeline (spec/04_pixel_pipeline.md R109 to R113), passes the resampler and edge
unit (spec/05_resampling_edges_packets.md R119 to R137) and is packed (R138 to R149), with the records that go with it
(spec/09_pacing_fifo_seams.md R218 to R221, R227 to R230). -/

namespace Sys2Proof.Machine

/-! ## When a line is complete. -/

/-- Tiles that a line of P pixels uses. -/
def tileCount (P : Nat) : Nat := ceilDiv P 64

/-- A tile of a line has passed its check, or was passed on. -/
def tileDone (l : LineRec) (t : Nat) : Bool :=
  l.tiles.any fun x => x.slice == t / 64 && x.tile == t % 64 && x.phase == .done

/-- Leading tiles of a line that have left the slices; a rough-cut line has none to check (R116). -/
def tilesReady (l : LineRec) : Nat :=
  let T := tileCount l.sched.pixels
  if l.rough ≠ 0 then (if l.rx.all (·.ended) then T else 0) else ((List.range T).takeWhile (tileDone l)).length

/-- A line whose samples go to a capture or nowhere.
[DEDUCED, safe: log entry 67] -/
def rawOnly (l : LineRec) : Bool := l.gap || l.kind == .capture

/-- The line must wait for the join's result before it is packed (R229). -/
def joinWaits (s : State) (n : Nat) (l : LineRec) : Bool :=
  let f := fifoOf s n
  l.kind == .normal && f.joinDue && decide (f.joinFrom ≤ l.info.line) && f.joinRes.isNone

/-- Has every part of a line arrived and passed? -/
def lineReady (s : State) (n : Nat) (l : LineRec) : Bool :=
  l.rx.all (·.ended) && (rawOnly l || (decide (tileCount l.sched.pixels ≤ tilesReady l) && !joinWaits s n l))

/-! ## The alignment stage (R109, R111, R112). -/

/-- The line in flight as it stands now. -/
def lineNow (s : State) (n : Nat) (l : LineRec) : LineRec := ((s.ch n).pipe.lines.find? (·.trig == l.trig)).getD l

/-- The alignment slot of a line: all three rows, also those whose offset is 0 now, so that a row that trailed before a switch is read as
valid once a new schedule delays it.
[DEDUCED, unsafe: log entry 39] -/
def ownSlot (l : LineRec) : AlignSlot :=
  { trig := l.slot, rows := (List.range 3).map fun c =>
      { valid := true, vals := lineRow l c, poison := l.poison, recomp := l.recomp, uncorr := l.uncorr, derate := l.derate } }

/-- Does an output line read the slot k triggers back for a colour? -/
def readsSlot (l : LineRec) (c k : Nat) : Bool :=
  let o := l.sched.offs.getD c 0
  let d := if l.rough = 1 then (o + 128) / 256 else o / 256
  l.rough != 2 && o != 0 && (k == d || (l.rough == 0 && o % 256 != 0 && k == d + 1))

/-- Samples whose value the spec leaves open.
[DESIGN CHOICE, safe: log entry 38] -/
def freeRow (s : State) (P : Nat) : List Nat × State :=
  ((List.range P).map fun i => Config.freeValue 0x04109 (s.freeCtr + i) % 4096, { s with freeCtr := s.freeCtr + P })

/-- Invalidate one row of a slot.
[DESIGN CHOICE, safe: log entry 38] -/
def dropRow (s : State) (n slot c : Nat) : State :=
  s.modPipe n fun p => { p with slots := p.slots.map fun x =>
    if x.trig = slot then { x with rows := x.rows.modify c fun r => { r with valid := false } } else x }

/-- An alignment-buffer word fails parity twice (R109).
[DESIGN CHOICE, safe: log entry 38] -/
def alignFail (n : Nat) (l : LineRec) (a : Aligned × State) (f : Nat × Fin 3) : Aligned × State :=
  if !readsSlot l f.2.val f.1 then a else
  let s := (a.2.bump (PIPE_ALGERR_PAR n)).raise (((ev (EV_PIPE_ALIGN_PAR n)).at_ 3 2).line_ l.info.line)
  let s := dropRow (linePoison s n (lineNow s n l)) n (l.slot - f.1) f.2.val
  let r := freeRow s l.sched.pixels
  ({ a.1 with rows := a.1.rows.set f.2.val r.1, poison := true }, showFill r.2 n)

/-- An error in the colour interpolation: where its residue comparison fails (R105) it is recomputed within 192 clocks, which the spec
does not state further (R109). The event names the physical slice of the tile, and PIPE_n_RESERR is left alone, which counts slice
verdicts: of both the spec says nothing.
[DESIGN CHOICE, safe: log entry 37] -/
def interpFail (n : Nat) (l : LineRec) (p : PipeSt) (a : Aligned × State) (u : LineUpset) : Aligned × State :=
  if l.rough ≠ 0 ∨ l.sched.offs.getD u.colour.val 0 % 256 = 0 then a
  else if interpPasses p l u then ({ a.1 with rows := disturb a.1.rows u }, a.2)
  else
  let s := (residueRaise a.2 n l (u.tile / 64) (u.tile % 64)).bump (PIPE_RECOMP_TILES n)
  let ph := physSlice l (u.tile / 64)
  let k := s.free 0x04110 192
  let s := setLag k.2 n ph (lagNow (k.2.ch n).pipe ph k.2.now 0 + k.1 + 1) ((k.1 + 1) / 3)
  let s := modLine s n l.trig fun l => { l with recN := l.recN + 1 }
  if u.again then
    let s := residueRaise s n l (u.tile / 64) (u.tile % 64)
    ({ a.1 with rows := disturb a.1.rows u, poison := true }, pipePoison s n (lineNow s n l))
  else ({ a.1 with recomp := true }, s)

/-- A line passes the alignment stage: its rows enter their slot, and the aligned line goes on.
[DEDUCED, unsafe: log entry 44] -/
def alignStage (s : State) (n : Nat) (l : LineRec) (f : LineFaults) : Aligned × State :=
  let p := (s.ch n).pipe
  let al := alignLine p l
  let s := showFill (pushSlot s n (ownSlot l)) n
  f.interp.foldl (interpFail n l p) (f.align.foldl (alignFail n l) (al, s))

/-! ## The resampler and edge unit. -/

/-- What is packed of a line. -/
structure Image where
  out : Option OutLine
  edgeL : Nat
  edgeR : Nat
  sheet : SheetOut
  deriving DecidableEq, Repr

/-- The edge unit takes an aligned line (R131 to R136). -/
def edgeStage (s : State) (n : Nat) (l : LineRec) (rows : List (List Nat)) (f : LineFaults) : Nat × Nat × SheetOut × State :=
  let used := f.cols.filter fun k => colPixel s n k.val != 0xFFFF
  let s := if s.rb (RSMP_EDGECFG_EN n) then edgeErrs s n (b2n f.edgeL + b2n f.edgeR + used.length) l.info.line else s
  let e := edgeLine s n rows l.sched.pixels l.info f.edgeL f.edgeR
  if sheetMode s n then
    let t := sheetStep e.2.2 n rows l.info.spanEnd (!l.granted) used
    (e.1, e.2.1, t.1, t.2)
  else (e.1, e.2.1, SheetOut.none_, e.2.2)

/-- The cross-resampled line (R120 to R122). -/
def crossLine (s : State) (n : Nat) (l : LineRec) (al : Aligned) (us : List RsmpUpset) : VLine :=
  { line := l.info.line,
    vals := (List.range 3).map fun c => crossRow (rsmpCfg s n) (s.ch n).tabs us (al.rows.getD c []) c, spoil := al.spoil, uncorr := al.uncorr,
    derate := al.derate, poison := al.poison, recomp := al.recomp }

/-- A rough-cut line as it leaves (R149).
[DEDUCED, unsafe: log entry 39] -/
def roughOut (al : Aligned) : OutLine :=
  { rows := al.rows, vphase := 0, spoil := al.spoil, uncorr := true, derate := al.derate, poison := al.poison, recomp := al.recomp }

/-- y is set where a start is due (R127).
[DEDUCED, unsafe: log entry 42] -/
def startY (s : State) (n line : Nat) : State :=
  match (s.ch n).rsmp.yAt with
  | some b => if b ≤ line then s.modRsmp n fun r => { setY (rsmpCfg s n) r b with stored := [] } else s
  | none => s

/-- What errors in the resampler came to: those that stay in the line, and whether a tile was recomputed or poisoned before the lines
that the vertical filter keeps, and behind them. -/
structure RsmpErrs where
  stay : List RsmpUpset
  recomp : Bool
  poison : Bool
  outRecomp : Bool
  outPoison : Bool
  deriving DecidableEq, Repr

/-- One error in the resampler: it passes the checks unseen, or its tile is recomputed, or passes on with POISON (R130).
[DESIGN CHOICE, safe: log entry 37] -/
def rsmpJudge (n : Nat) (l : LineRec) (passes : RsmpUpset → Bool) (a : RsmpErrs × State) (u : RsmpUpset) : RsmpErrs × State :=
  if passes u then ({ a.1 with stay := a.1.stay ++ [u] }, a.2) else
  let r := rsmpFault a.2 n l.info u.again
  let rec_ := r.2.1 && !r.2.2
  ({ stay := if r.2.2 then a.1.stay ++ [u] else a.1.stay,
     recomp := a.1.recomp || (rec_ && !u.part.isVert), poison := a.1.poison || (r.2.2 && !u.part.isVert),
     outRecomp := a.1.outRecomp || (rec_ && u.part.isVert), outPoison := a.1.outPoison || (r.2.2 && u.part.isVert) },
   modLine r.1 n l.trig fun l => { l with recN := l.recN + b2n r.2.1, poiN := l.poiN + b2n r.2.2 })

/-- An aligned line passes the resampler (R119 to R130).
[DEDUCED, unsafe: log entry 44] -/
def rsmpStage (s : State) (n : Nat) (l : LineRec) (al : Aligned) (f : LineFaults) : Option OutLine × State :=
  if l.rough ≠ 0 then (some (roughOut al), s) else
  let s := rsmpLagDecay (startY s n l.info.line) n (outPixels (rsmpCfg s n) l.sched.pixels)
  let cfg := rsmpCfg s n
  let tabs := (s.ch n).tabs
  let j := f.rsmp.foldl (rsmpJudge n l (rsmpPasses cfg tabs (s.ch n).rsmp al.rows (crossLine s n l al []))) (⟨[], false, false, false, false⟩, s)
  let v := crossLine s n l al j.1.stay
  let v : VLine := { v with poison := v.poison || j.1.poison, recomp := v.recomp || j.1.recomp }
  let r := vertical cfg tabs j.1.stay (j.2.ch n).rsmp v
  (r.2.map fun o => { o with poison := o.poison || j.1.outPoison, recomp := o.recomp || j.1.outRecomp }, j.2.modRsmp n fun _ => r.1)

/-! ## The packer. -/

/-- The format of a line's packet (R138, R149). -/
def lineFmt (s : State) (n : Nat) (l : LineRec) : Nat := if l.rough = 0 then s.rd (PACK_CFG_FMT n) else 0

/-- Early flags (R142). -/
def earlyFlags (o : OutLine) (join kerf gap rough : Bool) : Nat :=
  b2n o.spoil + 2 * b2n o.uncorr + 16 * b2n join + 64 * b2n kerf + 128 * b2n gap + 256 * b2n o.derate + 512 * b2n rough

/-- Late flags (R142). -/
def lateFlags (o : OutLine) (mis : Bool) : Nat := 4 * b2n o.poison + 8 * b2n o.recomp + 32 * b2n mis

/-- The bytes of a line packet (R138 to R143).
[DEDUCED, unsafe: log entry 44] -/
def lineBytes (s : State) (n : Nat) (l : LineRec) (im : Image) (o : OutLine) (flags mis : Nat) : List Byte :=
  let Q := (o.rows.getD 0 []).length
  let fmt := lineFmt s n l
  let h : Header := {
    kind := 1, node := nodeOf s, chan := n, jig := l.jig, fmt := fmt, flags := flags, vphase := o.vphase, line := l.info.line,
    ts := l.info.ts.toNat, pos := l.info.pos.toNat, edgeL := im.edgeL, edgeR := im.edgeR, paylen := payLen fmt Q,
    len := pktLen fmt Q, qm1 := Q - 1, stride := if fmtPlanar fmt then planeStride fmt Q / 64 else 0, sheet := im.sheet.num,
    index := im.sheet.index }
  packetBytes h (payload fmt o.rows Q) mis l.recN l.poiN

/-- A record that goes with a line. -/
def lineRecord (s : State) (n : Nat) (l : LineRec) (im : Image) (kind : Nat) (pay : List Byte) (place : PktPlace) (granted : Bool) :
    Pkt :=
  let e := l.info.spanEnd
  recordPkt kind e (recordBytes (recordHeader (nodeOf s) n l.jig kind e im.sheet.num im.sheet.index) pay) place granted true

/-- Sheet records of dropped lines, behind their marker (R220).
[DEDUCED, unsafe: log entry 43] -/
def droppedRecs (sp : Span) : List Pkt := sp.recs.map fun bs => recordPkt 3 sp.last bs .reserve false true

/-- The marker of the span that a granted line closes (R220): from the kerf reserve before the line's packet, or in the space granted to
a line that gives none (R219).
[DEDUCED, unsafe: log entry 51] -/
def grantedMarker (s : State) (n : Nat) (l : LineRec) (im : Image) (granted : Bool) : List Pkt × State :=
  match l.kerf with
  | none => ([], s)
  | some sp =>
    let r := spanMarker s n l.jig sp l.info.spanEnd im.sheet.num im.sheet.index granted
    ({ r.1 with place := if granted then .tail else .reserve } :: droppedRecs sp, countMarker r.2 n r.1.bytes)

/-- The join record that precedes a line, where one is due (R230).
[DEDUCED, unsafe: log entry 51] -/
def joinTake (s : State) (n : Nat) (l : LineRec) (im : Image) (place : PktPlace) (granted : Bool) :
    List Pkt × Option Bool × State :=
  let f := fifoOf s n
  match f.joinRes with
  | some r =>
    if !f.joinDue || decide (l.info.line < f.joinFrom) then ([], none, s) else
    let last := f.stopLine.getD { line := 0, pos := 0, ts := 0 }
    let pay := joinPayload r last l.info.spanEnd (s.rb (RSMP_VCFG_VMODE n)) (s.rd (FIFO_JOINLIM_LIM n))
    let s := joinCount (s.modFifo n fun f => { f with joinDue := false, joinRes := none }) n r l.info.line
    ([lineRecord s n l im 5 pay place granted], some r.mis, s)
  | none => ([], none, s)

/-- The gap record of line A (R253). -/
def gapTake (s : State) (n : Nat) (l : LineRec) (im : Image) (place : PktPlace) (granted : Bool) : List Pkt × State :=
  match (calOf s n).gapRec with
  | some pay =>
    if l.lineA then ([lineRecord s n l im 4 pay place granted], s.modCal n fun c => { c with gapRec := none }) else ([], s)
  | none => ([], s)

/-- Replace the first packet that meets a condition by others. -/
def spliceFirst (ps : List Pkt) (c : Pkt → Bool) (f : Pkt → List Pkt) : List Pkt :=
  match ps with
  | [] => []
  | p :: t => if c p then f p ++ t else p :: spliceFirst t c f

/-- The space granted to the oldest line not yet written. -/
def lineSpace (p : Pkt) : Bool := p.kind == 1 && !p.complete && p.granted

/-- A granted line with output is packed, with its records in order (R144). -/
def packLine (s : State) (n : Nat) (l : LineRec) (im : Image) (o : OutLine) : State :=
  let place := (((fifoOf s n).pkts.find? lineSpace).map (·.place)).getD .tail
  let m := grantedMarker s n l im false
  let g := gapTake m.2 n l im place true
  let j := joinTake g.2 n l im place true
  let s := j.2.2
  let f := fifoOf s n
  let mis := match j.2.1 with | some b => some b | none => f.joinMark
  let gap := !g.1.isEmpty || (calOf s n).calgapNext
  let bs := lineBytes s n l im o (earlyFlags o mis.isSome l.kerf.isSome gap (l.rough != 0)) (lateFlags o (mis == some true))
  let pkt (p : Pkt) : Pkt :=
    let bs := flipBytes p.flips bs
    let bs := if p.poisoned then recrc (setLate bs 4) else bs
    { p with info := l.info.spanEnd, bytes := bs, len := bs.length, complete := true, flips := [], extra := 0 }
  let sheet := match im.sheet.rec_ with | some pay => [lineRecord s n l im 3 pay place true] | none => []
  let s := s.modFifo n fun f =>
    { f with pkts := spliceFirst f.pkts lineSpace fun p => m.1 ++ g.1 ++ j.1 ++ (if p.discard then [] else [pkt p]) ++ sheet, joinMark := none }
  let s := s.wr64 (PACK_LASTLINE_LO_LINE n) (PACK_LASTLINE_HI_LINE n) l.info.line
  s.modCal n fun c => { c with calgapNext := false }

/-- A granted line that gives no output (R126, R218, R220): its space is released, but for what is recorded at once.
[DEDUCED, unsafe: log entry 42] -/
def packNothing (s : State) (n : Nat) (l : LineRec) (im : Image) : State :=
  let m := grantedMarker s n l im true
  let g := gapTake m.2 n l im .tail true
  let sheet := match im.sheet.rec_ with | some pay => [lineRecord g.2 n l im 3 pay .tail true] | none => []
  let s := g.2.modFifo n fun f => { f with pkts := spliceFirst f.pkts lineSpace fun _ => m.1 ++ g.1 ++ sheet }
  if g.1.isEmpty then s else s.modCal n fun c => { c with calgapNext := true }

/-- The sheet record of a dropped line joins the span that covers the line, or follows its marker (R220).
[DEDUCED, unsafe: log entry 43] -/
def droppedSheet (s : State) (n : Nat) (l : LineRec) (bs : List Byte) : State :=
  let covers (sp : Span) : Bool := decide (sp.first.line ≤ l.info.line) && decide (l.info.line ≤ sp.last.line)
  let add (sp : Span) : Span := if covers sp then { sp with recs := sp.recs ++ [bs] } else sp
  if ((s.ch n).pipe.lines.any fun x => x.kerf.any covers) || (fifoOf s n).span.any covers then
    s.modCh n fun c => { c with
      pipe := { c.pipe with lines := c.pipe.lines.map fun x => { x with kerf := x.kerf.map add } },
      fifo := { c.fifo with span := c.fifo.span.map add } }
  else reserveAppend s n [recordPkt 3 l.info.spanEnd bs .reserve false true]

/-- A dropped line leaves (R218 to R220): its records go to the kerf reserve. -/
def packDropped (s : State) (n : Nat) (l : LineRec) (im : Image) : State :=
  let s := if l.lineA then gapToReserve s n l.info.spanEnd else s
  let s := if im.out.isNone then s else
    let j := joinTake s n l im .reserve false
    match j.2.1 with
    | some b => (reserveAppend j.2.2 n j.1).modFifo n fun f => { f with joinMark := some b }
    | none => s
  match im.sheet.rec_ with
  | some pay =>
    droppedSheet s n l (recordBytes (recordHeader (nodeOf s) n l.jig 3 l.info.spanEnd im.sheet.num im.sheet.index) pay)
  | none => s

/-! ## LINE_COMPLETE. -/

/-- The trailing row of a line: that of the first colour with offset 0.
[DEDUCED, unsafe: log entry 52] -/
def trailRow (l : LineRec) : List Nat := lineRow l (((List.range 3).find? fun c => l.sched.offs.getD c 0 == 0).getD 0)

def joinRow (l : LineRec) : JoinRow :=
  { line := l.info.line, means := tileMeans (trailRow l), usable := !(l.poison || l.spoil) }

/-- A line is done with. -/
def lineGone (s : State) (n : Nat) (l : LineRec) : State :=
  runEnd (s.modPipe n fun p => { p with lines := p.lines.filter fun x => x.trig != l.trig }) n

/-- A normal line that is no gap line leaves. -/
def normalLine (s : State) (n : Nat) (l : LineRec) (f : LineFaults) : State :=
  let s := lateDue s n l.trig
  let a := alignStage s n l f
  let e := edgeStage a.2 n l a.1.rows f
  let open_ := match (e.2.2.2.ch n).rsmp.sheet with | some sh => sh.num | none => 0
  let r := rsmpStage (sheetSpans e.2.2.2 n l.info.line e.2.2.1.num open_) n l a.1 f
  let s := r.2
  let im : Image := { out := r.1, edgeL := e.1, edgeR := e.2.1, sheet := e.2.2.1 }
  let l := lineNow s n l
  let s := stripLine s n l (s.calList n)
  let s := if l.capUse then captureLine s n l else s
  let s := s.modFifo n fun f => { f with normal := (joinRow l :: f.normal).take 8 }
  let s := match l.granted, r.1 with
    | true, some o => packLine s n l im o
    | true, none => packNothing s n l im
    | false, _ => packDropped s n l im
  lineGone (fifoWatch (finishReserve s n) n) n l

/-- The oldest line of channel n has arrived and passed its checks (R27, R113, R228, R241, R252). -/
def lineComplete (s : State) (n : Nat) (f : LineFaults) : State :=
  match (s.ch n).pipe.lines with
  | [] => s
  | l :: _ =>
    if !lineReady s n l then s else
    match l.kind with
    | .capture => lineGone (if l.capUse then captureLine s n l else s) n l
    | .overlap => lineGone (s.modFifo n fun f => { f with overlap := joinRow l :: f.overlap }) n l
    | .normal =>
      if l.gap then
        let s := stripLine s n l true
        lineGone (if l.capUse then captureLine s n l else s) n l
      else normalLine s n l f

/-! ## The join (R228, R229). -/

/-- JOIN_RESULT: the correlator's result, once every overlap line has passed. -/
def joinDone (s : State) (n : Nat) : State :=
  let f := fifoOf s n
  if !f.joinDue || f.joinRes.isSome || (s.ch n).pipe.lines.any (fun l => l.kind == .overlap) then s else
  let v := s.rb (RSMP_VCFG_VMODE n)
  let r := joinResult f v (s.rd (FIFO_JOINLIM_LIM n))
  let s := s.modFifo n fun f => { f with joinRes := some r }
  let s := if v && r.ran then s.modRsmp n fun x => { x with y := x.y - 4096 * r.off } else s
  if f.joinWait then dtJoined s n else s

/-! ## Cut-through (R214). -/

/-- Output pixels of a line whose input pixels are among the first k. -/
def readyPixels (cfg : RsmpCfg) (P k : Nat) : Nat :=
  if P ≤ k then outPixels cfg P
  else if cfg.bypass then k
  else ((List.range (cfg.qm1 + 1)).takeWhile fun (j : Nat) =>
    decide (((phaseOf (cfg.x0 + j * cfg.step)).2 + 5) * cfg.bin ≤ (k : Int))).length

/-- The payload bytes in the tail of the line that is being packed: those of the pixels of its leading tiles, in whole quarters of the
SRAM's words (R211).
[DEDUCED, unsafe: log entry 51] -/
def cutBytes (s : State) (n : Nat) : List Byte :=
  match (s.ch n).pipe.lines.find? (fun l => l.kind == .normal && !l.gap) with
  | none => []
  | some l =>
    let blocked := !l.granted || l.kerf.isSome || l.lineA || joinWaits s n l || (fifoOf s n).joinDue ||
      ((s.ch n).late.any fun x => decide (x.trig ≤ l.trig)) || (s.ch n).rsmp.yAt.isSome
    if blocked then [] else
    let k := 64 * tilesReady l
    let P := l.sched.pixels
    let al := alignLine (s.ch n).pipe l
    let cfg := rsmpCfg s n
    let out := if l.rough ≠ 0 then some (roughOut al) else (vertical cfg (s.ch n).tabs [] (s.ch n).rsmp (crossLine s n l al [])).2
    match out with
    | none => []
    | some o =>
      let Q := (o.rows.getD 0 []).length
      let q := if l.rough ≠ 0 then min k P else readyPixels cfg P k
      let fmt := lineFmt s n l
      let bs := payload fmt o.rows Q
      let k := if fmtPlanar fmt then q else 3 * q
      let len := if Q ≤ q then bs.length else if fmtContainer fmt then 2 * k else k * fmtWidth fmt / 8
      bs.take (len / 16 * 16)

/-- The words of the FIFO SRAM that hold the oldest packet, as the packer has written them (R211). -/
def frontWords (s : State) (n : Nat) : List SramWord :=
  match (fifoOf s n).pkts with
  | [] => []
  | p :: _ => if p.complete then sramWords p.bytes else sramWords (cutBytes s n)

end Sys2Proof.Machine
end

