-- ==== Sys2Proof/Machine/BarOps.lean ====
section
/-! DEFINITION. Machine/BarOps.lean: the sensor bar's bring-up and power-down (spec/03_sensor_timing_lanes.md R92 to R94), the SPI slot
(R79), internal line marks and LD_SYNC (spec/06_illumination.md R154, R159). -/

namespace Sys2Proof.Machine

/-! ## Bring-up (R92). -/

/-- SNS_n_CTL.UP: ignored unless the state is OFF (R97). CAUSE returns to 0 with it, as it does at READY.
[DEDUCED, unsafe: log entry 35] -/
def snsUp (s : State) (n : Nat) : State :=
  if snsState s n ≠ 0 || s.bootHoming n then s else (s.wr (SNS_STAT_STATE n) 1).wr (SNS_STAT_CAUSE n) 0

/-- The debounce ends: SN_n_PRES_N was low for 10 ms, or the limit found it high.
[DEDUCED, unsafe: log entry 35] -/
def debounceEnd (s : State) (n : Nat) (low : Bool) : State :=
  if snsState s n ≠ 1 then s
  else if low then ((s.wr (SNS_STAT_STATE n) 2).wr (SNS_STAT_PEN n) 1).wr (SNS_STAT_PRES n) 1
  else (((s.wr (SNS_STAT_STATE n) 0).wr (SNS_STAT_CAUSE n) 1).wr (SNS_STAT_PRES n) 0).raise ((ev (EV_SNS_ABSENT n)).code_ 1)

/-- The power-up wait ends: MCLK starts and the CTL pins take their idle levels. -/
def powerWaitEnd (s : State) (n : Nat) : State :=
  if snsState s n ≠ 2 then s else
  snsOutputsOn (s.wr (SNS_STAT_STATE n) 3) n

/-- 100 µs later the init list is sent. -/
def initWaitEnd (s : State) (n : Nat) : State :=
  if snsState s n ≠ 3 || (s.ch n).sns.job.isSome then s else snsInitStep s n 0

/-- Lane training ends, with every lane ready or after 500 µs. -/
def trainEnd (s : State) (n : Nat) : State := if snsState s n = 4 then snsTrainEnd s n else s

/-- SNS_n_CTL.RETRAIN: ignored unless READY and not running (R92, R97).
[DEDUCED, unsafe: log entry 35] -/
def snsRetrain (s : State) (n : Nat) : State :=
  if !snsReady s n || s.running n then s else snsTrain (s.modSns n fun u => { u with retraining := true }) n

/-! ## Power-down and removal (R94). -/

/-- A line in readout is delivered with POISON; nothing more comes for it. -/
def lineLost (l : LineRec) : LineRec :=
  if l.rx.all fun r => r.ended then l
  else { l with poison := true, rx := l.rx.map fun r => { r with started := true, ended := true } }

def readoutLost (s : State) (n : Nat) : State := s.modPipe n fun p => { p with lines := p.lines.map lineLost }

/-- SNS_n_CTL.DOWN: ignored while the channel runs (R94, R97).
[DEDUCED, unsafe: log entry 35] -/
def snsDown (s : State) (n : Nat) : State :=
  if s.running n then s else
  ((readoutLost (snsPowerOff s n) n).wr (SNS_STAT_STATE n) 0).wr (SNS_STAT_CAUSE n) 0

/-- SN_n_PRES_N goes high for 1 µs.
[DEDUCED, unsafe: log entry 35] -/
def barRemoved (s : State) (n : Nat) : State :=
  let s := s.wr (SNS_STAT_PRES n) 0
  if !s.rb (SNS_STAT_PEN n) then s else
  let s := readoutLost (snsPowerOff s n) n
  let s := (s.wr (SNS_STAT_STATE n) 6).wr (SNS_STAT_CAUSE n) 5
  (runClear s n).raise ((ev (EV_SNS_ABSENT n)).code_ 5)

/-- SN_n_PRES_N has been low for 10 ms. -/
def barPresent (s : State) (n : Nat) : State := (s.wr (SNS_STAT_PRES n) 1).raise (ev (EV_SNS_PRESENT n))

/-! ## The SPI slot (R79). -/

/-- The SPI slot of the newest line opens, while the channel runs.
[DEDUCED, unsafe: log entry 32] -/
def spiSlot (s : State) (n : Nat) : State :=
  if !s.running n then s else
  match (s.ch n).pipe.lines.getLast? with
  | none => s
  | some l =>
    spiSlotNext (s.modSns n fun u =>
      { u with slotTrig := some l.trig, slotLeft := l.sched.slotEnd - l.sched.slotStart, slotSteers := u.steerWait.length }) n

/-! ## Lamps between lines. -/

/-- An internal line mark (R154): only with an active jig and the channel not running. -/
def internalMark (s : State) (n : Nat) : State :=
  if s.running n || s.rb (GLB_SW_STAT_NOJIG n) then s else lmpLineStart s n s.now none false

/-- GLB_LDSYNC.PULSE (R159): with OUT set LD_SYNC goes low for 1 µs, and the device's own channels see its edge. -/
def ldSyncPulse (s : State) : State :=
  if !s.rb GLB_LDSYNC_OUT || s.ldLow then s else ldSyncEdge ({ s with ldLow := true }.emit (.pin "LD_SYNC" 0 false))

/-- The pulse ends and the pin is released. -/
def ldSyncPulseEnd (s : State) : State := if s.ldLow then { s with ldLow := false }.emit (.pin "LD_SYNC" 0 true) else s

/-- A falling edge on LD_SYNC as an input: with OUT set the pin is the device's own. -/
def ldSyncPin (s : State) : State := if s.rb GLB_LDSYNC_OUT then s else ldSyncEdge s

end Sys2Proof.Machine
end

