-- ==== Sys2Proof/Machine/UpdOps.lean ====
section
/-! DEFINITION. Machine/UpdOps.lean: the library in use and its update: the library window of BAR 2 and verification
(spec/02_jigs_boot_job_switch.md R48, R49), and the update of the flash library (R65). -/

namespace Sys2Proof.Machine

/-! ## Verification (R49). -/

/-- GLB_LIBCTL.VERIFY: the jig number is taken, with BUSY until the check ends. -/
def verifyStart (s : State) (j : Nat) : State :=
  if s.rb GLB_LIBCTL_BUSY then s else (s.wr GLB_LIBCTL_BUSY 1).modBoot fun b => { b with verify := some j }

/-- The check ends: the valid bit, or EV_JIG_BAD with the failing check.
[DESIGN CHOICE, unsafe: log entry 18] -/
def verifyDone (s : State) : State :=
  match s.boot.verify with
  | none => s
  | some j =>
    let s := (s.wr GLB_LIBCTL_BUSY 0).modBoot fun b => { b with verify := none }
    let c := jigCheck s.keyHash (jigFor s none j) j none
    let s := signReport (setJigBit s j (c == 0)) (jigFor s none j)
    if c = 0 then s else s.raise ((ev EV_JIG_BAD).code_ c)

/-! ## The library update (R65). -/

def State.modUpd (s : State) (f : UpdSt → UpdSt) : State := { s with upd := f s.upd }

/-- An update is under way. -/
def updBusy (s : State) : Bool := 1 ≤ s.rd GLB_UPDSTAT_STATE && s.rd GLB_UPDSTAT_STATE ≤ 5

/-- The update goes to its next state, with nothing of it done. -/
def updState (s : State) (st : Nat) : State := (s.wr GLB_UPDSTAT_STATE st).wr GLB_UPDSTAT_PROG 0

/-- The inactive slot: B beside an active A, else A.
[DEDUCED, unsafe: log entry 30] -/
def updSlot (s : State) : Nat := if s.rd GLB_BOOTSTAT_SLOT = 1 then 2 else 1

/-- Flash bytes [a, a + n) are erased.
[PRESUMED, unsafe: log entry 4] -/
def flashErase (s : State) (i a n : Nat) : State :=
  { s with flash := s.flash.modify i fun f => f.filter fun p => decide (p.1 < a ∨ a + n ≤ p.1) }

/-- The inactive slot is left without a valid header: the block that would hold it is erased (R65).
[DEDUCED, unsafe: log entry 30] -/
def updNoHeader (s : State) : State :=
  match flashUsed s with
  | some (i, size) => flashErase s i (slotBase size (updSlot s)) 0x10000
  | none => s

/-- The update fails with a cause, at whatever step. -/
def updFail (s : State) (cause : Nat) : State :=
  (((updState (updNoHeader s) 7).wr GLB_UPDSTAT_CAUSE cause).modUpd fun _ => UpdSt.init).raise ((ev EV_UPD_FAIL).code_ cause)

/-- Flash bytes are programmed. -/
def flashProgram (s : State) (i a : Nat) (bs : List Byte) : State :=
  { s with flash := s.flash.modify i fun f => (bs.foldl (fun (m : List (Nat × Byte) × Nat) b => (sput erased m.1 m.2 b, m.2 + 1)) (f, a)).1 }

/-- Why a fetched header is refused, as GLB_UPDSTAT.CAUSE; 0 where it is accepted.
[DEDUCED, unsafe: log entry 30] -/
def updHeaderCause (s : State) (h : List Byte) (len slot : Nat) : Nat :=
  if fieldAt h 0 4 ≠ 0x424C5853 ∨ fieldAt h 4 2 ≠ 1 ∨ fieldAt h 0x3C 4 ≠ crc32 (h.take 0x3C ++ (h.drop 0x40).take 0x400) then 1
  else if slot < libLen h ∨ slot < len then 3
  else if libGen h ≤ s.rd GLB_LIBGEN_GEN then 2
  else 0

/-- Bytes [a, a + n) of host memory; none where one of them is not returned. Every piece is used at most once. -/
def memRead : Nat → HostMem → Nat → Nat → Option (List Byte)
  | _, _, _, 0 => some []
  | 0, _, _, _ + 1 => none
  | f + 1, mem, a, n + 1 =>
    match mem.find? fun p => decide (p.1 ≤ a ∧ a < p.1 + p.2.length) with
    | none => none
    | some p =>
      let bs := (p.2.drop (a - p.1)).take (n + 1)
      (memRead f mem (a + bs.length) (n + 1 - bs.length)).map fun r => bs ++ r

/-- Bytes [skip, skip + n) of the buffer that a scatter list describes, from its element at `at_` in the segment at `seg` (R274); none where
a read fails, the list breaks a rule of its format, or it ends before them.
[DEDUCED, unsafe: log entry 30] -/
def listRead : Nat → HostMem → Nat → Nat → Nat → Nat → Option (List Byte)
  | _, _, _, _, _, 0 => some []
  | 0, _, _, _, _, _ + 1 => none
  | f + 1, mem, at_, seg, skip, n + 1 =>
    match memRead mem.length mem at_ 16 with
    | none => none
    | some b =>
      let a := fieldAt b 0 8
      let l := fieldAt b 8 4
      let c := fieldAt b 12 4
      let next := fun skip m => if bit c 30 && decide (0 < m) then none else listRead f mem (at_ + 16) seg skip m
      if bits c 29 0 ≠ 0 then none
      else if bit c 31 then (if a = seg then none else listRead f mem a a skip (n + 1))
      else if l = 0 then none
      else if l ≤ skip then next (skip - l) (n + 1)
      else
        match memRead mem.length mem (a + skip) (min (l - skip) (n + 1)) with
        | none => none
        | some d => (next 0 (n + 1 - d.length)).map fun r => d ++ r

/-- The internal fetch path reads bytes [skip, skip + n) of the image through its scatter list (R65, R274). A walk that meets every element
of what is returned, and as many again as bytes are wanted, goes round in LINKs.
[DEDUCED, unsafe: log entry 30] -/
def updFetch (mem : HostMem) (list skip n : Nat) : Option (List Byte) :=
  listRead ((mem.map fun p => p.2.length / 16 + 1).foldl (· + ·) n) mem list list skip n

/-- Address of the scatter list (R68). -/
def updList (s : State) : Nat := s.rd GLB_UPDADDR_LO_ADDR + 2 ^ 32 * s.rd GLB_UPDADDR_HI_ADDR

/-- GLB_UPDCTL.START: the first 1,088 bytes of the image are fetched, and the header is judged.
[DEDUCED, unsafe: log entry 30] -/
def updStart (s : State) (mem : HostMem) : State :=
  if updBusy s then s else
  let s := (updState s 1).wr GLB_UPDSTAT_CAUSE 0
  match updFetch mem (updList s) 0 1088, flashUsed s with
  | none, _ => updFail s 4
  | some _, none => updFail s 5
  | some h, some (i, size) =>
    let len := s.rd GLB_UPDLEN_LEN
    let c := updHeaderCause s h len (slotBytes size)
    if c ≠ 0 then updFail s c else
    -- the block that holds the header is erased first
    updState (flashErase (s.modUpd fun _ => { image := h, list := updList s, addr := slotBase size (updSlot s), len := len }) i
      (slotBase size (updSlot s)) 0x10000) 2

/-- GLB_UPDCTL.ABORT. -/
def updAbort (s : State) : State := if updBusy s then updFail s 8 else s

/-- Why the slot as read back fails (R41, R46): 6 a jig or CRC, 7 the signature; 0 where it is valid.
[DEDUCED, unsafe: log entry 30] -/
def updVerifyCause (s : State) (img : List Byte) : Nat :=
  let jigs := (List.range 64).all fun j => match libJigCheck s.keyHash img j with | some c => c == 0 | none => true
  if !jigs || decide (64 ≤ libBootJig img) || (libJig img (libBootJig img)).isNone then 6
  else if !signOk s.keyHash img then 7
  else 0

/-- A phase of the update ends and the next follows (R65 steps 3 to 6). -/
def updPhase (s : State) (r : UpdPhase) : State :=
  match flashUsed s with
  | none => if updBusy s then updFail s 5 else s
  | some (i, _) =>
    let u := s.upd
    match s.rd GLB_UPDSTAT_STATE with
    | 2 =>
      if !r.flash then updFail s 5 else updState (flashErase s i u.addr (alignUp u.len 0x10000)) 3
    | 3 =>
      (match updFetch r.fetched u.list 1088 (u.len - 1088) with
       | none => updFail s 4
       | some rest =>
         if !r.flash then updFail s 5 else
         let img := u.image ++ rest
         updState (flashProgram (s.modUpd fun u => { u with image := img }) i (u.addr + 64) (img.drop 64)) 4)
    | 4 =>
      if !r.flash then updFail s 5 else
      let img := u.image.take 64 ++ flashBytes (s.flash.getD i []) (u.addr + 64) (libLen u.image - 64)
      let s := signReport s img
      let c := updVerifyCause s img
      if c ≠ 0 then updFail s c else updState s 5
    | 5 =>
      if !r.flash then updFail s 5 else
      (updState (flashProgram (s.modUpd fun _ => UpdSt.init) i u.addr (u.image.take 64)) 6).raise (ev EV_UPD_DONE)
    | _ => s

end Sys2Proof.Machine
end

