-- ==== Sys2Proof/Machine/PortOps.lean ====
section
/-! DEFINITION. Machine/PortOps.lean: the register write port (spec/01_architecture.md R33, spec/16_register_map.md R385, R400 to R404):
what a write of one DW does to a register or a table, whoever makes it, and what a read of one DW answers. The command bits of every
register call the same operations as the commands that have a row of their own. -/

namespace Sys2Proof.Machine

/-! ## Locks and access codes (R9, R402 to R404). -/

/-- The bits of a field that a write changes.
[DEDUCED, unsafe: log entry 12] -/
def openBits (s : State) (f : Fld) : Word :=
  match f.acc with
  | .rw => f.mask
  | .rws => f.mask
  | .rwl =>
    if f.addr = UMD_CFG_TICKSRC.addr then f.mask &&& ~~~ BitVec.ofNat 32 (s.rd GLB_CHSTAT_RUNNING)
    else if s.running (chanOf f.addr) then 0 else f.mask
  | _ => 0

/-- The bits of a register that a write changes. -/
def openMask (s : State) (a : Nat) : Word :=
  if isEvTable a then evTableMask a else (fieldsAt a).foldl (fun m f => m ||| openBits s f) 0

/-- The bits of a register that a 1 clears. -/
def clearMask (a : Nat) : Word := (fieldsAt a).foldl (fun m f => if f.acc = .w1c then m ||| f.mask else m) 0

/-- A register's word after a plain write. -/
def portWord (s : State) (a : Nat) (w : Word) : Word :=
  ((s.word a &&& ~~~ openMask s a) ||| (w &&& openMask s a)) &&& ~~~ (w &&& clearMask a &&& ~~~ s.justBits a)

/-- A plain write.
[DEDUCED, unsafe: log entry 14] -/
def portPut (s : State) (a : Nat) (w : Word) : State := regPut s a (portWord s a w)

/-- A command bit of a written word. -/
def onBit (w : Word) (i : Nat) (f : State → State) (s : State) : State := if bit w.toNat i then f s else s

/-! ## Tables (R102, R400, R401). -/

/-- A DW of a table window that is no shading profile and not reserved. -/
def tableDw (off : Nat) : Bool :=
  (0x60000 ≤ off && off < 0x60600) || (0x60800 ≤ off && off < 0x60840) || (0x61000 ≤ off && off < 0x61180) ||
  (0x64000 ≤ off && off < 0x6C080)

/-- Does the pending switch of channel n change PIPE_n_CFG.PROF (R102)? -/
def profStage (s : State) (n : Nat) : Bool :=
  match (swIndex s n).bind (s.switches[·]?) with
  | none => false
  | some r =>
    if bit r.armed n then r.profs.any (·.1 == n) else
    let f := PIPE_CFG_PROF n
    let t := ((chanEntries (jigFor s (some n) r.jig) n).filter fun e => e.1 == f.addr).foldl (fun t e => imagePut t e.1 e.2) s
    t.rd f != s.rd f

/-- A write to the shading profile window (R102). -/
def profileWrite (s : State) (n off : Nat) (w : Word) : State :=
  if shadowBusy s n (profStage s n) then s.raise (ev (EV_PIPE_SHD_BUSY n)) else shadowWrite s n off (leBytes 4 w.toNat)

/-- A write to another table: ignored while the channel runs. -/
def tableWrite (s : State) (n off : Nat) (w : Word) : State :=
  if s.running n || !tableDw off then s else
  let s := s.modCh n fun c => { c with tabs := writeBytes c.tabs off (leBytes 4 w.toNat) }
  cmpRest (showLamp (sinkUpdate s n) n) n

/-- A write through a table window. -/
def windowWrite (s : State) (a : Nat) (w : Word) : State :=
  let n := (a - 0x200000) / 0x80000
  let off := (a - 0x200000) % 0x80000
  if off < 0x60000 then profileWrite s n off w else tableWrite s n off w

/-! ## Operations of one register each. -/

/-- PIPE_n_CTL.SWAP (R103): refused, ignored while one waits, or pending with the SWVALID of the write. -/
def swapRequest (s : State) (n : Nat) : State :=
  if shadowBusy s n (profStage s n) then s.raise (ev (EV_PIPE_SHD_BUSY n))
  else if s.rb (PIPE_STAT_SWPEND n) then s
  else (s.modPipe n fun p => { p with swapPend := some (s.rb (PIPE_CTL_SWVALID n), s.now) }).wr (PIPE_STAT_SWPEND n) 1

/-- A pending swap takes effect while the channel is not running (R103); a running channel's waits for its trigger. -/
def swapIdle (s : State) (n : Nat) : State :=
  match (s.ch n).pipe.swapPend with
  | some (v, _) =>
    if s.running n then s else ((profileSwap s n v).modPipe n fun p => { p with swapPend := none }).wr (PIPE_STAT_SWPEND n) 0
  | none => s

/-- A write of a gain register (R100). -/
def gainPut (s : State) (n a : Nat) (w : Word) : State :=
  let s := portPut s a w
  gainWrite s n a (s.word a)

/-- A write of LMP_n_PWMCFG or LMP_n_DIAGCFG (R164): refused where it would leave a sink without a diagnosis mode. -/
def lampCfgPut (s : State) (n a : Nat) (w : Word) : State :=
  let v := portWord s a w
  let t := s.setWord a v
  if v = s.word a then s else if lampCfgOk t n (lampCfg t n) then regPut s a v else lampRefuse s n

/-- A write of VSTART to DLIM of an axis (R194). -/
def axisParamPut (s : State) (n a off : Nat) (w : Word) : State :=
  let r := paramWrite s n a off w.toNat
  if r.2 then driveForward r.1 (chBase n + 0x18100 + 0x100 * a + off) else r.1

/-- A configuration that R351 refuses leaves the register as it was.
[DEDUCED, unsafe: log entry 61] -/
def umdCfgPut (s : State) (a : Nat) (w : Word) : State :=
  let t := portPut s a w
  if (List.range 4).all (umdOk t) then t else s.raise (ev EV_UMD_CFG)

/-- NEXT and CRBASE are locked while the queue runs, is paused or is halted (R292).
[DEDUCED, unsafe: log entry 55] -/
def queueLocked (s : State) (q : Nat) : Bool :=
  match (dmaQ s q).mode with
  | .run => true
  | .reg => true
  | .halted => true
  | .abort => true
  | .idle => false
  | _ => s.rb (DMAQ_CTL_PAUSE q)

/-- SNS_n_CTL.CLRCNT and its like (R381). -/
def umdClear (s : State) : State := s.clear umdCounters

/-- The counters of the event unit (R383). -/
def evtCounters : List Fld := [EVT_LOST_COUNT, EVT_TRK_FULL]

/-- EVT_CTL.CLRCNT (R383). -/
def evtClear (s : State) : State := s.clear evtCounters

/-- Each channel whose bit is set, in ascending order. -/
def eachChan (m : Nat) (f : State → Nat → State) (s : State) : State := (maskChans m).foldl f s

/-- CLK_RSTCTL (R56, R383): a warm reset covers channel resets. -/
def rstCtl (s : State) (w : Word) : State :=
  if CLK_RSTCTL_WARM.of w = 1 then warmReset s else eachChan (CLK_RSTCTL_CHRST.of w) channelReset s

/-! ## Command registers of the channels. -/

/-- A GO that a HALT of the same control clock meets (R193): refused as on a moving axis, unless another cause holds.
[DEDUCED, unsafe: log entry 49] -/
def goRefuse (s : State) (n a : Nat) : State := axisRefuse s n a ((startCause s n a true).getD 1)

/-- MOT_n_a_CTL (R192, R193, R197, R199, R206): a HALT is taken and the GO of its write refused; an ESTOP brakes what starts.
[DEDUCED, unsafe: log entry 49] -/
def axisCtl (s : State) (n a : Nat) (w : Word) : State :=
  let s := portPut s (MOTA_CTL_REL n a).addr w
  let s := onBit w 27 (fun s => axisClrFlt s n a) s
  let s := onBit w 31 (fun s => if bit w.toNat 29 then goRefuse s n a else (axisMove s n a (regTarget s n a) .host).1) s
  let s := onBit w 28 (fun s => axisHome s n a .host) s
  let s := onBit w 29 (fun s => axisHalt s n a) s
  let s := onBit w 26 (fun s => axisEstop s n a) s
  motWatch (showAxis s n a) n

/-- MOT_n_CTL (R193, R198, R210): a HALTALL refuses the coordinated GO of its write.
[DEDUCED, unsafe: log entry 49] -/
def motCtl (s : State) (n : Nat) (w : Word) : State :=
  let s := portPut s (MOT_CTL_GMASK n).addr w
  let s := onBit w 28 (fun s =>
    if bit w.toNat 30 then (maskAxes (s.rd (MOT_CTL_GMASK n))).foldl (fun s a => goRefuse s n a) s else groupGo s n) s
  let s := onBit w 30 (fun s => haltAll s n) s
  let s := onBit w 29 (fun s => estopAll s n) s
  let s := onBit w 31 (fun s => s.clear (motCounters n)) s
  motWatch (iterate 4 s fun s a => showAxis s n a) n

def snsCtl (s : State) (n : Nat) (w : Word) : State :=
  let s := onBit w 30 (fun s => snsDown s n) s
  let s := onBit w 31 (fun s => snsUp s n) s
  let s := onBit w 29 (fun s => snsRetrain s n) s
  onBit w 28 (fun s => s.clear (snsCounters n)) s

def pipeCtl (s : State) (n : Nat) (w : Word) : State :=
  let s := portPut s (PIPE_CTL_SWVALID n).addr w
  let s := onBit w 31 (fun s => swapRequest s n) s
  onBit w 29 (fun s => s.clear (pipeCounters n)) s

def fifoCtl (s : State) (n : Nat) (w : Word) : State :=
  let s := onBit w 31 (fun s => s.clear (fifoCounters n)) s
  onBit w 30 (fun s => fifoFlush s n) s

/-- STOP before RESUME, so that a RESUME of the same write is held for the stop (R227).
[DEDUCED, unsafe: log entry 52] -/
def dtCtl (s : State) (n : Nat) (w : Word) : State :=
  let s := onBit w 31 (fun s => dtStop s n) s
  motWatch (onBit w 30 (fun s => dtResume s n) s) n

def lmpCtl (s : State) (n : Nat) (w : Word) : State :=
  let s := portPut s (LMP_CTL_OFF n).addr w
  let s := onBit w 29 (fun s => showLamp (fadeStop s n) n) s
  onBit w 30 (fun s => s.clear (lmpCounters n)) s

def posCtl (s : State) (n : Nat) (w : Word) : State :=
  let s := onBit w 31 (fun s => posPreset s n) s
  let s := onBit w 29 (fun s => absLoad s n) s
  let s := onBit w 30 (fun s => absRead s n (s.tick 0)) s
  onBit w 28 (fun s => s.clear (posCounters n)) s

/-- CAL_n_CTL.START starts the calibration list (R248). -/
def calStartNow (s : State) (n : Nat) : State := seqStart s n 2

/-- CAL_n_CTL.ABORT ends the calibration list as failed (R256). -/
def calAbortNow (s : State) (n : Nat) : State := if s.calList n then seqAbortWatch s (n + 1) else s

def calCtl (s : State) (n : Nat) (w : Word) : State :=
  let s := portPut s (CAL_CTL_SLOT n).addr w
  let s := onBit w 30 (fun s => calAbortNow s n) s
  let s := onBit w 31 (fun s => calStartNow s n) s
  let s := onBit w 29 (fun s => calEval s n) s
  let s := onBit w 28 (fun s => calStore s n) s
  let s := onBit w 27 (fun s => calLoad s n (s.rd (CAL_CTL_SLOT n))) s
  onBit w 26 (fun s => s.clear (calCounters n)) s

/-- A write to a register of channel n at channel offset o.
[DEDUCED, unsafe: log entry 68] -/
def chanWrite (s : State) (n o : Nat) (w : Word) : State :=
  let a := chBase n + o
  if o = 0x0 then snsCtl s n w
  else if o = 0x14 then onBit w 31 (fun s => spareForLane s n (s.rd (SNS_SPARE_LANE n)) false) (portPut s a w)
  else if o = 0x20 then
    onBit w 31 (fun s => spiGo s n (s.rb (SNS_SPICMD_NOSPOIL n)) (s.rd (SNS_SPICMD_LEN n))) (portPut s a w)
  else if o = 0x4004 then pipeCtl s n w
  else if o = 0x400C then onBit w 31 (fun s => sliceForce s n (s.rd (PIPE_SPARE_SLICE n))) (portPut s a w)
  else if 0x4010 ≤ o ∧ o < 0x4020 then gainPut s n a w
  else if o = 0x8000 then onBit w 31 (fun s => s.clear (rsmpCounters n)) s
  else if o = 0xC000 then umdCfgPut s a w
  else if o = 0xC004 then fifoCtl s n w
  else if o = 0xC084 then dtCtl s n w
  else if o = 0x10000 then lmpCtl s n w
  else if 0x10010 ≤ o ∧ o < 0x10020 then
    levelWrite s n ((o - 0x10010) / 4) ((LMP_LV_LEVEL n 0).of w) ((LMP_LV_FADE n 0).of w)
  else if o = 0x10038 ∨ o = 0x10080 then lampCfgPut s n a w
  else if o = 0x10084 then lampFaultClear s n w
  else if o = 0x14004 then posCtl s n w
  else if o = 0x18000 then motCtl s n w
  else if 0x18100 ≤ o ∧ o < 0x18500 ∧ o % 0x100 = 0x04 then axisCtl s n ((o - 0x18100) / 0x100) w
  else if 0x18100 ≤ o ∧ o < 0x18500 ∧ 0x18 ≤ o % 0x100 ∧ o % 0x100 ≤ 0x38 then
    if openMask s a = 0 then s else axisParamPut s n ((o - 0x18100) / 0x100) (o % 0x100) w
  else if o = 0x1C004 then calCtl s n w
  else portPut s a w

/-! ## Command registers of the device. -/

/-- DMA_Q_q_CTL (R282, R285, R290, R292): ABORT is taken alone, and PAUSE comes before a start. -/
def queueCtl (s : State) (q : Nat) (w : Word) : State :=
  let s := portPut s (DMAQ_CTL_PAUSE q).addr w
  let s :=
    if bit w.toNat 28 then dmaAbort s q else
    let s := onBit w 29 (fun s => dmaResume s q) s
    let s := onBit w 30 (fun s => dmaStart s q) s
    onBit w 31 (fun s => dmaGo s q) s
  onBit w 26 (fun s => s.clear (dmaCounters q)) s

/-- A write to a register of queue q at queue offset o. -/
def queueWrite (s : State) (q o : Nat) (w : Word) : State :=
  let a := 0x11000 + 0x100 * q + o
  if o = 0x0 then queueCtl s q w
  else if o = 0x4 then
    srcWrite (s.setWord a (keepFld (DMAQ_CFG_SRC q) (s.word a) (portWord s a w))) q ((DMAQ_CFG_SRC q).of w)
  else if o = 0xC then doorbell s q
  else if o = 0x10 ∨ o = 0x14 ∨ o = 0x28 ∨ o = 0x2C then
    (if queueLocked s q then s.raise ((ev EV_DMA_CFG).at_ 6 q) else portPut s a w)
  else portPut s a w

def drcCtl (s : State) (k : Nat) (w : Word) : State :=
  let s := onBit w 31 (fun s => s.clear (drcCounters k)) s
  let s := onBit w 30 (fun s => drcPprNow s k) s
  onBit w 29 (fun s => drcTrain s k) s

/-- A write to a register of controller k at block offset o; the masks are locked by MAPLOCK (R301). -/
def drcWrite (s : State) (k o : Nat) (w : Word) : State :=
  let a := 0x20000 + 0x4000 * k + o
  if o = 0x4 then drcCtl s k w
  else if 0x10 ≤ o ∧ o < 0x28 ∧ s.rb (DRC_STAT_MAPLOCK k) then s
  else portPut s a w

/-- MON_CTL (R327, R331, R335): SNAP takes its SNAPRST from the same write. -/
def monCtl (s : State) (w : Word) : State :=
  let s := portPut s MON_CTL_RUN.addr w
  let s := onBit w 30 (fun s => monSnap s (bit w.toNat 29)) s
  let s := onBit w 28 monDiag s
  onBit w 27 (fun s => s.clear monCounters) s

def monWrite (s : State) (a : Nat) (w : Word) : State :=
  if a = MON_CTL_RUN.addr then monCtl s w
  else if a = MON_INJCTL_GO.addr then onBit w 31 (fun s => monTriggerSrc s 0 0 0) s
  else if a = MON_SYSCAL_ZERO.addr then
    if s.rb MON_STAT_BUSY then s else
    onBit w 30 (fun s => sysCalStart s true) (onBit w 31 (fun s => sysCalStart s false) (portPut s a w))
  else portPut s a w

/-- A write to a device-level register outside the GLB and SEQ blocks.
[DEDUCED, unsafe: log entry 68] -/
def devWrite (s : State) (a : Nat) (w : Word) : State :=
  if a < 0xC000 then
    (if a = 0x8000 then onBit w 31 evtClear (portPut s a w)
     else if a = 0x8044 then onBit w 31 (fun s => evForce s (s.rd EVT_FORCE_EVENT)) (portPut s a w)
     else if 0x8100 ≤ a ∧ a < 0x8180 then evStatClear s ((a - 0x8100) / 4) w.toNat
     else if 0x8180 ≤ a ∧ a < 0x8200 then evLastClear s ((a - 0x8180) / 4) w.toNat
     else portPut s a w)
  else if a = 0xC000 then rstCtl s w
  else if 0x11000 ≤ a ∧ a < 0x12000 then queueWrite s ((a - 0x11000) / 0x100) (a % 0x100) w
  else if 0x20000 ≤ a ∧ a < 0x30000 then drcWrite s ((a - 0x20000) / 0x4000) (a % 0x4000) w
  else if 0x30000 ≤ a ∧ a < 0x40000 then monWrite s a w
  else if a = 0x40000 then umdCfgPut s a w
  else if a = 0x40044 then onBit w 31 cmdGo (portPut s a w)
  else if a = 0x40058 then onBit w 31 umdClear s
  else portPut s a w

/-! ## Command registers that only the host writes (R426). -/

/-- The request of GLB_SWREQ.GO (R58). -/
def swGoNow (s : State) : State :=
  request s 0 (s.rd GLB_SWREQ_JIG) (s.rd GLB_SWREQ_MASK)
    (if s.rb GLB_SWREQ_NEXT then none else some (s.rd64 GLB_SWLINE_LO_LINE GLB_SWLINE_HI_LINE))

/-- GLB_SWREQ (R58, R64): CANCEL comes before GO. -/
def swReq (s : State) (w : Word) : State :=
  let s := portPut s GLB_SWREQ_JIG.addr w
  onBit w 31 swGoNow (onBit w 29 (fun s => hostCancel s (s.rd GLB_SWREQ_MASK)) s)

/-- GLB_CHCTL.RUN (R68, R69): each bit that changes, in ascending order. -/
def chCtl (s : State) (w : Word) : State :=
  iterate 4 s fun s n =>
    if bit w.toNat n && !s.runBit n then runSet s n else if !bit w.toNat n && s.runBit n then runClear s n else s

/-- SEQ_n_CTL (R53): ABORT comes before START. -/
def seqCtl (s : State) (n : Nat) (w : Word) : State :=
  let s := portPut s (SEQ_CTL_TYPE n).addr w
  let s := onBit w 30 (fun s => seqAbortWatch s (n + 1)) s
  onBit w 31 (fun s => seqStart s n (s.rd (SEQ_CTL_TYPE n))) s

/-- A write to the GLB and SEQ blocks. GLB_UPDCTL.START has its effect through LIB_UPDATE_START, which carries the header that it
fetches. -/
def glbWrite (s : State) (a : Nat) (w : Word) : State :=
  if a = 0x50 then
    onBit w 30 (fun s => hostBoot s (s.rd GLB_LIBCTL_JIG)) (onBit w 31 (fun s => verifyStart s (s.rd GLB_LIBCTL_JIG)) (portPut s a w))
  else if a = 0x60 then swReq s w
  else if a = 0xAC then onBit w 30 updAbort s
  else if a = 0xC4 then chCtl s w
  else if a = 0xD0 then onBit w 31 ldSyncPulse (portPut s a w)
  else if 0x4014 ≤ a ∧ a < 0x4054 ∧ a % 0x10 = 0x4 then seqCtl s ((a - 0x4014) / 0x10) w
  else portPut s a w

/-- A host write to the MSI-X table (R266). -/
def msixWrite (s : State) (a : Nat) (w : Word) : State :=
  msiPending (s.setWord a (if a % 16 = 12 then w &&& 1 else if a % 16 = 0 then w &&& 0xFFFFFFFC else w))

/-! ## The port. -/

/-- A write that any source may make: a register outside GLB and SEQ, or a table window.
[DEDUCED, safe: log entry 11] -/
def portWrite (s : State) (a : Nat) (w : Word) : State :=
  if 0x200000 ≤ a then (if a < 0x400000 then windowWrite s a w else s)
  else if (fieldsAt a).isEmpty && !isEvTable a then s
  else if a < 0x80000 then devWrite s a w
  else chanWrite s (chanOf a) (chanOff a) w

/-- A host write of one whole DW of BAR 0 (R384, R385).
[DEDUCED, unsafe: log entry 54] -/
def hostWrite (s : State) (a : Nat) (w : Word) : State :=
  if a < 0x8000 then (if (fieldsAt a).isEmpty then s else glbWrite s a w)
  else if 0x18000 ≤ a ∧ a < 0x18400 then msixWrite s a w
  else portWrite s a w

/-! ## Reads (R102, R385, R386, R401). -/

/-- The bytes that a DW of a table window shows. -/
def windowRead (s : State) (a : Nat) : Word :=
  let n := (a - 0x200000) / 0x80000
  let off := (a - 0x200000) % 0x80000
  let p := (s.ch n).pipe
  BitVec.ofNat 32 (leNat
    (if off < 0x60000 then readBytes (profBank p (if s.rb (PIPE_CTL_RDSH n) then p.shadow else p.bank)) off 4
     else if 0x68000 ≤ off ∧ off < 0x6C000 then readBytes (sineTabs s n ((off - 0x68000) / 0x1000)) off 4
     else if tableDw off then readBytes (s.ch n).tabs off 4 else []))

/-- POS_n_ABSLAT_LO and _HI (R183). -/
def isAbsLat (a : Nat) : Bool := 0x80000 ≤ a && a < 0x180000 && (chanOff a == 0x140A0 || chanOff a == 0x140A4)

/-- The latch instant of a read has come, and the count has not changed since. -/
def absPending (s : State) (n : Nat) : Bool :=
  let p := posOf s n
  p.absLat.isNone && p.absAt.any fun t => decide (t ≤ s.tick 0)

/-- A register's word as it stands.
[DEDUCED, unsafe: log entry 47] -/
def liveWord (s : State) (a : Nat) : Word :=
  if a = 0x8 then BitVec.ofNat 32 Config.uid
  else if a = 0xC then BitVec.ofNat 32 (Config.uid / 2 ^ 32)
  else if 0x20 ≤ a ∧ a < 0x40 then BitVec.ofNat 32 (fieldAt s.keyHash (a - 0x20) 4)
  else if a = 0xD8 then s.timeBase.extractLsb' 0 32
  else if a = 0xDC then s.timeBase.extractLsb' 32 32
  else if 0x200000 ≤ a then (if a < 0x400000 then windowRead s a else 0)
  else if isPipeLag a then (PIPE_LAG_CUR (chanOf a)).put (s.word a) (lagCur s (chanOf a))
  else if isRsmpLag a then (RSMP_LAG_CUR (chanOf a)).put (s.word a) (rsmpLagCur s (chanOf a))
  else if isAbsLat a && absPending s (chanOf a) then
    BitVec.ofNat 32 (toBits 64 (posOf s (chanOf a)).count / (if chanOff a = 0x140A0 then 1 else 2 ^ 32))
  else if isVpos a then BitVec.ofNat 32 ((s.ch (chanOf a)).rsmp.y % 65536).toNat
  else if isLine a then BitVec.ofNat 32 ((posOf s (chanOf a)).line / (if chanOff a = 0x14020 then 1 else 2 ^ 32))
  else if isSched a then BitVec.ofNat 32 (fieldAt (s.ch (chanOf a)).sns.schedBytes (chanOff a - 0x2000) 4)
  else s.word a

/-- The upper half that a read of this address freezes (R385).
[DEDUCED, unsafe: log entry 54] -/
def freezes (a : Nat) : Option Nat :=
  if a = 0xD8 ∨ (0x11000 ≤ a ∧ a < 0x12000 ∧ a % 0x100 = 0x88) ∨
     (0x80000 ≤ a ∧ a < 0x180000 ∧ (chanOff a = 0xC030 ∨ chanOff a = 0x14010)) then some (a + 4) else none

/-- A read of one DW: its word, and the state with the upper half it freezes, or the frozen half it used.
[DEDUCED, unsafe: log entry 54] -/
def readWord (s : State) (a : Nat) : Word × State :=
  match s.frozen.find? (·.1 == a) with
  | some (_, w) => (w, { s with frozen := s.frozen.filter fun p => p.1 != a })
  | none =>
    (liveWord s a, match freezes a with
      | some h => { s with frozen := (h, liveWord s h) :: s.frozen.filter fun p => p.1 != h }
      | none => s)

end Sys2Proof.Machine
end

