-- ==== Sys2Proof/Machine/ListOps.lean ====
section
/-! DEFINITION. Machine/ListOps.lean: the commands of the sequence engine's lists (spec/02_jigs_boot_job_switch.md R51 to R53, R426), and
the waits in them. -/

namespace Sys2Proof.Machine

/-- The running list ends as failed. -/
def listFail (s : State) (r cause : Nat) : State := listOver (seqFail s r cause) r

/-- END. -/
def listEnd (s : State) (r : Nat) : State :=
  match cmdNow s r 0 with
  | none => s
  | some (w, _) => if bit w.toNat 0 then listFail s r 1 else listOver (seqPass s r) r

/-! ## Arbitration of the register port (R33). -/

/-- A write takes its place at the port: behind earlier arrivals, and behind those of higher priority of the same control clock.
[DEDUCED, unsafe: log entry 76] -/
def portInsert (q : PortReq) : List PortReq → List PortReq
  | [] => [q]
  | x :: t => if x.clock = q.clock ∧ q.src < x.src then q :: x :: t else x :: portInsert q t

/-- A write reaches the port in the present control clock, and waits there.
[DEDUCED, unsafe: log entry 76] -/
def portAsk (s : State) (src addr : Nat) (value mask : Word) (words : Nat) : State :=
  { s with port := portInsert { src := src, clock := s.clock, addr := addr, value := value, mask := mask, words := words } s.port }

/-- A write of runner r's list waits at the port. -/
def portHolds (s : State) (r : Nat) : Bool := s.port.any fun q => q.src == r + 1 && q.words != 0

/-- WRITE (R426): it goes to the port.
[DEDUCED, unsafe: log entry 12] -/
def listWrite (s : State) (r : Nat) : State :=
  if portHolds s r then s else
  match cmdNow s r 1 with
  | none => s
  | some (w, _) =>
    match seqWritable r w with
    | none => listFail s r 5
    | some a => portAsk s (r + 1) a (w.extractLsb' 0 32) 0xFFFFFFFF 1

/-- The word that WRITEM gives the port: unmasked bits keep their value, and clear nothing. In the profile window they are those of the
shadow profile, which the write goes to (R102).
[DEDUCED, unsafe: log entry 12] -/
def maskedWord (s : State) (a : Nat) (v m : Word) : Word :=
  let off := (a - 0x200000) % 0x80000
  let p := (s.ch ((a - 0x200000) / 0x80000)).pipe
  let old : Word :=
    if 0x200000 ≤ a ∧ off < 0x60000 then BitVec.ofNat 32 (leNat (readBytes (profBank p p.shadow) off 4)) else liveWord s a
  (old &&& ~~~ m &&& ~~~ clearMask a) ||| (v &&& m)

/-- WRITEM (R426): one write of the port, for its masked bits. -/
def listWriteM (s : State) (r : Nat) : State :=
  if portHolds s r then s else
  match cmdNow s r 2 with
  | none => s
  | some (w, m) =>
    match seqWritable r w with
    | none => listFail s r 5
    | some a => portAsk s (r + 1) a (w.extractLsb' 0 32) (m.extractLsb' 0 32) 2

/-- The port applies a write: the list that made it, if it still stands there, moves on with it (R33, R50).
[DEDUCED, unsafe: log entry 76] -/
def portTake (s : State) (q : PortReq) : State :=
  match q.src with
  | 0 => hostWrite s q.addr q.value
  | r + 1 =>
    let w := maskedWord s q.addr q.value q.mask
    portWrite (if q.words != 0 && s.rd (seqState r) == 1 then seqNext s r q.words else s) q.addr w

/-- The port has applied a write in the present control clock. -/
def portUsed (s : State) : Bool := s.portAt == s.clock + 1

/-- The one write that the port applies in the present control clock, if it has applied none yet. -/
def portApply (s : State) : State :=
  if portUsed s then s else
  match s.port with
  | [] => s
  | q :: t => portTake { s with port := t, portAt := s.clock + 1 } q

/-- A host write that reaches the port now is the next that it applies: it has applied none in this control clock, and nothing waits there
but what lists sent in it.
[DEDUCED, unsafe: log entry 76] -/
def portFree (s : State) : Bool := !portUsed s && s.port.head?.all fun q => q.clock == s.clock && q.src != 0

/-- A host write of a whole DW reaches the port: no write that comes later in its control clock goes before it, so that a free port applies
it at once.
[DEDUCED, unsafe: log entry 76] -/
def portHost (s : State) (addr : Nat) (value : Word) : State :=
  if portFree s then hostWrite { s with portAt := s.clock + 1 } addr value else portAsk s 0 addr value 0xFFFFFFFF 0

/-- The time µs after now. -/
def after (s : State) (us : Nat) : Option Nat := some (s.now + 1000 * us)

/-- Has the wait of a runner come to its time? -/
def waitOver (s : State) (r : Nat) : Bool :=
  match (runnerOf s r).until_ with
  | some t => decide (t ≤ s.now)
  | none => false

/-- WAITEV: complete at once where the status bit is set.
[DEDUCED, unsafe: log entry 20] -/
def listWaitEv (s : State) (r : Nat) : State :=
  match cmdNow s r 3 with
  | none => s
  | some (w, _) =>
    let e := bits w.toNat 57 48
    let t := bits w.toNat 31 0
    if evStat s e then seqNext s r 1
    else modRunner (s.wr (seqState r) 2) r fun x => { x with ev := e, until_ := if t = 0 then none else after s t }

/-- The awaited event's status bit is set. -/
def waitEvSatisfied (s : State) (r : Nat) : State :=
  if s.rd (seqState r) = 2 ∧ evStat s (runnerOf s r).ev then seqNext s r 1 else s

/-- The timeout of a WAITEV expires first.
[DEDUCED, unsafe: log entry 20] -/
def waitEvTimeout (s : State) (r : Nat) : State :=
  if s.rd (seqState r) = 2 ∧ waitOver s r ∧ !evStat s (runnerOf s r).ev then listFail s r 3 else s

/-- WAITT.
[DEDUCED, unsafe: log entry 20] -/
def listWaitT (s : State) (r : Nat) : State :=
  match cmdNow s r 4 with
  | none => s
  | some (w, _) => modRunner (s.wr (seqState r) 3) r fun x => { x with until_ := after s (bits w.toNat 31 0) }

/-- The time of a WAITT is over. -/
def waitTExpire (s : State) (r : Nat) : State :=
  if s.rd (seqState r) = 3 ∧ waitOver s r then seqNext s r 1 else s

/-- MOVE (R192). -/
def listMove (s : State) (r : Nat) : State :=
  match cmdNow s r 5 with
  | none => s
  | some (w, _) =>
    let n := r - 1
    let a := bits w.toNat 57 56
    let t := sext 32 (bits w.toNat 31 0)
    let tgt := if bit w.toNat 55 then (axis s n a).p / (uStep : Int) + t else t
    let m := axisMove s n a tgt (.seq r)
    let u := motWatch m.1 n
    if !m.2 then listFail u r 6
    else if bit w.toNat 54 && (axis u n a).moving then modRunner (u.wr (seqState r) 4) r fun x => { x with axis := a }
    else seqNext u r 1

/-- The axis of a MOVE with WAIT stands still. -/
def moveStandstill (s : State) (r : Nat) : State :=
  if s.rd (seqState r) = 4 ∧ !(axis s (r - 1) (runnerOf s r).axis).moving then seqNext s r 1 else s

/-- CAPTURE (R240): legal only in a calibration list. -/
def listCapture (s : State) (r : Nat) : State :=
  match cmdNow s r 6 with
  | none => s
  | some (w, _) =>
    if s.rd (seqType r) ≠ 2 then listFail s r 4 else
    let n := r - 1
    modRunner (showLamp (captureStart s n (bits w.toNat 53 52) (bits w.toNat 57 56) (bits w.toNat 15 0)) n) r fun x =>
      { x with capturing := true }

/-- A capture is over: its list moves on (R241). -/
def captureDone (s : State) (n : Nat) : State :=
  if !captureOver s n then s else
  let s := showLamp (captureFinish s n) n
  if (runnerOf s (n + 1)).capturing then
    seqNext (modRunner s (n + 1) fun x => { x with capturing := false }) (n + 1) 1
  else s

/-- CMP: a masked register against a value.
[DEDUCED, unsafe: log entry 20] -/
def listCmp (s : State) (r : Nat) : State :=
  match cmdNow s r 7 with
  | none => s
  | some (w, m) =>
    match seqTarget r w with
    | none => s
    | some a =>
      let mask := m.extractLsb' 0 32
      let x := readWord s a
      let s := x.2
      if !cmpHolds (bits m.toNat 63 60) (x.1 &&& mask).toNat (w.extractLsb' 0 32 &&& mask).toNat then seqNext s r 2 else
      match bits m.toNat 57 56 with
      | 0 => listFail s r 2
      | 1 => seqGoto s r (bits m.toNat 47 32)
      | _ => seqNext s r (2 + lenAt s r (s.rd (seqPc r) + 2))

/-- JUMP. -/
def listJump (s : State) (r : Nat) : State :=
  match cmdNow s r 8 with
  | none => s
  | some (w, _) => seqGoto s r (bits w.toNat 15 0)

/-- MARK (R367). -/
def listMark (s : State) (r : Nat) : State :=
  match cmdNow s r 9 with
  | none => s
  | some (w, _) =>
    let d := s.rd (seqType r) * 2 ^ 26 + s.rd (seqJig r) * 2 ^ 16 + s.rd (seqPc r)
    seqNext (s.raise ((((ev EV_SEQ_MARK).at_ 11 r).code_ (bits w.toNat 15 0)).detail_ d)) r 1

/-- An illegal command, or the end of the list without END. -/
def listIllegal (s : State) (r : Nat) : State := if cmdIllegal s r then listFail s r 4 else s

end Sys2Proof.Machine
end

