-- ==== Sys2Proof/Machine/HostOps.lean ====
section
/-! DEFINITION. Machine/HostOps.lean: the state of the host link and what configuration writes change (spec/11_host_link_dma.md R266 to
R268), the register scrubber (spec/15_events_faults_availability.md R376), and commands that write fields of their register beside
their effect. -/

namespace Sys2Proof.Machine

/-! ## Fields that a command's write brings with it. -/

/-- A write of one field of a register, whose other fields keep their values.
[DEDUCED, safe: log entry 11] -/
def fldWrite (s : State) (f : Fld) (v : Nat) : State := portPut s f.addr (f.put (s.word f.addr) v)

/-- An axis after a command: its registers and what follows them. -/
def axisShow (s : State) (n a : Nat) : State := motWatch (showAxis s n a) n

/-- The axes of a channel after a command. -/
def motShow (s : State) (n : Nat) : State := motWatch (iterate 4 s fun s a => showAxis s n a) n

/-- MOT_n_a_CTL.GO (R192): a move to the register's target. -/
def axisGoNow (s : State) (n a : Nat) : State := axisShow (axisMove s n a (regTarget s n a) .host).1 n a

/-- A write of MON_SYSCAL with its input and count, ignored while a step runs (R337). -/
def sysCalGo (s : State) (input count : Nat) (full : Bool) : State :=
  if s.rb MON_STAT_BUSY then s else sysCalStart (fldWrite (fldWrite s MON_SYSCAL_INPUT input) MON_SYSCAL_N count) full

/-! ## The host link. -/

/-- Time moves on, and with it the test generators (R23, R181). -/
def clockStep (s : State) (clocks : Nat) : State := timeTick (genAdvance s clocks) clocks

/-- Control clocks pass: in each the port applies one of the writes that wait there (R33), before time moves on. -/
def portClocks : Nat → State → Nat → State
  | 0, s, k => clockStep s k
  | f + 1, s, k =>
    if k = 0 then s
    else if s.port.isEmpty then clockStep s k
    else portClocks f (clockStep (finish (portApply s)) 1) (k - 1)

/-- TIME_BASE_TICK: the port takes what waits there, one write a control clock (R33).
[DEDUCED, unsafe: log entry 76] -/
def clockTick (s : State) (clocks : Nat) : State := portClocks (s.port.length + 1) s clocks

/-- Memory requests reach the BARs: Memory Space Enable is set and the function is in D0 (R267). Else they are treated as the standard
requires: they have no effect here.
[PRESUMED, unsafe: log entry 56] -/
def barOpen (s : State) : Bool := s.dma.cfg.mse && s.rd DMA_LINK_DSTATE == 0

/-- Words of DWs read in ascending order, as bytes (R5, R264). -/
def readDws (s : State) (a : Nat) : Nat → List Byte × State
  | 0 => ([], s)
  | k + 1 =>
    let p := readDws s a k
    let r := readWord p.2 (a + 4 * k)
    (p.1 ++ leBytes 4 r.1.toNat, r.2)

/-- A host request of BAR 0 (R264). A write of one DW goes to the port; without all its byte enables it is discarded and counted. A read of
1 to 16 DWs within a 64-byte block returns them. What is poisoned, malformed or crosses a block is counted.
[DEDUCED, unsafe: log entry 54] -/
def barRequest (s : State) (a : Nat) (w : Word) : BarReq → State
  | .whole => portHost s a w
  | .part => (s.bump DMA_HOSTERR_BADACC).raise (ev EV_HOST_BADACC)
  | .bad => s.bump DMA_HOSTERR_POISONRX
  | .read more =>
    if 64 < a % 64 + 4 * (more.val + 1) then s.bump DMA_HOSTERR_POISONRX
    else let r := readDws s a (more.val + 1)
         r.2.emit (.completion r.1 false)

/-- The link's state, speed, width or mode changes (R267); its loss is DL_Down (R268). PERST_N low holds it in reset.
[PRESUMED, unsafe: log entry 56] -/
def linkChange (s : State) (up : Bool) (speed width : Nat) (flit : Bool) : State :=
  if s.dma.perst then s else
  let was := s.word DMA_LINK_UP.addr
  let lost := !up && s.rb DMA_LINK_UP
  let s := (((s.wb DMA_LINK_UP up).wr DMA_LINK_SPEED (if up then speed else 0)).wr DMA_LINK_WIDTH (if up then width else 0)).wb
    DMA_LINK_FLIT (up && flit)
  let s := s.raiseIf (s.word DMA_LINK_UP.addr != was) (ev EV_PCIE_LINK)
  if lost then flrReset s else s

/-- A configuration write (R261, R263, R266, R267): mastering, memory space, power state, base addresses, tags, request sizes, MSI-X. What was
held back leaves once mastering is there again.
[PRESUMED, unsafe: log entry 56] -/
def configWrite (s : State) (w : CfgWrite) : State :=
  let s := (s.wb DMA_LINK_BME w.bme).wr DMA_LINK_DSTATE (if w.d3hot then 3 else 0)
  let s := s.modDma fun d => { d with cfg := {
    mse := w.mse, bar0 := w.bar0, bar2 := w.bar2, tag10 := w.tag10, tag14 := w.tag14, mps := 128 * 2 ^ w.mps.val,
    mrrs := 128 * 2 ^ w.mrrs.val, msixEn := w.msixEn, fmask := w.fmask } }
  let s := iterate 16 s showQ
  msiPending (if canMaster s then logRelease s else s)

/-! ## The configuration space (R2, R261 to R263, R266). -/

/-- A BAR: its base address of 64 bits in units of its size, and prefetchable or not; both are 64-bit memory BARs (R263). -/
def barWord (base : Nat) (pref : Bool) (high : Bool) : Word :=
  if high then BitVec.ofNat 32 (base / 2 ^ 32) else BitVec.ofNat 32 (base + 4 + 8 * b2n pref)

/-- The type 0 header (R2, R261 to R263): device and vendor ID, command and status, class code and revision, the BARs, subsystem IDs, no
expansion ROM, the first capability, and Interrupt Pin 0. The standard gives the places.
[PRESUMED, unsafe: log entry 56] -/
def cfgHeader (s : State) (dw : Nat) : Word :=
  let c := s.dma.cfg
  match dw with
  | 0 => 0x40961E9D
  | 1 => BitVec.ofNat 32 (0x00100000 + 2 * b2n c.mse + 4 * s.rd DMA_LINK_BME)
  | 2 => 0x118000B0
  | 4 => barWord (c.bar0.toNat * 2 ^ 22) false false
  | 5 => barWord (c.bar0.toNat * 2 ^ 22) false true
  | 6 => barWord (c.bar2.toNat * 2 ^ 26) true false
  | 7 => barWord (c.bar2.toNat * 2 ^ 26) true true
  | 11 => 0x00011E9D
  | 13 => 0x00000040
  | _ => 0

/-- log₂ of a request size in units of 128 bytes, as Device Control holds it. -/
def sizeCode (n : Nat) : Nat := ((List.range 6).find? fun k => 128 * 2 ^ k == n).getD 0

/-- The capabilities (R261, R266), at places of the model's choice: power management at 0x40 (D0 and D3hot, No_Soft_Reset), MSI-X at 0x50
(Table Size 63, the table and the Pending Bit Array in BAR 0), PCI Express at 0x70 (512-byte payloads, function-level reset, completion
timeout ranges A and B, 10-bit tags, x16, 64 GT/s, no ASPM), and of the extended space AER at 0x100 and Device 3 at 0x150 (14-bit
tags). No other capability is there.
[PRESUMED, unsafe: log entry 56] -/
def cfgCaps (s : State) (dw : Nat) : Word :=
  let c := s.dma.cfg
  match dw with
  | 0x10 => 0x00035001
  | 0x11 => BitVec.ofNat 32 (s.rd DMA_LINK_DSTATE + 8)
  | 0x14 => BitVec.ofNat 32 (0x11 + 0x70 * 256 + (63 + 0x4000 * b2n c.fmask + 0x8000 * b2n c.msixEn) * 65536)
  | 0x15 => 0x00018000
  | 0x16 => 0x00019000
  | 0x1C => 0x00020010
  | 0x1D => 0x10008022
  | 0x1E => BitVec.ofNat 32 (0x100 + 32 * sizeCode c.mps + 4096 * sizeCode c.mrrs)
  | 0x1F => 0x00000106
  | 0x20 => BitVec.ofNat 32 ((s.rd DMA_LINK_SPEED + 16 * s.rd DMA_LINK_WIDTH) * 65536)
  | 0x25 => 0x00030013
  | 0x26 => BitVec.ofNat 32 (0x1000 * b2n c.tag10)
  | 0x40 => 0x15020001
  | 0x54 => 0x0001002F
  | 0x55 => 0x00000006
  | 0x56 => BitVec.ofNat 32 (4 * b2n c.tag14)
  | _ => 0

/-- What a configuration read of a DW returns: answered as soon as the link is up, without waiting for the boot (R262). -/
def configRead (s : State) (dw : Nat) : Option Word :=
  if !s.rb DMA_LINK_UP then none else some (if dw < 16 then cfgHeader s dw else cfgCaps s dw)

/-! ## The register scrubber (R376). -/

/-- Does a register lie at this address? -/
def isReg (a : Nat) : Bool := !(fieldsAt a).isEmpty || isEvTable a || (0x18000 ≤ a && a < 0x18400 && a % 4 == 0)

/-- The scrubber reads a register. A clean read starts the search for the first trigger after it; a failure is reported with that
trigger's line, where the register is a channel's. A device register belongs to no channel whose trigger the spec would name: its line
is a free value, as is that of a register never read clean.
[DESIGN CHOICE, safe: log entry 64] -/
def scrub (s : State) (a : Nat) (fail : Bool) : State :=
  if !isReg a then s else
  let chan := decide (0x80000 ≤ a)
  if !fail then
    (if chan then s.modEvt fun x => { x with scrub := (a, none) :: x.scrub.filter fun p => p.1 != a } else s)
  else
    let l : Nat × State := match (if chan then s.evt.scrub.find? (·.1 == a) else none) with
      | some (_, some l) => (l, s)
      | some (_, none) => (0, s)
      | none => s.free 0x15376 (2 ^ 48)
    l.2.raise (((ev (if chan then EV_CH_REG_PAR (chanOf a) else EV_REG_PAR)).line_ l.1).detail_ a)

end Sys2Proof.Machine
end

