-- ==== Sys2Proof/Machine/BootCmds.lean ====
section
/-! DEFINITION. Machine/BootCmds.lean: the meanings of the commands of boot, the library, job switches and runs
(spec/02_jigs_boot_job_switch.md R48 to R69; spec/16_register_map.md R402). Every command has its effect in the states that the
rule it cites gives one, and leaves any other state as it is; its end is `finish`. -/

namespace Sys2Proof.Machine

/-- BOOT_RELEASE. Boot step 1 ends and the straps are sampled (R54). -/
def execBootRelease (mode : Fin 4) (role : Bool) (s : State) : Host.Outcome State Fault Refusal :=
  .next (finish (bootRelease s mode role))

/-- DRAM_TRAINING_DONE. A controller ends full training (R54, R296, R316). -/
def execDramTrainingDone (k : Fin 4) (bin : Fin 6) (parts : DramParts) (repair : Bool) (s : State) : Host.Outcome State Fault
    Refusal :=
  .next (finish (trainingDone s k bin parts repair))

/-- LIBRARY_STREAM_DONE. The streaming of a library slot ends (R54). -/
def execLibraryStreamDone (s : State) : Host.Outcome State Fault Refusal :=
  .next (finish (streamDone s))

/-- BOOT_HOMING_DONE. The calibration slide of a channel has been homed at boot (R54). -/
def execBootHomingDone (n : Fin 4) (s : State) : Host.Outcome State Fault Refusal :=
  .next (finish (bootHomed s n))

/-- MARCH_TEST_DONE. The march test of a channel reset ends (R373). -/
def execMarchTestDone (n : Fin 4) (faults : MarchFault) (s : State) : Host.Outcome State Fault Refusal :=
  .next (finish (marchDone s n faults))

/-- JIG_VERIFY. GLB_LIBCTL.VERIFY (R49). -/
def execJigVerify (jig : Fin 64) (s : State) : Host.Outcome State Fault Refusal :=
  .next (finish (verifyStart (fldWrite s GLB_LIBCTL_JIG jig) jig))

/-- JIG_VERIFY_DONE. The verification of a jig ends (R49). -/
def execJigVerifyDone (s : State) : Host.Outcome State Fault Refusal :=
  .next (finish (verifyDone s))

/-- LIBCTL_BOOT. GLB_LIBCTL.BOOT names the boot jig (R55). -/
def execLibctlBoot (jig : Fin 64) (s : State) : Host.Outcome State Fault Refusal :=
  .next (finish (hostBoot (fldWrite s GLB_LIBCTL_JIG jig) jig))

/-- BAR2_READ. A read through BAR 2 (R48): the bytes leave the device in its completion, poisoned where no copy gives them (R305). -/
def execBar2Read (addr : BitVec 26) (len : Nat) (s : State) : Host.Outcome State Fault Refusal :=
  .next (if barOpen s then finish (s.emit (.completion (libRead s addr.toNat len) (libLost s addr.toNat len))) else s)

/-- BAR2_WRITE. A write through BAR 2, each byte with its enable (R48). -/
def execBar2Write (addr : BitVec 26) (bytes : List (Byte × Bool)) (s : State) : Host.Outcome State Fault Refusal :=
  .next (if barOpen s then finish (libWrite s addr.toNat bytes) else s)

/-- LIB_UPDATE_START. GLB_UPDCTL.START with what its reads of host memory return (R65).
[DEDUCED, safe: log entry 11] -/
def execLibUpdateStart (mem : HostMem) (s : State) : Host.Outcome State Fault Refusal :=
  .next (finish (updStart s mem))

/-- LIB_UPDATE_ABORT. GLB_UPDCTL.ABORT (R65). -/
def execLibUpdateAbort (s : State) : Host.Outcome State Fault Refusal :=
  .next (finish (updAbort s))

/-- LIB_UPDATE_STEP_DONE. A phase of the library update ends (R65). -/
def execLibUpdateStepDone (phase : UpdPhase) (s : State) : Host.Outcome State Fault Refusal :=
  .next (finish (updPhase s phase))

/-- SWITCH_REQUEST. GLB_SWREQ.GO (R58, R59). -/
def execSwitchRequest (jig : Fin 64) (mask : BitVec 4) (next : Bool) (s : State) : Host.Outcome State Fault Refusal :=
  .next (finish (swGoNow (fldWrite (fldWrite (fldWrite s GLB_SWREQ_JIG jig) GLB_SWREQ_MASK mask.toNat) GLB_SWREQ_NEXT (b2n
    next))))

/-- SWITCH_CANCEL. GLB_SWREQ.CANCEL (R64). -/
def execSwitchCancel (mask : BitVec 4) (s : State) : Host.Outcome State Fault Refusal :=
  .next (finish (hostCancel (fldWrite s GLB_SWREQ_MASK mask.toNat) mask.toNat))

/-- JOB_STB. A rising edge on JOB_STB (R58). -/
def execJobStb (sel : Fin 64) (s : State) : Host.Outcome State Fault Refusal :=
  .next (finish (if s.rb GLB_PINSW_EN then request s 1 sel (s.rd GLB_PINSW_MASK) none else s))

/-- STAGING_DONE. A channel ends its staging (R60, R64). -/
def execStagingDone (n : Fin 4) (readFail : Bool) (s : State) : Host.Outcome State Fault Refusal :=
  .next (finish (stagingDone s n readFail))

/-- RUN_SET. A RUN bit is written from 0 to 1 (R69). -/
def execRunSet (n : Fin 4) (s : State) : Host.Outcome State Fault Refusal :=
  .next (finish (if s.runBit n then s else runSet s n))

/-- RUN_CLEAR. A RUN bit is written 0 (R68). -/
def execRunClear (n : Fin 4) (s : State) : Host.Outcome State Fault Refusal :=
  .next (finish (runClear s n))

/-- RUNNING_END. The last line has left the packer (R402). -/
def execRunningEnd (n : Fin 4) (s : State) : Host.Outcome State Fault Refusal :=
  .next (finish (runEnd s n))

end Sys2Proof.Machine
end

