-- ==== Sys2Proof/Machine/CalibrationCmds.lean ====
section
/-! DEFINITION. Machine/CalibrationCmds.lean: the meanings of the commands of the calibration controller
(spec/10_shading_calibration.md). Every command has its effect in the states that the rule it cites gives one, and leaves any
other state as it is; its end is `finish`. -/

namespace Sys2Proof.Machine

/-- CAL_START. CAL_n_CTL.START (R248). -/
def execCalStart (n : Fin 4) (s : State) : Host.Outcome State Fault Refusal :=
  .next (finish (calStartNow s n))

/-- CAL_ABORT. CAL_n_CTL.ABORT (R256). -/
def execCalAbort (n : Fin 4) (s : State) : Host.Outcome State Fault Refusal :=
  .next (finish (calAbortNow s n))

/-- CAL_EVAL. CAL_n_CTL.EVAL (R242). -/
def execCalEval (n : Fin 4) (s : State) : Host.Outcome State Fault Refusal :=
  .next (finish (calEval s n))

/-- CAL_EVAL_DONE. An evaluation ends: disagreements of its repeat, and an arithmetic stop (R243, R245). -/
def execCalEvalDone (n : Fin 4) (again : Nat) (stop : Option Nat) (s : State) : Host.Outcome State Fault Refusal :=
  .next (finish (calEvalDone s n again stop))

/-- CAL_STORE. CAL_n_CTL.STORE (R239). -/
def execCalStore (n : Fin 4) (s : State) : Host.Outcome State Fault Refusal :=
  .next (finish (calStore s n))

/-- CAL_LOAD. CAL_n_CTL.LOAD (R239). -/
def execCalLoad (n : Fin 4) (slot : Fin 16) (s : State) : Host.Outcome State Fault Refusal :=
  .next (finish (calLoad (fldWrite s (CAL_CTL_SLOT n) slot) n slot))

/-- PROFILE_COPY_DONE. A STORE or LOAD ends (R239). -/
def execProfileCopyDone (n : Fin 4) (s : State) : Host.Outcome State Fault Refusal :=
  .next (finish (profileCopyDone s n))

/-- CAL_CLRCNT. CAL_n_CTL.CLRCNT (R260). -/
def execCalClrcnt (n : Fin 4) (s : State) : Host.Outcome State Fault Refusal :=
  .next (finish (s.clear (calCounters n)))

/-- CAPTURE_INTERNAL_TRIGGER. No line started within CAPPER (R241). -/
def execCaptureInternalTrigger (n : Fin 4) (s : State) : Host.Outcome State Fault Refusal :=
  .next (finish (captureTrigger s n))

/-- CAPTURE_DONE. A capture is over (R241). -/
def execCaptureDone (n : Fin 4) (s : State) : Host.Outcome State Fault Refusal :=
  .next (finish (captureDone s n))

/-- CAL_TEMP_READ. The bar temperature is read (R248). -/
def execCalTempRead (n : Fin 4) (s : State) : Host.Outcome State Fault Refusal :=
  .next (finish (calTemp s n (monTemp s (s.rd (CAL_CFG_TSRC n)))))

/-- CAL_AUTO_START. The controller starts the calibration list by itself (R249). -/
def execCalAutoStart (n : Fin 4) (s : State) : Host.Outcome State Fault Refusal :=
  .next (finish (if calMayStart s n then seqStart s n 2 else s))

/-- CAL_GAP_CLOSE. The gap closes (R252). -/
def execCalGapClose (n : Fin 4) (s : State) : Host.Outcome State Fault Refusal :=
  .next (finish (calGapClose s n))

end Sys2Proof.Machine
end

