-- ==== Sys2Proof/Machine/DeviceCmds.lean ====
section
/-! DEFINITION. Machine/DeviceCmds.lean: the meanings of the commands of reset, power, the register port, the drive die and the
time base (spec/01_architecture.md R16, R23, R33; spec/02_jigs_boot_job_switch.md R56; spec/15_events_faults_availability.md
R382, R383; spec/17_electrical_package.md R410, R416; spec/11_host_link_dma.md R268). Every command has its effect in the states
that the rule it cites gives one, and leaves any other state as it is; its end is `finish`. -/

namespace Sys2Proof.Machine

/-- REGISTER_WRITE. A host request of BAR 0 (R33, R264, R385): a write of one DW reaches the register port, which applies it in the control
clock that is its turn; incomplete byte enables discard it, a read returns its DWs, and a bad request is counted.
[DEDUCED, unsafe: log entry 76] -/
def execRegisterWrite (dw : BitVec 20) (value : Word) (how : BarReq) (s : State) : Host.Outcome State Fault Refusal :=
  .next (finish (if barOpen s then barRequest s (4 * dw.toNat) value how else s))

/-- DRIVE_DIE_WRITE_APPLY. The drive die applies its oldest forwarded write (R16). -/
def execDriveDieWriteApply (s : State) : Host.Outcome State Fault Refusal :=
  .next (finish (driveApply s))

/-- DRIVE_DIE_STATUS_REFRESH. The status of the drive die comes back: reference inputs and sink measurements (R16). -/
def execDriveDieStatusRefresh (refs : BitVec 16) (senses : List (Fin 4 × Fin 12 × SinkSense)) (s : State) : Host.Outcome State
    Fault Refusal :=
  .next (finish (statusRefresh s refs senses))

/-- DRIVE_DIE_REPORT. A report of the drive die reaches the event unit (R16). -/
def execDriveDieReport (thermal : Bool) (s : State) : Host.Outcome State Fault Refusal :=
  .next (finish (driveReport s thermal))

/-- DIE_LINK_FRAME. The drive die receives a position frame (R204). -/
def execDieLinkFrame (bad : FrameBad) (s : State) : Host.Outcome State Fault Refusal :=
  .next (finish (linkFrame s bad))

/-- DIE_LINK_TIMEOUT. No valid link frame for 10 µs (R16). -/
def execDieLinkTimeout (s : State) : Host.Outcome State Fault Refusal :=
  .next (finish (linkTimeout s))

/-- DIE_LINK_REESTABLISH. The inter-die link is up again (R16). -/
def execDieLinkReestablish (s : State) : Host.Outcome State Fault Refusal :=
  .next (finish (linkUp s))

/-- TIME_BASE_TICK. Control clocks pass (R23, R352), and the register port applies a waiting write in each (R33).
[DESIGN CHOICE, unsafe: log entry 9] -/
def execTimeBaseTick (clocks : Nat) (s : State) : Host.Outcome State Fault Refusal :=
  .next (finish (clockTick s clocks))

/-- POWER_ON_RESET. Power-on reset (R410). -/
def execPowerOnReset (s : State) : Host.Outcome State Fault Refusal :=
  .next (finish (hardReset s false))

/-- RAIL_DIP. A rail dip of more than 20 µs is a power-on reset (R410). -/
def execRailDip (s : State) : Host.Outcome State Fault Refusal :=
  .next (finish (hardReset s false))

/-- DRIVE_UNDERVOLTAGE. VDD_DRV falls below 4.50 V (R410). -/
def execDriveUndervoltage (s : State) : Host.Outcome State Fault Refusal :=
  .next (finish (driveUnder s))

/-- DRIVE_UNDERVOLTAGE_END. VDD_DRV rises above 4.65 V (R410). -/
def execDriveUndervoltageEnd (s : State) : Host.Outcome State Fault Refusal :=
  .next (finish (driveUnderEnd s))

/-- PIN_RESET. Pin reset (R416). -/
def execPinReset (s : State) : Host.Outcome State Fault Refusal :=
  .next (finish (hardReset s true))

/-- WARM_RESET. CLK_RSTCTL.WARM (R56). -/
def execWarmReset (s : State) : Host.Outcome State Fault Refusal :=
  .next (finish (warmReset s))

/-- CHANNEL_RESET. CLK_RSTCTL.CHRST (R56). -/
def execChannelReset (n : Fin 4) (s : State) : Host.Outcome State Fault Refusal :=
  .next (finish (channelReset s n))

/-- FUNCTION_LEVEL_RESET. Function-level reset, hot reset or DL_Down (R268). -/
def execFunctionLevelReset (s : State) : Host.Outcome State Fault Refusal :=
  .next (finish (flrReset s))

/-- PERST_N_ASSERT. PERST_N goes low (R268). -/
def execPerstNAssert (s : State) : Host.Outcome State Fault Refusal :=
  .next (finish (perstAssert s))

/-- PERST_N_RELEASE. PERST_N rises: the link leaves reset and starts to train (R268). -/
def execPerstNRelease (s : State) : Host.Outcome State Fault Refusal :=
  .next (finish (s.modDma fun d => { d with perst := false }))

end Sys2Proof.Machine
end

