-- ==== Sys2Proof/Machine/DmaCmds.lean ====
section
/-! DEFINITION. Machine/DmaCmds.lean: the meanings of the commands of the DMA engine and the host link
(spec/11_host_link_dma.md). Every command has its effect in the states that the rule it cites gives one, and leaves any other
state as it is; its end is `finish`. -/

namespace Sys2Proof.Machine

/-- DMA_START. DMA_Q_q_CTL.START (R272). -/
def execDmaStart (q : Fin 16) (s : State) : Host.Outcome State Fault Refusal :=
  .next (finish (dmaStart s q))

/-- DMA_GO. DMA_Q_q_CTL.GO (R285). -/
def execDmaGo (q : Fin 16) (s : State) : Host.Outcome State Fault Refusal :=
  .next (finish (dmaGo s q))

/-- DMA_RESUME. DMA_Q_q_CTL.RESUME (R289). -/
def execDmaResume (q : Fin 16) (s : State) : Host.Outcome State Fault Refusal :=
  .next (finish (dmaResume s q))

/-- DMA_ABORT. DMA_Q_q_CTL.ABORT (R290). -/
def execDmaAbort (q : Fin 16) (s : State) : Host.Outcome State Fault Refusal :=
  .next (finish (dmaAbort s q))

/-- DMA_PAUSE. DMA_Q_q_CTL.PAUSE is set (R282). -/
def execDmaPause (q : Fin 16) (s : State) : Host.Outcome State Fault Refusal :=
  .next (finish (dmaPause s q true))

/-- DMA_UNPAUSE. DMA_Q_q_CTL.PAUSE is cleared (R282). -/
def execDmaUnpause (q : Fin 16) (s : State) : Host.Outcome State Fault Refusal :=
  .next (finish (dmaPause s q false))

/-- DMA_CLRCNT. DMA_Q_q_CTL.CLRCNT (R294). -/
def execDmaClrcnt (q : Fin 16) (s : State) : Host.Outcome State Fault Refusal :=
  .next (finish (s.clear (dmaCounters q)))

/-- DMA_DOORBELL. A write of the doorbell (R272). -/
def execDmaDoorbell (q : Fin 16) (s : State) : Host.Outcome State Fault Refusal :=
  .next (finish (doorbell s q))

/-- DESCRIPTOR_FETCH_DONE. A descriptor read returns (R272). -/
def execDescriptorFetchDone (q : Fin 16) (bytes : List Byte) (s : State) : Host.Outcome State Fault Refusal :=
  .next (finish (descArrive (retryCount s q .desc) q bytes))

/-- SGL_FETCH_DONE. A scatter list read returns (R274). -/
def execSglFetchDone (q : Fin 16) (bytes : List Byte) (s : State) : Host.Outcome State Fault Refusal :=
  .next (finish (sglArrive (retryCount s q .sgl) q bytes))

/-- DMA_BURST. A queue serves a FIFO request (R275). -/
def execDmaBurst (q : Fin 16) (s : State) : Host.Outcome State Fault Refusal :=
  .next (finish (dmaBurst s q))

/-- DMA_BEAT_ARBITRATION. One arbitration of the engine (R281). -/
def execDmaBeatArbitration (s : State) : Host.Outcome State Fault Refusal :=
  .next (finish (beatArbitration s))

/-- DMA_READ_COMPLETION. Read data returns: the bytes of the request (R283, R287). -/
def execDmaReadCompletion (q : Fin 16) (bytes : List Byte) (s : State) : Host.Outcome State Fault Refusal :=
  .next (finish (dataArrive (retryCount s q .data) q bytes))

/-- DMA_READ_FAIL. A read fails: cause 1 timeout, 2 UR, 3 CA, 4 poisoned, less one (R288). -/
def execDmaReadFail (q : Fin 16) (what : ReadWhat) (cause : Fin 4) (s : State) : Host.Outcome State Fault Refusal :=
  .next (finish (readFail s q what (cause + 1)))

/-- DMA_RETRY_BACKOFF. A retry back-off expires (R288). -/
def execDmaRetryBackoff (q : Fin 16) (s : State) : Host.Outcome State Fault Refusal :=
  .next (finish (retryNow s q))

/-- BARRIER_COMPLETE. A barrier read completes (R278). -/
def execBarrierComplete (q : Fin 16) (s : State) : Host.Outcome State Fault Refusal :=
  .next (finish (barrierDone (retryCount s q .barrier) q))

/-- CRHEAD_WRITE. A write of DMA_Q_q_CRHEAD (R280). -/
def execCrheadWrite (q : Fin 16) (slot : BitVec 16) (s : State) : Host.Outcome State Fault Refusal :=
  .next (finish (crheadWrite s q slot.toNat))

/-- COAL_TIMER. COAL.TIME is over (R280). -/
def execCoalTimer (q : Fin 16) (s : State) : Host.Outcome State Fault Refusal :=
  .next (finish (coalTimer s q))

/-- PCIE_LINK_CHANGE. The link changes (R267); its loss is DL_Down (R268). -/
def execPcieLinkChange (up : Bool) (speed : Fin 7) (width : Fin 17) (flit : Bool) (s : State) : Host.Outcome State Fault Refusal
    :=
  .next (finish (linkChange s up speed width flit))

/-- PCIE_AER_ERROR. An AER error (R293). -/
def execPcieAerError (corr : Bool) (s : State) : Host.Outcome State Fault Refusal :=
  .next (finish (s.raise (ev (if corr then EV_PCIE_CORR else EV_PCIE_UNCORR))))

/-- BUS_MASTER_ENABLE_CHANGE. A configuration write (R261, R263, R266, R267). -/
def execBusMasterEnableChange (bme mse d3hot : Bool) (bars : CfgBars) (dev : CfgDev) (msix : CfgMsix) (s : State) :
    Host.Outcome State Fault Refusal :=
  .next (finish (configWrite s { bars, dev, msix with bme := bme, mse := mse, d3hot := d3hot }))

end Sys2Proof.Machine
end

