-- ==== Sys2Proof/Machine/DramCmds.lean ====
section
/-! DEFINITION. Machine/DramCmds.lean: the meanings of the commands of the DRAM controllers (spec/12_dram_controller.md). Every
command has its effect in the states that the rule it cites gives one, and leaves any other state as it is; its end is `finish`.
-/

namespace Sys2Proof.Machine

/-- DRC_CLRCNT. DRC_k_CTL.CLRCNT (R321). -/
def execDrcClrcnt (k : Fin 4) (s : State) : Host.Outcome State Fault Refusal :=
  .next (finish (s.clear (drcCounters k)))

/-- DRC_PPRNOW. DRC_k_CTL.PPRNOW (R317). -/
def execDrcPprnow (k : Fin 4) (s : State) : Host.Outcome State Fault Refusal :=
  .next (finish (drcPprNow s k))

/-- PPR_WINDOW_END. The maintenance window ends, entry by entry (R317). -/
def execPprWindowEnd (k : Fin 4) (oks : List Bool) (s : State) : Host.Outcome State Fault Refusal :=
  .next (finish (pprWindowEnd s k oks))

/-- DRC_RETRAIN. DRC_k_CTL.RETRAIN (R315). -/
def execDrcRetrain (k : Fin 4) (s : State) : Host.Outcome State Fault Refusal :=
  .next (finish (drcTrain s k))

/-- DRAM_PERIODIC_TRAIN. The training period expires; PER 0 has none (R315, R321). -/
def execDramPeriodicTrain (k : Fin 4) (s : State) : Host.Outcome State Fault Refusal :=
  .next (finish (if s.rd (DRC_PTRAIN_PER k) = 0 then s else drcTrain s k))

/-- DRAM_SCHEDULE. One scheduling decision, with the requests that have come and the busy banks (R308). -/
def execDramSchedule (k : Fin 4) (asks : List DrcAsk) (busy : List Nat) (s : State) : Host.Outcome State Fault Refusal :=
  .next (finish (drcSchedule s k asks busy))

/-- DRAM_AGE_PROMOTE. Requests past their age limit are promoted (R308). -/
def execDramAgePromote (k : Fin 4) (s : State) : Host.Outcome State Fault Refusal :=
  .next (finish (drcPromote s k))

/-- DRAM_READ_RETURN. A DRAM burst returns (R305). -/
def execDramReadReturn (k : Fin 4) (addr : Nat) (reads : BurstReads) (s : State) : Host.Outcome State Fault Refusal :=
  .next (finish (drcReadReturn s k addr reads))

/-- DRAM_REFRESH. A bank is refreshed (R311). -/
def execDramRefresh (k : Fin 4) (bank : Fin 128) (s : State) : Host.Outcome State Fault Refusal :=
  .next (finish (drcRefresh s k bank))

/-- DRAM_MR4_READ. MR4 of a rank is read (R311). -/
def execDramMr4Read (k : Fin 4) (rank : Fin 2) (mr4 : BitVec 8) (double beyond : Bool) (s : State) : Host.Outcome State Fault
    Refusal :=
  .next (finish (drcMr4 s k rank mr4.toNat double beyond))

/-- RH_WINDOW_CLEAR. The row-hammer window ends (R313). -/
def execRhWindowClear (k : Fin 4) (s : State) : Host.Outcome State Fault Refusal :=
  .next (finish (rhClear s k))

end Sys2Proof.Machine
end

