-- ==== Sys2Proof/Machine/EventsCmds.lean ====
section
/-! DEFINITION. Machine/EventsCmds.lean: the meanings of the commands of the event unit, its faults and the clocks
(spec/15_events_faults_availability.md). Every command has its effect in the states that the rule it cites gives one, and leaves
any other state as it is; its end is `finish`. -/

namespace Sys2Proof.Machine

/-- TRACKER_WINDOW_LAPSE. Windows that are over free their trackers (R362). -/
def execTrackerWindowLapse (s : State) : Host.Outcome State Fault Refusal :=
  .next (finish (trackersLapse s))

/-- EVT_FORCE. EVT_FORCE.GO (R365). -/
def execEvtForce (event : Fin 1024) (s : State) : Host.Outcome State Fault Refusal :=
  .next (finish (evForce (fldWrite s EVT_FORCE_EVENT event) event))

/-- EVT_STAT_CLEAR. A write of EVT_STAT_w (R365). -/
def execEvtStatClear (w : Fin 32) (bits : Word) (s : State) : Host.Outcome State Fault Refusal :=
  .next (finish (evStatClear s w bits.toNat))

/-- EVT_LAST_CLEAR. A write of EVT_LAST_w (R365). -/
def execEvtLastClear (w : Fin 32) (bits : Word) (s : State) : Host.Outcome State Fault Refusal :=
  .next (finish (evLastClear s w bits.toNat))

/-- EVT_LOG_ENABLE. EVT_CTL.LOGEN is set (R366). -/
def execEvtLogEnable (s : State) : Host.Outcome State Fault Refusal :=
  .next (finish (logEnable s true))

/-- EVT_CLRCNT. EVT_CTL.CLRCNT (R383). -/
def execEvtClrcnt (s : State) : Host.Outcome State Fault Refusal :=
  .next (finish (evtClear s))

/-- EVT_LOGHEAD_WRITE. A write of EVT_LOGHEAD (R366). -/
def execEvtLogheadWrite (slot : BitVec 16) (s : State) : Host.Outcome State Fault Refusal :=
  .next (finish (fldWrite s EVT_LOGHEAD_SLOT slot.toNat))

/-- MSI_HOLD_EXPIRE. The MSIHOLD interval of a vector ends (R368). -/
def execMsiHoldExpire (vec : Fin 64) (s : State) : Host.Outcome State Fault Refusal :=
  .next (finish (msiHoldExpire s vec))

/-- REGISTER_SCRUB. The scrubber reads a register (R376). -/
def execRegisterScrub (dw : BitVec 20) (fail : Bool) (s : State) : Host.Outcome State Fault Refusal :=
  .next (finish (scrub s (4 * dw.toNat) fail))

/-- DROOP_DETECT. The core rail droops (R377). -/
def execDroopDetect (s : State) : Host.Outcome State Fault Refusal :=
  .next (finish (droop s))

/-- STRETCH_END. Clock stretching ends (R377). -/
def execStretchEnd (s : State) : Host.Outcome State Fault Refusal :=
  .next (finish (stretchEnd s))

/-- PLL_LOCK_LOSS. A PLL loses lock (R360). -/
def execPllLockLoss (pll : Pll) (s : State) : Host.Outcome State Fault Refusal :=
  .next (finish (pllLoss s pll))

/-- SYSCLK_LOSS. SYSCLK_IN has stopped (R360). -/
def execSysclkLoss (s : State) : Host.Outcome State Fault Refusal :=
  .next (finish (sysclkLoss s))

/-- DIE_TEMP_READ. The junction temperature is read (R383). -/
def execDieTempRead (temp : BitVec 16) (s : State) : Host.Outcome State Fault Refusal :=
  .next (finish (dieTemp s temp))

end Sys2Proof.Machine
end

