-- ==== Sys2Proof/Machine/FifoCmds.lean ====
section
/-! DEFINITION. Machine/FifoCmds.lean: the meanings of the commands of the output FIFO, its spill engine, the pace controller and
the dovetail control (spec/09_pacing_fifo_seams.md). Every command has its effect in the states that the rule it cites gives one,
and leaves any other state as it is; its end is `finish`. -/

namespace Sys2Proof.Machine

/-- SPILL_WRITE_DONE. The spill engine has written a packet (R212). -/
def execSpillWriteDone (n : Fin 4) (s : State) : Host.Outcome State Fault Refusal :=
  .next (finish (spillWrite s n))

/-- SPILL_READ_DONE. The spill engine has read a packet back (R217). -/
def execSpillReadDone (n : Fin 4) (bad : SpillBad) (s : State) : Host.Outcome State Fault Refusal :=
  .next (finish (spillRead s n bad))

/-- TAIL_TO_HEAD_MOVE. The oldest tail packet goes to the head (R212). -/
def execTailToHeadMove (n : Fin 4) (s : State) : Host.Outcome State Fault Refusal :=
  .next (finish (tailToHead s n))

/-- FIFO_READ_REQUEST. The read side offers a request (R215). -/
def execFifoReadRequest (n : Fin 4) (bad : SramBad) (s : State) : Host.Outcome State Fault Refusal :=
  .next (finish (readRequest s n bad (cutBytes s n)))

/-- FIFO_FLUSH. FIFO_n_CTL.FLUSH (R215). -/
def execFifoFlush (n : Fin 4) (s : State) : Host.Outcome State Fault Refusal :=
  .next (finish (fifoFlush s n))

/-- FIFO_CLRCNT. FIFO_n_CTL.CLRCNT (R236). -/
def execFifoClrcnt (n : Fin 4) (s : State) : Host.Outcome State Fault Refusal :=
  .next (finish (s.clear (fifoCounters n)))

/-- STOP_PADDING. The padding of a stop (R215). -/
def execStopPadding (n : Fin 4) (s : State) : Host.Outcome State Fault Refusal :=
  .next (finish (stopPadding s n))

/-- PACE_UPDATE. The pace controller selects its entry (R224). -/
def execPaceUpdate (n : Fin 4) (s : State) : Host.Outcome State Fault Refusal :=
  .next (finish (paceUpdate s n))

/-- DT_STOP. FIFO_n_DTCTL.STOP (R226). -/
def execDtStop (n : Fin 4) (s : State) : Host.Outcome State Fault Refusal :=
  .next (finish (motWatch (dtStop s n) n))

/-- DT_RESUME. FIFO_n_DTCTL.RESUME (R227). -/
def execDtResume (n : Fin 4) (s : State) : Host.Outcome State Fault Refusal :=
  .next (finish (motWatch (dtResume s n) n))

/-- JOIN_RESULT. The join correlator has its result (R228). -/
def execJoinResult (n : Fin 4) (s : State) : Host.Outcome State Fault Refusal :=
  .next (finish (joinDone s n))

end Sys2Proof.Machine
end

