-- ==== Sys2Proof/Machine/LampsCmds.lean ====
section
/-! DEFINITION. Machine/LampsCmds.lean: the meanings of the commands of the lamp controller (spec/06_illumination.md). Every
command has its effect in the states that the rule it cites gives one, and leaves any other state as it is; its end is `finish`.
-/

namespace Sys2Proof.Machine

/-- LAMP_LEVEL_WRITE. A write of LMP_n_LV_g (R156). -/
def execLampLevelWrite (n g : Fin 4) (level fade : BitVec 16) (s : State) : Host.Outcome State Fault Refusal :=
  .next (finish (levelWrite s n g level.toNat fade.toNat))

/-- LAMP_FADESTOP. LMP_n_CTL.FADESTOP (R156). -/
def execLampFadestop (n : Fin 4) (s : State) : Host.Outcome State Fault Refusal :=
  .next (finish (showLamp (fadeStop s n) n))

/-- LAMP_OFF_WRITE. A write of LMP_n_CTL.OFF (R158). -/
def execLampOffWrite (n : Fin 4) (off : Bool) (s : State) : Host.Outcome State Fault Refusal :=
  .next (finish (fldWrite s (LMP_CTL_OFF n) (b2n off)))

/-- LMP_CLRCNT. LMP_n_CTL.CLRCNT (R168). -/
def execLmpClrcnt (n : Fin 4) (s : State) : Host.Outcome State Fault Refusal :=
  .next (finish (s.clear (lmpCounters n)))

/-- LAMP_INTERNAL_MARK. An internal line mark (R154). -/
def execLampInternalMark (n : Fin 4) (s : State) : Host.Outcome State Fault Refusal :=
  .next (finish (internalMark s n))

/-- LAMP_TEMP_SAMPLE. The light-bar temperature in 1/16 °C; none: out of range (R158). -/
def execLampTempSample (n : Fin 4) (theta : Option (BitVec 16)) (s : State) : Host.Outcome State Fault Refusal :=
  .next (finish (lampTemp s n theta))

/-- COLOUR_HOLD_UPDATE. A hold period of a group ends (R161). -/
def execColourHoldUpdate (n g : Fin 4) (s : State) : Host.Outcome State Fault Refusal :=
  .next (finish (holdUpdate s n g))

/-- SINK_SELF_TEST_DONE. A sink self-test ends (R163). -/
def execSinkSelfTestDone (n : Fin 4) (sink : Fin 12) (regulates : Bool) (s : State) : Host.Outcome State Fault Refusal :=
  .next (finish (selfTestDone s n sink regulates))

/-- CONTINUOUS_SINK_CHECK. The check of a sink in mode 3 (R162). -/
def execContinuousSinkCheck (n : Fin 4) (sink : Fin 12) (sense : SinkSense) (s : State) : Host.Outcome State Fault Refusal :=
  .next (finish (continuousCheck s n sink sense))

/-- LAMP_FAULT_CLEAR. A write of LMP_n_FAULT (R163). -/
def execLampFaultClear (n : Fin 4) (bits : Word) (s : State) : Host.Outcome State Fault Refusal :=
  .next (finish (lampFaultClear s n bits))

/-- HEADROOM_UPDATE. The headroom demand is updated (R165). -/
def execHeadroomUpdate (n : Fin 4) (s : State) : Host.Outcome State Fault Refusal :=
  .next (finish (headroom s n))

/-- LD_SYNC_EDGE. A falling edge on the LD_SYNC pin (R159). -/
def execLdSyncEdge (s : State) : Host.Outcome State Fault Refusal :=
  .next (finish (ldSyncPin s))

/-- LD_SYNC_PULSE. GLB_LDSYNC.PULSE (R159). -/
def execLdSyncPulse (out : Bool) (s : State) : Host.Outcome State Fault Refusal :=
  .next (finish (ldSyncPulse (fldWrite s GLB_LDSYNC_OUT (b2n out))))

/-- LD_SYNC_PULSE_END. The LD_SYNC pulse ends (R159). -/
def execLdSyncPulseEnd (s : State) : Host.Outcome State Fault Refusal :=
  .next (finish (ldSyncPulseEnd s))

end Sys2Proof.Machine
end

