-- ==== Sys2Proof/Machine/ListsCmds.lean ====
section
/-! DEFINITION. Machine/ListsCmds.lean: the meanings of the commands of the sequence engine and its lists
(spec/02_jigs_boot_job_switch.md R50 to R53; spec/17_register_sequences.md R426). Every command has its effect in the states that
the rule it cites gives one, and leaves any other state as it is; its end is `finish`. -/

namespace Sys2Proof.Machine

/-- SEQ_START. SEQ_n_CTL.START (R53). -/
def execSeqStart (n : Fin 4) (type : Fin 8) (s : State) : Host.Outcome State Fault Refusal :=
  .next (finish (seqStart (fldWrite s (SEQ_CTL_TYPE n) type) n type))

/-- SEQ_ABORT. SEQ_n_CTL.ABORT (R53). -/
def execSeqAbort (n : Fin 4) (s : State) : Host.Outcome State Fault Refusal :=
  .next (finish (seqAbortWatch s (n + 1)))

/-- SEQ_END. END (R51). -/
def execSeqEnd (r : Fin 5) (s : State) : Host.Outcome State Fault Refusal :=
  .next (finish (listEnd s r))

/-- SEQ_WRITE. WRITE (R426). -/
def execSeqWrite (r : Fin 5) (s : State) : Host.Outcome State Fault Refusal :=
  .next (finish (listWrite s r))

/-- SEQ_WRITEM. WRITEM (R51). -/
def execSeqWritem (r : Fin 5) (s : State) : Host.Outcome State Fault Refusal :=
  .next (finish (listWriteM s r))

/-- SEQ_WAITEV. WAITEV (R51). -/
def execSeqWaitev (r : Fin 5) (s : State) : Host.Outcome State Fault Refusal :=
  .next (finish (listWaitEv s r))

/-- SEQ_WAITEV_SATISFIED. The awaited event has its status bit set (R51). -/
def execSeqWaitevSatisfied (r : Fin 5) (s : State) : Host.Outcome State Fault Refusal :=
  .next (finish (waitEvSatisfied s r))

/-- SEQ_WAITEV_TIMEOUT. A WAITEV times out (R52). -/
def execSeqWaitevTimeout (r : Fin 5) (s : State) : Host.Outcome State Fault Refusal :=
  .next (finish (waitEvTimeout s r))

/-- SEQ_WAITT. WAITT (R51). -/
def execSeqWaitt (r : Fin 5) (s : State) : Host.Outcome State Fault Refusal :=
  .next (finish (listWaitT s r))

/-- SEQ_WAITT_EXPIRE. A WAITT ends (R51). -/
def execSeqWaittExpire (r : Fin 5) (s : State) : Host.Outcome State Fault Refusal :=
  .next (finish (waitTExpire s r))

/-- SEQ_MOVE. MOVE (R51, R192). -/
def execSeqMove (r : Fin 5) (s : State) : Host.Outcome State Fault Refusal :=
  .next (finish (listMove s r))

/-- SEQ_MOVE_STANDSTILL. The axis of a MOVE with WAIT stands still (R192). -/
def execSeqMoveStandstill (r : Fin 5) (s : State) : Host.Outcome State Fault Refusal :=
  .next (finish (moveStandstill s r))

/-- SEQ_CAPTURE. CAPTURE (R240, R241). -/
def execSeqCapture (r : Fin 5) (s : State) : Host.Outcome State Fault Refusal :=
  .next (finish (listCapture s r))

/-- SEQ_CMP. CMP (R51). -/
def execSeqCmp (r : Fin 5) (s : State) : Host.Outcome State Fault Refusal :=
  .next (finish (listCmp s r))

/-- SEQ_JUMP. JUMP (R51). -/
def execSeqJump (r : Fin 5) (s : State) : Host.Outcome State Fault Refusal :=
  .next (finish (listJump s r))

/-- SEQ_MARK. MARK (R51). -/
def execSeqMark (r : Fin 5) (s : State) : Host.Outcome State Fault Refusal :=
  .next (finish (listMark s r))

/-- SEQ_ILLEGAL. An illegal command or the end of the list (R52). -/
def execSeqIllegal (r : Fin 5) (s : State) : Host.Outcome State Fault Refusal :=
  .next (finish (listIllegal s r))

end Sys2Proof.Machine
end

