-- ==== Sys2Proof/Machine/MonitorCmds.lean ====
section
/-! DEFINITION. Machine/MonitorCmds.lean: the meanings of the commands of the monitoring converter
(spec/13_monitoring_converter.md). Every command has its effect in the states that the rule it cites gives one, and leaves any
other state as it is; its end is `finish`. -/

namespace Sys2Proof.Machine

/-- MON_RUN_SET. MON_CTL.RUN is set (R327). -/
def execMonRunSet (s : State) : Host.Outcome State Fault Refusal :=
  .next (finish (fldWrite s MON_CTL_RUN 1))

/-- MON_RUN_CLEAR. MON_CTL.RUN is cleared (R327). -/
def execMonRunClear (s : State) : Host.Outcome State Fault Refusal :=
  .next (finish (fldWrite s MON_CTL_RUN 0))

/-- MON_SNAP. MON_CTL.SNAP (R331). -/
def execMonSnap (rst : Bool) (s : State) : Host.Outcome State Fault Refusal :=
  .next (finish (monSnap s rst))

/-- MON_DIAGNOW. MON_CTL.DIAGNOW (R335). -/
def execMonDiagnow (s : State) : Host.Outcome State Fault Refusal :=
  .next (finish (monDiag s))

/-- MON_CLRCNT. MON_CTL.CLRCNT (R341). -/
def execMonClrcnt (s : State) : Host.Outcome State Fault Refusal :=
  .next (finish (s.clear monCounters))

/-- MON_CONVERSION_END. A conversion ends (R325). -/
def execMonConversionEnd (c : Fin 2) (count : ConvCount) (s : State) : Host.Outcome State Fault Refusal :=
  .next (finish (monConversionEnd s c count))

/-- MON_STALL. A converter gives no result in time (R336). -/
def execMonStall (c : Fin 2) (s : State) : Host.Outcome State Fault Refusal :=
  .next (finish (monStall s c))

/-- MON_DIAG_TIMER. DIAGPER expires (R335). -/
def execMonDiagTimer (s : State) : Host.Outcome State Fault Refusal :=
  .next (finish (if s.rd MON_DIAGCFG_PER = 0 then s else monDiag s))

/-- MAINS_SYNC_EDGE. A rising edge of MAINS_SYNC (R324). -/
def execMainsSyncEdge (s : State) : Host.Outcome State Fault Refusal :=
  .next (finish (mainsEdge s))

/-- MAINS_TIMEOUT. No mains edge for 25 ms (R324). -/
def execMainsTimeout (s : State) : Host.Outcome State Fault Refusal :=
  .next (finish (mainsTimeout s))

/-- MON_INJ_GO. MON_INJCTL.GO (R329). -/
def execMonInjGo (s : State) : Host.Outcome State Fault Refusal :=
  .next (finish (monTriggerSrc s 0 0 0))

/-- MON_INJ_TIMER. The injected timer expires (R329). -/
def execMonInjTimer (s : State) : Host.Outcome State Fault Refusal :=
  .next (finish (monTriggerSrc s 1 0 0))

/-- MON_INJ_DUE. An injected request is due (R329). -/
def execMonInjDue (s : State) : Host.Outcome State Fault Refusal :=
  .next (finish (monInjDue s))

/-- MON_SYSCAL_ZERO. MON_SYSCAL.ZERO (R337). -/
def execMonSyscalZero (input : Fin 32) (count : BitVec 16) (s : State) : Host.Outcome State Fault Refusal :=
  .next (finish (sysCalGo s input count.toNat false))

/-- MON_SYSCAL_FULL. MON_SYSCAL.FULL (R337). -/
def execMonSyscalFull (input : Fin 32) (count : BitVec 16) (s : State) : Host.Outcome State Fault Refusal :=
  .next (finish (sysCalGo s input count.toNat true))

end Sys2Proof.Machine
end

