-- ==== Sys2Proof/Machine/MotionCmds.lean ====
section
/-! DEFINITION. Machine/MotionCmds.lean: the meanings of the commands of the motion controller (spec/08_transport_motion.md).
Every command has its effect in the states that the rule it cites gives one, and leaves any other state as it is; its end is
`finish`. -/

namespace Sys2Proof.Machine

/-- AXIS_GO. MOT_n_a_CTL.GO (R192). -/
def execAxisGo (n a : Fin 4) (rel : Bool) (s : State) : Host.Outcome State Fault Refusal :=
  .next (finish (axisGoNow (fldWrite s (MOTA_CTL_REL n a) (b2n rel)) n a))

/-- AXIS_HALT. MOT_n_a_CTL.HALT (R197). -/
def execAxisHalt (n a : Fin 4) (s : State) : Host.Outcome State Fault Refusal :=
  .next (finish (axisShow (axisHalt s n a) n a))

/-- AXIS_ESTOP. MOT_n_a_CTL.ESTOP (R197). -/
def execAxisEstop (n a : Fin 4) (s : State) : Host.Outcome State Fault Refusal :=
  .next (finish (axisShow (axisEstop s n a) n a))

/-- AXIS_HOME. MOT_n_a_CTL.HOME (R199). -/
def execAxisHome (n a : Fin 4) (s : State) : Host.Outcome State Fault Refusal :=
  .next (finish (axisShow (axisHome s n a .host) n a))

/-- AXIS_CLRFLT. MOT_n_a_CTL.CLRFLT (R206). -/
def execAxisClrflt (n a : Fin 4) (s : State) : Host.Outcome State Fault Refusal :=
  .next (finish (axisShow (axisClrFlt s n a) n a))

/-- MOT_GO. MOT_n_CTL.GO (R198). -/
def execMotGo (n : Fin 4) (mask : BitVec 4) (s : State) : Host.Outcome State Fault Refusal :=
  .next (finish (motShow (groupGo (fldWrite s (MOT_CTL_GMASK n) mask.toNat) n) n))

/-- MOT_HALTALL. MOT_n_CTL.HALTALL (R210). -/
def execMotHaltall (n : Fin 4) (s : State) : Host.Outcome State Fault Refusal :=
  .next (finish (motShow (haltAll s n) n))

/-- MOT_ESTOPALL. MOT_n_CTL.ESTOPALL (R210). -/
def execMotEstopall (n : Fin 4) (s : State) : Host.Outcome State Fault Refusal :=
  .next (finish (motShow (estopAll s n) n))

/-- MOT_CLRCNT. MOT_n_CTL.CLRCNT (R210). -/
def execMotClrcnt (n : Fin 4) (s : State) : Host.Outcome State Fault Refusal :=
  .next (finish (s.clear (motCounters n)))

/-- MOTION_PARAM_WRITE. A write of VSTART, VSTOP, V1, VMAX, A1, A2, D1 or D2, param 0 to 7 (R194). -/
def execMotionParamWrite (n a : Fin 4) (param : Fin 8) (value : Word) (s : State) : Host.Outcome State Fault Refusal :=
  .next (finish (axisParamPut s n a (0x18 + 4 * param) value))

/-- RAMP_TICK. The ramp generator of a channel advances by one tick (R191). -/
def execRampTick (n : Fin 4) (s : State) : Host.Outcome State Fault Refusal :=
  .next (finish (motWatch (rampTick s n) n))

/-- STEP_SUM_CHECK. The sums of steps are compared, with what faults add to them (R204). -/
def execStepSumCheck (errs : List (Fin 4 × Fin 4 × Int)) (s : State) : Host.Outcome State Fault Refusal :=
  .next (finish (stepSums s errs))

/-- PWM_PERIOD. A PWM period of an axis starts (R203, R329). -/
def execPwmPeriod (n a : Fin 4) (s : State) : Host.Outcome State Fault Refusal :=
  .next (finish (monTriggerSrc (pwmPeriod s n a) 3 n a))

end Sys2Proof.Machine
end

