-- ==== Sys2Proof/Machine/PipelineCmds.lean ====
section
/-! DEFINITION. Machine/PipelineCmds.lean: the meanings of the commands of the pixel pipeline, from tile to packed line
(spec/04_pixel_pipeline.md; spec/05_resampling_edges_packets.md). Every command has its effect in the states that the rule it
cites gives one, and leaves any other state as it is; its end is `finish`. -/

namespace Sys2Proof.Machine

/-- TILE_VERDICT. The residue verdict of a tile (R106). -/
def execTileVerdict (n : Fin 4) (slice : Fin 8) (tile : Fin 64) (upsets : List Upset) (rawPar : Bool) (shdPar : Fin 3) (s :
    State) : Host.Outcome State Fault Refusal :=
  .next (finish (tileVerdict s n slice tile upsets rawPar shdPar))

/-- TILE_RECOMPUTE_DONE. A tile has been recomputed (R107). -/
def execTileRecomputeDone (n : Fin 4) (slice : Fin 8) (tile : Fin 64) (upsets : List Upset) (rawPar : Bool) (shdPar : Fin 3) (s :
    State) : Host.Outcome State Fault Refusal :=
  .next (finish (tileRecomputeDone s n slice tile upsets rawPar shdPar))

/-- SHADING_RELOAD_DONE. The profile entries of a tile are reloaded (R109). -/
def execShadingReloadDone (n : Fin 4) (slice : Fin 8) (tile : Fin 64) (s : State) : Host.Outcome State Fault Refusal :=
  .next (finish (shadingReload s n slice tile))

/-- LINE_COMPLETE. The oldest line has passed and is packed (R27). -/
def execLineComplete (n : Fin 4) (faults : LineFaults) (s : State) : Host.Outcome State Fault Refusal :=
  .next (finish (lineComplete s n faults))

/-- PROFILE_WINDOW_WRITE. A write to the shading profile window (R102). -/
def execProfileWindowWrite (n : Fin 4) (off : Nat) (value : Word) (s : State) : Host.Outcome State Fault Refusal :=
  .next (finish (profileWrite s n off value))

/-- PROFILE_SWAP_REQ. PIPE_n_CTL.SWAP (R103). -/
def execProfileSwapReq (n : Fin 4) (swvalid : Bool) (s : State) : Host.Outcome State Fault Refusal :=
  .next (finish (swapRequest (fldWrite s (PIPE_CTL_SWVALID n) (b2n swvalid)) n))

/-- PROFILE_SWAP_APPLY. A pending swap takes effect on a channel that is not running; a running one takes it at its effect line
(R103). -/
def execProfileSwapApply (n : Fin 4) (s : State) : Host.Outcome State Fault Refusal :=
  .next (finish (swapIdle s n))

/-- PIPE_CLRCNT. PIPE_n_CTL.CLRCNT (R118). -/
def execPipeClrcnt (n : Fin 4) (s : State) : Host.Outcome State Fault Refusal :=
  .next (finish (s.clear (pipeCounters n)))

/-- SLICE_SPARE_FORCE. PIPE_n_SPARE.FORCE (R114). -/
def execSliceSpareForce (n : Fin 4) (slice : Fin 8) (s : State) : Host.Outcome State Fault Refusal :=
  .next (finish (sliceForce (fldWrite s (PIPE_SPARE_SLICE n) slice) n slice))

/-- SPARE_KAT_TIMER. The waiting spare slice is tested (R114). -/
def execSpareKatTimer (n : Fin 4) (s : State) : Host.Outcome State Fault Refusal :=
  .next (finish (katTimer s n))

/-- SPARE_KAT_DONE. A known-answer test ends (R114). -/
def execSpareKatDone (n : Fin 4) (pass : Bool) (s : State) : Host.Outcome State Fault Refusal :=
  .next (finish (katDone s n pass))

end Sys2Proof.Machine
end

