-- ==== Sys2Proof/Machine/PositionCmds.lean ====
section
/-! DEFINITION. Machine/PositionCmds.lean: the meanings of the commands of the position interface (spec/07_position_feedback.md).
Every command has its effect in the states that the rule it cites gives one, and leaves any other state as it is; its end is
`finish`. -/

namespace Sys2Proof.Machine

/-- ENCODER_COUNT_CHANGE. New levels of PS_n_A and PS_n_B, or of the generator, in sampling period sub (R169). -/
def execEncoderCountChange (n : Fin 4) (a b gen : Bool) (sub : Fin 6) (s : State) : Host.Outcome State Fault Refusal :=
  .next (finish (encoderEdge s n a b gen sub))

/-- COMPARE_PULSE_END. The pulse of a compare output ends (R180). -/
def execComparePulseEnd (n c : Fin 4) (sub : Fin 6) (s : State) : Host.Outcome State Fault Refusal :=
  .next (finish (cmpPulseEnd s n c (s.tick sub)))

/-- DIV_PULSE_END. The trigger pulse on PS_n_DIV ends (R180). -/
def execDivPulseEnd (n : Fin 4) (sub : Fin 6) (s : State) : Host.Outcome State Fault Refusal :=
  .next (finish (divPulseEnd s n (s.tick sub)))

/-- INDEX_EDGE. A rising edge of PS_n_Z, or of the generator (R173). -/
def execIndexEdge (n : Fin 4) (gen : Bool) (s : State) : Host.Outcome State Fault Refusal :=
  .next (finish (indexPulse s n gen))

/-- DRIFT_CORRECTION_APPLY. A pending correction steps the count of a channel that is not running; a running one takes it at its
next trigger (R175). -/
def execDriftCorrectionApply (n : Fin 4) (s : State) : Host.Outcome State Fault Refusal :=
  .next (finish (if s.running n then s else correct s n (s.tick 0) none))

/-- POS_PRESET. POS_n_CTL.PRESET (R172). -/
def execPosPreset (n : Fin 4) (s : State) : Host.Outcome State Fault Refusal :=
  .next (finish (posPreset s n))

/-- ABS_READ. POS_n_CTL.ABSREAD (R183). -/
def execAbsRead (n : Fin 4) (s : State) : Host.Outcome State Fault Refusal :=
  .next (finish (absRead s n (s.tick 0)))

/-- ABS_READ_TIMER. The ABSPER period expires (R183). -/
def execAbsReadTimer (n : Fin 4) (s : State) : Host.Outcome State Fault Refusal :=
  .next (finish (if s.rd (POS_ABSPER_PER n) = 0 then s else absRead s n (s.tick 0)))

/-- ABS_READ_COMPLETE. An absolute frame ends (R183). -/
def execAbsReadComplete (n : Fin 4) (frame : AbsFrame) (s : State) : Host.Outcome State Fault Refusal :=
  .next (finish (absDone s n (s.tick 0) frame))

/-- ABS_LOAD. POS_n_CTL.LOADABS (R183). -/
def execAbsLoad (n : Fin 4) (s : State) : Host.Outcome State Fault Refusal :=
  .next (finish (absLoad s n))

/-- POS_CLRCNT. POS_n_CTL.CLRCNT (R186). -/
def execPosClrcnt (n : Fin 4) (s : State) : Host.Outcome State Fault Refusal :=
  .next (finish (s.clear (posCounters n)))

/-- SPEED_UPDATE. The speed estimate is recomputed (R181). -/
def execSpeedUpdate (n : Fin 4) (s : State) : Host.Outcome State Fault Refusal :=
  .next (finish (speedUpdate s n (s.tick 0)))

/-- DEFERRED_LINE_START. A deferred trigger starts its line (R77). -/
def execDeferredLineStart (n : Fin 4) (s : State) : Host.Outcome State Fault Refusal :=
  .next (finish (deferredStart s n))

end Sys2Proof.Machine
end

