-- ==== Sys2Proof/Machine/SensorCmds.lean ====
section
/-! DEFINITION. Machine/SensorCmds.lean: the meanings of the commands of the sensor timing unit, the lanes and the SPI port
(spec/03_sensor_timing_lanes.md). Every command has its effect in the states that the rule it cites gives one, and leaves any
other state as it is; its end is `finish`. -/

namespace Sys2Proof.Machine

/-- SNS_UP. SNS_n_CTL.UP (R92). -/
def execSnsUp (n : Fin 4) (s : State) : Host.Outcome State Fault Refusal :=
  .next (finish (snsUp s n))

/-- BAR_DEBOUNCE_END. The presence debounce ends (R92). -/
def execBarDebounceEnd (n : Fin 4) (low : Bool) (s : State) : Host.Outcome State Fault Refusal :=
  .next (finish (debounceEnd s n low))

/-- BAR_POWER_WAIT_END. The power-up wait ends (R92). -/
def execBarPowerWaitEnd (n : Fin 4) (s : State) : Host.Outcome State Fault Refusal :=
  .next (finish (powerWaitEnd s n))

/-- BAR_INIT_WAIT_END. 100 µs after MCLK starts (R92). -/
def execBarInitWaitEnd (n : Fin 4) (s : State) : Host.Outcome State Fault Refusal :=
  .next (finish (initWaitEnd s n))

/-- LANE_TRAINING_END. Lane training ends (R87). -/
def execLaneTrainingEnd (n : Fin 4) (s : State) : Host.Outcome State Fault Refusal :=
  .next (finish (trainEnd s n))

/-- SNS_DOWN. SNS_n_CTL.DOWN (R94). -/
def execSnsDown (n : Fin 4) (s : State) : Host.Outcome State Fault Refusal :=
  .next (finish (snsDown s n))

/-- SNS_RETRAIN. SNS_n_CTL.RETRAIN (R92). -/
def execSnsRetrain (n : Fin 4) (s : State) : Host.Outcome State Fault Refusal :=
  .next (finish (snsRetrain s n))

/-- SNS_CLRCNT. SNS_n_CTL.CLRCNT (R97). -/
def execSnsClrcnt (n : Fin 4) (s : State) : Host.Outcome State Fault Refusal :=
  .next (finish (s.clear (snsCounters n)))

/-- BAR_REMOVED. SN_n_PRES_N goes high (R94). -/
def execBarRemoved (n : Fin 4) (s : State) : Host.Outcome State Fault Refusal :=
  .next (finish (barRemoved s n))

/-- BAR_PRESENT. SN_n_PRES_N has been low for 10 ms (R94). -/
def execBarPresent (n : Fin 4) (s : State) : Host.Outcome State Fault Refusal :=
  .next (finish (barPresent s n))

/-- LANE_LHDR. An LHDR block arrives on a physical lane (R83). -/
def execLaneLhdr (n : Fin 4) (lane : Fin 26) (payload : BitVec 64) (s : State) : Host.Outcome State Fault Refusal :=
  .next (finish (laneLhdr s n lane payload))

/-- LANE_DATA_BLOCK. A data block arrives (R85). -/
def execLaneDataBlock (n : Fin 4) (lane : Fin 26) (payload : BitVec 64) (s : State) : Host.Outcome State Fault Refusal :=
  .next (finish (laneData s n lane payload))

/-- LANE_LEND. An LEND block arrives (R90). -/
def execLaneLend (n : Fin 4) (lane : Fin 26) (payload : BitVec 64) (s : State) : Host.Outcome State Fault Refusal :=
  .next (finish (laneLend s n lane payload))

/-- LANE_TRAIN_BLOCK. A TRAIN block arrives, at a time in unit intervals (R87). -/
def execLaneTrainBlock (n : Fin 4) (lane : Fin 26) (payload : BitVec 64) (arrival : Nat) (s : State) : Host.Outcome State Fault
    Refusal :=
  .next (finish (laneTrain s n lane payload arrival))

/-- LANE_IDLE_BLOCK. An IDLE block arrives: nothing between lines, a framing error within one (R83). -/
def execLaneIdleBlock (n : Fin 4) (lane : Fin 26) (s : State) : Host.Outcome State Fault Refusal :=
  .next (finish (laneFraming s n lane))

/-- LANE_LOCK_GAIN. A receiver gains block lock (R87). -/
def execLaneLockGain (n : Fin 4) (lane : Fin 26) (s : State) : Host.Outcome State Fault Refusal :=
  .next (finish (laneLockGain s n lane))

/-- LANE_LOCK_LOSS. A receiver loses block lock (R87). -/
def execLaneLockLoss (n : Fin 4) (lane : Fin 26) (s : State) : Host.Outcome State Fault Refusal :=
  .next (finish (laneLockLoss s n lane))

/-- LHDR_MISSING. No LHDR has come in time (R90). -/
def execLhdrMissing (n : Fin 4) (lane : Fin 26) (s : State) : Host.Outcome State Fault Refusal :=
  .next (finish (lhdrMissing s n lane))

/-- SNS_SPARE_FORCE. SNS_n_SPARE.FORCE (R91). -/
def execSnsSpareForce (n : Fin 4) (lane : Fin 24) (s : State) : Host.Outcome State Fault Refusal :=
  .next (finish (spareForLane (fldWrite s (SNS_SPARE_LANE n) lane) n lane false))

/-- SPI_SLOT. The SPI slot of a line opens (R79). -/
def execSpiSlot (n : Fin 4) (s : State) : Host.Outcome State Fault Refusal :=
  .next (finish (spiSlot s n))

/-- SPI_GO. SNS_n_SPICMD.GO (R78). -/
def execSpiGo (n : Fin 4) (nospoil : Bool) (len : Fin 64) (s : State) : Host.Outcome State Fault Refusal :=
  .next (finish (spiGo (fldWrite (fldWrite s (SNS_SPICMD_NOSPOIL n) (b2n nospoil)) (SNS_SPICMD_LEN n) len) n nospoil len))

/-- SPI_TRANSACTION_DONE. The SPI transaction in progress ends (R78). -/
def execSpiTransactionDone (n : Fin 4) (miso : BitVec 32) (s : State) : Host.Outcome State Fault Refusal :=
  .next (finish (spiDone s n miso.toNat))

end Sys2Proof.Machine
end

