-- ==== Sys2Proof/Machine/UmadeCmds.lean ====
section
/-! DEFINITION. Machine/UmadeCmds.lean: the meanings of the commands of the Umade link (spec/14_multi_device_umade.md). Every
command has its effect in the states that the rule it cites gives one, and leaves any other state as it is; its end is `finish`.
-/

namespace Sys2Proof.Machine

/-- UMD_PORT_UP. A port comes up; `up`: the port towards the manager, `above`: the node number there (R344). -/
def execUmdPortUp (up : Bool) (above : Fin 16) (s : State) : Host.Outcome State Fault Refusal :=
  .next (finish (portUp s up above))

/-- UMD_PORT_DOWN. A port goes down (R344). -/
def execUmdPortDown (up : Bool) (s : State) : Host.Outcome State Fault Refusal :=
  .next (finish (portDown s up))

/-- UMD_TICK. A TICK frame arrives (R349). -/
def execUmdTick (frame : List Byte) (lag : Nat) (s : State) : Host.Outcome State Fault Refusal :=
  .next (finish (tickArrive s frame lag))

/-- UMD_TICK_T0. The age of the oldest TICK reaches D (R349). -/
def execUmdTickT0 (s : State) : Host.Outcome State Fault Refusal :=
  .next (finish (tickT0 s))

/-- UMD_TIME. A TIME frame arrives (R352). -/
def execUmdTime (frame : List Byte) (lag : Nat) (s : State) : Host.Outcome State Fault Refusal :=
  .next (finish (timeArrive s frame lag))

/-- UMD_CMD. A CMD frame arrives (R353). -/
def execUmdCmd (frame : List Byte) (s : State) : Host.Outcome State Fault Refusal :=
  .next (finish (cmdArrive s frame))

/-- UMD_REPLY. A REPLY frame arrives (R354). -/
def execUmdReply (frame : List Byte) (s : State) : Host.Outcome State Fault Refusal :=
  .next (finish (replyArrive s frame))

/-- UMD_STATUS. A STATUS frame arrives (R355). -/
def execUmdStatus (frame : List Byte) (s : State) : Host.Outcome State Fault Refusal :=
  .next (finish (statusArrive s frame))

/-- UMD_EVENT. An EVENT frame arrives (R355). -/
def execUmdEvent (frame : List Byte) (s : State) : Host.Outcome State Fault Refusal :=
  .next (finish (eventArrive s frame))

/-- UMD_ECHO. An ECHO frame arrives (R347). -/
def execUmdEcho (up : Bool) (frame : List Byte) (measured : Nat) (s : State) : Host.Outcome State Fault Refusal :=
  .next (finish (echoArrive s up frame measured))

/-- UMD_ECHO_TIMER. An ECHO is due (R347). -/
def execUmdEchoTimer (s : State) : Host.Outcome State Fault Refusal :=
  .next (finish (echoSend s))

/-- UMD_KEEPALIVE. A port had nothing to send for 10 µs (R344). -/
def execUmdKeepalive (up : Bool) (s : State) : Host.Outcome State Fault Refusal :=
  .next (finish (keepAlive s up))

/-- UMD_TIME_SEND. The manager sends its time (R352). -/
def execUmdTimeSend (s : State) : Host.Outcome State Fault Refusal :=
  .next (finish (timeSend s))

/-- UMD_STATUS_SEND. A worker sends its status (R355). -/
def execUmdStatusSend (s : State) : Host.Outcome State Fault Refusal :=
  .next (finish (statusSend s))

/-- UMD_CMD_GO. UMD_CMDCTL.GO (R353). -/
def execUmdCmdGo (code : Fin 8) (group : Fin 4) (s : State) : Host.Outcome State Fault Refusal :=
  .next (finish (cmdGo (fldWrite (fldWrite s UMD_CMDCTL_CODE code) UMD_CMDCTL_GROUP group)))

/-- UMD_REPLY_TIMEOUT. A CMD got no REPLY in 20 µs (R353). -/
def execUmdReplyTimeout (id : BitVec 8) (node : Fin 16) (s : State) : Host.Outcome State Fault Refusal :=
  .next (finish (replyTimeout s id.toNat node))

/-- UMD_NODE_TIMEOUT. No STATUS of a present node for 50 µs (R356). -/
def execUmdNodeTimeout (node : Fin 16) (s : State) : Host.Outcome State Fault Refusal :=
  .next (finish (if isManager s && nodePresent s node then nodesLost s node else s))

/-- UMD_CNT_CLEAR. UMD_CNT_CLR (R358). -/
def execUmdCntClear (s : State) : Host.Outcome State Fault Refusal :=
  .next (finish (umdClear s))

end Sys2Proof.Machine
end

