-- ==== Sys2Proof/Machine/Dispatch.lean ====
section
/-! DEFINITION. Machine/Dispatch.lean: one arm to each command. -/

namespace Sys2Proof.Machine

def exec (i : Instr) (s : State) : Host.Outcome State Fault Refusal :=
  match i with
  | .registerWrite dw value how => Sys2Proof.Machine.execRegisterWrite dw value how s
  | .driveDieWriteApply => Sys2Proof.Machine.execDriveDieWriteApply s
  | .driveDieStatusRefresh refs senses => Sys2Proof.Machine.execDriveDieStatusRefresh refs senses s
  | .driveDieReport thermal => Sys2Proof.Machine.execDriveDieReport thermal s
  | .dieLinkFrame bad => Sys2Proof.Machine.execDieLinkFrame bad s
  | .dieLinkTimeout => Sys2Proof.Machine.execDieLinkTimeout s
  | .dieLinkReestablish => Sys2Proof.Machine.execDieLinkReestablish s
  | .timeBaseTick clocks => Sys2Proof.Machine.execTimeBaseTick clocks s
  | .powerOnReset => Sys2Proof.Machine.execPowerOnReset s
  | .railDip => Sys2Proof.Machine.execRailDip s
  | .driveUndervoltage => Sys2Proof.Machine.execDriveUndervoltage s
  | .driveUndervoltageEnd => Sys2Proof.Machine.execDriveUndervoltageEnd s
  | .pinReset => Sys2Proof.Machine.execPinReset s
  | .warmReset => Sys2Proof.Machine.execWarmReset s
  | .channelReset n => Sys2Proof.Machine.execChannelReset n s
  | .functionLevelReset => Sys2Proof.Machine.execFunctionLevelReset s
  | .perstNAssert => Sys2Proof.Machine.execPerstNAssert s
  | .perstNRelease => Sys2Proof.Machine.execPerstNRelease s
  | .bootRelease mode role => Sys2Proof.Machine.execBootRelease mode role s
  | .dramTrainingDone k bin parts repair => Sys2Proof.Machine.execDramTrainingDone k bin parts repair s
  | .libraryStreamDone => Sys2Proof.Machine.execLibraryStreamDone s
  | .bootHomingDone n => Sys2Proof.Machine.execBootHomingDone n s
  | .marchTestDone n faults => Sys2Proof.Machine.execMarchTestDone n faults s
  | .jigVerify jig => Sys2Proof.Machine.execJigVerify jig s
  | .jigVerifyDone => Sys2Proof.Machine.execJigVerifyDone s
  | .libctlBoot jig => Sys2Proof.Machine.execLibctlBoot jig s
  | .bar2Read addr len => Sys2Proof.Machine.execBar2Read addr len s
  | .bar2Write addr bytes => Sys2Proof.Machine.execBar2Write addr bytes s
  | .libUpdateStart mem => Sys2Proof.Machine.execLibUpdateStart mem s
  | .libUpdateAbort => Sys2Proof.Machine.execLibUpdateAbort s
  | .libUpdateStepDone phase => Sys2Proof.Machine.execLibUpdateStepDone phase s
  | .switchRequest jig mask next => Sys2Proof.Machine.execSwitchRequest jig mask next s
  | .switchCancel mask => Sys2Proof.Machine.execSwitchCancel mask s
  | .jobStb sel => Sys2Proof.Machine.execJobStb sel s
  | .stagingDone n readFail => Sys2Proof.Machine.execStagingDone n readFail s
  | .runSet n => Sys2Proof.Machine.execRunSet n s
  | .runClear n => Sys2Proof.Machine.execRunClear n s
  | .runningEnd n => Sys2Proof.Machine.execRunningEnd n s
  | .seqStart n type => Sys2Proof.Machine.execSeqStart n type s
  | .seqAbort n => Sys2Proof.Machine.execSeqAbort n s
  | .seqEnd r => Sys2Proof.Machine.execSeqEnd r s
  | .seqWrite r => Sys2Proof.Machine.execSeqWrite r s
  | .seqWritem r => Sys2Proof.Machine.execSeqWritem r s
  | .seqWaitev r => Sys2Proof.Machine.execSeqWaitev r s
  | .seqWaitevSatisfied r => Sys2Proof.Machine.execSeqWaitevSatisfied r s
  | .seqWaitevTimeout r => Sys2Proof.Machine.execSeqWaitevTimeout r s
  | .seqWaitt r => Sys2Proof.Machine.execSeqWaitt r s
  | .seqWaittExpire r => Sys2Proof.Machine.execSeqWaittExpire r s
  | .seqMove r => Sys2Proof.Machine.execSeqMove r s
  | .seqMoveStandstill r => Sys2Proof.Machine.execSeqMoveStandstill r s
  | .seqCapture r => Sys2Proof.Machine.execSeqCapture r s
  | .seqCmp r => Sys2Proof.Machine.execSeqCmp r s
  | .seqJump r => Sys2Proof.Machine.execSeqJump r s
  | .seqMark r => Sys2Proof.Machine.execSeqMark r s
  | .seqIllegal r => Sys2Proof.Machine.execSeqIllegal r s
  | .encoderCountChange n a b gen sub => Sys2Proof.Machine.execEncoderCountChange n a b gen sub s
  | .comparePulseEnd n c sub => Sys2Proof.Machine.execComparePulseEnd n c sub s
  | .divPulseEnd n sub => Sys2Proof.Machine.execDivPulseEnd n sub s
  | .indexEdge n gen => Sys2Proof.Machine.execIndexEdge n gen s
  | .driftCorrectionApply n => Sys2Proof.Machine.execDriftCorrectionApply n s
  | .posPreset n => Sys2Proof.Machine.execPosPreset n s
  | .absRead n => Sys2Proof.Machine.execAbsRead n s
  | .absReadTimer n => Sys2Proof.Machine.execAbsReadTimer n s
  | .absReadComplete n frame => Sys2Proof.Machine.execAbsReadComplete n frame s
  | .absLoad n => Sys2Proof.Machine.execAbsLoad n s
  | .posClrcnt n => Sys2Proof.Machine.execPosClrcnt n s
  | .speedUpdate n => Sys2Proof.Machine.execSpeedUpdate n s
  | .deferredLineStart n => Sys2Proof.Machine.execDeferredLineStart n s
  | .snsUp n => Sys2Proof.Machine.execSnsUp n s
  | .barDebounceEnd n low => Sys2Proof.Machine.execBarDebounceEnd n low s
  | .barPowerWaitEnd n => Sys2Proof.Machine.execBarPowerWaitEnd n s
  | .barInitWaitEnd n => Sys2Proof.Machine.execBarInitWaitEnd n s
  | .laneTrainingEnd n => Sys2Proof.Machine.execLaneTrainingEnd n s
  | .snsDown n => Sys2Proof.Machine.execSnsDown n s
  | .snsRetrain n => Sys2Proof.Machine.execSnsRetrain n s
  | .snsClrcnt n => Sys2Proof.Machine.execSnsClrcnt n s
  | .barRemoved n => Sys2Proof.Machine.execBarRemoved n s
  | .barPresent n => Sys2Proof.Machine.execBarPresent n s
  | .laneLhdr n lane payload => Sys2Proof.Machine.execLaneLhdr n lane payload s
  | .laneDataBlock n lane payload => Sys2Proof.Machine.execLaneDataBlock n lane payload s
  | .laneLend n lane payload => Sys2Proof.Machine.execLaneLend n lane payload s
  | .laneTrainBlock n lane payload arrival => Sys2Proof.Machine.execLaneTrainBlock n lane payload arrival s
  | .laneIdleBlock n lane => Sys2Proof.Machine.execLaneIdleBlock n lane s
  | .laneLockGain n lane => Sys2Proof.Machine.execLaneLockGain n lane s
  | .laneLockLoss n lane => Sys2Proof.Machine.execLaneLockLoss n lane s
  | .lhdrMissing n lane => Sys2Proof.Machine.execLhdrMissing n lane s
  | .snsSpareForce n lane => Sys2Proof.Machine.execSnsSpareForce n lane s
  | .spiSlot n => Sys2Proof.Machine.execSpiSlot n s
  | .spiGo n nospoil len => Sys2Proof.Machine.execSpiGo n nospoil len s
  | .spiTransactionDone n miso => Sys2Proof.Machine.execSpiTransactionDone n miso s
  | .tileVerdict n slice tile upsets rawPar shdPar => Sys2Proof.Machine.execTileVerdict n slice tile upsets rawPar shdPar s
  | .tileRecomputeDone n slice tile upsets rawPar shdPar => Sys2Proof.Machine.execTileRecomputeDone n slice tile upsets rawPar shdPar s
  | .shadingReloadDone n slice tile => Sys2Proof.Machine.execShadingReloadDone n slice tile s
  | .lineComplete n faults => Sys2Proof.Machine.execLineComplete n faults s
  | .profileWindowWrite n off value => Sys2Proof.Machine.execProfileWindowWrite n off value s
  | .profileSwapReq n swvalid => Sys2Proof.Machine.execProfileSwapReq n swvalid s
  | .profileSwapApply n => Sys2Proof.Machine.execProfileSwapApply n s
  | .pipeClrcnt n => Sys2Proof.Machine.execPipeClrcnt n s
  | .sliceSpareForce n slice => Sys2Proof.Machine.execSliceSpareForce n slice s
  | .spareKatTimer n => Sys2Proof.Machine.execSpareKatTimer n s
  | .spareKatDone n pass => Sys2Proof.Machine.execSpareKatDone n pass s
  | .lampLevelWrite n g level fade => Sys2Proof.Machine.execLampLevelWrite n g level fade s
  | .lampFadestop n => Sys2Proof.Machine.execLampFadestop n s
  | .lampOffWrite n off => Sys2Proof.Machine.execLampOffWrite n off s
  | .lmpClrcnt n => Sys2Proof.Machine.execLmpClrcnt n s
  | .lampInternalMark n => Sys2Proof.Machine.execLampInternalMark n s
  | .lampTempSample n theta => Sys2Proof.Machine.execLampTempSample n theta s
  | .colourHoldUpdate n g => Sys2Proof.Machine.execColourHoldUpdate n g s
  | .sinkSelfTestDone n sink regulates => Sys2Proof.Machine.execSinkSelfTestDone n sink regulates s
  | .continuousSinkCheck n sink sense => Sys2Proof.Machine.execContinuousSinkCheck n sink sense s
  | .lampFaultClear n bits => Sys2Proof.Machine.execLampFaultClear n bits s
  | .headroomUpdate n => Sys2Proof.Machine.execHeadroomUpdate n s
  | .ldSyncEdge => Sys2Proof.Machine.execLdSyncEdge s
  | .ldSyncPulse out => Sys2Proof.Machine.execLdSyncPulse out s
  | .ldSyncPulseEnd => Sys2Proof.Machine.execLdSyncPulseEnd s
  | .axisGo n a rel => Sys2Proof.Machine.execAxisGo n a rel s
  | .axisHalt n a => Sys2Proof.Machine.execAxisHalt n a s
  | .axisEstop n a => Sys2Proof.Machine.execAxisEstop n a s
  | .axisHome n a => Sys2Proof.Machine.execAxisHome n a s
  | .axisClrflt n a => Sys2Proof.Machine.execAxisClrflt n a s
  | .motGo n mask => Sys2Proof.Machine.execMotGo n mask s
  | .motHaltall n => Sys2Proof.Machine.execMotHaltall n s
  | .motEstopall n => Sys2Proof.Machine.execMotEstopall n s
  | .motClrcnt n => Sys2Proof.Machine.execMotClrcnt n s
  | .motionParamWrite n a param value => Sys2Proof.Machine.execMotionParamWrite n a param value s
  | .rampTick n => Sys2Proof.Machine.execRampTick n s
  | .stepSumCheck errs => Sys2Proof.Machine.execStepSumCheck errs s
  | .pwmPeriod n a => Sys2Proof.Machine.execPwmPeriod n a s
  | .spillWriteDone n => Sys2Proof.Machine.execSpillWriteDone n s
  | .spillReadDone n bad => Sys2Proof.Machine.execSpillReadDone n bad s
  | .tailToHeadMove n => Sys2Proof.Machine.execTailToHeadMove n s
  | .fifoReadRequest n bad => Sys2Proof.Machine.execFifoReadRequest n bad s
  | .fifoFlush n => Sys2Proof.Machine.execFifoFlush n s
  | .fifoClrcnt n => Sys2Proof.Machine.execFifoClrcnt n s
  | .stopPadding n => Sys2Proof.Machine.execStopPadding n s
  | .paceUpdate n => Sys2Proof.Machine.execPaceUpdate n s
  | .dtStop n => Sys2Proof.Machine.execDtStop n s
  | .dtResume n => Sys2Proof.Machine.execDtResume n s
  | .joinResult n => Sys2Proof.Machine.execJoinResult n s
  | .calStart n => Sys2Proof.Machine.execCalStart n s
  | .calAbort n => Sys2Proof.Machine.execCalAbort n s
  | .calEval n => Sys2Proof.Machine.execCalEval n s
  | .calEvalDone n again stop => Sys2Proof.Machine.execCalEvalDone n again stop s
  | .calStore n => Sys2Proof.Machine.execCalStore n s
  | .calLoad n slot => Sys2Proof.Machine.execCalLoad n slot s
  | .profileCopyDone n => Sys2Proof.Machine.execProfileCopyDone n s
  | .calClrcnt n => Sys2Proof.Machine.execCalClrcnt n s
  | .captureInternalTrigger n => Sys2Proof.Machine.execCaptureInternalTrigger n s
  | .captureDone n => Sys2Proof.Machine.execCaptureDone n s
  | .calTempRead n => Sys2Proof.Machine.execCalTempRead n s
  | .calAutoStart n => Sys2Proof.Machine.execCalAutoStart n s
  | .calGapClose n => Sys2Proof.Machine.execCalGapClose n s
  | .dmaStart q => Sys2Proof.Machine.execDmaStart q s
  | .dmaGo q => Sys2Proof.Machine.execDmaGo q s
  | .dmaResume q => Sys2Proof.Machine.execDmaResume q s
  | .dmaAbort q => Sys2Proof.Machine.execDmaAbort q s
  | .dmaPause q => Sys2Proof.Machine.execDmaPause q s
  | .dmaUnpause q => Sys2Proof.Machine.execDmaUnpause q s
  | .dmaClrcnt q => Sys2Proof.Machine.execDmaClrcnt q s
  | .dmaDoorbell q => Sys2Proof.Machine.execDmaDoorbell q s
  | .descriptorFetchDone q bytes => Sys2Proof.Machine.execDescriptorFetchDone q bytes s
  | .sglFetchDone q bytes => Sys2Proof.Machine.execSglFetchDone q bytes s
  | .dmaBurst q => Sys2Proof.Machine.execDmaBurst q s
  | .dmaBeatArbitration => Sys2Proof.Machine.execDmaBeatArbitration s
  | .dmaReadCompletion q bytes => Sys2Proof.Machine.execDmaReadCompletion q bytes s
  | .dmaReadFail q what cause => Sys2Proof.Machine.execDmaReadFail q what cause s
  | .dmaRetryBackoff q => Sys2Proof.Machine.execDmaRetryBackoff q s
  | .barrierComplete q => Sys2Proof.Machine.execBarrierComplete q s
  | .crheadWrite q slot => Sys2Proof.Machine.execCrheadWrite q slot s
  | .coalTimer q => Sys2Proof.Machine.execCoalTimer q s
  | .pcieLinkChange up speed width flit => Sys2Proof.Machine.execPcieLinkChange up speed width flit s
  | .pcieAerError corr => Sys2Proof.Machine.execPcieAerError corr s
  | .busMasterEnableChange bme mse d3hot bars dev msix => Sys2Proof.Machine.execBusMasterEnableChange bme mse d3hot bars dev msix s
  | .drcClrcnt k => Sys2Proof.Machine.execDrcClrcnt k s
  | .drcPprnow k => Sys2Proof.Machine.execDrcPprnow k s
  | .pprWindowEnd k oks => Sys2Proof.Machine.execPprWindowEnd k oks s
  | .drcRetrain k => Sys2Proof.Machine.execDrcRetrain k s
  | .dramPeriodicTrain k => Sys2Proof.Machine.execDramPeriodicTrain k s
  | .dramSchedule k asks busy => Sys2Proof.Machine.execDramSchedule k asks busy s
  | .dramAgePromote k => Sys2Proof.Machine.execDramAgePromote k s
  | .dramReadReturn k addr reads => Sys2Proof.Machine.execDramReadReturn k addr reads s
  | .dramRefresh k bank => Sys2Proof.Machine.execDramRefresh k bank s
  | .dramMr4Read k rank mr4 double beyond => Sys2Proof.Machine.execDramMr4Read k rank mr4 double beyond s
  | .rhWindowClear k => Sys2Proof.Machine.execRhWindowClear k s
  | .monRunSet => Sys2Proof.Machine.execMonRunSet s
  | .monRunClear => Sys2Proof.Machine.execMonRunClear s
  | .monSnap rst => Sys2Proof.Machine.execMonSnap rst s
  | .monDiagnow => Sys2Proof.Machine.execMonDiagnow s
  | .monClrcnt => Sys2Proof.Machine.execMonClrcnt s
  | .monConversionEnd c count => Sys2Proof.Machine.execMonConversionEnd c count s
  | .monStall c => Sys2Proof.Machine.execMonStall c s
  | .monDiagTimer => Sys2Proof.Machine.execMonDiagTimer s
  | .mainsSyncEdge => Sys2Proof.Machine.execMainsSyncEdge s
  | .mainsTimeout => Sys2Proof.Machine.execMainsTimeout s
  | .monInjGo => Sys2Proof.Machine.execMonInjGo s
  | .monInjTimer => Sys2Proof.Machine.execMonInjTimer s
  | .monInjDue => Sys2Proof.Machine.execMonInjDue s
  | .monSyscalZero input count => Sys2Proof.Machine.execMonSyscalZero input count s
  | .monSyscalFull input count => Sys2Proof.Machine.execMonSyscalFull input count s
  | .umdPortUp up above => Sys2Proof.Machine.execUmdPortUp up above s
  | .umdPortDown up => Sys2Proof.Machine.execUmdPortDown up s
  | .umdTick frame lag => Sys2Proof.Machine.execUmdTick frame lag s
  | .umdTickT0 => Sys2Proof.Machine.execUmdTickT0 s
  | .umdTime frame lag => Sys2Proof.Machine.execUmdTime frame lag s
  | .umdCmd frame => Sys2Proof.Machine.execUmdCmd frame s
  | .umdReply frame => Sys2Proof.Machine.execUmdReply frame s
  | .umdStatus frame => Sys2Proof.Machine.execUmdStatus frame s
  | .umdEvent frame => Sys2Proof.Machine.execUmdEvent frame s
  | .umdEcho up frame measured => Sys2Proof.Machine.execUmdEcho up frame measured s
  | .umdEchoTimer => Sys2Proof.Machine.execUmdEchoTimer s
  | .umdKeepalive up => Sys2Proof.Machine.execUmdKeepalive up s
  | .umdTimeSend => Sys2Proof.Machine.execUmdTimeSend s
  | .umdStatusSend => Sys2Proof.Machine.execUmdStatusSend s
  | .umdCmdGo code group => Sys2Proof.Machine.execUmdCmdGo code group s
  | .umdReplyTimeout id node => Sys2Proof.Machine.execUmdReplyTimeout id node s
  | .umdNodeTimeout node => Sys2Proof.Machine.execUmdNodeTimeout node s
  | .umdCntClear => Sys2Proof.Machine.execUmdCntClear s
  | .trackerWindowLapse => Sys2Proof.Machine.execTrackerWindowLapse s
  | .evtForce event => Sys2Proof.Machine.execEvtForce event s
  | .evtStatClear w bits => Sys2Proof.Machine.execEvtStatClear w bits s
  | .evtLastClear w bits => Sys2Proof.Machine.execEvtLastClear w bits s
  | .evtLogEnable => Sys2Proof.Machine.execEvtLogEnable s
  | .evtClrcnt => Sys2Proof.Machine.execEvtClrcnt s
  | .evtLogheadWrite slot => Sys2Proof.Machine.execEvtLogheadWrite slot s
  | .msiHoldExpire vec => Sys2Proof.Machine.execMsiHoldExpire vec s
  | .registerScrub dw fail => Sys2Proof.Machine.execRegisterScrub dw fail s
  | .droopDetect => Sys2Proof.Machine.execDroopDetect s
  | .stretchEnd => Sys2Proof.Machine.execStretchEnd s
  | .pllLockLoss pll => Sys2Proof.Machine.execPllLockLoss pll s
  | .sysclkLoss => Sys2Proof.Machine.execSysclkLoss s
  | .dieTempRead temp => Sys2Proof.Machine.execDieTempRead temp s

end Sys2Proof.Machine
end

