-- ==== Sys2Proof/Machine/Step.lean ====
section
/-! DEFINITION. Machine/Step.lean: one step takes the command at the front of the queue; on an empty queue the device idles (log entry 1). -/

namespace Sys2Proof.Machine

/-- The state with a command at the front of its queue.
[DESIGN CHOICE, safe: log entry 5] -/
def State.push (s : State) (c : Instr) : State := { s with pending := c :: s.pending }

/-- One step.
[DESIGN CHOICE, safe: log entry 1] -/
def step (s : State) : Host.Outcome State Fault Refusal :=
  match s.pending with
  | [] => .next s
  | c :: rest => exec c { s with pending := rest }

/-- The state with the command that a word spells at the front of its queue.
[DESIGN CHOICE, safe: log entry 5] -/
def State.withFetchWord (s : State) (nbits w : Nat) : State :=
  match decodeTableWord nbits w with
  | some c => s.push c
  | none => s

end Sys2Proof.Machine
end

