-- ==== Sys2Proof/Safety.lean ====
section
/-! DEFINITION. Safety.lean: the words that statements about the device use: a state between two commands, what stays as it was, and the
invariant that every command keeps. -/

namespace Sys2Proof.Machine

/-- Between two commands, with no switch of the Umade link under way: nothing waits for the event unit, and the Umade unit follows
nothing and has no frame to send. The end of a command then changes nothing more. -/
def Quiet (s : State) : Prop := s.evq = [] ∧ s.umd.prep = none ∧ s.umd.sys = none ∧ s.umd.tx = []

/-- The registers at addresses that a test allows may differ; every other register reads as before. -/
def SameWords (s t : State) (may : Nat → Prop) : Prop := ∀ a, ¬ may a → t.word a = s.word a

/-- Nothing but registers differs, and of those only the ones at addresses that a test allows. -/
def OnlyWords (s t : State) (may : Nat → Prop) : Prop := t = { s with regs := t.regs } ∧ SameWords s t may

/-- An address of channel n's registers from an offset on, and below another (R8). -/
def inChan (n lo hi a : Nat) : Prop := chBase n + lo ≤ a ∧ a < chBase n + hi

/-- A field lies within its register. -/
def Fld.Fits (f : Fld) : Prop := f.lo ≤ f.hi ∧ f.hi < 32

/-- Two fields share no bit of one register. -/
def Fld.Apart (f g : Fld) : Prop := f.addr ≠ g.addr ∨ f.hi < g.lo ∨ g.hi < f.lo

/-- The register file is in canonical form: addresses rising, nothing listed that equals what an unlisted address reads as. -/
def RegsWf (s : State) : Prop := SparseWf resetWord s.regs

/-- The DRAM of every controller and both flash devices are in canonical form. -/
def MemWf (s : State) : Prop := (∀ k : Fin 4, SparseWf zeroByte (s.dram k)) ∧ ∀ f ∈ s.flash, SparseWf erased f

/-- The lists with one entry to a queue and to a converter input are complete. -/
def FullLists (s : State) : Prop := s.dma.qs.length = 16 ∧ s.mon.ins.length = 32

/-- Some fields are 0, every field that shares no bit with one of them is as it was, and nothing but their registers differs. -/
def Cleared (s t : State) (fs : List Fld) : Prop :=
  (∀ f ∈ fs, t.rd f = 0) ∧ (∀ g : Fld, g.Fits → (∀ f ∈ fs, f.Apart g) → t.rd g = s.rd g) ∧
  OnlyWords s t fun a => ∃ f ∈ fs, f.addr = a

/-- What a command keeps of the state that it finds: the queue and the key fuses are as they were, the register file and
the memories stay in canonical form, the lists that have one entry to a unit stay complete, what has left the device stays left, and neither the time nor the count of free values runs back. -/
structure Kept (s t : State) : Prop where
  queue : t.pending = s.pending
  fuses : t.keyHash = s.keyHash
  regs : RegsWf s → RegsWf t
  mem : MemWf s → MemWf t
  lists : FullLists s → FullLists t
  out : s.outbox <+: t.outbox
  time : s.now ≤ t.now
  free : s.freeCtr ≤ t.freeCtr

end Sys2Proof.Machine
end

