-- ==== Sys2Proof/Certificates/Slice0/Obligations.lean ====
section
/-! DEFINITION. Certificates/Slice0/Obligations.lean: what is claimed of the device, one statement to a definition. -/

open Sys2Proof Sys2Proof.Machine

/-- For every state s and command c, step of s with c at the front of its queue is exec c on s, whose queue is what is left; on
an empty queue a step answers the state as it is (the model's choice, log entry 1). (spec/01_architecture.md (R33)) -/
def Obligations.StepRunsTheCommandInFront : Prop :=
  ∀ (s : State) (c : Instr), step (s.push c) = exec c s ∧ (s.pending = [] → step s = .next s)

/-- In State.reset every register reads the word of its reset value, the time base is 0, no channel runs, no jig is active on
any channel, every sensor bar is OFF, every position count and line number is 0, every list runner is idle, and nothing has left
the device. (spec/16_register_map.md (R385, R402); spec/01_architecture.md (R23); spec/02_jigs_boot_job_switch.md (R54, R58);
spec/03_sensor_timing_lanes.md (R95); spec/07_position_feedback.md (R172)) -/
def Obligations.ResetLeavesEveryBlockIdle : Prop :=
  (∀ a, State.reset.word a = resetWord a) ∧ State.reset.timeBase = 0 ∧ State.reset.pending = [] ∧ State.reset.outbox = [] ∧
  Quiet State.reset ∧
  (∀ n : Fin 4, State.reset.running n = false ∧ State.reset.runBit n = false ∧ State.reset.rb (GLB_SW_STAT_NOJIG n) = true ∧
    State.reset.rd (SNS_STAT_STATE n) = 0 ∧ (posOf State.reset n).count = 0 ∧ (posOf State.reset n).line = 0 ∧
    State.reset.rb (EVT_ROUGH_ROUGH n) = false) ∧
  (∀ r : Fin 5, State.reset.listRuns r = false) ∧ State.reset.safe = false

/-- For every state s, if a step answers next t, then t's queue is s's without its first command, the key fuses are as they
were, the register file, the DRAMs and the flash are in canonical form if they were, the lists of queues and of converter inputs
are complete if they were, what has left the device before is still the beginning of what has left it, and neither the time nor
the count of free values has run back. (spec/02_jigs_boot_job_switch.md (R36); spec/16_register_map.md (R385);
spec/01_architecture.md (R23)) -/
def Obligations.KeptHoldsAcrossEveryStep : Prop :=
  ∀ s t : State, step s = .next t → Kept { s with pending := s.pending.drop 1 } t

/-- For every command and state, exec answers a next state; and the register file, the DRAMs and the flash of State.reset are in
canonical form, its lists of queues and inputs complete. What that next state is, the statements about each command say.
(spec/00_scope.md; spec/16_register_map.md (R385)) -/
def Obligations.EveryCommandAnswersANextState : Prop :=
  (∀ (c : Instr) (s : State), ∃ t, exec c s = .next t) ∧ RegsWf State.reset ∧ MemWf State.reset ∧ FullLists State.reset

/-- For every state whose register file is in canonical form (KeptHoldsAcrossEveryStep) and every field that fits its register,
setting the field to a value makes it read that value modulo its width; every field that shares no bit with it reads as before,
and nothing but that register's word differs. (spec/16_register_map.md (R385); spec/00_scope.md (R10)) -/
def Obligations.FieldWriteChangesThatFieldAlone : Prop :=
  ∀ (s : State) (f : Fld) (v : Nat), RegsWf s → f.Fits →
    (s.wr f v).rd f = v % 2 ^ f.width ∧
    (∀ g : Fld, g.Fits → f.Apart g → (s.wr f v).rd g = s.rd g) ∧
    OnlyWords s (s.wr f v) (· = f.addr)

/-- POS_CLRCNT, SNS_CLRCNT, PIPE_CLRCNT, LMP_CLRCNT, MOT_CLRCNT, FIFO_CLRCNT, CAL_CLRCNT, DMA_CLRCNT, DRC_CLRCNT, MON_CLRCNT,
EVT_CLRCNT and UMD_CNT_CLEAR, on a state between commands: the next state has every counter of the block (channel, queue,
controller) at 0; every field that shares no bit with one of them reads as before, and nothing but registers differs. (It is
taken that the register file is in canonical form, which every step keeps: KeptHoldsAcrossEveryStep.)
(spec/15_events_faults_availability.md (R381, R383); spec/07_position_feedback.md (R186); spec/03_sensor_timing_lanes.md (R97);
spec/04_pixel_pipeline.md (R118); spec/06_illumination.md (R168); spec/08_transport_motion.md (R210);
spec/09_pacing_fifo_seams.md (R236); spec/10_shading_calibration.md (R260); spec/11_host_link_dma.md (R294);
spec/12_dram_controller.md (R321); spec/13_monitoring_converter.md (R341); spec/14_multi_device_umade.md (R358)) -/
def Obligations.CounterClearsClearTheirCountersAlone : Prop :=
  ∀ (s : State) (n : Fin 4) (q : Fin 16), RegsWf s → Quiet s → 
    (∃ t, exec (.posClrcnt n) s = .next t ∧ Cleared s t (posCounters n)) ∧
    (∃ t, exec (.snsClrcnt n) s = .next t ∧ Cleared s t (snsCounters n)) ∧
    (∃ t, exec (.pipeClrcnt n) s = .next t ∧ Cleared s t (pipeCounters n)) ∧
    (∃ t, exec (.lmpClrcnt n) s = .next t ∧ Cleared s t (lmpCounters n)) ∧
    (∃ t, exec (.motClrcnt n) s = .next t ∧ Cleared s t (motCounters n)) ∧
    (∃ t, exec (.fifoClrcnt n) s = .next t ∧ Cleared s t (fifoCounters n)) ∧
    (∃ t, exec (.calClrcnt n) s = .next t ∧ Cleared s t (calCounters n)) ∧
    (∃ t, exec (.dmaClrcnt q) s = .next t ∧ Cleared s t (dmaCounters q)) ∧
    (∃ t, exec (.drcClrcnt n) s = .next t ∧ Cleared s t (drcCounters n)) ∧
    (∃ t, exec .monClrcnt s = .next t ∧ Cleared s t monCounters) ∧
    (∃ t, exec .evtClrcnt s = .next t ∧ Cleared s t evtCounters) ∧
    (∃ t, exec .umdCntClear s = .next t ∧ Cleared s t umdCounters)

/-- ENCODER_COUNT_CHANGE on a channel whose RUN bit is 0, with levels at the pins or with a count change that the test generator
has due (its form is the model's choice, log entry 66). From the source that POS_n_GEN.LOOP does not select, or with none due,
the counted levels, the count and every register stay. From the source in use the levels are taken; after boot step 1 the count
moves by one up or down, or stays, as POS_n_CFG.MODE and INV say; a change of both levels at once in modes 0, 1 and 3 leaves the
count, counts QERR, sets SUSPECT and raises EV_POS_QERR. Only registers of the channel's POS block change, and no other channel.
(It is taken that the register file is in canonical form, which every step keeps: KeptHoldsAcrossEveryStep.)
(spec/07_position_feedback.md (R169, R171)) -/
def Obligations.EncoderLevelsMoveTheCount : Prop :=
  ∀ (s : State) (n : Fin 4) (pinA pinB gen : Bool) (sub : Fin 6), RegsWf s → s.runBit n = false →
    let p := posOf s n
    let next := genStep p.gen (s.rb (POS_GEN_DIR n)) (s.rd (POS_GEN_TOOTH n)) (s.rd (POS_GEN_TEETH n))
    let a := if gen then (next.map PosGen.a).getD p.a else pinA
    let b := if gen then (next.map PosGen.b).getD p.b else pinB
    let taken := s.rb (POS_GEN_LOOP n) = gen ∧ (gen = true → next.isSome = true)
    let mode := s.rd (POS_CFG_MODE n)
    let way (up : Bool) : Int := if up != s.rb (POS_CFG_INV n) then 1 else -1
    let counted := taken ∧ s.boot.phase ≠ .held
    let error := counted ∧ mode ≠ 2 ∧ p.a ≠ a ∧ p.b ≠ b
    ∃ t, exec (.encoderCountChange n pinA pinB gen sub) s = .next (finish t) ∧
      (¬ taken → (posOf t n).a = p.a ∧ (posOf t n).b = p.b ∧ t.regs = s.regs ∧ t.evq = s.evq) ∧
      (taken → (posOf t n).a = a ∧ (posOf t n).b = b) ∧
      (posOf t n).count = p.count +
        (if ¬ counted then 0 else if mode = 2 then (if p.a = false ∧ a = true then way b else 0)
         else if p.a ≠ a ∧ p.b ≠ b then 0
         else if p.a ≠ a then (if mode = 1 ∧ p.a = true then 0 else way (a != b))
         else if p.b ≠ b then (if mode = 1 then 0 else way (a == b))
         else 0) ∧
      (error → t.rd (POS_CNT_QERR n) = min (s.rd (POS_CNT_QERR n) + 1) 65535 ∧ t.rd (POS_STAT_SUSPECT n) = 1 ∧
        t.evq = s.evq ++ [ev (EV_POS_QERR n)]) ∧
      SameWords s t (inChan n 0x14000 0x18000) ∧ (∀ m : Fin 4, m ≠ n → t.ch m = s.ch m) ∧ t.drams = s.drams ∧ t.outbox = s.outbox

/-- COMPARE_PULSE_END once the pulse's width is over: the output takes its list's idle level, and no pulse runs on it.
DIV_PULSE_END once the pulse is over: PS_n_DIV goes low. DRIFT_CORRECTION_APPLY on a channel that is not running, whose CPR is
not 0, with a correction c pending: count, high-water mark and divider threshold move by c together, SUSPECT clears, POS_n_CORR
holds c, EV_POS_CORR is raised; with CPR 0 nothing steps. INDEX_EDGE from the source in use (the generator's where it has one
due), with source index and no gate: POS_n_REFLAT latches the count, which stays. (It is taken that the register file is in
canonical form, which every step keeps: KeptHoldsAcrossEveryStep.) (spec/07_position_feedback.md (R173, R175, R180)) -/
def Obligations.PulsesEndAndReferencesLatch : Prop :=
  (∀ (s : State) (n c : Fin 4) (sub : Fin 6) (u : Nat), RegsWf s → Quiet s → (posOf s n).cmpPulse[c.val]? = some (some u) → u ≤ s.tick sub →
    exec (.comparePulseEnd n c sub) s =
      .next ((setCmp s n c (cmpIdle (s.ch n).tabs c)).modPos n fun p => { p with cmpPulse := p.cmpPulse.set c none })) ∧
  (∀ (s : State) (n : Fin 4) (sub : Fin 6) (u : Nat), RegsWf s → Quiet s → (posOf s n).divEnd = some u → u ≤ s.tick sub →
    exec (.divPulseEnd n sub) s = .next (s.modPos n fun p => { p with divLevel := false, divEnd := none })) ∧
  (∀ (s : State) (n : Fin 4) (c : Int), RegsWf s → s.running n = false → (posOf s n).corr = some c →
    (s.rd (POS_CPR_CPR n) = 0 → exec (.driftCorrectionApply n) s = .next (finish s)) ∧
    (s.rd (POS_CPR_CPR n) ≠ 0 → ∃ t, exec (.driftCorrectionApply n) s = .next (finish t) ∧
      (posOf t n).count = (posOf s n).count + c ∧ (posOf t n).hwm = (posOf s n).hwm + c ∧
      (posOf t n).nt = (posOf s n).nt + c * 4294967296 ∧ (posOf t n).corr = none ∧
      t.rd (POS_CORR_C n) = toBits 32 c ∧ t.rd (POS_STAT_SUSPECT n) = 0 ∧ t.evq = s.evq ++ [ev (EV_POS_CORR n)] ∧
      SameWords s t (inChan n 0x14000 0x18000))) ∧
  (∀ (s : State) (n : Fin 4) (gen : Bool), RegsWf s → s.rb (POS_GEN_LOOP n) = gen → s.boot.phase ≠ .held →
    (gen = true → (posOf s n).gen.index = true) → s.rd (POS_CFG_REFSRC n) = 0 → s.rd (POS_CFG_ZGATE n) = 0 →
    ∃ t, exec (.indexEdge n gen) s = .next (finish t) ∧
      t.rd64 (POS_REFLAT_LO_COUNT n) (POS_REFLAT_HI_COUNT n) = toBits 64 (posOf s n).count ∧
      (posOf t n).count = (posOf s n).count ∧ SameWords s t (inChan n 0x14000 0x18000))

/-- POS_PRESET with RUN 0: count and line number take the preset values, SUSPECT and the drift check are cleared; with RUN 1 it
only counts REFUSED. ABS_LOAD on a channel that is not running, with a good read: the count loses the deviation of the last good
read; on a running channel or without one it counts REFUSED. ABS_READ and ABS_READ_TIMER (with a period) with the protocol on
and no read running: ABSBUSY is set and the latch instant stands LATDLY x 10 ns after the frame's first clock edge, which an SSI
clock that has not idled long enough holds off. ABS_READ_COMPLETE of a running read: the count latched for it goes to ABSLAT,
ABSBUSY clears and GOOD says whether the frame was good. SPEED_UPDATE at standstill: MAG and VALID are 0. (It is taken that the
register file is in canonical form, which every step keeps: KeptHoldsAcrossEveryStep.) (spec/07_position_feedback.md (R172,
R181, R183)) -/
def Obligations.PresetsAndAbsoluteReadsSetTheCount : Prop :=
  (∀ (s : State) (n : Fin 4), RegsWf s → Quiet s →
    (s.runBit n = true → exec (.posPreset n) s = .next (s.bump (POS_CNT2_REFUSED n))) ∧
    (s.runBit n = false → ∃ t, exec (.posPreset n) s = .next t ∧
      (posOf t n).count = sext 64 (s.rd64 (POS_PRESET_LO_VALUE n) (POS_PRESET_HI_VALUE n)) ∧
      (posOf t n).line = s.rd64 (POS_LINE_LO_LINE n) (POS_LINE_HI_LINE n) ∧ (posOf t n).corr = none ∧
      t.rd (POS_STAT_SUSPECT n) = 0 ∧ t.rd (POS_STAT_ARMED n) = 0 ∧ SameWords s t (inChan n 0x14000 0x18000)) ∧
    ((posOf s n).absGood = none → exec (.absLoad n) s = .next (s.bump (POS_CNT2_REFUSED n))) ∧
    (s.running n = true → exec (.absLoad n) s = .next (s.bump (POS_CNT2_REFUSED n))) ∧
    (∀ m, (posOf s n).absGood = some m → s.running n = false → ∃ t, exec (.absLoad n) s = .next t ∧
      (posOf t n).count = (posOf s n).count - m ∧ (posOf t n).corr = none ∧ t.rd (POS_STAT_SUSPECT n) = 0 ∧
      t.rd (POS_STAT_ARMED n) = 0 ∧ SameWords s t (inChan n 0x14000 0x18000))) ∧
  (∀ (s : State) (n : Fin 4), RegsWf s → Quiet s → s.rd (POS_ABSCFG_PROT n) ≠ 0 → s.rb (POS_STAT_ABSBUSY n) = false →
    let t := (s.wr (POS_STAT_ABSBUSY n) 1).modPos n fun p =>
      { p with absAt := some (max (s.tick 0) p.absFree + 15 * s.rd (POS_ABSCFG_LATDLY n)), absLat := none }
    exec (.absRead n) s = .next t ∧ (s.rd (POS_ABSPER_PER n) ≠ 0 → exec (.absReadTimer n) s = .next t)) ∧
  (∀ (s : State) (n : Fin 4) (f : AbsFrame), RegsWf s → s.rb (POS_STAT_ABSBUSY n) = true →
    ∃ t, exec (.absReadComplete n f) s = .next (finish t) ∧ t.rb (POS_STAT_ABSBUSY n) = false ∧
      t.rd64 (POS_ABSLAT_LO_COUNT n) (POS_ABSLAT_HI_COUNT n) =
        toBits 64 ((absLatch (posOf s n) (s.tick 0)).absLat.getD (posOf s n).count) ∧
      t.rb (POS_ABSSTAT_GOOD n) = absGoodFrame s n f ∧ (posOf t n).count = (posOf s n).count ∧
      SameWords s t (inChan n 0x14000 0x18000)) ∧
  (∀ (s : State) (n : Fin 4) (u : Nat), RegsWf s → Quiet s → (posOf s n).lastChange = some u → u + stoTicks s n ≤ s.tick 0 →
    exec (.speedUpdate n) s = .next (((s.wr (POS_SPEED_MAG n) 0).wr (POS_SPEED_VALID n) 0).modPos n fun p =>
      { p with overSpeed := false, changes := p.changes.take 1 }))

/-- DEFERRED_LINE_START on a channel with a waiting trigger, no line lost behind it, and the spacing over: the channel's last
line start is the previous one plus the spacing, no trigger waits any more, and EV_SNS_DEFER is among what is raised; before
that time nothing changes. (It is taken that the register file is in canonical form, which every step keeps:
KeptHoldsAcrossEveryStep.) (spec/03_sensor_timing_lanes.md (R77)) -/
def Obligations.DeferredTriggerStartsItsLine : Prop :=
  ∀ (s : State) (n : Fin 4) (w : WaitTrig) (last : Nat), RegsWf s → (s.ch n).sns.waiting = some w → (s.ch n).sns.lastStart = some last →
    let due := last + spacing s n w.info.line w.info.t0
    (Quiet s → s.now < due → exec (.deferredLineStart n) s = .next s) ∧
    (due ≤ s.now → (s.ch n).sns.behind = [] →
      ∃ t, exec (.deferredLineStart n) s = .next (finish t) ∧ (t.ch n).sns.lastStart = some due ∧ (t.ch n).sns.waiting = none ∧
        (ev (EV_SNS_DEFER n)).line_ w.info.line ∈ t.evq)

/-- SNS_UP in OFF, outside boot homing: DEBOUNCE. BAR_DEBOUNCE_END in DEBOUNCE: low gives POWERING with PEN driven; high gives
OFF with cause absent and EV_SNS_ABSENT. BAR_POWER_WAIT_END in POWERING: INIT, with SN_n_MCLK running, SN_n_CS_N high (and
SN_n_SCK in mode 3) and every SN_n_CTL pin at its idle level, those driven that had another. BAR_INIT_WAIT_END in INIT: the
first init transaction is sent, or with none TRAINING begins, with the line-start pin active and every receiver's lane ID and
deskew forgotten. LANE_TRAINING_END in TRAINING with every lane in use locked, within 100 unit intervals of the latest, and of
the right ID: READY, two spoil lines, EV_SNS_READY, and the CTL pins idle. (It is taken that the register file is in canonical
form, which every step keeps: KeptHoldsAcrossEveryStep.) (spec/03_sensor_timing_lanes.md (R87, R92, R93)) -/
def Obligations.BarComesUpStepByStep : Prop :=
  ∀ (s : State) (n : Fin 4), RegsWf s →
    (Quiet s → s.rd (SNS_STAT_STATE n) = 0 → s.bootHoming n = false →
      exec (.snsUp n) s = .next ((s.wr (SNS_STAT_STATE n) 1).wr (SNS_STAT_CAUSE n) 0)) ∧
    (s.rd (SNS_STAT_STATE n) = 1 →
      (Quiet s → exec (.barDebounceEnd n true) s =
        .next (((s.wr (SNS_STAT_STATE n) 2).wr (SNS_STAT_PEN n) 1).wr (SNS_STAT_PRES n) 1)) ∧
      exec (.barDebounceEnd n false) s =
        .next (finish ((((s.wr (SNS_STAT_STATE n) 0).wr (SNS_STAT_CAUSE n) 1).wr (SNS_STAT_PRES n) 0).raise
          ((ev (EV_SNS_ABSENT n)).code_ 1)))) ∧
    (Quiet s → s.rd (SNS_STAT_STATE n) = 2 →
      ∃ t, exec (.barPowerWaitEnd n) s = .next t ∧ t.rd (SNS_STAT_STATE n) = 3 ∧ (t.ch n).sns.outputsOn = true ∧
        (∀ p < 8, bit (t.ch n).sns.ctl p = bit (s.ch n).sns.sched.idle p) ∧
        t.outbox = s.outbox ++ [.mclk n (s.ch n).sns.sched.mclk, .pin "SN_CS_N" n true] ++
          (if s.rd (SNS_CFG_SPIMODE n) = 3 then [.pin "SN_SCK" n true] else []) ++
          ((List.range 8).filter fun p => bit (s.ch n).sns.ctl p != bit (s.ch n).sns.sched.idle p).map (fun p =>
            Out.pin "SN_CTL" (8 * n + p) (bit (s.ch n).sns.sched.idle p)) ∧
        SameWords s t (· = (SNS_STAT_STATE n).addr)) ∧
    (Quiet s → s.rd (SNS_STAT_STATE n) = 3 → (s.ch n).sns.job = none →
      exec (.barInitWaitEnd n) s = .next (match (s.ch n).sns.sched.inits[0]? with
        | some tx => (s.modSns n fun u => { u with job := some { tx := tx, src := .init 0, slotOf := none } }).emit
            (.spi n (tx.data % 2 ^ tx.len) tx.len (s.rd (SNS_CFG_SPIMODE n) == 3) (max (s.rd (SNS_CFG_SPIDIV n)) 4))
        | none => ((s.wr (SNS_STAT_STATE n) 4).modSns n fun u =>
            { u with phys := u.phys.map fun p => { p with id := none, skewOk := false },
                     ctl := withBit u.ctl u.sched.lsPin u.sched.lsActive }).emit
            (.pin "SN_CTL" (8 * n + (s.ch n).sns.sched.lsPin) (s.ch n).sns.sched.lsActive))) ∧
    (let u := (s.ch n).sns
     let ref := ((u.phys.find? (·.skewOk)).getD LanePhy.idle).arrival
     let phy (l : Nat) : LanePhy := u.phys.getD (lanePhysFor u (s.ch n).pipe.trigCtr l) LanePhy.idle
     s.rd (SNS_STAT_STATE n) = 4 →
     (∀ l ∈ lanesInUse u.sched, (phy l).lock = true ∧ (phy l).skewOk = true ∧
       (∀ p ∈ u.phys, p.skewOk = true → arrivalLag ref p.arrival ≤ arrivalLag ref (phy l).arrival + 100) ∧
       ∀ i, (phy l).id = some i → i = ((u.sched.lanes[l]?).map (·.id)).getD 0) →
     ∃ t, exec (.laneTrainingEnd n) s = .next (finish t) ∧ t.rd (SNS_STAT_STATE n) = 5 ∧ t.rd (SNS_STAT_CAUSE n) = 0 ∧
       (t.ch n).sns.spoilNext = 2 ∧ t.evq = s.evq ++ [ev (EV_SNS_READY n)] ∧
       (u.outputsOn = true → ∀ p < 8, bit (t.ch n).sns.ctl p = bit u.sched.idle p) ∧
       SameWords s t (fun a => inChan n 0 0x2000 a ∨ a = (PIPE_ALIGN_FILL n).addr))

/-- SNS_DOWN on a channel that is not running: OFF with cause 0, power, outputs and lane locks off, the SN_n_CTL pins low, no
transaction left; a running channel ignores it. SNS_RETRAIN of a READY bar on a channel that is not running: TRAINING again with
the line-start pin active and every lane ID and deskew forgotten. BAR_REMOVED with the bar powered: powered off, FAULT with
cause removed, RUN cleared as RUN_CLEAR does it, EV_SNS_ABSENT with code 5. BAR_PRESENT: PRES is set and EV_SNS_PRESENT raised.
(It is taken that the register file is in canonical form, which every step keeps: KeptHoldsAcrossEveryStep.)
(spec/03_sensor_timing_lanes.md (R92, R94, R97)) -/
def Obligations.BarGoesDownAndRetrains : Prop :=
  ∀ (s : State) (n : Fin 4), RegsWf s →
    (s.running n = false →
      ∃ t, exec (.snsDown n) s = .next (finish t) ∧ t.rd (SNS_STAT_STATE n) = 0 ∧ t.rd (SNS_STAT_CAUSE n) = 0 ∧
        t.rd (SNS_STAT_PEN n) = 0 ∧ t.rd (SNS_LANELOCK_LOCK n) = 0 ∧ t.rd (SNS_SPICMD_BUSY n) = 0 ∧
        (t.ch n).sns.outputsOn = false ∧ (t.ch n).sns.job = none ∧ (t.ch n).sns.hostWait = none ∧
        ((s.ch n).sns.outputsOn = true → ∀ p < 8, bit (t.ch n).sns.ctl p = false) ∧
        SameWords s t (inChan n 0 0x2000)) ∧
    (Quiet s → s.running n = true → exec (.snsDown n) s = .next s) ∧
    (Quiet s → s.rd (SNS_STAT_STATE n) = 5 → s.running n = false →
      ∃ t, exec (.snsRetrain n) s = .next t ∧ t.rd (SNS_STAT_STATE n) = 4 ∧ (t.ch n).sns.retraining = true ∧
        (t.ch n).sns.phys = (s.ch n).sns.phys.map (fun p => { p with id := none, skewOk := false }) ∧
        OnlyWords ((s.setCh n (t.ch n)).emit (.pin "SN_CTL" (8 * n + (s.ch n).sns.sched.lsPin) (s.ch n).sns.sched.lsActive)) t (· = (SNS_STAT_STATE n).addr)) ∧
    (s.rb (SNS_STAT_PEN n) = true →
      exec (.barRemoved n) s = .next (finish
        ((runClear (((readoutLost (snsPowerOff (s.wr (SNS_STAT_PRES n) 0) n) n).wr (SNS_STAT_STATE n) 6).wr (SNS_STAT_CAUSE n) 5)
          n).raise ((ev (EV_SNS_ABSENT n)).code_ 5)))) ∧
    exec (.barPresent n) s = .next (finish ((s.wr (SNS_STAT_PRES n) 1).raise (ev (EV_SNS_PRESENT n))))

/-- LANE_LHDR of the right form, lane ID, tag and width on a lane that awaits a line: the line starts on that lane with the
CRC-16 of payload bytes 1 to 7. LANE_DATA_BLOCK on a lane with a line begun: the block is kept and its eight bytes enter the
CRC. LANE_LEND with the right block and sample counts and CRC on a lane with no lasting fault: the lane's part of the line ends.
LANE_IDLE_BLOCK within a line is a framing error. LHDR_MISSING on a data lane that awaits a line: the line is poisoned, CRCERR
counts and EV_SNS_MISSING is raised; where every lane of the line missed its LHDR, the expected tags fall back by one
(startMissed; log entry 33). (It is taken that the register file is in canonical form, which every step keeps:
KeptHoldsAcrossEveryStep.) (spec/03_sensor_timing_lanes.md (R83, R84, R85, R86, R90)) -/
def Obligations.LaneBlocksReceiveALine : Prop :=
  ∀ (s : State) (n : Fin 4) (lane : Fin 26) (p : BitVec 64) (l : LineRec) (r : LaneRx), RegsWf s →
    let u := (s.ch n).sns
    let v := p.toNat
    (Quiet s → bits v 7 0 = 0x78 → bits v 63 34 = 0 → bits v 15 13 = 0 → rxTarget u (s.ch n).pipe.lines lane true = none →
      rxTarget u (s.ch n).pipe.lines lane false = some (l, r) → bits v 12 8 = ((l.sched.lanes[r.lane]?).map (·.id)).getD 0 →
      bits v 31 16 = (l.edge + (u.phys.getD r.lane LanePhy.idle).tagOff) % 65536 →
      ((bits v 33 32 = 0 ∧ l.sched.width = 10) ∨ (bits v 33 32 = 1 ∧ l.sched.width = 12)) →
      exec (.laneLhdr n lane p) s = .next (modRx s n l.trig r.lane fun x =>
        { x with started := true, crc := crc16 0xFFFF ((List.range 7).map fun j => payByte p (j + 1)) })) ∧
    (Quiet s → rxTarget u (s.ch n).pipe.lines lane true = some (l, r) →
      exec (.laneDataBlock n lane p) s = .next (modRx s n l.trig r.lane fun x =>
        { x with words := p :: x.words, crc := crc16 x.crc ((List.range 8).map fun j => payByte p j) }) ∧
      exec (.laneIdleBlock n lane) s = .next (modRx s n l.trig r.lane fun x => { x with framing := true }) ∧
      (bits v 7 0 = 0x87 → bits v 63 48 = 0 →
        r.words.length = laneBlocks ((l.sched.lanes[r.lane]?).getD { id := 0, runs := [] }) l.sched.width →
        bits v 47 24 = laneSamples ((l.sched.lanes[r.lane]?).getD { id := 0, runs := [] }) →
        r.framing = false → bits v 23 8 = r.crc.toNat → bit (s.rd (SNS_LANEFLT_FLT n)) lane = false →
        exec (.laneLend n lane p) s = .next (modRx s n l.trig r.lane fun x => { x with ended := true }))) ∧
    (rxTarget u (s.ch n).pipe.lines lane false = some (l, r) →
      exec (.lhdrMissing n lane) s = .next (finish
        (((poisonLine (startMissed (modRx s n l.trig r.lane fun x => { x with started := true, ended := true, missing := true }) n
            l.trig) n l.trig).bump
          (SNS_LANE_CRCERR n lane)).raise
          { ev (EV_SNS_MISSING n) with kind := 1, idx := lane, line := l.info.line, detail := laneSeg l.sched r.lane,
                                       countOn := [EV_SNS_CRC n] })))

/-- LANE_LOCK_GAIN: the receiver holds lock, and SNS_n_LANELOCK and SNS_n_LANE_l.LOCK show it. LANE_LOCK_LOSS on a lane that is
not within a line: the reverse. LANE_TRAIN_BLOCK of the right form in TRAINING: the receiver holds the block's lane ID and
training counter, and the arrival less 66 unit intervals a count, in the round of the counter. (It is taken that the register
file is in canonical form, which every step keeps: KeptHoldsAcrossEveryStep.) (spec/03_sensor_timing_lanes.md (R83, R87, R90))
-/
def Obligations.LaneReceiversLockAndTrain : Prop :=
  ∀ (s : State) (n : Fin 4) (lane : Fin 26) (p : BitVec 64) (at_ : Nat), RegsWf s → Quiet s →
    exec (.laneLockGain n lane) s = .next
      (let t := s.modSns n fun u => { u with phys := u.phys.modify lane fun q => { q with lock := true } }
       (t.wr (SNS_LANELOCK_LOCK n) (withBit (t.rd (SNS_LANELOCK_LOCK n)) lane true)).wr (SNS_LANE_LOCK n lane) 1) ∧
    (rxTarget (s.ch n).sns (s.ch n).pipe.lines lane true = none →
      exec (.laneLockLoss n lane) s = .next
        (let t := s.modSns n fun u => { u with phys := u.phys.modify lane fun q => { q with lock := false } }
         (t.wr (SNS_LANELOCK_LOCK n) (withBit (t.rd (SNS_LANELOCK_LOCK n)) lane false)).wr (SNS_LANE_LOCK n lane) 0)) ∧
    (s.rd (SNS_STAT_STATE n) = 4 → bits p.toNat 7 0 = 0x4B → bits p.toNat 63 32 = 0xA5C30F96 → bits p.toNat 15 13 = 0 →
      exec (.laneTrainBlock n lane p at_) s = .next (s.modSns n fun u => { u with phys := u.phys.modify lane fun q =>
        { q with id := some (bits p.toNat 12 8), ctr := bits p.toNat 31 16, arrival := (at_ + trainWrap - 66 * bits p.toNat 31 16) % trainWrap,
                 skewOk := true } }))

/-- SPI_GO with a length of 8, 16, 24 or 32, the port not busy, the bar READY, the channel not running and no transaction in
progress: BUSY is set, ERR cleared and SPIWD is sent; with another length it sets ERR and raises EV_SNS_SPI_ERR.
SPI_TRANSACTION_DONE of a host transaction sent at once: SPIRD takes the bits read, BUSY clears. SPI_SLOT on a running channel:
the slot of the newest line opens for what waits. SNS_SPARE_FORCE: the lane number is taken; with a free spare a steer for the
lane joins those that wait, without one nothing more happens. (It is taken that the register file is in canonical form, which
every step keeps: KeptHoldsAcrossEveryStep.) (spec/03_sensor_timing_lanes.md (R78, R79, R91, R97)) -/
def Obligations.SensorSpiSendsItsTransactions : Prop :=
  ∀ (s : State) (n : Fin 4), RegsWf s →
    (∀ (nospoil : Bool) (len : Fin 64), s.rb (SNS_SPICMD_BUSY n) = false →
      let t := (s.wr (SNS_SPICMD_NOSPOIL n) (b2n nospoil)).wr (SNS_SPICMD_LEN n) len
      (Quiet s → spiLenOk len = true → s.rd (SNS_STAT_STATE n) = 5 → s.running n = false → (s.ch n).sns.job = none →
        let tx : SpiTx := { data := s.rd (SNS_SPIWD_DATA n), expect := 0, mask := 0, len := len, compare := false, nospoil := nospoil }
        exec (.spiGo n nospoil len) s = .next
          ((((t.wr (SNS_SPICMD_BUSY n) 1).wr (SNS_SPICMD_ERR n) 0).modSns n fun u =>
            { u with job := some { tx := tx, src := .host, slotOf := none } }).emit (.spi n (tx.data % 2 ^ tx.len) tx.len
              (s.rd (SNS_CFG_SPIMODE n) == 3) (max (s.rd (SNS_CFG_SPIDIV n)) 4)))) ∧
      (spiLenOk len = false →
        exec (.spiGo n nospoil len) s = .next (finish ((t.wr (SNS_SPICMD_ERR n) 1).raise (ev (EV_SNS_SPI_ERR n)))))) ∧
    (∀ (miso : BitVec 32) (tx : SpiTx), Quiet s → (s.ch n).sns.job = some { tx := tx, src := .host, slotOf := none } →
      exec (.spiTransactionDone n miso) s = .next (spiIdleNext
        (((s.wr (SNS_SPIRD_DATA n) (miso.toNat % 2 ^ tx.len)).modSns n fun u => { u with job := none }).wr (SNS_SPICMD_BUSY n) 0)
        n)) ∧
    (∀ l : LineRec, Quiet s → s.running n = true → (s.ch n).pipe.lines.getLast? = some l →
      exec (.spiSlot n) s = .next (spiSlotNext
        (s.modSns n fun u => { u with
          slotTrig := some l.trig
          slotLeft := l.sched.slotEnd - l.sched.slotStart
          slotSteers := u.steerWait.length }) n)) ∧
    (∀ lane : Fin 24, Quiet s →
      let t := s.wr (SNS_SPARE_LANE n) lane
      (freeSpare t n = none → exec (.snsSpareForce n lane) s = .next t) ∧
      (∀ k, freeSpare t n = some k →
        exec (.snsSpareForce n lane) s = .next (spiIdleNext
          (t.modSns n fun u => { u with steerWait := u.steerWait ++ [(lane.val, k)] }) n)))

/-- TILE_VERDICT on the oldest line whose tile waits, with sound entries: a tile that passes is kept as done and nothing is
raised; one that fails with a lag of at most 3,072 - 192 samples counts RESERR of its physical slice and RECOMP.TILES, raises
EV_PIPE_RESIDUE, and waits for its recomputation. TILE_RECOMPUTE_DONE of a waiting tile that now passes: the tile is done, the
line counts it and carries RECOMP. SHADING_RELOAD_DONE: the 768 bytes of the tile's entries come back from the DRAM copy of the
bank whose reload was asked for, else of the active one. (It is taken that the register file is in canonical form, which every
step keeps: KeptHoldsAcrossEveryStep.) (spec/04_pixel_pipeline.md (R105, R106, R107, R108, R109)) -/
def Obligations.TilesPassOrAreRecomputed : Prop :=
  ∀ (s : State) (n : Fin 4) (m : Fin 8) (t : Fin 64) (us : List Upset) (l : LineRec), RegsWf s →
    let p := (s.ch n).pipe
    let ph := physSlice l m
    let r := tileCompute p l m t us
    let tile : TileSt := { slice := m, tile := t, vals := r.1, phase := .done, shdFail := false }
    (verdictLine p m t = some l → (p.badShd.contains (m.val, t.val, l.gains.bank) && l.gains.pvalid) = false →
      let lag := lagNow p ph s.now 192
      (Quiet s → r.2 = true →
        exec (.tileVerdict n m t us false 0) s = .next (modLine (setLag s n ph lag 0) n l.trig fun l => setTile l tile)) ∧
      (r.2 = false → lag + 192 ≤ 3072 →
        ∃ t', exec (.tileVerdict n m t us false 0) s = .next (finish t') ∧
          t'.rd (PIPE_RESERR_COUNT n ph) = min (s.rd (PIPE_RESERR_COUNT n ph) + 1) (2 ^ (PIPE_RESERR_COUNT n ph).width - 1) ∧
          t'.rd (PIPE_RECOMP_TILES n) = min (s.rd (PIPE_RECOMP_TILES n) + 1) (2 ^ (PIPE_RECOMP_TILES n).width - 1) ∧
          t'.evq = s.evq ++ [(((ev (EV_PIPE_RESIDUE n)).at_ 2 ph).line_ l.info.line).detail_ (t * 256 + m)] ∧
          (t'.ch n).pipe.lines = p.lines.map fun x => if x.trig = l.trig then setTile x { tile with phase := .recomputing } else x)) ∧
    (Quiet s → recomputeLine p m t = some l → r.2 = true →
      exec (.tileRecomputeDone n m t us false 0) s = .next
        (modLine (modLine s n l.trig fun x => { setTile x tile with recN := x.recN + 1 }) n l.trig fun x => { x with recomp := true })) ∧
    (Quiet s → exec (.shadingReloadDone n m t) s = .next
      (let off := 768 * (64 * m.val + t.val)
       let b := (((s.ch n).cal.reload.find? fun x => x.1 == m.val && x.2.1 == t.val).map (·.2.2)).getD p.bank
       let bs := readBytes (s.dram n) (profCopyAddr b + off) 768
       s.modCh n fun c => { c with
         pipe := { setBank c.pipe b (writeBytes (profBank c.pipe b) off bs) with
                   badShd := c.pipe.badShd.erase (m.val, t.val, b) },
         cal := { c.cal with reload := c.cal.reload.erase (m.val, t.val, b) } }))

/-- LINE_COMPLETE: while the oldest line in flight is not ready (a lane has not ended, or a tile has not passed) nothing
changes; once it is ready the next state holds no line of its trigger in flight, and every other line in flight is one that was
there before, up to the marks it carries. (It is taken that the register file is in canonical form, which every step keeps:
KeptHoldsAcrossEveryStep.) (spec/01_architecture.md (R27); spec/04_pixel_pipeline.md (R113); spec/16_register_map.md (R402)) -/
def Obligations.CompleteLineLeavesThePipeline : Prop :=
  ∀ (s : State) (n : Fin 4) (f : LineFaults) (l : LineRec) (ls : List LineRec), RegsWf s → (s.ch n).pipe.lines = l :: ls →
    (Quiet s → lineReady s n l = false → exec (.lineComplete n f) s = .next s) ∧
    (lineReady s n l = true → ∃ t, exec (.lineComplete n f) s = .next (finish t) ∧
      (t.ch n).pipe.lines.map (·.trig) = (ls.filter fun x => x.trig != l.trig).map (·.trig))

/-- PROFILE_WINDOW_WRITE while neither a switch nor a calibration list holds the shadow profile: the word's bytes go to the
shadow profile and to its copy in DRAM; otherwise EV_PIPE_SHD_BUSY is raised and nothing is written. PROFILE_SWAP_REQ under the
same condition with no swap waiting: SWVALID is taken, and a swap with it waits, shown in SWPEND. PROFILE_SWAP_APPLY of a
waiting swap on a channel that is not running: the banks change places, PVALID takes the SWVALID of the request, no swap waits.
(It is taken that the register file is in canonical form, which every step keeps: KeptHoldsAcrossEveryStep.)
(spec/04_pixel_pipeline.md (R102, R103); spec/10_shading_calibration.md (R238)) -/
def Obligations.ProfileWindowAndSwaps : Prop :=
  ∀ (s : State) (n : Fin 4), RegsWf s →
    (∀ (off : Nat) (w : Word),
      (Quiet s → shadowBusy s n (profStage s n) = false →
        let b := (s.ch n).pipe.shadow
        exec (.profileWindowWrite n off w) s = .next
          ((s.modPipe n fun p => setBank p b (writeBytes (profBank p b) off (leBytes 4 w.toNat))).modDram n fun m =>
            writeBytes m (profCopyAddr b + off) (leBytes 4 w.toNat))) ∧
      (shadowBusy s n (profStage s n) = true →
        exec (.profileWindowWrite n off w) s = .next (finish (s.raise (ev (EV_PIPE_SHD_BUSY n)))))) ∧
    (∀ v : Bool,
      let t := s.wr (PIPE_CTL_SWVALID n) (b2n v)
      (Quiet s → shadowBusy t n (profStage t n) = false → s.rb (PIPE_STAT_SWPEND n) = false →
        exec (.profileSwapReq n v) s = .next
          ((t.modPipe n fun p => { p with swapPend := some (v, s.now) }).wr (PIPE_STAT_SWPEND n) 1)) ∧
      (shadowBusy t n (profStage t n) = true →
        exec (.profileSwapReq n v) s = .next (finish (t.raise (ev (EV_PIPE_SHD_BUSY n)))))) ∧
    (∀ (v : Bool) (at_ : Nat), Quiet s → s.running n = false → (s.ch n).pipe.swapPend = some (v, at_) →
      exec (.profileSwapApply n) s = .next
        ((((s.modPipe n fun p => { p with bank := 1 - p.bank }).wb (PIPE_STAT_PVALID n) v).modPipe n fun p =>
          { p with swapPend := none }).wr (PIPE_STAT_SWPEND n) 0))

/-- SPARE_KAT_TIMER with the spare waiting and no test in progress: a test begins. SLICE_SPARE_FORCE: the slice number is taken,
and with the spare ready a test for that slice begins. SPARE_KAT_DONE: a pass sets KATOK and, for a slice that waits for the
spare, lets it take the spare; a first failure repeats the test; a second of a waiting spare clears KATOK, sets SPFLT and the
spare's bit in SLFLT, and raises EV_PIPE_SPARE_KAT. (It is taken that the register file is in canonical form, which every step
keeps: KeptHoldsAcrossEveryStep.) (spec/04_pixel_pipeline.md (R114)) -/
def Obligations.SpareSliceIsTestedAndForced : Prop :=
  ∀ (s : State) (n : Fin 4), RegsWf s →
    (Quiet s → spareBusy s n = false → (s.ch n).pipe.kat = none →
      exec (.spareKatTimer n) s = .next (s.modPipe n fun p => { p with kat := some (.waiting, false) })) ∧
    (∀ m : Fin 8, Quiet s →
      let t := s.wr (PIPE_SPARE_SLICE n) m
      exec (.sliceSpareForce n m) s = .next
        (if spareReady t n then t.modPipe n fun p => { p with kat := some (.force m, false) } else t)) ∧
    (∀ (again : Bool), Quiet s → (s.ch n).pipe.kat = some (.waiting, again) →
      exec (.spareKatDone n true) s = .next ((s.wr (PIPE_SPARE_KATOK n) 1).modPipe n fun p => { p with kat := none })) ∧
    (∀ (m : Nat) (u : KatUse) (again : Bool), Quiet s → u = .force m ∨ u = .lasting m → (s.ch n).pipe.kat = some (u, again) →
      exec (.spareKatDone n true) s = .next
        (((s.wr (PIPE_SPARE_KATOK n) 1).modPipe n fun p => { p with kat := none }).modPipe n fun p =>
          { p with spareIn := some { slice := m, at_ := s.now, eff := none } })) ∧
    (∀ (u : KatUse), Quiet s → (s.ch n).pipe.kat = some (u, false) →
      exec (.spareKatDone n false) s = .next (s.modPipe n fun p => { p with kat := some (u, true) })) ∧
    ((s.ch n).pipe.kat = some (.waiting, true) →
      ∃ t, exec (.spareKatDone n false) s = .next (finish t) ∧ t.rd (PIPE_SPARE_KATOK n) = 0 ∧ t.rd (PIPE_SPARE_SPFLT n) = 1 ∧
        bit (t.rd (PIPE_STAT_SLFLT n)) 8 = true ∧ (t.ch n).pipe.kat = none ∧
        t.evq = s.evq ++ [(ev (EV_PIPE_SPARE_KAT n)).at_ 2 8])

/-- LAMP_LEVEL_WRITE: a level that leaves a sink without a diagnosis is refused and counted with EV_LMP_CFG; another goes to
LMP_n_LV_g and is staged with its fade, the WHEN and line of the registers and the present time. LAMP_FADESTOP: no fade runs,
the levels stay. LAMP_OFF_WRITE: OFF takes the value, but a write of 0 while OFF is 1 and the bar is above TOFF less 5 degrees
leaves it 1 and counts REFUSED. LAMP_FAULT_CLEAR: each written 1 clears its OPEN or SHORT bit unless the device set it in the
same control clock, and a sink off for such a short may light again. (It is taken that the register file is in canonical form,
which every step keeps: KeptHoldsAcrossEveryStep.) (spec/06_illumination.md (R156, R158, R159, R163, R164, R166)) -/
def Obligations.LampSettingsAreStaged : Prop :=
  ∀ (s : State) (n : Fin 4), RegsWf s →
    (∀ (g : Fin 4) (level fade : BitVec 16),
      (levelRefused s n g level.toNat = true →
        exec (.lampLevelWrite n g level fade) s = .next (finish ((s.bump (LMP_CNT_REFUSED n)).raise (ev (EV_LMP_CFG n))))) ∧
      (Quiet s → levelRefused s n g level.toNat = false →
        ∃ t, exec (.lampLevelWrite n g level fade) s = .next t ∧ t.rd (LMP_LV_LEVEL n g) = level.toNat ∧
          t.rd (LMP_LV_FADE n g) = fade.toNat ∧
          (t.ch n).lmp = { (s.ch n).lmp with staged := (s.ch n).lmp.staged.set g (some
            { level := level.toNat, fade := fade.toNat, when_ := s.rd (LMP_CTL_WHEN n),
              line := s.rd64 (LMP_STLINE_LO_LINE n) (LMP_STLINE_HI_LINE n), at_ := s.now, edge := none }) } ∧
          SameWords s t (fun a => a = (LMP_LV_LEVEL n g).addr ∨ a = (LMP_STAT_MODE n).addr))) ∧
    (Quiet s → ∃ t, exec (.lampFadestop n) s = .next t ∧
      (t.ch n).lmp = { (s.ch n).lmp with fades := List.replicate 4 none } ∧ SameWords s t (· = (LMP_STAT_MODE n).addr)) ∧
    (∀ off : Bool, Quiet s →
      let hot := decide (sext 16 (s.rd (LMP_DERLIM_TOFF n)) - 80 < (s.ch n).lmp.theta.toInt)
      let held := !off && s.rb (LMP_CTL_OFF n) && hot
      ∃ t, exec (.lampOffWrite n off) s = .next t ∧ t.rb (LMP_CTL_OFF n) = (off || held) ∧
        (held = true → t.rd (LMP_CNT_REFUSED n) = min (s.rd (LMP_CNT_REFUSED n) + 1) (2 ^ (LMP_CNT_REFUSED n).width - 1)) ∧
        SameWords s t (fun a => a = (LMP_CTL_OFF n).addr ∨ a = (LMP_STAT_MODE n).addr ∨ a = (LMP_CNT_REFUSED n).addr) ∧
        t.chans = s.chans) ∧
    (∀ w : Word, Quiet s → ∃ t, exec (.lampFaultClear n w) s = .next t ∧
      (∀ i < 12, bit (t.rd (LMP_FAULT_OPEN n)) i = (bit (s.rd (LMP_FAULT_OPEN n)) i && (!bit ((LMP_FAULT_OPEN n).of w) i ||
          bit ((LMP_FAULT_OPEN n).of (s.justBits (LMP_FAULT_OPEN n).addr)) i)) ∧
        bit (t.rd (LMP_FAULT_SHORT n)) i = (bit (s.rd (LMP_FAULT_SHORT n)) i && (!bit ((LMP_FAULT_SHORT n).of w) i ||
          bit ((LMP_FAULT_SHORT n).of (s.justBits (LMP_FAULT_SHORT n).addr)) i)) ∧
        (bit ((LMP_FAULT_SHORT n).of w) i = true → bit (s.rd (LMP_FAULT_SHORT n)) i = true → (sinkOf s n i).shortOff = true →
          (sinkOf t n i).relight = some s.now)) ∧
      SameWords s t (· = (LMP_FAULT_OPEN n).addr))

/-- LAMP_TEMP_SAMPLE: a reading out of range raises EV_LMP_TEMP_FLT and holds the derating; a reading is kept, for DER.TEMP to
show from the next status refresh, and one above TOFF turns the channel's lamps off. HEADROOM_UPDATE with a lowest voltage
measured since the last: HD moves by KH x (TGT - VMIN) / 160, at most 32 codes, within 0 to 1,023, and VMIN shows the voltage.
COLOUR_HOLD_UPDATE at the end of a group's period: the period's sums start afresh; before it nothing changes. LAMP_INTERNAL_MARK
on a channel with a jig that is not running: the diagnosis mark count advances by one; otherwise nothing changes. (It is taken
that the register file is in canonical form, which every step keeps: KeptHoldsAcrossEveryStep.) (spec/06_illumination.md (R154,
R158, R161, R165)) -/
def Obligations.LampMeasurementsAdjustTheLight : Prop :=
  ∀ (s : State) (n : Fin 4), RegsWf s →
    exec (.lampTempSample n none) s = .next (finish ((s.modLmp n fun u => { u with tempBad := true }).raise (ev (EV_LMP_TEMP_FLT n)))) ∧
    (∀ θ : BitVec 16, ∃ t, exec (.lampTempSample n (some θ)) s = .next (finish t) ∧ (t.ch n).lmp.theta = θ ∧
      (t.ch n).lmp.tempBad = false ∧ (t.ch n).lmp.overTemp = decide (sext 16 (s.rd (LMP_DERLIM_TOFF n)) < θ.toInt) ∧
      (sext 16 (s.rd (LMP_DERLIM_TOFF n)) < θ.toInt → t.rb (LMP_CTL_OFF n) = true) ∧
      SameWords s t (inChan n 0x10000 0x14000)) ∧
    (∀ v : Nat, (s.ch n).lmp.vmin = some v →
      ∃ t, exec (.headroomUpdate n) s = .next (finish t) ∧ (t.ch n).lmp.vmin = none ∧ t.rd (LMP_HDRM_VMIN n) = min v 65535 ∧
        (t.rd (LMP_HDRM_HD n) : Int) = clampI (s.rd (LMP_HDRM_HD n) +
          clampI ((s.rd (LMP_HDRMCFG_KH n) * ((s.rd (LMP_HDRMCFG_TGT n) * 100 : Nat) - (v : Int))) / 160) (-32) 32) 0 1023 ∧
        SameWords s t (· = (LMP_HDRM_HD n).addr)) ∧
    (∀ (g : Fin 4) (h : HoldSt), (s.ch n).lmp.hold[g.val]? = some h →
      (Quiet s → holdSrc s n g = 0 ∨ h.lines < max 1 (s.rd (LMP_HOLDCFG_HPER n)) → exec (.colourHoldUpdate n g) s = .next s) ∧
      (holdSrc s n g ≠ 0 → max 1 (s.rd (LMP_HOLDCFG_HPER n)) ≤ h.lines →
        ∃ t k, exec (.colourHoldUpdate n g) s = .next (finish t) ∧ (t.ch n).lmp.hold[g.val]? = some k ∧
          k.sum = 0 ∧ k.cnt = 0 ∧ k.good = 0 ∧ k.lines = 0)) ∧
    (s.running n = false → s.rb (GLB_SW_STAT_NOJIG n) = false →
      ∃ t, exec (.lampInternalMark n) s = .next (finish t) ∧
        (t.ch n).lmp.diagCount = ((s.ch n).lmp.diagCount + 1) % 2 ^ 48) ∧
    (Quiet s → s.running n = true ∨ s.rb (GLB_SW_STAT_NOJIG n) = true → exec (.lampInternalMark n) s = .next s)

/-- SINK_SELF_TEST_DONE of a sink under test: the test ends, and the drive die has a report for the pixel die, of an open string
where the sink regulates, else of a sink fault, with the sink off from then on (DriveDieFollowsItsLink says what a report does).
CONTINUOUS_SINK_CHECK: the sense is kept; for a lit sink in mode 3 the voltage and the current measured are held for the next
status refresh. LD_SYNC_PULSE with OUT set and the pin not already low: the device drives LD_SYNC low; without OUT only OUT
changes. LD_SYNC_PULSE_END: a driven pin is released. LD_SYNC_EDGE with OUT clear: a change staged with WHEN 2 on a running
channel notes the edge; with OUT set nothing changes. (It is taken that the register file is in canonical form, which every step
keeps: KeptHoldsAcrossEveryStep.) (spec/06_illumination.md (R159, R162, R163)) -/
def Obligations.SinksAreCheckedAndLdSyncPulses : Prop :=
  (∀ (s : State) (n : Fin 4) (i : Fin 12), RegsWf s →
    (∀ regulates : Bool, Quiet s → (sinkOf s n i).testing = true →
      exec (.sinkSelfTestDone n i regulates) s = .next
        ((modSink s n i fun k => { k with testing := false, dead := k.dead || !regulates }).modDrv fun d =>
          { d with reports := d.reports ++ [if regulates then .lampOpen n i else .sinkFault n i] })) ∧
    (∀ sn : SinkSense,
      let u := modSink s n i fun k => { k with sense := sn }
      let lit := (sinkOf u n i).mode = 3 ∧ sinkLit u n i = true
      (Quiet s → ¬ lit → exec (.continuousSinkCheck n i sn) s = .next (modSink u n i fun k => { k with openSince := none })) ∧
      (lit → ∃ t, exec (.continuousSinkCheck n i sn) s = .next (finish t) ∧ (sinkOf t n i).sense = sn ∧
        (sinkOf t n i).v = min sn.v 65535 ∧ (sinkOf t n i).i = sn.i.getD (sinkOf s n i).amp))) ∧
  (∀ s : State, RegsWf s →
    (s.ldLow = false → ∃ t, exec (.ldSyncPulse true) s = .next (finish t) ∧ t.ldLow = true ∧ t.rb GLB_LDSYNC_OUT = true ∧
      t.outbox = s.outbox ++ [.pin "LD_SYNC" 0 false]) ∧
    (Quiet s → exec (.ldSyncPulse false) s = .next (s.wr GLB_LDSYNC_OUT 0)) ∧
    (Quiet s → exec .ldSyncPulseEnd s = .next (if s.ldLow then { s with ldLow := false }.emit (.pin "LD_SYNC" 0 true) else s)) ∧
    (Quiet s → s.rb GLB_LDSYNC_OUT = true → exec .ldSyncEdge s = .next s) ∧
    (∀ (n g : Fin 4) (x : LvStage), s.rb GLB_LDSYNC_OUT = false → s.running n = true →
      (s.ch n).lmp.staged[g.val]? = some (some x) → x.when_ = 2 → x.edge = none →
      ∃ t, exec .ldSyncEdge s = .next (finish t) ∧ (t.ch n).lmp.staged[g.val]? = some (some { x with edge := some s.now })))

/-- AXIS_HALT on an axis whose carrier (itself, or the master of its group) moves and is not in an emergency stop: the carrier
goes over to HALT; AXIS_ESTOP on one that moves: to ESTOP; on a standing axis neither changes its motion. MOT_HALTALL and
MOT_ESTOPALL do so for the four axes in turn. AXIS_CLRFLT: STAT.FLT is 0 and the drive die's jump hold ends. The channel's
motion is then shown and followed up, as after every motion command. (It is taken that the register file is in canonical form,
which every step keeps: KeptHoldsAcrossEveryStep.) (spec/08_transport_motion.md (R197, R198, R206, R210)) -/
def Obligations.AxisStopsAndFaultClears : Prop :=
  ∀ (s : State) (n a : Fin 4), RegsWf s →
    (let c := carrier s n a
     ((axis s n c).mode = .still →
       exec (.axisHalt n a) s = .next (finish (motWatch (showAxis s n a) n)) ∧
       exec (.axisEstop n a) s = .next (finish (motWatch (showAxis s n a) n))) ∧
     ((axis s n c).mode ≠ .still →
       ((axis s n c).mode ≠ .estop → exec (.axisHalt n a) s = .next (finish
         (motWatch (showAxis (modAxis s n c fun x => { x with mode := .halt, first := false }) n a) n))) ∧
       exec (.axisEstop n a) s = .next (finish
         (motWatch (showAxis (modAxis s n c fun x => { x with mode := .estop, first := false }) n a) n)))) ∧
    exec (.motHaltall n) s = .next (finish (motWatch (iterate 4 (iterate 4 s fun t a => axisHalt t n a) fun t a => showAxis t n a) n)) ∧
    exec (.motEstopall n) s = .next (finish (motWatch (iterate 4 (iterate 4 s fun t a => axisEstop t n a) fun t a => showAxis t n a) n)) ∧
    (∃ t, exec (.axisClrflt n a) s = .next (finish (motWatch t n)) ∧ t.rd (MOTA_STAT_FLT n a) = 0 ∧
      axis t n a = { axis s n a with jumpOff := false })

/-- AXIS_GO after taking REL: with a cause of R193 the axis stays, REFCAUSE shows it, REFUSED counts, EV_MOT_REFUSED is raised;
else the axis ramps to its target, or, already there, ends its move at once. AXIS_HOME with no cause against it and HOMEV in
range: HOMED clears and the axis homes. MOT_GO with no axis refused and a largest distance that is not 0: every axis of the mask
moves to its target and the group is shown. MOTION_PARAM_WRITE on a standing axis: the parameter takes the value and is
forwarded to the drive die; on a moving one, a value that would break a condition of R190 among the axis's values in force is
refused with cause 5. (It is taken that the register file is in canonical form, which every step keeps:
KeptHoldsAcrossEveryStep.) (spec/08_transport_motion.md (R190, R192, R193, R194, R198, R199, R206)) -/
def Obligations.AxisStartsAreTakenOrRefused : Prop :=
  ∀ (s : State) (n a : Fin 4), RegsWf s →
    (∀ rel : Bool,
      let u := fldWrite s (MOTA_CTL_REL n a) (b2n rel)
      let tgt := regTarget u n a
      (∀ c, moveCause u n a tgt true = some c →
        exec (.axisGo n a rel) s = .next (finish (motWatch (showAxis
          (((u.wr (MOTA_STAT_REFCAUSE n a) c).bump (MOTA_CNT_REFUSED n a)).raise (((ev (EV_MOT_REFUSED n)).at_ 5 a).code_ c))
          n a) n))) ∧
      (moveCause u n a tgt true = none →
        ∃ t, exec (.axisGo n a rel) s = .next (finish (motWatch t n)) ∧ (axis t n a).tgt = tgt ∧
          (tgt * uStep ≠ (axis u n a).p → (axis t n a).mode = .ramp ∧ (axis t n a).first = true ∧
            (axis t n a).fwd = decide ((axis u n a).p ≤ tgt * uStep)) ∧
          (tgt * uStep = (axis u n a).p → (axis t n a).mode = .still ∧ t.rd (MOTA_STAT_END n a) = 1))) ∧
    (startCause s n a false = none → s.rd (MOTA_HOMEV_HOMEV n a) ≠ 0 →
      s.rd (MOTA_HOMEV_HOMEV n a) ≤ min (s.rd (MOTA_VSTART_V n a)) (s.rd (MOTA_VSTOP_V n a)) →
      ∃ t, exec (.axisHome n a) s = .next (finish (motWatch t n)) ∧ t.rd (MOTA_STAT_HOMED n a) = 0 ∧
        (axis t n a).mode = .home (if s.rb (MOTA_STAT_REF n a) then 2 else 1) ∧ (axis t n a).by_ = .host) ∧
    (∀ mask : BitVec 4,
      let u := fldWrite s (MOT_CTL_GMASK n) mask.toNat
      let as := maskAxes mask.toNat
      as ≠ [] → u.rd (MOT_CTL_GMASK n) = mask.toNat → (∀ b ∈ as, moveCause u n b (regTarget u n b) false = none) →
      (∃ b ∈ as, regTarget u n b * uStep ≠ (axis u n b).p) →
      ∃ t m, exec (.motGo n mask) s = .next (finish (motWatch t n)) ∧ m ∈ as ∧ (t.ch n).mot.master = some m ∧
        t.rd (MOT_STAT_GROUP n) = mask.toNat ∧
        ∀ b ∈ as, (axis t n b).tgt = regTarget u n b ∧ (axis t n b).mode = if b = m then .ramp else .follow) ∧
    (∀ (param : Fin 8) (v : Word),
      let f : Fld := ⟨chBase n + 0x18118 + 0x100 * a + 4 * param, if param.val < 4 then 22 else 31, 0, .rw, 0⟩
      (Quiet s → (axis s n a).moving = false →
        exec (.motionParamWrite n a param v) s = .next (driveForward (s.wr f v.toNat) f.addr)) ∧
      ((axis s n a).moving = true → ((axis s n a).own.put (0x18 + 4 * param) (v.toNat % 2 ^ f.width)).ok = false →
        exec (.motionParamWrite n a param v) s = .next (finish
          (((s.wr (MOTA_STAT_REFCAUSE n a) 5).bump (MOTA_CNT_REFUSED n a)).raise (((ev (EV_MOT_REFUSED n)).at_ 5 a).code_ 5)))))

/-- RAMP_TICK on a channel with no coordinated move, no encoder check and no deceleration test waiting: an axis on its first
tick takes VSTART and keeps its position; one that ramps within its distance takes one step of the ramp; a standing axis stays.
STEP_SUM_CHECK with the link up and every sum as sent: only the follow-up of motion; with the link down nothing. PWM_PERIOD of
an axis with its bridges off: both duties are 0 and the MT pins stay in the off code; with them on the duties are those of R202
for the table entry at the position, and both bridges' codes of the period leave; either way the period may start an injected
conversion. (It is taken that the register file is in canonical form, which every step keeps: KeptHoldsAcrossEveryStep.)
(spec/08_transport_motion.md (R191, R202, R203, R204, R208); spec/13_monitoring_converter.md (R329)) -/
def Obligations.MotionTicksAndDutiesFollow : Prop :=
  (∀ (s : State) (n : Fin 4), RegsWf s → s.rd (MOT_STAT_GROUP n) = 0 → (∀ a : Fin 4, s.rb (MOTA_CFG_ENCCHK n a) = false) →
    ∃ t, exec (.rampTick n) s = .next (finish (motWatch t n)) ∧ ∀ a : Fin 4,
      let x := axis s n a
      (x.mode = .still → axis t n a = x) ∧
      (x.mode = .ramp → x.testDec = false → x.first = true →
        (axis t n a).p = x.p ∧ (axis t n a).v = cvSpeed x.set.vstart ∧ (axis t n a).first = false ∧ (axis t n a).mode = .ramp) ∧
      (x.mode = .ramp → x.testDec = false → x.first = false → x.beyond = false → (rampStep { x with vPrev := x.v }).2 = false →
        axis t n a = (rampStep { x with vPrev := x.v }).1)) ∧
  (∀ (s : State), RegsWf s →
    (Quiet s → s.drv.linkUp = false → ∀ errs, exec (.stepSumCheck errs) s = .next s) ∧
    (s.drv.linkUp = true → (∀ n a : Fin 4, toBits 32 (axis s n a).dSum = toBits 32 (axis s n a).sumOwn) →
      (∀ n : Fin 4, motWatch s n = s) → Quiet s → exec (.stepSumCheck []) s = .next s)) ∧
  (∀ (s : State) (n a : Fin 4), RegsWf s →
    (bridgesOn s n a = false →
      exec (.pwmPeriod n a) s = .next (finish (monTriggerSrc
        ((modAxis s n a fun x => { x with dA := 0, dB := 0, dSat := false }).emit (.bridge n a [(0, 0)] [(0, 0)])) 3 n a))) ∧
    (bridgesOn s n a = true →
      let x := axis s n a
      let d := duties (driveAmp s n a) (driveRd s (MOT_VMEAS_CSUP n))
        (sineEntry (sineTabs s n a) a (tableIndex x.moving x.dDir x.dPos x.dLead)) (driveRd s (MOTA_CFG_DIRINV n a) != 0)
      let p := max (driveRd s (MOT_PWMCFG_PWMP n)) 1000
      let dead := driveRd s (MOT_PWMCFG_DEADT n)
      let brake := driveRd s (MOTA_CFG_DECAY n a) != 0
      ∃ t, exec (.pwmPeriod n a) s = .next (finish (monTriggerSrc t 3 n a)) ∧
        (axis t n a).dA = d.1 ∧ (axis t n a).dB = d.2.1 ∧ (axis t n a).dSat = d.2.2 ∧ t.regs = s.regs ∧
        t.outbox = s.outbox ++ [.bridge n a (bridgePlan 0 p dead d.1 brake) (bridgePlan (p / 2) p dead d.2.1 brake)]))

/-- For a runner whose list stands at a legal command of the kind named. SEQ_END: passed with its bit 0 clear, else failed with
cause 1. SEQ_JUMP: on at the index it names. SEQ_MARK: EV_SEQ_MARK with its mark as CODE, then on. SEQ_CMP that does not hold:
on; one that holds fails with cause 2, jumps or skips the next command, as its action says. SEQ_WRITE and SEQ_WRITEM: the write
goes to the register port, with its mask and its words, and waits there (TimeBaseCountsControlClocks says when it is applied and
the list moves on); while one waits neither does anything; to an offset that a list may not write they fail with cause 5.
SEQ_ILLEGAL at an illegal command or the end of the list: failed with cause 4. (It is taken that the register file is in
canonical form, which every step keeps: KeptHoldsAcrossEveryStep.) (spec/02_jigs_boot_job_switch.md (R51, R52, R53);
spec/17_register_sequences.md (R426); spec/01_architecture.md (R33)) -/
def Obligations.ListCommandsActAndMoveOn : Prop :=
  ∀ (s : State) (r : Fin 5) (w m : BitVec 64), RegsWf s →
    let on (u : State) (pc : Nat) : State := (u.wr (seqPc r) (min pc 8191)).wr (seqState r) 1
    let pc := s.rd (seqPc r)
    let fails (c : Instr) (cause : Nat) : Prop :=
      ∃ t, exec c s = .next (finish (listOver t r)) ∧ t.rd (seqState r) = 6 ∧ t.rd (seqCause r) = cause ∧
        seqFailEv r (s.rd (seqType r)) (s.rd (seqJig r)) pc cause ∈ t.evq
    (cmdNow s r 0 = some (w, m) →
      (bit w.toNat 0 = true → fails (.seqEnd r) 1) ∧
      (bit w.toNat 0 = false → ∃ t, exec (.seqEnd r) s = .next (finish (listOver t r)) ∧ t.rd (seqState r) = 5)) ∧
    (Quiet s → cmdNow s r 8 = some (w, m) → exec (.seqJump r) s = .next (on s (bits w.toNat 15 0))) ∧
    (cmdNow s r 9 = some (w, m) → exec (.seqMark r) s = .next (finish (on (s.raise ((((ev EV_SEQ_MARK).at_ 11 r).code_
      (bits w.toNat 15 0)).detail_ (s.rd (seqType r) * 2 ^ 26 + s.rd (seqJig r) * 2 ^ 16 + pc))) (pc + 1)))) ∧
    (∀ a, cmdNow s r 7 = some (w, m) → seqTarget r w = some a →
      let x := readWord s a
      let mask : Word := m.extractLsb' 0 32
      let holds := cmpHolds (bits m.toNat 63 60) (x.1 &&& mask).toNat (w.extractLsb' 0 32 &&& mask).toNat
      (Quiet s → holds = false → exec (.seqCmp r) s = .next (on x.2 (pc + 2))) ∧
      (holds = true → bits m.toNat 57 56 = 0 → fails (.seqCmp r) 2) ∧
      (Quiet s → holds = true → bits m.toNat 57 56 = 1 → exec (.seqCmp r) s = .next (on x.2 (bits m.toNat 47 32))) ∧
      (Quiet s → holds = true → bits m.toNat 57 56 = 2 → exec (.seqCmp r) s = .next (on x.2 (pc + (2 + lenAt s r (pc + 2)))))) ∧
    (portHolds s r = false → cmdNow s r 1 = some (w, m) →
      (seqWritable r w = none → fails (.seqWrite r) 5) ∧
      (∀ a, Quiet s → seqWritable r w = some a →
        exec (.seqWrite r) s = .next (portAsk s (r + 1) a (w.extractLsb' 0 32) 0xFFFFFFFF 1))) ∧
    (portHolds s r = false → cmdNow s r 2 = some (w, m) →
      (seqWritable r w = none → fails (.seqWritem r) 5) ∧
      (∀ a, Quiet s → seqWritable r w = some a →
        exec (.seqWritem r) s = .next (portAsk s (r + 1) a (w.extractLsb' 0 32) (m.extractLsb' 0 32) 2))) ∧
    (Quiet s → portHolds s r = true → exec (.seqWrite r) s = .next s ∧ exec (.seqWritem r) s = .next s) ∧
    (cmdIllegal s r = true → fails (.seqIllegal r) 4)

/-- SEQ_WAITEV of an event whose status bit is set goes on at once; of another it waits in state 2 for the event, until the
timeout if one is given. SEQ_WAITEV_SATISFIED: once the bit is set the list goes on. SEQ_WAITEV_TIMEOUT: with the time over and
the bit clear the list fails with cause 3. SEQ_WAITT waits in state 3 until its time; SEQ_WAITT_EXPIRE at that time goes on. (It
is taken that the register file is in canonical form, which every step keeps: KeptHoldsAcrossEveryStep.)
(spec/02_jigs_boot_job_switch.md (R51, R52, R53)) -/
def Obligations.ListWaitsHoldAndEnd : Prop :=
  ∀ (s : State) (r : Fin 5) (w m : BitVec 64), RegsWf s →
    let pc := s.rd (seqPc r)
    let next := (s.wr (seqPc r) (min (pc + 1) 8191)).wr (seqState r) 1
    (Quiet s → cmdNow s r 3 = some (w, m) →
      let e := bits w.toNat 57 48
      let us := bits w.toNat 31 0
      exec (.seqWaitev r) s = .next (if evStat s e then next else
        modRunner (s.wr (seqState r) 2) r fun x =>
          { x with ev := e, until_ := if us = 0 then none else some (s.now + 1000 * us) })) ∧
    (Quiet s → s.rd (seqState r) = 2 → evStat s (runnerOf s r).ev = true → exec (.seqWaitevSatisfied r) s = .next next) ∧
    (∀ u, s.rd (seqState r) = 2 → (runnerOf s r).until_ = some u → u ≤ s.now → evStat s (runnerOf s r).ev = false →
      ∃ t, exec (.seqWaitevTimeout r) s = .next (finish (listOver t r)) ∧ t.rd (seqState r) = 6 ∧ t.rd (seqCause r) = 3 ∧
        seqFailEv r (s.rd (seqType r)) (s.rd (seqJig r)) pc 3 ∈ t.evq) ∧
    (Quiet s → cmdNow s r 4 = some (w, m) → exec (.seqWaitt r) s = .next
      (modRunner (s.wr (seqState r) 3) r fun x => { x with until_ := some (s.now + 1000 * bits w.toNat 31 0) })) ∧
    (∀ u, Quiet s → s.rd (seqState r) = 3 → (runnerOf s r).until_ = some u → u ≤ s.now →
      exec (.seqWaittExpire r) s = .next next)

/-- SEQ_START of a list of type 3 or 4 that the active jig has, on an idle runner: TYPE is taken, and the runner stands at word
0 of the list, which a write of the list before that waits at the port does not move; on a busy runner only EV_SEQ_FAIL is
raised. SEQ_ABORT of a running list fails it with cause 8; on an idle runner nothing fails. SEQ_MOVE: a move that is refused
fails the list with cause 6; an accepted one lets the list go on, or wait in state 4 while the axis moves. SEQ_MOVE_STANDSTILL:
once the axis stands the list goes on. SEQ_CAPTURE fails outside a calibration list with cause 4; in one the runner captures
with the store, kind and line count of the command. (It is taken that the register file is in canonical form, which every step
keeps: KeptHoldsAcrossEveryStep.) (spec/02_jigs_boot_job_switch.md (R51, R52, R53); spec/08_transport_motion.md (R192);
spec/10_shading_calibration.md (R240, R241)) -/
def Obligations.ListsStartMoveAndCapture : Prop :=
  (∀ (s : State) (n : Fin 4) (ty : Fin 8), RegsWf s →
    let u := s.wr (SEQ_CTL_TYPE n) ty
    (s.listRuns (n + 1) = true →
      exec (.seqStart n ty) s = .next (finish (u.raise (seqFailEv (n + 1) ty (jigOf s n) 0 7)))) ∧
    (∀ ws, Quiet s → s.listRuns (n + 1) = false → ty.val = 3 ∨ ty.val = 4 → s.rb (GLB_SW_STAT_NOJIG n) = false →
      jigList (jigFor u (some n.val) (jigOf s n)) n ty = some ws →
      let v : State := { u with port := u.port.map fun (q : PortReq) => if q.src = n + 2 then { q with words := 0 } else q }
      exec (.seqStart n ty) s = .next (modRunner ((((((v.wr (SEQ_STAT_STATE n) 1).wr (SEQ_STAT_TYPE n) ty).wr
        (SEQ_STAT_CAUSE n) 0).wr (SEQ_STAT_JIG n) (jigOf s n)).wr (SEQ_STAT_PC n) 0)) (n + 1) fun _ =>
          { Runner.idle with words := ws, boot := false })) ∧
    (s.listRuns (n + 1) = true → ∃ t, exec (.seqAbort n) s = .next (finish (listOver t (n + 1))) ∧
      t.rd (SEQ_STAT_STATE n) = 6 ∧ t.rd (SEQ_STAT_CAUSE n) = 8) ∧
    (s.listRuns (n + 1) = false → exec (.seqAbort n) s = .next (finish (listOver s (n + 1))))) ∧
  (∀ (s : State) (r : Fin 5) (w m : BitVec 64), RegsWf s →
    let n := r.val - 1
    let pc := s.rd (seqPc r)
    let on (u : State) : State := (u.wr (seqPc r) (min (u.rd (seqPc r) + 1) 8191)).wr (seqState r) 1
    (cmdNow s r 5 = some (w, m) →
      let a := bits w.toNat 57 56
      let x := sext 32 (bits w.toNat 31 0)
      let mv := axisMove s n a (if bit w.toNat 55 then (axis s n a).p / (uStep : Int) + x else x) (.seq r)
      let u := motWatch mv.1 n
      exec (.seqMove r) s = .next (finish
        (if mv.2 = false then listFail u r 6
         else if bit w.toNat 54 && (axis u n a).moving then modRunner (u.wr (seqState r) 4) r fun x => { x with axis := a }
         else on u))) ∧
    (Quiet s → s.rd (seqState r) = 4 → (axis s n (runnerOf s r).axis).moving = false →
      exec (.seqMoveStandstill r) s = .next (on s)) ∧
    (cmdNow s r 6 = some (w, m) →
      (s.rd (seqType r) ≠ 2 → ∃ t, exec (.seqCapture r) s = .next (finish (listOver t r)) ∧
        t.rd (seqState r) = 6 ∧ t.rd (seqCause r) = 4) ∧
      (Quiet s → s.rd (seqType r) = 2 → r.val ≤ s.runners.length - 1 → s.runners ≠ [] →
        ∃ t, exec (.seqCapture r) s = .next t ∧ (runnerOf t r).capturing = true ∧ t.rd (seqPc r) = pc ∧
          (calOf t n).capture = some { store := bits w.toNat 53 52, kind := bits w.toNat 57 56, want := bits w.toNat 15 0,
                                       taken := 0, repl := 0, invalid := false, sums := [], lambda := none, writing := false })))

/-- CAL_START with the runner idle, no switch under way, a jig with a calibration list, no rough-cut mode and no safe state: the
runner runs the list, the gap is open, CAL STATE is 1 and EV_CAL_START is raised; with the runner busy only EV_SEQ_FAIL with
cause 7. CAL_AUTO_START where R249 allows it does the same, and nothing otherwise. CAL_ABORT of a running calibration list fails
it with cause 8; without one it changes nothing. (It is taken that the register file is in canonical form, which every step
keeps: KeptHoldsAcrossEveryStep.) (spec/10_shading_calibration.md (R248, R249, R250, R252, R256)) -/
def Obligations.CalibrationStartsAndAborts : Prop :=
  ∀ (s : State) (n : Fin 4), RegsWf s →
    (s.listRuns (n + 1) = true →
      exec (.calStart n) s = .next (finish (s.raise (seqFailEv (n + 1) 2 (jigOf s n) 0 7)))) ∧
    (∀ ws, s.listRuns (n + 1) = false → s.switching n = false → s.rb (GLB_SW_STAT_NOJIG n) = false → s.rough n = false →
      s.safe = false → jigList (jigFor s (some n.val) (jigOf s n)) n 2 = some ws →
      ∃ t, exec (.calStart n) s = .next (finish t) ∧ (calMayStart s n = true → exec (.calAutoStart n) s = .next (finish t)) ∧
        t.rd (SEQ_STAT_STATE n) = 1 ∧ t.rd (SEQ_STAT_TYPE n) = 2 ∧ t.rd (SEQ_STAT_PC n) = 0 ∧ t.rb (CAL_STAT_GAP n) = true ∧
        t.rd (CAL_STAT_STATE n) = 1 ∧ (calOf t n).listOn = true ∧ t.evq = s.evq ++ [ev (EV_CAL_START n)]) ∧
    (Quiet s → calMayStart s n = false → exec (.calAutoStart n) s = .next s) ∧
    (s.calList n = true → ∃ t, exec (.calAbort n) s = .next (finish (listOver t (n + 1))) ∧ t.rd (SEQ_STAT_STATE n) = 6 ∧
      t.rd (SEQ_STAT_CAUSE n) = 8) ∧
    (Quiet s → s.calList n = false → exec (.calAbort n) s = .next s)

/-- CAL_EVAL in a calibration list: the evaluation is under way, STATE 2; elsewhere it is ignored. CAL_EVAL_DONE: the evaluation
is over, CAUSE is the first test of R245 that fails, RESULT is 1 with none and 2 otherwise, NEXT says whether the list ends,
retries or gives up, and EV_CAL_EVAL is raised last. CAL_STORE and CAL_LOAD while neither a calibration list, a switch, a copy
nor a swap is under way: BUSY is set with the slot that the copy takes; otherwise EV_CAL_BUSY. PROFILE_COPY_DONE: BUSY clears,
and the active profile is in its slot, or the slot in the shadow profile. (It is taken that the register file is in canonical
form, which every step keeps: KeptHoldsAcrossEveryStep.) (spec/10_shading_calibration.md (R239, R242, R243, R245, R246)) -/
def Obligations.EvaluationsAndProfileCopies : Prop :=
  ∀ (s : State) (n : Fin 4), RegsWf s →
    (Quiet s → exec (.calEval n) s = .next (if s.calList n && (calOf s n).listOn then
        (s.modCal n fun c => { c with evalBusy := true }).wr (CAL_STAT_STATE n) 2 else s)) ∧
    (∀ (again : Nat) (stop : Option Nat), (calOf s n).evalBusy = true →
      let P := (s.ch n).sns.sched.pixels
      let k := calCause s n P (calStats s n P) stop.isSome
      ∃ t, exec (.calEvalDone n again stop) s = .next (finish t) ∧ (calOf t n).evalBusy = false ∧ t.rd (CAL_STAT_STATE n) = 1 ∧
        t.rd (CAL_STAT_CAUSE n) = k ∧ t.rd (CAL_STAT_RESULT n) = (if k = 0 then 1 else 2) ∧
        t.rd (CAL_STAT_NEXT n) = (if k = 0 then 0 else if s.rb (CAL_CFG_RETRY n) && !(calOf s n).retried then 1 else 2) ∧
        t.evq.getLast? = some (ev (EV_CAL_EVAL n))) ∧
    (copyRefused s n = true → exec (.calStore n) s = .next (finish (s.raise (ev (EV_CAL_BUSY n))))) ∧
    (Quiet s → copyRefused s n = false → exec (.calStore n) s = .next
      ((s.modCal n fun c => { c with copying := some (true, s.rd (PIPE_CFG_PROF n)) }).wr (CAL_STAT_BUSY n) 1)) ∧
    (∀ slot : Fin 16,
      let u := s.wr (CAL_CTL_SLOT n) slot
      (copyRefused u n = true → exec (.calLoad n slot) s = .next (finish (u.raise (ev (EV_CAL_BUSY n))))) ∧
      (Quiet s → copyRefused u n = false → exec (.calLoad n slot) s = .next
        ((u.modCal n fun c => { c with copying := some (false, slot.val) }).wr (CAL_STAT_BUSY n) 1))) ∧
    (∀ slot : Nat, Quiet s →
      let u := (s.modCal n fun c => { c with copying := none }).wr (CAL_STAT_BUSY n) 0
      let p := (s.ch n).pipe
      ((calOf s n).copying = some (true, slot) → exec (.profileCopyDone n) s = .next
        ((u.modDram n fun m => copyRegion (profBank p p.bank) m 0 (profSlotAddr slot) 0x60000).wr (CAL_STAT_PSLOTV n)
          (withBit (s.rd (CAL_STAT_PSLOTV n)) slot (s.rb (PIPE_STAT_PVALID n))))) ∧
      ((calOf s n).copying = some (false, slot) → exec (.profileCopyDone n) s = .next
        (let prof := copyRegion (s.dram n) [] (profSlotAddr slot) 0 0x60000
         (u.modPipe n fun p => setBank p p.shadow prof).modDram n fun m => copyRegion prof m 0 (profCopyAddr p.shadow) 0x60000)))

/-- CAPTURE_INTERNAL_TRIGGER while a capture wants a line, the bar is READY and every spacing is over: a capture line starts
now, with the next trigger count and no slot; while no line is wanted nothing changes. CAPTURE_DONE of a finished capture: its
store is valid unless the capture is, and the list that waited moves on. CAL_TEMP_READ: TNOW takes the reading; an invalid one
only ends the run of far readings. CAL_GAP_CLOSE with the list over and the slide parked: the gap closes, and a running channel
awaits line A in STATE 4, another is in STATE 0; otherwise nothing changes. (It is taken that the register file is in canonical
form, which every step keeps: KeptHoldsAcrossEveryStep.) (spec/10_shading_calibration.md (R241, R248, R252, R254)) -/
def Obligations.CapturesAndTheGap : Prop :=
  ∀ (s : State) (n : Fin 4), RegsWf s →
    (Quiet s → captureWants s n = false → exec (.captureInternalTrigger n) s = .next s) ∧
    (captureWants s n = true → s.rd (SNS_STAT_STATE n) = 5 → s.safe = false → (s.ch n).sns.waiting = none →
      (∀ u, (s.ch n).sns.lastStart = some u →
        u + max (s.rd (CAL_CAPPER_PER n)) (s.ch n).sns.sched.pmin ≤ s.now ∧ u + spacing s n 0 s.now ≤ s.now) →
      ∃ t l, exec (.captureInternalTrigger n) s = .next (finish t) ∧ (t.ch n).sns.lastStart = some s.now ∧
        (t.ch n).pipe.trigCtr = (s.ch n).pipe.trigCtr + 1 ∧ (t.ch n).pipe.slotCtr = (s.ch n).pipe.slotCtr ∧
        (t.ch n).pipe.lines = (s.ch n).pipe.lines ++ [l] ∧ l.kind = .capture ∧ l.trig = (s.ch n).pipe.trigCtr) ∧
    (∀ k : CaptureSt, (calOf s n).capture = some k → k.store < 4 →
      (Quiet s → k.invalid = false → k.writing = false → exec (.captureDone n) s = .next s) ∧
      (k.invalid = true ∨ k.writing = true →
        ∃ t, exec (.captureDone n) s = .next (finish t) ∧ (calOf t n).capture = none ∧
          t.rd (CAL_STORE_VALID n k.store) = b2n (!k.invalid) ∧
          ((runnerOf s (n + 1)).capturing = true →
            t.rd (SEQ_STAT_PC n) = min (s.rd (SEQ_STAT_PC n) + 1) 8191 ∧ t.rd (SEQ_STAT_STATE n) = 1))) ∧
    (Quiet s → monTemp s (s.rd (CAL_CFG_TSRC n)) = none →
      exec (.calTempRead n) s = .next (s.modCal n fun c => { c with tempRun := 0 })) ∧
    (∀ v, monTemp s (s.rd (CAL_CFG_TSRC n)) = some v →
      ∃ t, exec (.calTempRead n) s = .next (finish t) ∧ t.rd (CAL_TEMP_TNOW n) = toBits 16 v ∧
        SameWords s t (fun a => a = (CAL_TEMP_TNOW n).addr ∨ a = (CAL_STAT_TREQ n).addr)) ∧
    (let over_ := s.rb (CAL_STAT_GAP n) && !(calOf s n).listOn && slideParked s n
     (Quiet s → over_ = false → exec (.calGapClose n) s = .next s) ∧
     (over_ = true → ∃ t, exec (.calGapClose n) s = .next (finish t) ∧ t.rb (CAL_STAT_GAP n) = false ∧
       t.rd (CAL_STAT_STATE n) = (if s.running n then 4 else 0) ∧
       (s.running n = true → (calOf t n).closedAt = some s.now)))

/-- EVT_STAT_CLEAR and EVT_LAST_CLEAR: each written 1 clears its bit and no other, but for a bit that the device set in the same
control clock, which stays; a cleared lasting event has no lasting unit and no tracker left, and the FIFO blocks' status
follows. EVT_LOG_ENABLE: LOGEN is set, and while the device may master nothing stays held back. EVT_LOGHEAD_WRITE: the head
takes the slot. MSI_HOLD_EXPIRE of a vector with no merged message changes nothing; with one, and mastering, the message is
issued. EVT_FORCE: the number is taken, and an event in use is raised as forced. TRACKER_WINDOW_LAPSE: the trackers whose window
is over go. (It is taken that the register file is in canonical form, which every step keeps: KeptHoldsAcrossEveryStep.)
(spec/15_events_faults_availability.md (R362, R365, R366, R368); spec/00_scope.md (R9)) -/
def Obligations.EventStatusAndLogCommands : Prop :=
  ∀ (s : State), RegsWf s →
    (∀ (w : Fin 32) (v : Word), Quiet s →
      (∃ t, exec (.evtStatClear w v) s = .next t ∧
        (∀ i < 32, bit (t.rd (EVT_STAT_STAT w)) i = (bit (s.rd (EVT_STAT_STAT w)) i &&
          (!bit v.toNat i || bit (s.justBits (EVT_STAT_STAT w).addr).toNat i))) ∧
        OnlyWords s t (· = (EVT_STAT_STAT w).addr)) ∧
      (∃ t, exec (.evtLastClear w v) s = .next t ∧
        (∀ i < 32, bit (t.rd (EVT_LAST_LAST w)) i = (bit (s.rd (EVT_LAST_LAST w)) i &&
          (!bit v.toNat i || bit (s.justBits (EVT_LAST_LAST w).addr).toNat i))) ∧
        (∀ e, e / 32 = w.val → evLast s e = true → evLast t e = false →
          (∀ u ∈ t.evt.lasting, u.ev ≠ e) ∧ ∀ x ∈ t.evt.trackers, x.unit.ev ≠ e) ∧
        SameWords s t (fun a => a = (EVT_LAST_LAST w).addr ∨ a = EVT_TRK_USED.addr ∨ ∃ n : Fin 4, inChan n 0xC000 0x10000 a))) ∧
    (∃ t, exec .evtLogEnable s = .next (finish t) ∧ t.rb EVT_CTL_LOGEN = true ∧ (canMaster s = true → t.evt.held = [])) ∧
    (∀ slot : BitVec 16, Quiet s → exec (.evtLogheadWrite slot) s = .next (s.wr EVT_LOGHEAD_SLOT slot.toNat)) ∧
    (∀ v : Fin 64, Quiet s →
      (s.evt.msiMerge.contains v.val = false → exec (.msiHoldExpire v) s = .next s) ∧
      (s.evt.msiMerge.contains v.val = true → canMaster s = true →
        exec (.msiHoldExpire v) s = .next (msiIssue (s.modEvt fun x =>
          { x with msiMerge := x.msiMerge.erase v, msiLast := (v.val, s.now) :: x.msiLast.filter (·.1 != v.val) }) v))) ∧
    (∀ e : Fin 1024,
      (Quiet s → evInUse e = false → exec (.evtForce e) s = .next (s.wr EVT_FORCE_EVENT e)) ∧
      (evInUse e = true →
        exec (.evtForce e) s = .next (finish ((s.wr EVT_FORCE_EVENT e).raise { ev e with forced := true })))) ∧
    (Quiet s → ∃ t, exec .trackerWindowLapse s = .next t ∧
      t.evt.trackers = s.evt.trackers.filter (·.open_ s.now) ∧ OnlyWords { s with evt := t.evt } t (· = EVT_TRK_USED.addr))

/-- For every state between commands and every happening of an event in the table with class 0 and neither logging, message nor
Umade forwarding enabled, raised on its own: the end of the command sets the event's status bit, changes no register but its
EVT_STAT word and EVT_TRK, raises nothing further and leaves the channels as they are. (It is taken that the register file is in
canonical form, which every step keeps: KeptHoldsAcrossEveryStep.) (spec/15_events_faults_availability.md (R361, R362, R365)) -/
def Obligations.SilentHappeningSetsStatusAndCounts : Prop :=
  ∀ (s : State) (r : Raise), RegsWf s → Quiet s → r.ev < 1024 → r.countOn = [r.ev] → evClass s r.ev = 0 →
    evLogEn s r.ev = false → evMsiEn s r.ev = false → evUmd s r.ev = false →
    let t := finish (s.raise r)
    evStat t r.ev = true ∧ t.evq = [] ∧ t.chans = s.chans ∧ t.outbox = s.outbox ∧ t.evt.lasting = s.evt.lasting ∧
    SameWords s t (fun a => a = (EVT_STAT_STAT (r.ev / 32)).addr ∨ a = EVT_TRK_USED.addr)

/-- DROOP_DETECT outside a stretch: STRETCH is set and STRCNT counts; EV_CLK_STRETCH is raised unless one was within the last
millisecond. STRETCH_END: STRETCH clears, STRTIME keeps the longest, one of more than 20 us raises EV_CLK_DROOP_LONG.
PLL_LOCK_LOSS and SYSCLK_LOSS: the status bit clears and the event is raised. DIE_TEMP_READ: TJ takes the reading.
REGISTER_SCRUB: a clean read of a channel register awaits the first trigger after it; a failing one of a channel register read
clean before is reported with that trigger's line, 0 with none; an address with no register changes nothing. (It is taken that
the register file is in canonical form, which every step keeps: KeptHoldsAcrossEveryStep.)
(spec/15_events_faults_availability.md (R360, R376, R377, R383)) -/
def Obligations.ClocksAndScrubberReport : Prop :=
  ∀ (s : State), RegsWf s →
    (s.rb CLK_STAT_STRETCH = false →
      let u := ((s.wr CLK_STAT_STRETCH 1).bump CLK_STRCNT_COUNT).modEvt fun x => { x with stretchOn := some s.now }
      (∀ x, s.evt.stretchAt = some x → s.now < x + 1000000 → Quiet s → exec .droopDetect s = .next u) ∧
      ((∀ x, s.evt.stretchAt = some x → x + 1000000 ≤ s.now) → exec .droopDetect s = .next (finish
        ((u.modEvt fun x => { x with stretchAt := some s.now }).raise (ev EV_CLK_STRETCH))))) ∧
    (∀ x, s.evt.stretchOn = some x →
      exec .stretchEnd s = .next (finish
        ((((s.wr CLK_STAT_STRETCH 0).peak CLK_STRTIME_NS (s.now - x)).modEvt fun y => { y with stretchOn := none }).raiseIf
          (decide (20000 < s.now - x)) (ev EV_CLK_DROOP_LONG)))) ∧
    exec (.pllLockLoss .pixel) s = .next (finish ((s.wr CLK_STAT_PIXLOCK 0).raise (ev EV_CLK_LOCK))) ∧
    exec (.pllLockLoss .control) s = .next (finish ((s.wr CLK_STAT_CTLLOCK 0).raise (ev EV_CLK_LOCK))) ∧
    exec (.pllLockLoss .dram) s = .next (finish ((s.wr CLK_STAT_DRAMLOCK 0).raise (ev EV_CLK_LOCK))) ∧
    exec .sysclkLoss s = .next (finish ((s.wr CLK_STAT_SYSCLK 0).raise (ev EV_CLK_SYSCLK))) ∧
    (∀ tj : BitVec 16, ∃ t, exec (.dieTempRead tj) s = .next (finish t) ∧ t.rd CLK_TEMP_TJ = tj.toNat ∧
      OnlyWords { s with evq := t.evq } t (· = CLK_TEMP_TJ.addr)) ∧
    (∀ dw : BitVec 20,
      let a := 4 * dw.toNat
      (Quiet s → isReg a = false → ∀ f, exec (.registerScrub dw f) s = .next s) ∧
      (Quiet s → isReg a = true → 0x80000 ≤ a → exec (.registerScrub dw false) s =
        .next (s.modEvt fun x => { x with scrub := (a, none) :: x.scrub.filter fun p => p.1 != a })) ∧
      (∀ p, isReg a = true → 0x80000 ≤ a → s.evt.scrub.find? (·.1 == a) = some p →
        exec (.registerScrub dw true) s =
          .next (finish (s.raise (((ev (EV_CH_REG_PAR (chanOf a))).line_ (p.2.getD 0)).detail_ a)))))

/-- For every state, POWER_ON_RESET and RAIL_DIP answer the same next state t and PIN_RESET a next state u. In t every register
reads its reset value but for the two status bits that show input pins (bar presence and reference inputs), whose levels stay;
the state beside registers is that of State.reset but for the queue, elapsed time, free-value count, what has left the device
(the sensor outputs that were on have gone low), flash, fuses, pin levels, undervoltage and PERST_N. u differs from t in the
eight repair entries of each controller alone, which keep their words. (That the flash, the fuses and pin levels stay is the
nature of those parts; the fields kept beside them are the model's own.) (It is taken that the register file is in canonical
form, which every step keeps: KeptHoldsAcrossEveryStep.) (spec/01_architecture.md (R23); spec/12_dram_controller.md (R316,
R319); spec/15_events_faults_availability.md (R382); spec/17_electrical_package.md (R410, R416); spec/07_position_feedback.md
(R184)) -/
def Obligations.HardResetsReturnTheDeviceToPowerOn : Prop :=
  ∀ (s : State), RegsWf s → ∃ t u,
    exec .powerOnReset s = .next t ∧ exec .railDip s = .next t ∧ exec .pinReset s = .next u ∧
    (∀ a, (∀ n x : Fin 4, a ≠ (SNS_STAT_PRES n).addr ∧ a ≠ (MOTA_STAT_REF n x).addr) → t.word a = resetWord a) ∧
    (∀ n : Fin 4, t.ch n = (s.ch n).fresh ∧ t.rb (SNS_STAT_PRES n) = s.rb (SNS_STAT_PRES n) ∧ t.rd (SNS_STAT_STATE n) = 0 ∧
      (∀ x : Fin 4, t.rb (MOTA_STAT_REF n x) = ((axis s n x).refIn == t.rb (MOTA_CFG_REFPOL n x)) ∧
        t.rb (MOTA_STAT_HOMED n x) = false ∧ (axis t n x).moving = false) ∧
      (posOf t n).count = 0 ∧ (posOf t n).line = 0) ∧
    t = { State.reset with
      regs := t.regs, chans := t.chans, pending := s.pending, now := s.now, freeCtr := s.freeCtr,
      outbox := (iterate 4 s snsOutputsOff).outbox,
      flash := s.flash, keyHash := s.keyHash, drv := { DrvSt.init with under := s.drv.under },
      dma := { DmaSt.init with perst := s.dma.perst } } ∧
    OnlyWords t u (fun a => ∃ k : Fin 4, 0x20080 + 0x4000 * k.val ≤ a ∧ a < 0x200A0 + 0x4000 * k.val) ∧
    (∀ (k : Fin 4) (a : Nat), 0x20080 + 0x4000 * k.val ≤ a → a < 0x200A0 + 0x4000 * k.val → u.word a = s.word a)

/-- WARM_RESET: with t what it makes of the blocks, the next state is t before boot, the device step on t with the valid jigs
checked again once the boot is over, maintenance on in maintenance mode, and the boot from step 1 otherwise. t keeps time base,
event table, flash, fuses and repair entries; no channel runs, none is in rough-cut mode, every bar is OFF and every position 0.
CHANNEL_RESET: with t the device after the channel is cleared, the next state is t with the channel off, or restarted where step
7 of the boot has begun. In t the channel does not run, has no active jig, is out of rough-cut mode with its event status clear,
its bar is OFF, its blocks are fresh but for pin levels and sinks that a fault has turned off; without a switch that names it
its spare slice keeps its assignment and the other channels are as before. (It is taken that the register file is in canonical
form, which every step keeps: KeptHoldsAcrossEveryStep.) (spec/02_jigs_boot_job_switch.md (R56, R64, R66);
spec/15_events_faults_availability.md (R382, R383); spec/03_sensor_timing_lanes.md (R95); spec/07_position_feedback.md (R184);
spec/04_pixel_pipeline.md (R115); spec/12_dram_controller.md (R316)) -/
def Obligations.WarmAndChannelResetsClearTheirBlocks : Prop :=
  ∀ (s : State), RegsWf s →
    (let t := warmClear s
     (t.timeBase = s.timeBase ∧ t.flash = s.flash ∧ t.keyHash = s.keyHash ∧ t.evq = [] ∧ t.switches = [] ∧
       t.runners = List.replicate 5 Runner.idle ∧ t.umd = UmdSt.init ∧ t.port = [] ∧
       t.drv = { DrvSt.init with linkUp := s.drv.linkUp, under := s.drv.under }) ∧
     (∀ a, 0xA000 ≤ a → a < 0xC000 → t.word a = s.word a) ∧
     (∀ (k : Fin 4) (a : Nat), 0x20080 + 0x4000 * k.val ≤ a → a < 0x200A0 + 0x4000 * k.val → t.word a = s.word a) ∧
     (∀ n : Fin 4, t.running n = false ∧ t.runBit n = false ∧ t.rough n = false ∧ t.rd (SNS_STAT_STATE n) = 0 ∧
       (posOf t n).count = 0 ∧ (posOf t n).line = 0 ∧ t.ch n = ((s.ch n).fresh).keepDead (s.ch n) ∧
       t.rb (PIPE_STAT_PVALID n) = false ∧ t.rb (PIPE_SPARE_V n) = s.rb (PIPE_SPARE_V n)) ∧
     (s.boot.phase = .held → exec .warmReset s = .next (finish t)) ∧
     (s.boot.phase = .done ∨ s.boot.phase = .failed → exec .warmReset s = .next (finish (deviceStep (jigRecheck t)))) ∧
     (s.boot.phase = .maintenance →
       exec .warmReset s = .next (finish (bootPhase (jigRecheck t) .maintenance 7))) ∧
     (s.boot.phase ∈ [BootPhase.training, .library, .hostWait, .devList, .channels] →
       exec .warmReset s = .next (finish (bootAgain t)))) ∧
    ∀ n : Fin 4, ∃ t,
      exec (.channelReset n) s =
        .next (finish (if s.boot.phase.restarts then bootDoneCheck (chRestart t n) else setChPhase t n .off)) ∧
      (∃ c, t.ch n = c.fresh.keepDead c ∧ (swIndex s n = none → c = s.ch n)) ∧ t.running n = false ∧ t.runBit n = false ∧ t.rb (GLB_SW_STAT_NOJIG n) = true ∧
      t.rough n = false ∧ t.stopped n = false ∧ chOk t n = false ∧ t.rd (SNS_STAT_STATE n) = 0 ∧
      (∀ i : Fin 200, evStat t (224 + 200 * n.val + i.val) = false) ∧
      (swIndex s n = none →
        (t.rb (SNS_STAT_PRES n) = s.rb (SNS_STAT_PRES n) ∧ t.rb (PIPE_SPARE_V n) = s.rb (PIPE_SPARE_V n) ∧
          t.rd (PIPE_SPARE_FOR n) = s.rd (PIPE_SPARE_FOR n) ∧ t.rd (LMP_SINKFLT_SINK n) = s.rd (LMP_SINKFLT_SINK n)) ∧
        ∀ m : Fin 4, m ≠ n → t.ch m = s.ch m ∧ t.running m = s.running m ∧
          ∀ a, inChan m 0 0x40000 a → t.word a = s.word a)

/-- FUNCTION_LEVEL_RESET: every queue is idle, mastering and MSI-X are off, the queue and MSI-X registers return to reset, other
registers but those of channels (whose FIFOs lose their offers) stay, and EV_PCIE_FLR is raised last. PERST_N_ASSERT does the
same with the link down and held. PERST_N_RELEASE ends the hold. FUNCTION_LEVEL_RESET and PERST_N_ASSERT answer this for every
state. PCIE_LINK_CHANGE while PERST_N is low changes nothing; otherwise the link fields take what came, EV_PCIE_LINK is raised
where they changed, and a lost link is a function-level reset. PCIE_AER_ERROR raises its event. BUS_MASTER_ENABLE_CHANGE sets
mastering, memory space, power state, base addresses, tag modes, request sizes and MSI-X, and what was held back may leave. (It
is taken that the register file is in canonical form, which every step keeps: KeptHoldsAcrossEveryStep.)
(spec/11_host_link_dma.md (R266, R267, R268, R293)) -/
def Obligations.HostLinkResetsAndConfiguration : Prop :=
  ∀ (s : State), RegsWf s →
    (∃ t, exec .functionLevelReset s = .next (finish t) ∧ t.dma.qs = List.replicate 16 DmaQ.idle ∧ t.dma.ctl = [] ∧
      t.dma.cfg = { CfgSpace.init with mps := s.dma.cfg.mps } ∧ t.dma.tlps = 0 ∧ t.dma.flight = [] ∧ t.rb DMA_LINK_BME = false ∧ t.rd DMA_LINK_DSTATE = 0 ∧
      t.evq.getLast? = some (ev EV_PCIE_FLR) ∧ (∀ a, flrKeeps a = false → t.word a = resetWord a) ∧
      SameWords s t (fun a => flrKeeps a = false ∨ a = DMA_LINK_BME.addr ∨ ∃ n : Fin 4, inChan n 0 0x40000 a)) ∧
    (∃ t, exec .perstNAssert s = .next (finish t) ∧ t.dma.perst = true ∧ t.dma.qs = List.replicate 16 DmaQ.idle ∧
      t.dma.cfg = { CfgSpace.init with mps := s.dma.cfg.mps } ∧ t.rb DMA_LINK_BME = false ∧
      t.rb DMA_LINK_UP = false ∧ t.rd DMA_LINK_SPEED = 0 ∧ t.rd DMA_LINK_WIDTH = 0 ∧
      t.evq.getLast? = some (ev EV_PCIE_FLR)) ∧
    (Quiet s → exec .perstNRelease s = .next { s with dma := { s.dma with perst := false } }) ∧
    (∀ (up : Bool) (speed : Fin 7) (width : Fin 17) (flit : Bool),
      (s.dma.perst = true → Quiet s → exec (.pcieLinkChange up speed width flit) s = .next s) ∧
      (s.dma.perst = false →
        ∃ t, t.rb DMA_LINK_UP = up ∧ t.rd DMA_LINK_SPEED = (if up then speed.val else 0) ∧
          t.rd DMA_LINK_WIDTH = (if up then width.val else 0) ∧ t.rb DMA_LINK_FLIT = (up && flit) ∧
          t.rb DMA_LINK_BME = s.rb DMA_LINK_BME ∧
          t.evq = s.evq ++ (if t.word DMA_LINK_UP.addr = s.word DMA_LINK_UP.addr then [] else [ev EV_PCIE_LINK]) ∧
          OnlyWords { s with evq := t.evq } t (· = DMA_LINK_UP.addr) ∧
          exec (.pcieLinkChange up speed width flit) s =
            .next (finish (if s.rb DMA_LINK_UP && !up then flrReset t else t)))) ∧
    exec (.pcieAerError true) s = .next (finish (s.raise (ev EV_PCIE_CORR))) ∧
    exec (.pcieAerError false) s = .next (finish (s.raise (ev EV_PCIE_UNCORR))) ∧
    (∀ w : CfgWrite,
      ∃ t, exec (.busMasterEnableChange w.bme w.mse w.d3hot w.toCfgBars w.toCfgDev w.toCfgMsix) s = .next (finish (msiPending (if canMaster t then logRelease t else t))) ∧
        t.rb DMA_LINK_BME = w.bme ∧ t.rd DMA_LINK_DSTATE = (if w.d3hot then 3 else 0) ∧ t.rb DMA_LINK_UP = s.rb DMA_LINK_UP ∧
        t.dma.cfg.mse = w.mse ∧ t.dma.cfg.bar0 = w.bar0 ∧ t.dma.cfg.bar2 = w.bar2 ∧ t.dma.cfg.tag10 = w.tag10 ∧
        t.dma.cfg.tag14 = w.tag14 ∧ t.dma.cfg.mps = 128 * 2 ^ w.mps.val ∧ t.dma.cfg.mrrs = 128 * 2 ^ w.mrrs.val ∧
        t.dma.cfg.msixEn = w.msixEn ∧ t.dma.cfg.fmask = w.fmask ∧
        t = { s with regs := t.regs, dma := { s.dma with cfg := t.dma.cfg } } ∧
        SameWords s t fun a => a = DMA_LINK_BME.addr ∨ (0x11000 ≤ a ∧ a < 0x12000))

/-- DRIVE_DIE_WRITE_APPLY with the link up takes the oldest forwarded write into the drive die's copy; sinks follow a lamp
register. DIE_LINK_FRAME with a failing CRC raises EV_DIE_LINK_CRC and nothing else; a good one is taken axis by axis, with the
jump check. With the link down none of these and no refresh or report changes anything (the model's choice, log entry 65).
DIE_LINK_TIMEOUT with the link up: the link is down, every bridge and sink is off, EV_DIE_LINK_LOST is raised.
DIE_LINK_REESTABLISH brings it up. DRIVE_UNDERVOLTAGE turns every bridge and sink off, DRIVE_UNDERVOLTAGE_END with the link up
ends that. DRIVE_DIE_STATUS_REFRESH takes reference inputs, duties and their limits, sink voltages and currents, failed checks,
light-bar temperature and ENOUT, and changes registers of the MOT and LMP blocks alone. DRIVE_DIE_REPORT with the die's own
over-temperature raises EV_CLK_THERM; else the oldest report that waits is taken. (It is taken that the register file is in
canonical form, which every step keeps: KeptHoldsAcrossEveryStep.) (spec/01_architecture.md (R16); spec/08_transport_motion.md
(R204); spec/17_electrical_package.md (R410)) -/
def Obligations.DriveDieFollowsItsLink : Prop :=
  ∀ (s : State), RegsWf s →
    (∀ a w rest, s.drv.linkUp = true → s.drv.fwd = (a, w) :: rest →
      (let t := { s with drv := { s.drv with fwd := rest, image := sput resetWord s.drv.image a w } }
       exec .driveDieWriteApply s =
         .next (finish (if 0x80000 ≤ a ∧ 0x10000 ≤ chanOff a ∧ chanOff a < 0x14000 then sinkUpdate t (chanOf a) else t)))) ∧
    (Quiet s → s.drv.linkUp = false ∨ s.drv.fwd = [] → exec .driveDieWriteApply s = .next s) ∧
    (∀ bad : FrameBad,
      (s.drv.linkUp = false → Quiet s → exec (.dieLinkFrame bad) s = .next s) ∧
      (s.drv.linkUp = true → bad.crc = true → exec (.dieLinkFrame bad) s = .next (finish (s.raise (ev EV_DIE_LINK_CRC)))) ∧
      (s.drv.linkUp = true → bad.crc = false →
        ∃ t, exec (.dieLinkFrame bad) s = .next (finish t) ∧
          ∀ n x : Fin 4,
            (let err : Int := ((bad.errs.find? fun e => e.1.val == n.val && e.2.1.val == x.val).map (·.2.2)).getD 0
             let step := sext 32 (toBits 32 (sentPos s n x + err - (axis s n x).dPos))
             (axis t n x).dPos = sentPos s n x + err ∧ (axis t n x).sumOwn = sentPos s n x ∧
             (axis t n x).dSum = (axis s n x).dSum + step ∧
             (axis t n x).jumpOff = ((axis s n x).jumpOff || decide (20 < step.natAbs))))) ∧
    (s.drv.linkUp = true → ∃ t, exec .dieLinkTimeout s = .next (finish t) ∧ t.drv = { s.drv with linkUp := false } ∧
      t.rb CLK_STAT_LINK = false ∧ ev EV_DIE_LINK_LOST ∈ t.evq ∧
      ∀ n x : Fin 4, bridgesOn t n x = false ∧ lampsOff t n = true) ∧
    (s.drv.linkUp = false → Quiet s → exec .dieLinkTimeout s = .next s) ∧
    (∃ t, exec .dieLinkReestablish s = .next (finish t) ∧ t.drv = { s.drv with linkUp := true } ∧ t.rb CLK_STAT_LINK = true) ∧
    (∃ t, exec .driveUndervoltage s = .next (finish t) ∧ t.drv = { s.drv with under := true } ∧
      ∀ n x : Fin 4, bridgesOn t n x = false ∧ lampsOff t n = true) ∧
    (s.drv.linkUp = true → ∃ t, exec .driveUndervoltageEnd s = .next (finish t) ∧ t.drv = { s.drv with under := false }) ∧
    (s.drv.linkUp = false → Quiet s → exec .driveUndervoltageEnd s = .next s) ∧
    (∀ (refs : BitVec 16) (senses : List (Fin 4 × Fin 12 × SinkSense)),
      (s.drv.linkUp = true → ∃ t, exec (.driveDieStatusRefresh refs senses) s = .next (finish t) ∧
        (∀ n x : Fin 4, (axis t n x).refIn = refs.getLsbD (4 * n.val + x.val) ∧
          t.rb (MOTA_STAT_REF n x) = (refs.getLsbD (4 * n.val + x.val) == s.rb (MOTA_CFG_REFPOL n x)) ∧
          t.rd (MOTA_DUTY_DA n x) = toBits 16 (axis s n x).dA ∧ t.rd (MOTA_DUTY_DB n x) = toBits 16 (axis s n x).dB ∧
          t.rb (MOTA_STAT_SAT n x) = (axis s n x).dSat) ∧
        (∀ (n : Fin 4) (i : Fin 12),
          t.rd (LMP_SINK_V n i) = (sinkOf s n i).v % 2 ^ (LMP_SINK_V n i).width ∧
          t.rd (LMP_SINK_I n i) = (sinkOf s n i).i % 2 ^ (LMP_SINK_I n i).width ∧
          (∀ before sn, senses = before ++ [(n, i, sn)] → (sinkOf t n i).sense = sn)) ∧
        (∀ n : Fin 4, t.rd (LMP_DER_TEMP n) = (s.ch n).lmp.theta.toNat ∧
          t.rb (MOT_STAT_ENOUT n) = (List.range 4).any (bridgesOn s n)) ∧
        t.evq = s.evq ∧ t.drv = s.drv ∧
        SameWords s t fun a => ∃ n : Fin 4, inChan n 0x10000 0x14000 a ∨ inChan n 0x18000 0x1C000 a) ∧
      (s.drv.linkUp = false → Quiet s → exec (.driveDieStatusRefresh refs senses) s = .next s)) ∧
    exec (.driveDieReport true) s = .next (finish (s.raise (ev EV_CLK_THERM))) ∧
    (Quiet s → s.drv.linkUp = false ∨ s.drv.reports = [] → exec (.driveDieReport false) s = .next s) ∧
    (∀ r rest, s.drv.linkUp = true → s.drv.reports = r :: rest →
      (let t := { s with drv := { s.drv with reports := rest } }
       exec (.driveDieReport false) s = .next (finish (match r with
         | .limited n x => t.raise (axisEv (EV_MOT_SAT n) x)
         | .thermal => t.raise (ev EV_CLK_THERM)
         | .stepJump n x => motWatch (axisFault (axisDrop t n x) n x true) n
         | .lampShort n i => shortReport t n i
         | .lampOpen n i => openReport t n i
         | .sinkFault n i => sinkReport t n i))))

/-- TIME_BASE_TICK of k control clocks in a state between commands with no write waiting at the register port: 4 k ns pass; the
time base advances by 4 k on the manager, on a worker whose time is not set, and where nothing is left to correct; elsewhere it
advances by 4 k less or more 4 j, where j is at most one per 1 µs and the correction left shrinks by 4 j without changing its
sign; and nothing but the time, the time base, the correction and the phase of test generators that run changes. With writes
waiting, the first of them is applied in the first of the clocks, unless the port has already applied one in it, and the rest in
those that follow. (spec/01_architecture.md (R23, R33); spec/14_multi_device_umade.md (R352); spec/07_position_feedback.md
(R181)) -/
def Obligations.TimeBaseCountsControlClocks : Prop :=
  ∀ (s : State) (k : Nat), Quiet s →
    (s.port = [] → ∃ t j, exec (.timeBaseTick k) s = .next t ∧ t.now = s.now + 4 * k ∧
      j ≤ k ∧ 250 * (j - 1) ≤ k ∧ 4 * j ≤ s.umd.slew.natAbs ∧
      (isManager s = true ∨ s.rb UMD_STAT_TIMEOK = false ∨ s.umd.slew.natAbs < 4 → j = 0) ∧
      (0 < s.umd.slew → t.timeBase = s.timeBase + BitVec.ofNat 64 (4 * (k - j)) ∧ t.umd.slew = s.umd.slew - 4 * j) ∧
      (s.umd.slew ≤ 0 → t.timeBase = s.timeBase + BitVec.ofNat 64 (4 * (k + j)) ∧ t.umd.slew = s.umd.slew + 4 * j) ∧
      t = { s with now := t.now, timeBase := t.timeBase, chans := t.chans,
                   umd := { s.umd with slew := t.umd.slew, slewAt := t.umd.slewAt } } ∧
      ∀ n : Fin 4, t.ch n = { s.ch n with pos := { posOf s n with gen := (posOf t n).gen } } ∧
        (s.rb (POS_GEN_RUN n) = false → t.ch n = s.ch n) ∧
        (s.rb (POS_GEN_RUN n) = true →
          2 ^ 31 * (posOf t n).gen.due + (posOf t n).gen.acc =
            2 ^ 31 * (posOf s n).gen.due + (posOf s n).gen.acc + 6 * k * s.rd (POS_GENRATE_RATE n))) ∧
    (∀ q rest, s.port = q :: rest → 0 < k →
      (portUsed s = false → exec (.timeBaseTick k) s =
        .next (finish (portClocks (rest.length + 1)
          (clockStep (finish (portTake { s with port := rest, portAt := s.clock + 1 } q)) 1) (k - 1)))) ∧
      (portUsed s = true → exec (.timeBaseTick k) s = .next (finish (portClocks (rest.length + 1) (clockStep s 1) (k - 1)))))

/-- REGISTER_WRITE, with memory requests reaching BAR 0: a whole DW is applied at once by a port that has applied no write in
the control clock and where nothing waits but what lists sent in it; else it waits behind all but the later part of what waits
there, which begins with a list's write of the same control clock; with byte enables missing it is discarded, counted in BADACC
and reported; what is poisoned or malformed, or a read across a 64-byte block, is counted in POISONRX; a read returns its DWs in
one completion, each as the register then reads. Otherwise the request has no effect (the model's choice, log entry 56). The
write that the port takes: at an address with no register it changes nothing; an event table entry takes the bits that its mask
opens; a register with no field open to the write and none cleared by ones keeps its word; a field of a channel's RWL register
is not open while that channel runs; GLB_CHCTL sets and clears its RUN bits in ascending order. (spec/01_architecture.md (R33);
spec/11_host_link_dma.md (R264, R267); spec/16_register_map.md (R385, R402, R403, R404); spec/15_events_faults_availability.md
(R361)) -/
def Obligations.HostWritesReachOnlyOpenBits : Prop :=
  ∀ (s : State) (dw : BitVec 20) (w : Word),
    (let a := 4 * dw.toNat
     (barOpen s = false → Quiet s → ∀ how, exec (.registerWrite dw w how) s = .next s) ∧
     (barOpen s = true →
       (portUsed s = false → (∀ q ∈ s.port.head?, q.clock = s.clock ∧ 0 < q.src) →
         exec (.registerWrite dw w .whole) s = .next (finish (hostWrite { s with portAt := s.clock + 1 } a w))) ∧
       (Quiet s → portUsed s = true ∨ (∃ q ∈ s.port.head?, ¬ (q.clock = s.clock ∧ 0 < q.src)) → ∃ t before after, exec (.registerWrite dw w .whole) s = .next t ∧ t = { s with port := t.port } ∧
         s.port = before ++ after ∧
         t.port = before ++ { src := 0, clock := s.clock, addr := a, value := w, mask := 0xFFFFFFFF, words := 0 } :: after ∧
         (∀ q ∈ before, ¬ (q.clock = s.clock ∧ 0 < q.src)) ∧ (∀ q ∈ after.head?, q.clock = s.clock ∧ 0 < q.src)) ∧
       exec (.registerWrite dw w .part) s = .next (finish ((s.bump DMA_HOSTERR_BADACC).raise (ev EV_HOST_BADACC))) ∧
       (Quiet s → exec (.registerWrite dw w .bad) s = .next (s.bump DMA_HOSTERR_POISONRX)) ∧
       (∀ more : Fin 16, Quiet s →
         (64 < a % 64 + 4 * (more.val + 1) → exec (.registerWrite dw w (.read more)) s = .next (s.bump DMA_HOSTERR_POISONRX)) ∧
         (a % 64 + 4 * (more.val + 1) ≤ 64 → ∃ t bytes, exec (.registerWrite dw w (.read more)) s = .next t ∧
           t = { s with frozen := t.frozen, outbox := s.outbox ++ [.completion bytes false] } ∧
           bytes.length = 4 * (more.val + 1) ∧
           (s.frozen = [] → bytes = (List.range (more.val + 1)).flatMap fun i => leBytes 4 (liveWord s (a + 4 * i)).toNat)))) ∧
     (fieldsAt a = [] → isEvTable a = false → ¬ (0x18000 ≤ a ∧ a < 0x18400) → ¬ (0x200000 ≤ a ∧ a < 0x400000) →
       hostWrite s a w = s) ∧
     (isEvTable a = true → hostWrite s a w = s.setWord a ((s.word a &&& ~~~ evTableMask a) ||| (w &&& evTableMask a))) ∧
     (isEvTable a = false → (∀ f ∈ fieldsAt a, openBits s f = 0 ∧ f.acc ≠ .w1c) → portWord s a w = s.word a) ∧
     (∀ f, f.acc = .rwl → f.addr ≠ UMD_CFG_TICKSRC.addr → s.running (chanOf f.addr) = true → openBits s f = 0) ∧
     (a = GLB_CHCTL_RUN.addr → hostWrite s a w = iterate 4 s fun s n =>
       if w.getLsbD n && !s.runBit n then runSet s n else if !w.getLsbD n && s.runBit n then runClear s n else s))

/-- BOOT_RELEASE before boot: the straps and fuses are shown, the link is up, training begins. DRAM_TRAINING_DONE of a
controller still training: it is in service at its bin, or failed with EV_DRC_TRAIN_FAIL, and the last one ends the step.
LIBRARY_STREAM_DONE with a valid slot: each of its jigs is in the library region of every controller in service, its valid bit
set where it passes, slot, generation and boot jig are shown, and the device step follows; with an invalid one the second slot
with FALLBACK, or EV_LIB_NONE and phase 6. MARCH_TEST_DONE: the fault bits show its findings, and without any the channel's
motion content follows. BOOT_HOMING_DONE with every slide homed: the rest of the channel follows; a slide that is not homed
fails the channel. LIBCTL_BOOT in host boot with a valid jig begins the device step with it. Out of its phase each changes
nothing. (It is taken that the register file and the memories are in canonical form, which every step keeps:
KeptHoldsAcrossEveryStep.) (spec/02_jigs_boot_job_switch.md (R37, R41, R54, R55); spec/12_dram_controller.md (R296);
spec/15_events_faults_availability.md (R373)) -/
def Obligations.BootRunsStepByStep : Prop :=
  ∀ (s : State), RegsWf s →
    (∀ (mode : Fin 4) (role : Bool),
      (s.boot.phase = .held → ∃ t, exec (.bootRelease mode role) s = .next (finish t) ∧ t.boot.phase = .training ∧
        t.rd GLB_BOOTSTAT_PHASE = 1 ∧ t.rd GLB_BOOTSTAT_MODE = mode ∧ t.rb GLB_BOOTSTAT_ROLE = role ∧
        t.rb GLB_BOOTSTAT_FUSE = !s.keyHash.isEmpty ∧ t.rb UMD_STAT_TIMEOK = role ∧ t.drv.linkUp = true ∧
        t.rb CLK_STAT_PIXLOCK = true ∧ t.rb CLK_STAT_SYSCLK = true ∧ t.boot.trained = 0) ∧
      (Quiet s → s.boot.phase ≠ .held → exec (.bootRelease mode role) s = .next s)) ∧
    (∀ (k : Fin 4) (bin : Fin 6) (parts : DramParts) (rep : Bool),
      (Quiet s → s.boot.phase ≠ .training ∨ bit s.boot.trained k = true →
        exec (.dramTrainingDone k bin parts rep) s = .next s) ∧
      (s.boot.phase = .training → bit s.boot.trained k = false → ∃ t,
        exec (.dramTrainingDone k bin parts rep) s = .next (finish (if t.boot.trained = 15 then trainingOver t else t)) ∧
        t.boot.trained = withBit s.boot.trained k true ∧ t.boot.phase = .training ∧ t.rd (DRC_STAT_BIN k) = bin.val ∧
        (bin.val = 0 → t.rd (DRC_STAT_STATE k) = 3 ∧ dramOk t k = dramOk s k ∧
          t.evq.getLast? = some ((ev (EV_DRC_TRAIN_FAIL k)).at_ 8 k)) ∧
        (bin.val ≠ 0 → t.rd (DRC_STAT_STATE k) = 2 ∧ dramOk t k = true ∧ t.rb (DRC_STAT_RANK2 k) = parts.rank2 ∧
          t.rd (DRC_STAT_CAPG k) = drcCapacity t k))) ∧
    (Quiet s → s.boot.phase ≠ .library → exec .libraryStreamDone s = .next s) ∧
    (∀ slot rest i size, s.boot.phase = .library → s.boot.slots = slot :: rest → flashUsed s = some (i, size) →
      let img := slotImage s slot
      (libOk s.keyHash img (slotBytes size) = true → ∃ t, exec .libraryStreamDone s = .next (finish (deviceStep t)) ∧
        t.rd GLB_LIBGEN_GEN = libGen img % 2 ^ 32 ∧ t.rd GLB_BOOTSTAT_SLOT = slot % 2 ^ GLB_BOOTSTAT_SLOT.width ∧
        t.rd GLB_BOOTSTAT_BOOTJIG = libBootJig img ∧
        (∀ j : Fin 64, jigBit t j = (jigBit s j || libJigCheck s.keyHash img j == some 0)) ∧
        (MemWf s → ∀ (j : Fin 64) (p : List Byte × Nat), libJig img j = some p → ∀ k : Fin 4, dramOk s k = true →
          readBytes (t.dram k) (j.val * 0x100000) (p.1.take 0x100000).length = p.1.take 0x100000)) ∧
      (libOk s.keyHash img (slotBytes size) = false → rest ≠ [] → ∃ t, exec .libraryStreamDone s = .next (finish (streamBegin t)) ∧
        t.boot.slots = rest ∧ t.boot.phase = .library ∧ t.rb GLB_BOOTSTAT_FALLBACK = true ∧ t.evq = s.evq ++ [ev EV_LIB_FALLBACK] ∧
        SameWords s t (· = GLB_BOOTSTAT_FALLBACK.addr)) ∧
      (libOk s.keyHash img (slotBytes size) = false → rest = [] → ∃ t, exec .libraryStreamDone s = .next (finish t) ∧
        t.boot.phase = .failed ∧ t.rd GLB_BOOTSTAT_PHASE = 6 ∧ t.evq = s.evq ++ [ev EV_LIB_NONE])) ∧
    (∀ (n : Fin 4) (f : MarchFault),
      (Quiet s → (chBoot s n).phase ≠ .march → exec (.marchTestDone n f) s = .next s) ∧
      ((chBoot s n).phase = .march → ∃ t, exec (.marchTestDone n f) s = .next (finish (bootHome t n)) ∧
        t.rb (PIPE_STAT_SHFLT n) = f.shading ∧ t.rb (PIPE_STAT_RWFLT n) = f.retention ∧ t.rb (PIPE_STAT_ALFLT n) = f.align ∧
        t.rough n = (s.rough n || f.shading || f.retention || f.align || f.fifo) ∧
        (f.fifo = true → (ev (EV_FIFO_SRAM_FLT n)).at_ 3 3 ∈ t.evq))) ∧
    (∀ n : Fin 4,
      (Quiet s → (∀ as, (chBoot s n).phase ≠ .homing as) → exec (.bootHomingDone n) s = .next s) ∧
      (∀ as, (chBoot s n).phase = .homing as → (∀ a ∈ as, (axis s n a).moving = false) →
        ((∀ a ∈ as, s.rb (MOTA_STAT_HOMED n a) = true) → exec (.bootHomingDone n) s = .next (finish (bootRest s n))) ∧
        (∀ a, as = [a] → s.rb (MOTA_STAT_HOMED n a) = false →
          exec (.bootHomingDone n) s = .next (finish (chFail (s.raise (axisEv EV_HOME_FAIL a)) n))))) ∧
    (∀ j : Fin 64,
      let u := s.wr GLB_LIBCTL_JIG j
      (s.boot.phase = .hostWait → jigBit s j = true → exec (.libctlBoot j) s = .next (finish (deviceStep
        ((drcTakePart u (((secsOf (jigFor u none j) 0x0B 0xFF).head?.filter fun c =>
            crc32 (secBytes (jigFor u none j) c) == c.crc).map (secBytes (jigFor u none j))) false).wr GLB_BOOTSTAT_BOOTJIG j)))) ∧
      (Quiet s → s.boot.phase ≠ .hostWait ∨ jigBit s j = false → exec (.libctlBoot j) s = .next u))

/-- BAR2_READ, with memory requests reaching BAR 2: the bytes of the lowest controller in service leave in a completion, where
its copy gives them; ones before training has ended. BAR2_WRITE within one slot: discarded before training; refused with
EV_LIB_BUSY in a maintenance window and on a slot with an active or pending jig; else the jig's valid bit clears and each
enabled byte is in every copy in service, every other byte as before. With BAR 2 closed neither has an effect (the model's
choice, log entry 56). JIG_VERIFY: the jig is taken with BUSY, but not while one is checked. JIG_VERIFY_DONE: BUSY clears; the
jig's valid bit says whether it passes R46, and EV_JIG_BAD with the failing check is raised where it does not; with blank fuses
the signature's presence is noted. (It is taken that the register file and the memories are in canonical form, which every step
keeps: KeptHoldsAcrossEveryStep.) (spec/02_jigs_boot_job_switch.md (R46, R47, R48, R49); spec/12_dram_controller.md (R317)) -/
def Obligations.LibraryIsReadWrittenAndVerified : Prop :=
  ∀ (s : State), RegsWf s → MemWf s → Quiet s →
    (∀ (a : BitVec 26) (len : Nat),
      (barOpen s = false → exec (.bar2Read a len) s = .next s) ∧
      (barOpen s = true →
        (dramTrained s = false ∨ libCtl s = none →
          exec (.bar2Read a len) s = .next (s.emit (.completion (List.replicate len 0xFF) false))) ∧
        (∀ k, dramTrained s = true → libCtl s = some k →
          ((drcOf s k).dead = [] → exec (.bar2Read a len) s = .next (s.emit (.completion (readBytes (s.dram k) a.toNat len) false))) ∧
          exec (.bar2Read a len) s = .next (s.emit (.completion
            ((List.range len).map fun i => sget zeroByte (s.dram ((libSource s (a.toNat + i)).getD k)) (a.toNat + i))
            ((List.range len).any fun i => (libSource s (a.toNat + i)).isNone)))))) ∧
    (∀ (a : BitVec 26) (bs : List (Byte × Bool)), barOpen s = false → exec (.bar2Write a bs) s = .next s) ∧
    (∀ (a : BitVec 26) (bs : List (Byte × Bool)) (j : Nat), barOpen s = true → j < 64 → bs ≠ [] → (∀ i < bs.length, (a.toNat + i) / 0x100000 = j) →
      (dramTrained s = false → exec (.bar2Write a bs) s = .next s) ∧
      (dramTrained s = true → (∃ k : Fin 4, inWindow s k = true) ∨ libLocked s j = true →
        exec (.bar2Write a bs) s = .next (finish (s.raise (ev EV_LIB_BUSY)))) ∧
      (dramTrained s = true → (∀ k : Fin 4, inWindow s k = false) → libLocked s j = false →
        ∃ t, exec (.bar2Write a bs) s = .next t ∧ jigBit t j = false ∧ t = { s with regs := t.regs, drams := t.drams, drc := t.drc } ∧
          SameWords s t (fun x => x = GLB_LIBVALID_LO_VALID.addr ∨ x = GLB_LIBVALID_HI_VALID.addr) ∧
          (∀ i < 64, i ≠ j → jigBit t i = jigBit s i) ∧
          (∀ (k : Fin 4) (x : Nat), (∀ i, i < bs.length → x = a.toNat + i → dramOk s k = true → (bs.getD i (0, false)).2 = false) →
            sget zeroByte (t.dram k) x = sget zeroByte (s.dram k) x) ∧
          (∀ (k : Fin 4) (i : Nat), dramOk s k = true → i < bs.length → (bs.getD i (0, false)).2 = true →
            sget zeroByte (t.dram k) (a.toNat + i) = (bs.getD i (0, false)).1))) ∧
    (∀ j : Fin 64,
      let u := s.wr GLB_LIBCTL_JIG j
      (s.rb GLB_LIBCTL_BUSY = true → exec (.jigVerify j) s = .next u) ∧
      (s.rb GLB_LIBCTL_BUSY = false →
        exec (.jigVerify j) s = .next { u.wr GLB_LIBCTL_BUSY 1 with boot := { s.boot with verify := some j.val } })) ∧
    (s.boot.verify = none → exec .jigVerifyDone s = .next s) ∧
    (∀ j, s.boot.verify = some j →
      let w := s.wr GLB_LIBCTL_BUSY 0
      let u := { w with boot := { s.boot with
        verify := none, signed := if s.keyHash.isEmpty then signPresent (jigFor w none j) else s.boot.signed } }
      let c := jigCheck s.keyHash (jigFor u none j) j none
      (c = 0 → exec .jigVerifyDone s = .next (setJigBit u j true)) ∧
      (c ≠ 0 → exec .jigVerifyDone s = .next (finish ((setJigBit u j false).raise ((ev EV_JIG_BAD).code_ c)))))

/-- LIB_UPDATE_START while one is under way changes nothing; a failed fetch through its scatter list fails with cause 4, no
flash with 5, a header that is refused with its cause, and an accepted one leaves the state at 2 with the slot's first block
erased. LIB_UPDATE_STEP_DONE: a flash error fails with cause 5, a failed fetch with 4; else state 2 goes to 3 with the slot
erased, 3 to 4 with the image programmed, 4 to 5 where the slot verifies and else fails with its cause, 5 to 6 with the header
programmed and EV_UPD_DONE. LIB_UPDATE_ABORT fails an update under way with cause 8. Every failure leaves state 7 and no header
in the slot, and raises EV_UPD_FAIL. No phase touches registers beside the update's status. (It is taken that the register file
is in canonical form, which every step keeps: KeptHoldsAcrossEveryStep.) (spec/02_jigs_boot_job_switch.md (R41, R65, R66)) -/
def Obligations.LibraryUpdateRunsItsPhases : Prop :=
  ∀ (s : State), RegsWf s →
    let st := s.rd GLB_UPDSTAT_STATE
    let fails (c : Instr) (k : Nat) : Prop := ∃ t, exec c s = .next (finish t) ∧ t.rd GLB_UPDSTAT_STATE = 7 ∧
      t.rd GLB_UPDSTAT_CAUSE = k ∧
      t.flash = (match flashUsed s with
        | some (i, size) => (flashErase s i (slotBase size (updSlot s)) 0x10000).flash
        | none => s.flash) ∧ t.evq = s.evq ++ [(ev EV_UPD_FAIL).code_ k] ∧
      SameWords s t (· = GLB_UPDSTAT_STATE.addr)
    let goes (c : Instr) (st' : Nat) (flash : List (List (Nat × Byte))) (evs : List Raise) : Prop := ∃ t,
      exec c s = .next (finish t) ∧ t.rd GLB_UPDSTAT_STATE = st' ∧ t.rd GLB_UPDSTAT_PROG = 0 ∧ t.flash = flash ∧
      t.evq = s.evq ++ evs ∧ SameWords s t (· = GLB_UPDSTAT_STATE.addr)
    (∀ mem, Quiet s → updBusy s = true → exec (.libUpdateStart mem) s = .next s) ∧
    (∀ mem, updBusy s = false →
      (updFetch mem (updList s) 0 1088 = none → fails (.libUpdateStart mem) 4) ∧
      (∀ h, updFetch mem (updList s) 0 1088 = some h →
        (flashUsed s = none → fails (.libUpdateStart mem) 5) ∧
        ∀ i size, flashUsed s = some (i, size) →
          let c := updHeaderCause s h (s.rd GLB_UPDLEN_LEN) (slotBytes size)
          (c ≠ 0 → fails (.libUpdateStart mem) c) ∧
          (c = 0 → goes (.libUpdateStart mem) 2 (flashErase s i (slotBase size (updSlot s)) 0x10000).flash []))) ∧
    (updBusy s = true → fails .libUpdateAbort 8) ∧
    (Quiet s → updBusy s = false → exec .libUpdateAbort s = .next s) ∧
    (∀ r, flashUsed s = none → updBusy s = true → fails (.libUpdateStepDone r) 5) ∧
    (∀ r, Quiet s → updBusy s = false → exec (.libUpdateStepDone r) s = .next s) ∧
    (∀ i size (r : UpdPhase), flashUsed s = some (i, size) →
      (r.flash = false → st = 2 ∨ st = 4 ∨ st = 5 → fails (.libUpdateStepDone r) 5) ∧
      (r.flash = true → st = 2 →
        goes (.libUpdateStepDone r) 3 (flashErase s i s.upd.addr (alignUp s.upd.len 0x10000)).flash []) ∧
      (st = 3 → updFetch r.fetched s.upd.list 1088 (s.upd.len - 1088) = none → fails (.libUpdateStepDone r) 4) ∧
      (∀ rest, st = 3 → updFetch r.fetched s.upd.list 1088 (s.upd.len - 1088) = some rest →
        (r.flash = false → fails (.libUpdateStepDone r) 5) ∧
        (r.flash = true → goes (.libUpdateStepDone r) 4
          (flashProgram s i (s.upd.addr + 64) ((s.upd.image ++ rest).drop 64)).flash [])) ∧
      (r.flash = true → st = 4 →
        let img := s.upd.image.take 64 ++ flashBytes (s.flash.getD i []) (s.upd.addr + 64) (libLen s.upd.image - 64)
        let c := updVerifyCause s img
        (c ≠ 0 → fails (.libUpdateStepDone r) c) ∧ (c = 0 → goes (.libUpdateStepDone r) 5 s.flash [])) ∧
      (r.flash = true → st = 5 → goes (.libUpdateStepDone r) 6 (flashProgram s i s.upd.addr (s.upd.image.take 64)).flash
        [ev EV_UPD_DONE]))

/-- SWITCH_REQUEST, and JOB_STB with EN, on a device that is no manager of a Umade system: refused, REASON shows why on each
channel of the mask, STATE 6 where none is pending, EV_JOB_REFUSED is raised and no request is added; accepted, every channel of
the mask is in STATE 1 with the jig in PEND and the line in TGT, and the request waits last. On a manager it is a system
request. JOB_STB without EN changes nothing. SWITCH_CANCEL of one channel: its uncommitted request is dropped, with STATE 7,
REASON 11 and the line of the last switch in TGT on all its channels and EV_JOB_CANCEL; with none only the mask is taken; with a
system switch not committed that fails first. STAGING_DONE: a failing library read cancels with reason 8 and invalidates the
jig, refused content cancels with reason 9, else the channel is armed with STATE 2; without a pending request it changes
nothing. (It is taken that the register file is in canonical form, which every step keeps: KeptHoldsAcrossEveryStep.)
(spec/02_jigs_boot_job_switch.md (R58, R59, R60, R64); spec/14_multi_device_umade.md (R354)) -/
def Obligations.SwitchesAreRequestedStagedAndCancelled : Prop :=
  ∀ (s : State), RegsWf s →
    (∀ (jig : Fin 64) (mask : BitVec 4) (next : Bool) (c : Instr) (u : State) (src m : Nat) (l : Option Nat),
      (c = .switchRequest jig mask next ∧ u = ((s.wr GLB_SWREQ_JIG jig).wr GLB_SWREQ_MASK mask.toNat).wr GLB_SWREQ_NEXT (b2n next) ∧
          src = 0 ∧ m = mask.toNat ∧ l = (if next then none else some (s.rd64 GLB_SWLINE_LO_LINE GLB_SWLINE_HI_LINE))) ∨
        (s.rb GLB_PINSW_EN = true ∧ c = .jobStb jig ∧ u = s ∧ src = 1 ∧ m = s.rd GLB_PINSW_MASK ∧ l = none) →
      let why := swReason u src jig m l
      ((umdOn u && isManager u) = true → exec c s = .next (finish (sysRequest u jig l))) ∧
      ((umdOn u && isManager u) = false → ∃ t, exec c s = .next (finish t) ∧
        (why ≠ 0 → t.switches = s.switches ∧ t.evq = s.evq ++ [(ev EV_JOB_REFUSED).code_ why] ∧
          ∀ n : Fin 4, bit m n = true → t.rd (GLB_SW_STAT_REASON n) = why ∧
            (s.switching n = true → t.rd (GLB_SW_STAT_STATE n) = s.rd (GLB_SW_STAT_STATE n)) ∧
            (s.switching n = false → t.rd (GLB_SW_STAT_STATE n) = 6 ∧ t.rd (GLB_SW_STAT_SRC n) = src)) ∧
        (why = 0 → ∃ line, t.evq = s.evq ∧ (∀ x, l = some x → line = x) ∧
          (l = none → ∀ a, swAhead u m = some a → line = a % 2 ^ 48) ∧
          t.switches = s.switches ++ [(⟨src, jig, m % 16, m % 16, line, 0, true, false, [], false,
            (List.range 4).map fun n => s.rd64 (GLB_SW_TGT_LO_LINE n) (GLB_SW_TGT_HI_LINE n)⟩ : SwReq)] ∧
          ∀ n : Fin 4, bit m n = true → t.rd (GLB_SW_STAT_STATE n) = 1 ∧ t.rd (GLB_SW_STAT_REASON n) = 0 ∧
            t.rd (GLB_SW_STAT_PEND n) = jig ∧ t.rd64 (GLB_SW_TGT_LO_LINE n) (GLB_SW_TGT_HI_LINE n) = line))) ∧
    (∀ jig, Quiet s → s.rb GLB_PINSW_EN = false → exec (.jobStb jig) s = .next s) ∧
    (∀ n : Fin 4, s.umd.sys = none →
      (swIndex s n = none → Quiet s →
        exec (.switchCancel (BitVec.ofNat 4 (2 ^ n.val))) s = .next (s.wr GLB_SWREQ_MASK (2 ^ n.val))) ∧
      (∀ i r, swIndex s n = some i → s.switches[i]? = some r → r.committed = false →
        ∃ t, exec (.switchCancel (BitVec.ofNat 4 (2 ^ n.val))) s = .next (finish t) ∧ t.switches = s.switches.eraseIdx i ∧
          t.evq = s.evq ++ [(ev EV_JOB_CANCEL).code_ 11] ∧ ∀ k : Fin 4, bit r.mask k = true →
            t.rd (GLB_SW_STAT_STATE k) = 7 ∧ t.rd (GLB_SW_STAT_REASON k) = 11 ∧ (r.tgts.getD k 0 < 2 ^ 48 →
              t.rd64 (GLB_SW_TGT_LO_LINE k) (GLB_SW_TGT_HI_LINE k) = r.tgts.getD k 0))) ∧
    (∀ (mask : BitVec 4) q, s.umd.sys = some q →
      (let u := s.wr GLB_SWREQ_MASK mask.toNat
       exec (.switchCancel mask) s = .next (finish (swCancel (if q.committed then u else sysFail u 4 11 0) mask.toNat 11)))) ∧
    (∀ (n : Fin 4) (readFail : Bool),
      (Quiet s → swIndex s n = none → exec (.stagingDone n readFail) s = .next s) ∧
      (∀ i r, swIndex s n = some i → s.switches[i]? = some r →
        (Quiet s → r.committed = true ∨ bit r.armed n = true → exec (.stagingDone n readFail) s = .next s) ∧
        (r.committed = false → bit r.armed n = false →
          (readFail = true → ∃ t, exec (.stagingDone n readFail) s = .next (finish t) ∧
            (r.jig < 64 → jigBit t r.jig = false) ∧
            t.switches = s.switches.eraseIdx i ∧ t.rd (GLB_SW_STAT_STATE n) = 7 ∧ t.rd (GLB_SW_STAT_REASON n) = 8) ∧
          (readFail = false → (stageCheck s n (jigFor s (some n.val) r.jig)).1 = false →
            ∃ t, exec (.stagingDone n readFail) s = .next (finish t) ∧ t.switches = s.switches.eraseIdx i ∧
              t.rd (GLB_SW_STAT_STATE n) = 7 ∧ t.rd (GLB_SW_STAT_REASON n) = 9) ∧
          (readFail = false → (stageCheck s n (jigFor s (some n.val) r.jig)).1 = true →
            ∃ t ps, exec (.stagingDone n readFail) s = .next (finish (swArmed t i)) ∧ t.rd (GLB_SW_STAT_STATE n) = 2 ∧
              t.switches[i]? = some { r with armed := withBit r.armed n true, profs := ps }))))

/-- RUN_SET of a clear RUN bit: where the channel has no jig, has not reached idle, its controller is out of service, it is
stopped, or the device is safe, EV_RUN_REFUSED is raised with the first such code and the channel, and nothing else changes;
otherwise, in rough-cut mode and with the bar not READY too, RUN is set, the channel runs, its alignment slots are invalid and
its count of triggers is 0. RUN_SET of a set bit changes nothing. RUN_CLEAR of a set bit: RUN is clear, padding of the stop is
due, and running ends at once where no line is open; of a clear bit nothing changes. RUNNING_END with RUN set, the channel not
running, or a line open changes nothing; otherwise running ends. (It is taken that the register file is in canonical form, which
every step keeps: KeptHoldsAcrossEveryStep.) (spec/02_jigs_boot_job_switch.md (R68, R69); spec/16_register_map.md (R402);
spec/05_resampling_edges_packets.md (R127); spec/04_pixel_pipeline.md (R113)) -/
def Obligations.RunBitsAreTakenOrRefused : Prop :=
  ∀ (s : State) (n : Fin 4), RegsWf s →
    (let code := if s.rb (GLB_SW_STAT_NOJIG n) then 1 else if !chOk s n then 2 else if !dramOk s n then 3
       else if s.stopped n then 4 else if s.safe then 5 else 0
     s.runBit n = false →
      (code ≠ 0 → exec (.runSet n) s = .next (finish (s.raise (((ev EV_RUN_REFUSED).code_ code).detail_ n)))) ∧
      (code = 0 → ∃ t, exec (.runSet n) s = .next (finish t) ∧ t.runBit n = true ∧ t.running n = true ∧
        (t.ch n).pipe.validFrom = (s.ch n).pipe.slotCtr ∧ (t.ch n).fifo.runTrigs = 0 ∧ (t.ch n).fifo.stopPad = false ∧
        (t.ch n).rsmp.yInit = true ∧ ∀ m : Fin 4, m ≠ n → t.running m = s.running m ∧ t.ch m = s.ch m)) ∧
    (Quiet s → s.runBit n = true → exec (.runSet n) s = .next s) ∧
    (Quiet s → s.runBit n = false → exec (.runClear n) s = .next s) ∧
    (s.runBit n = true → ∃ t, exec (.runClear n) s = .next (finish (runEnd t n)) ∧ t.runBit n = false ∧
      (t.ch n).fifo.stopPad = true ∧ t.running n = s.running n) ∧
    (Quiet s → s.runBit n = true ∨ s.running n = false ∨ linesOpen s n = true → exec (.runningEnd n) s = .next s) ∧
    (s.runBit n = false → s.running n = true → linesOpen s n = false →
      ∃ t, exec (.runningEnd n) s = .next (finish (showLamp (spiIdleNext (swIdle t n) n) n)) ∧ t.running n = false ∧
        ((s.ch n).late = none → t.runBit n = false ∧ ∀ m : Fin 4, m ≠ n → t.running m = s.running m ∧ t.ch m = s.ch m))

/-- TAIL_TO_HEAD_MOVE: the oldest complete packet of the tail goes to the head where nothing is spilled and the head has room;
else nothing. SPILL_WRITE_DONE: where it may not go there and the rings have room, it is spilled at the rings' write positions,
its bytes and index entry in the DRAM, the first one with EV_FIFO_SPILL; else nothing. SPILL_READ_DONE without errors: the
oldest spilled packet is in the head with the bytes read back; a bad payload counts DPOISON and is reported. FIFO_READ_REQUEST
with a complete head packet in front and no request open: the next bytes are offered, at most 4096, and the last request is
marked; a header or trailer word that fails before the first request puts a marker in the packet's place; a line packet still
being written starts as cut-through once enough of it is there, with its payload first; with a request open only padding is
settled. FIFO_FLUSH queues a padding packet behind. STOP_PADDING on a stopped, emptied channel queues its padding, or none on a
boundary; else nothing. (It is taken that the register file and the memories are in canonical form, which every step keeps:
KeptHoldsAcrossEveryStep.) (spec/09_pacing_fifo_seams.md (R211, R212, R213, R214, R215, R216, R217)) -/
def Obligations.PacketsMoveThroughTheFifo : Prop :=
  ∀ (s : State) (n : Fin 4), RegsWf s → MemWf s →
    let f := fifoOf s n
    (Quiet s → oldestTail f = none → exec (.tailToHeadMove n) s = .next s ∧ exec (.spillWriteDone n) s = .next s) ∧
    (∀ p, oldestTail f = some p →
      (middleEmpty f = true → headRoom f p.len = true →
        (Quiet s → exec (.spillWriteDone n) s = .next s) ∧
        exec (.tailToHeadMove n) s = .next (finish (fifoWatch (s.modFifo n fun f =>
          { f with pkts := modFirst f.pkts inTail fun p => { p with place := .head } }) n))) ∧
      ((middleEmpty f && headRoom f p.len) = false →
        (Quiet s → exec (.tailToHeadMove n) s = .next s) ∧
        (Quiet s → dataFree s n < p.len ∨ indexFree s n < 1 → exec (.spillWriteDone n) s = .next s) ∧
        (p.len ≤ dataFree s n → 1 ≤ indexFree s n →
          let q := { p with place := .spilled, dataOff := f.dataWr, idxOff := f.idxWr }
          ∃ t, exec (.spillWriteDone n) s = .next (finish (fifoWatch t n)) ∧
            (fifoOf t n).pkts = modFirst f.pkts inTail (fun _ => q) ∧
            (fifoOf t n).dataWr = (f.dataWr + p.len) % max 1 (dataRing s n) ∧
            (fifoOf t n).idxWr = (f.idxWr + 128) % max 1 (indexRing s n) ∧
            t.evq = s.evq ++ (if middleEmpty f then [ev (EV_FIFO_SPILL n)] else []) ∧
            (f.dataWr + p.bytes.length ≤ dataRing s n → f.idxWr + (indexEntry q).length ≤ indexRing s n →
              readBytes (t.dram n) (spillBase + f.dataWr) p.bytes.length = p.bytes ∧
              readBytes (t.dram n) (spillBase + dataRing s n + f.idxWr) (indexEntry q).length = indexEntry q)))) ∧
    (Quiet s → f.pkts.find? (fun p => p.place == .spilled) = none → ∀ bad, exec (.spillReadDone n bad) s = .next s) ∧
    (∀ p, f.pkts.find? (fun p => p.place == .spilled) = some p → 96 ≤ p.len →
      let raw := ringRead (s.dram n) spillBase (dataRing s n) p.dataOff p.len
      (Quiet s → headRoom f p.len = false → ∀ bad, exec (.spillReadDone n bad) s = .next s) ∧
      (headRoom f p.len = true →
        exec (.spillReadDone n ⟨false, false, false, false⟩) s = .next (finish (fifoWatch (s.modFifo n fun f =>
          { f with pkts := modFirst f.pkts (fun p => p.place == .spilled) fun _ => { p with place := .head, bytes := raw } }) n)) ∧
        exec (.spillReadDone n ⟨true, false, false, false⟩) s = .next (finish (fifoWatch
          (((s.bump (FIFO_ERR_DPOISON n)).raise ((ev (EV_FIFO_SPILL_ERR n)).line_ p.info.line)).modFifo n fun f =>
            { f with pkts := modFirst f.pkts (fun p => p.place == .spilled) fun _ =>
                { p with place := .head, bytes := recrc (setLate raw 4) } }) n)))) ∧
    (Quiet s → f.pkts = [] → ∀ bad, exec (.fifoReadRequest n bad) s = .next s) ∧
    (Quiet s → f.offer ≠ none → ∀ bad, exec (.fifoReadRequest n bad) s = .next (padFront s n)) ∧
    (∀ p rest, Quiet s → f.offer = none → f.pkts = p :: rest → p.place = .head → p.complete = true → p.discard = false →
      p.cut = false → p.handed < p.len → p.len ≠ 0 →
      let k := min 4096 (p.len - p.handed)
      ∃ t, exec (.fifoReadRequest n ⟨[], []⟩) s = .next t ∧
        (fifoOf t n).pkts = { p with offered := true, extra := if p.offered then p.extra else 0 } :: rest ∧
        (fifoOf t n).offer = some { off := p.handed, bytes := (p.bytes.drop p.handed).take k, last := decide (p.handed + k = p.len) }) ∧
    (∀ p rest bad, f.offer = none → f.pkts = p :: rest → p.place = .head → p.complete = true → p.discard = false →
      p.cut = false → p.handed = 0 → p.len ≠ 0 → wordFails bad.flips 0 = true ∨ wordFails bad.flips (p.len / 64 - 1) = true →
      ∃ t m, exec (.fifoReadRequest n bad) s = .next (finish t) ∧ (fifoOf t n).pkts = m :: rest ∧ m.kind = 2 ∧
        m.complete = true ∧ m.granted = p.granted ∧ (fifoOf t n).offer = none ∧
        t.rd (FIFO_ERR_PAR n) = min (s.rd (FIFO_ERR_PAR n) + b2n (wordFails bad.flips 0) +
          b2n (wordFails bad.flips (p.len / 64 - 1))) (2 ^ (FIFO_ERR_PAR n).width - 1)) ∧
    (∀ p rest, Quiet s → f.offer = none → f.pkts = p :: rest → p.kind = 1 → p.place = .tail → p.complete = false →
      p.offered = false → p.discard = false → p.handed = 0 → p.flips = [] →
      let start := s.rd (FIFO_CFG_CUT n) ≠ 0 ∧ middleEmpty f = true ∧ 256 * s.rd (FIFO_CFG_CUT n) ≤ (cutBytes s n).length
      (¬ start → ∀ bad, exec (.fifoReadRequest n bad) s = .next s) ∧
      (start → 96 < s.rd (PACK_PKTLEN_LEN n) → ∃ t, exec (.fifoReadRequest n ⟨[], []⟩) s = .next t ∧
        (fifoOf t n).pkts = { p with
          offered := true
          cut := true
          place := .head
          len := s.rd (PACK_PKTLEN_LEN n)
          extra := p.len - s.rd (PACK_PKTLEN_LEN n) } :: rest ∧
        ∃ o, (fifoOf t n).offer = some o ∧ o.off = 64 ∧ o.last = false ∧
          o.bytes = (cutBytes s n).take (min 4096 (min (s.rd (PACK_PKTLEN_LEN n) - 96) (cutBytes s n).length)))) ∧
    (Quiet s → exec (.fifoFlush n) s = .next (s.modFifo n fun f => { f with pkts := f.pkts ++ [padPkt] })) ∧
    (Quiet s → f.stopPad = false ∨ f.pkts ≠ [] ∨ s.runBit n = true → exec (.stopPadding n) s = .next s) ∧
    (Quiet s → f.stopPad = true → f.pkts = [] → s.runBit n = false → exec (.stopPadding n) s = .next (s.modFifo n fun f =>
      { f with stopPad := false, pkts := if padLen s n = 0 then [] else
        [{ padPkt with bytes := padBytes s n (padLen s n), len := padLen s n }] }))

/-- PACE_UPDATE in web mode, in rough-cut mode or with no entry reached changes nothing; otherwise a higher entry is taken, or a
lower one once the fill has fallen by the hysteresis, and its VMAX goes to the feed axis. DT_STOP in driven mode with the feed
moving and no stop under way: STATE 1, the target kept, EV_FIFO_DT_STOP raised, the feed braking; otherwise nothing but what
follows the axes. DT_RESUME during the stop, or in HOLDING above LOW: it is held; in HOLDING at LOW the back-off begins; in
other states it does nothing. JOIN_RESULT: once no overlap line is left, the correlator's result is kept, and in VMODE 1 moves
the vertical position; a control that waits for it returns to RUN; else nothing. (It is taken that the register file is in
canonical form, which every step keeps: KeptHoldsAcrossEveryStep.) (spec/09_pacing_fifo_seams.md (R223, R224, R226, R227, R228,
R229, R234)) -/
def Obligations.PaceDovetailAndJoinFollowTheFill : Prop :=
  ∀ (s : State) (n : Fin 4), RegsWf s →
    let f := fifoOf s n
    let tabs := (s.ch n).tabs
    let F := fillOf f
    let level (e : Nat) : Nat := levelBytes (paceEntry tabs e).1
    let cur := s.rd (FIFO_PACESTAT_ENTRY n)
    (Quiet s → driven s n = false ∨ s.rough n = true ∨ paceReached tabs F = none → exec (.paceUpdate n) s = .next s) ∧
    (∀ e, driven s n = true → s.rough n = false → paceReached tabs F = some e →
      (level cur < level e ∨ (level e < level cur ∧ F < level cur ∧
          F + levelBytes (s.rd (FIFO_PACECFG_HYS n)) ≤ level cur) →
        exec (.paceUpdate n) s = .next (finish (paceApply (s.wr (FIFO_PACESTAT_ENTRY n) e) n e))) ∧
      (Quiet s → level e ≤ level cur → level e = level cur ∨ level cur ≤ F ∨
          level cur < F + levelBytes (s.rd (FIFO_PACECFG_HYS n)) → exec (.paceUpdate n) s = .next s)) ∧
    (driven s n = false ∨ s.rough n = true ∨ dtState s n ≠ 0 ∨ feedRunning s n = false →
      exec (.dtStop n) s = .next (finish (motWatch s n))) ∧
    (∀ a, driven s n = true → s.rough n = false → dtState s n = 0 → feedRunning s n = true → feedAxis s n = some a →
      ∃ t, exec (.dtStop n) s = .next (finish (motWatch t n)) ∧ dtState t n = 1 ∧ t.evq = s.evq ++ [ev (EV_FIFO_DT_STOP n)] ∧
        (fifoOf t n).target = BitVec.ofInt 32 (axis s n a).tgt ∧ (axis t n (carrier s n a)).mode = .halt) ∧
    (driven s n = false ∨ s.rough n = true ∨ (dtState s n ≠ 1 ∧ dtState s n ≠ 2) →
      exec (.dtResume n) s = .next (finish (motWatch s n))) ∧
    (driven s n = true → s.rough n = false →
      dtState s n = 1 ∨ (dtState s n = 2 ∧ levelBytes (s.rd (FIFO_LOW_LEVEL n)) < F) →
      exec (.dtResume n) s = .next (finish (motWatch (s.modFifo n fun f => { f with resumeHeld := true }) n))) ∧
    (driven s n = true → s.rough n = false → dtState s n = 2 → F ≤ levelBytes (s.rd (FIFO_LOW_LEVEL n)) →
      exec (.dtResume n) s = .next (finish (motWatch (dtBackoff (s.modFifo n fun f => { f with resumeHeld := true }) n) n))) ∧
    (Quiet s → f.joinDue = false ∨ f.joinRes ≠ none ∨ (∃ l ∈ (s.ch n).pipe.lines, l.kind = .overlap) →
      exec (.joinResult n) s = .next s) ∧
    (Quiet s → f.joinDue = true → f.joinRes = none → (∀ l ∈ (s.ch n).pipe.lines, l.kind ≠ .overlap) →
      let v := s.rb (RSMP_VCFG_VMODE n)
      let r := joinResult f v (s.rd (FIFO_JOINLIM_LIM n))
      ∃ t, (f.joinWait = false → exec (.joinResult n) s = .next t) ∧
        (f.joinWait = true → exec (.joinResult n) s = .next (finish (dtJoined t n))) ∧ (fifoOf t n).joinRes = some r ∧
        (t.ch n).rsmp.y = (s.ch n).rsmp.y - (if v && r.ran then 4096 * r.off else 0) ∧ t.regs = s.regs)

/-- DMA_START on an idle or ended queue: it runs and fetches the descriptor at NEXT; on another EV_DMA_CFG. DMA_GO on an idle or
ended queue that takes no FIFO: the transfer of the registers is in execution, or the queue halts with the cause of a bad one;
otherwise EV_DMA_CFG. DMA_DOORBELL: a queue that was not ready fetches again at NEXT, an ended one too where NEXT is not 0, one
with a fetch under way notes it, an idle, halted, aborted or register-mode queue only restarts its chain count. DMA_PAUSE and
DMA_UNPAUSE set and clear PAUSE, and STATE shows a running queue as paused once its reads have ended. DMA_RESUME of a queue
halted on a descriptor fetches at the position shown, of one halted on a descriptor read at that read's address; on a queue not
halted nothing. DMA_ABORT: the queue keeps its barriers and records alone, is idle once its reads and barriers have ended, and
every packet taken and not written is counted; on an idle or aborted queue nothing. (It is taken that the register file is in
canonical form and the lists of queues and inputs complete, which every step keeps: KeptHoldsAcrossEveryStep.)
(spec/11_host_link_dma.md (R269, R271, R272, R273, R282, R285, R289, R290, R294)) -/
def Obligations.QueuesStartStopAndPause : Prop :=
  ∀ (s : State) (q : Fin 16), RegsWf s → FullLists s →
    let x := dmaQ s q
    let cfg : Raise := (ev EV_DMA_CFG).at_ 6 q
    (x.mode ≠ .idle → x.mode ≠ .end_ → exec (.dmaStart q) s = .next (finish (s.raise cfg))) ∧
    (Quiet s → x.mode = .idle ∨ x.mode = .end_ → ∃ t, exec (.dmaStart q) s = .next t ∧ (dmaQ t q).mode = .run ∧
      (dmaQ t q).fetching = true ∧ (dmaQ t q).refetch = nextAddr s q ∧ (dmaQ t q).desc = none ∧ (dmaQ t q).chain = 0 ∧
      t.dma.ctl = s.dma.ctl ++ [.fetch q (nextAddr s q)] ∧ t.rd (DMAQ_STAT_CAUSE q) = 0 ∧
      t.rd (DMAQ_STAT_STATE q) = (if queueHeld s q && x.flying.isEmpty then 4 else if crFull s q then 7 else 1) ∧
      (∀ p : Fin 16, p ≠ q → dmaQ t p = dmaQ s p) ∧ t.chans = s.chans ∧ t.outbox = s.outbox) ∧
    ((x.mode ≠ .idle ∧ x.mode ≠ .end_) ∨ (queueChan s q).isSome = true → exec (.dmaGo q) s = .next (finish (s.raise cfg))) ∧
    (x.mode = .idle ∨ x.mode = .end_ → queueChan s q = none →
      let d : Desc := ⟨0, 0, s.rd64 (DMAQ_RM_HADDR_LO_ADDR q) (DMAQ_RM_HADDR_HI_ADDR q), s.rd (DMAQ_RM_LEN_LEN q),
        s.rd (DMAQ_RM_DADDR_ADDR q), s.rd64 (DMAQ_PATTERN_LO_VALUE q) (DMAQ_PATTERN_HI_VALUE q),
        s.rd64 (DMAQ_INCR_LO_VALUE q) (DMAQ_INCR_HI_VALUE q), 0, false, false, s.rd (DMAQ_RM_CFG_SWAP q), false,
        s.rd (DMAQ_RM_CFG_KIND q), 0, true⟩
      ∃ t, exec (.dmaGo q) s = .next (finish t) ∧
        (∀ c, descCause d false true = some c → (dmaQ t q).mode = .halted ∧ t.rd (DMAQ_STAT_CAUSE q) = c ∧
          t.rd (DMAQ_STAT_STATE q) = 5) ∧
        (descCause d false true = none → (dmaQ t q).mode = .reg ∧ (dmaQ t q).desc = some d ∧ (dmaQ t q).off = 0 ∧
          (dmaQ t q).els = [(d.buf, d.len)] ∧ t.rd (DMAQ_STAT_CAUSE q) = 0 ∧ t.evq = s.evq)) ∧
    (Quiet s →
      (x.mode = .notReady ∨ (x.mode = .end_ ∧ nextAddr s q ≠ 0) → ∃ t, exec (.dmaDoorbell q) s = .next t ∧
        (dmaQ t q).mode = .run ∧ (dmaQ t q).fetching = true ∧ (dmaQ t q).chain = 0 ∧
        t.dma.ctl = s.dma.ctl ++ [.fetch q (nextAddr s q)]) ∧
      (x.mode = .run → x.fetching = true →
        exec (.dmaDoorbell q) s = .next (modQ s q fun x => { x with chain := 0, again := true })) ∧
      (x.mode ∈ [QMode.idle, .halted, .reg, .abort] ∨ (x.mode = .end_ ∧ nextAddr s q = 0) →
        exec (.dmaDoorbell q) s = .next (modQ s q fun x => { x with chain := 0 }))) ∧
    (Quiet s → ∃ t u, exec (.dmaPause q) s = .next t ∧ exec (.dmaUnpause q) s = .next u ∧
      t.rb (DMAQ_CTL_PAUSE q) = true ∧ t.dma = s.dma ∧ t.chans = s.chans ∧
      u.rb (DMAQ_CTL_PAUSE q) = false ∧ u.dma = s.dma ∧ u.chans = s.chans ∧
      (x.mode = .run →
        t.rd (DMAQ_STAT_STATE q) = (if x.flying.isEmpty then 4 else if crFull s q then 7 else 1) ∧
        u.rd (DMAQ_STAT_STATE q) = (if !canMaster s && x.flying.isEmpty then 4 else if crFull s q then 7 else 1))) ∧
    (Quiet s → x.mode ≠ .halted → exec (.dmaResume q) s = .next s) ∧
    (Quiet s → x.mode = .halted → x.halt = .desc → ∃ t, exec (.dmaResume q) s = .next t ∧ (dmaQ t q).mode = .run ∧
      (dmaQ t q).desc = none ∧ (dmaQ t q).cont = x.desc.isSome ∧ t.rd (DMAQ_STAT_CAUSE q) = 0 ∧
      t.dma.ctl = s.dma.ctl ++ [.fetch q (s.rd64 (DMAQ_POSDESC_LO_ADDR q) (DMAQ_POSDESC_HI_ADDR q))]) ∧
    (Quiet s → x.mode = .halted → x.halt = .read .desc → ∃ t, exec (.dmaResume q) s = .next t ∧
      (dmaQ t q).mode ∈ [QMode.run, .reg] ∧ t.rd (DMAQ_STAT_CAUSE q) = 0 ∧ t.dma.ctl = s.dma.ctl ++ [.fetch q x.refetch]) ∧
    (Quiet s → x.mode = .idle → exec (.dmaAbort q) s = .next s) ∧
    (x.mode = .abort → Quiet s → exec (.dmaAbort q) s = .next s) ∧
    (x.mode ≠ .idle → x.mode ≠ .abort → ∃ t, exec (.dmaAbort q) s = .next (finish t) ∧
      (dmaQ t q).mode = (if x.flying.isEmpty && x.barriers.isEmpty then .idle else .abort) ∧ (dmaQ t q).desc = none ∧
      (dmaQ t q).staged = [] ∧ (dmaQ t q).pkt = none ∧ (dmaQ t q).barriers = x.barriers ∧ (dmaQ t q).recs = x.recs ∧
      (dmaQ t q).flying = x.flying ∧ t.rd (DMAQ_STAT_STATE q) = (if x.flying.isEmpty && x.barriers.isEmpty then 0 else 1) ∧
      t.rd (DMAQ_CNT_DROPPKT q) = min (s.rd (DMAQ_CNT_DROPPKT q) +
        ((x.staged.filter fun b => b.fin.isSome).length + b2n x.pkt.isSome)) (2 ^ (DMAQ_CNT_DROPPKT q).width - 1))

/-- A read that the queue has not issued returns to nothing. DESCRIPTOR_FETCH_DONE: a descriptor with OWN and the expected SEQ
is accepted: EXP counts, NEXT takes its link, and it comes into execution or, faulty, halts the queue with its cause; past the
chain limit the queue halts with cause 6; one not owned or out of sequence makes the queue not ready with cause 1 or 2 and
EV_DMA_NOTREADY. SGL_FETCH_DONE: the fetch ends, and a valid element in front joins the list. DMA_READ_COMPLETION of a compare:
whole 8-byte groups are compared after swapping; where they match within the buffer the offset advances, and a difference raises
EV_DMA_CMPFAIL with the offset of its group. DMA_READ_FAIL: below the retry count the read waits for a back-off; then a
descriptor read halts the queue with the failure's cause. DMA_RETRY_BACKOFF: a failed descriptor or list read is asked for
again, a data read with the next arbitration, a barrier at its own address; with none nothing. (It is taken that the register
file is in canonical form and the lists of queues and inputs complete, which every step keeps: KeptHoldsAcrossEveryStep.)
(spec/11_host_link_dma.md (R271, R272, R273, R274, R284, R286, R287, R288, R289)) -/
def Obligations.QueueReadsReturnOrFail : Prop :=
  ∀ (s : State) (q : Fin 16) (bs : List Byte), RegsWf s → FullLists s →
    let x := dmaQ s q
    let d := parseDesc bs x.refetch
    let own := bit (fieldAt bs 0x3C 4) 31
    let expd := s.rd (DMAQ_DSEQ_EXP q)
    (Quiet s →
      (x.flying.contains .desc = false → exec (.descriptorFetchDone q bs) s = .next s) ∧
      (x.flying.contains .sgl = false → exec (.sglFetchDone q bs) s = .next s) ∧
      (x.flying.contains .data = false → exec (.dmaReadCompletion q bs) s = .next s)) ∧
    (x.flying.contains .desc = true → x.mode = .run → x.desc = none →
      (own = true → d.seq = expd → x.chain < s.rd (DMAQ_CHAINLIM_LIM q) → ∃ t,
        exec (.descriptorFetchDone q bs) s = .next (finish t) ∧ (dmaQ t q).chain = x.chain + 1 ∧
        t.rd (DMAQ_DSEQ_EXP q) = (expd + 1) % 65536 ∧ (d.next < 2 ^ 64 → nextAddr t q = d.next / 64 * 64) ∧
        (descCause d (queueChan s q).isSome (descRsvOk bs) = none → t.evq = s.evq ∧ (dmaQ t q).mode = .run ∧
          (dmaQ t q).desc = some d ∧ (x.cont = false → (dmaQ t q).off = 0 ∧ (x.bad = none →
            (dmaQ t q).fetching = decide (d.next ≠ 0)))) ∧
        (∀ c, descCause d (queueChan s q).isSome (descRsvOk bs) = some c → (dmaQ t q).mode = .halted ∧
          t.rd (DMAQ_STAT_CAUSE q) = c % 2 ^ (DMAQ_STAT_CAUSE q).width)) ∧
      (own = true → d.seq = expd → s.rd (DMAQ_CHAINLIM_LIM q) ≤ x.chain → ∃ t,
        exec (.descriptorFetchDone q bs) s = .next (finish t) ∧ (dmaQ t q).mode = .halted ∧ t.rd (DMAQ_STAT_CAUSE q) = 6 ∧
        t.rd (DMAQ_DSEQ_EXP q) = expd ∧ t.evq = s.evq ++ [((ev (EV_DMA_LOOP q)).at_ 6 q).code_ 6]) ∧
      (own = false ∨ d.seq ≠ expd → x.again = false → ∃ t,
        exec (.descriptorFetchDone q bs) s = .next (finish t) ∧ (dmaQ t q).mode = .notReady ∧
        t.rd (DMAQ_STAT_CAUSE q) = (if own then 2 else 1) ∧ t.rd (DMAQ_DSEQ_EXP q) = expd ∧
        t.evq = s.evq ++ [((ev (EV_DMA_NOTREADY q)).at_ 6 q).code_ (if own then 2 else 1)])) ∧
    (x.flying.contains .sgl = true → ∃ t, exec (.sglFetchDone q bs) s = .next (finish t) ∧ (dmaQ t q).elFetch = false ∧
      (x.mode ∈ [QMode.idle, .halted, .abort] → (dmaQ t q).els = x.els ∧ t.evq = s.evq) ∧
      (∀ e, x.mode = .run → x.desc = some e → x.elEnd = false → elTotal x < e.len → x.elAddr % 64 = 0 →
        bits (fieldAt bs 12 4) 29 0 = 0 → bit (fieldAt bs 12 4) 31 = false → fieldAt bs 8 4 ≠ 0 →
        x.elCount < s.rd (DMAQ_CHAINLIM_LIM q) → x.els ++ [(fieldAt bs 0 8, fieldAt bs 8 4)] <+: (dmaQ t q).els)) ∧
    (∀ lead k e, x.flying.contains .data = true → x.reading = some (lead, k) → x.desc = some e → e.kind = 4 →
      let raw := x.grp ++ (List.range k).map fun i => bs.getD (lead + i) 0
      let base := x.off - x.grp.length
      let n := if bufLen x e ≤ x.off + k then raw.length else raw.length / 8 * 8
      let cmp := swapBytes (swapUnit e.swap) (raw.take n)
      ((∀ i < n, cmp.getD i 0 = patternByte e (base + i)) → x.off + k < bufLen x e → ∃ t,
        exec (.dmaReadCompletion q bs) s = .next (finish t) ∧ (dmaQ t q).off = x.off + k ∧ (dmaQ t q).reading = none ∧
        (dmaQ t q).grp = raw.drop n ∧ t.evq = s.evq ∧ t.outbox = s.outbox) ∧
      (∀ i < n, cmp.getD i 0 ≠ patternByte e (base + i) → (∀ j < i, cmp.getD j 0 = patternByte e (base + j)) → ∃ t,
        exec (.dmaReadCompletion q bs) s = .next (finish t) ∧ (ev (EV_DMA_CMPFAIL q)).at_ 6 q ∈ t.evq ∧
        t.rd (DMAQ_CMPOFF_OFF q) = (base + i / 8 * 8) % 2 ^ (DMAQ_CMPOFF_OFF q).width)) ∧
    (∀ (w : ReadWhat) (cause : Fin 4),
      let tries := ((x.retry.find? fun r => r.what == w && r.id == 0).map (·.tries)).getD 0
      (Quiet s → x.flying.contains w = false → exec (.dmaReadFail q w cause) s = .next s) ∧
      (Quiet s → x.flying.contains w = true → w ≠ .barrier → x.mode ≠ .abort → x.mode ≠ .idle →
        tries < s.rd (DMAQ_RETRY_COUNT q) → ∃ t, exec (.dmaReadFail q w cause) s = .next t ∧
          (dmaQ t q).retry.getLast? = some { what := w, id := 0, tries := tries + 1, cause := cause + 1, backoff := true } ∧
          (dmaQ t q).flying = x.flying.erase w ∧ (dmaQ t q).mode = x.mode ∧ t.outbox = s.outbox) ∧
      (∀ id, Quiet s → x.flying.contains .barrier = true → barrierFlying s q = some id → x.retry = [] →
        0 < s.rd (DMAQ_RETRY_COUNT q) → ∃ t, exec (.dmaReadFail q .barrier cause) s = .next t ∧
          (dmaQ t q).retry = [{ what := .barrier, id := id, tries := 1, cause := cause + 1, backoff := true }] ∧
          (∀ p ∈ t.dma.flight, p.1 = id → id = 0) ∧ (dmaQ t q).barriers = x.barriers) ∧
      (x.flying.contains .desc = true → w = .desc → x.mode ≠ .abort → x.mode ≠ .idle → s.rd (DMAQ_RETRY_COUNT q) ≤ tries → ∃ t,
        exec (.dmaReadFail q .desc cause) s = .next (finish t) ∧ (dmaQ t q).mode = .halted ∧ (dmaQ t q).halt = .read .desc ∧
        (dmaQ t q).fetching = false ∧ t.rd (DMAQ_STAT_CAUSE q) = cause + 1 ∧ t.rd (DMAQ_FAILINFO_CAUSE q) = cause + 1 ∧
        t.rd (DMAQ_FAILINFO_TRIES q) = (tries + 1) % 2 ^ (DMAQ_FAILINFO_TRIES q).width ∧
        t.evq = s.evq ++ [((ev (EV_DMA_HALT q)).at_ 6 q).code_ (cause + 1)])) ∧
    (Quiet s → x.retry.find? (·.backoff) = none → exec (.dmaRetryBackoff q) s = .next s) ∧
    (∀ r, Quiet s → x.retry.find? (·.backoff) = some r → ∃ t, exec (.dmaRetryBackoff q) s = .next t ∧
      (dmaQ t q).retry = x.retry.map (fun p => if p.what == r.what && p.id == r.id then { p with backoff := false } else p) ∧
      (r.what = .desc → t.dma.ctl = s.dma.ctl ++ [.fetch q x.refetch]) ∧
      (r.what = .sgl → t.dma.ctl = s.dma.ctl ++ [.sgl q (x.elAddr / 64 * 64)]) ∧
      (r.what = .data → t.dma.ctl = s.dma.ctl ∧ (dmaQ t q).reading = none) ∧
      (∀ b, r.what = .barrier → x.barriers.find? (fun b => b.id == r.id && !b.done) = some b →
        t.dma.ctl = s.dma.ctl ++ [.barrier q r.id b.addr]))

/-- DMA_BURST on a queue that does not run, is held, has a full ring, closes its buffer or has two bursts staged changes
nothing; the request of a packet already begun becomes a burst at the packet's place, that of a new one that fits a burst at the
buffer's next place with the next packet number, and one too long for an empty buffer halts the queue with cause 7.
DMA_BEAT_ARBITRATION without mastering changes nothing; with it the control requests, where none is held and tags suffice, leave
first, in order. BARRIER_COMPLETE without one issued changes nothing; else the oldest is gone with the write TLPs before it, and
with room its record is written into the ring as two writes, PHASE and TAIL moving on. CRHEAD_WRITE takes the slot, with no
record waiting nothing leaves. COAL_TIMER raises EV_DMA_CMPL once TIME is over since the first record not signalled, and else
does nothing. (It is taken that the register file is in canonical form and the lists of queues and inputs complete, which every
step keeps: KeptHoldsAcrossEveryStep.) (spec/11_host_link_dma.md (R267, R275, R276, R277, R278, R279, R280, R281)) -/
def Obligations.BurstsBarriersAndRecordsLeaveInOrder : Prop :=
  ∀ (s : State) (q : Fin 16), RegsWf s → FullLists s →
    let x := dmaQ s q
    let n := crSlots s q
    let slot := s.rd (DMAQ_CRTAIL_SLOT q) % n
    (Quiet s → x.mode ≠ .run ∨ queueHeld s q = true ∨ crFull s q = true ∨ x.closeDue = true ∨ 2 ≤ x.staged.length →
      exec (.dmaBurst q) s = .next s) ∧
    (∀ ch d o p rest, x.mode = .run → queueHeld s q = false → crFull s q = false → x.closeDue = false → x.staged = [] →
      queueChan s q = some ch → x.desc = some d → (fifoOf s ch).offer = some o → (fifoOf s ch).pkts = p :: rest → o.last = false →
      (∀ k, x.pkt = some k → ∃ t, exec (.dmaBurst q) s = .next (finish t) ∧
        (dmaQ t q).staged = [{ off := k.place + o.off, bytes := stampSeq k.len k.psn o.off o.bytes, fin := none }] ∧
        (dmaQ t q).pkt = some { k with done := o.off + o.bytes.length } ∧ (fifoOf t ch).offer = none) ∧
      (x.pkt = none → covered x d (x.off + p.len) = true → x.off + p.len ≤ bufLen x d →
        let psn := s.rd (DMAQ_DSEQ_PSEQ q)
        ∃ t, exec (.dmaBurst q) s = .next (finish t) ∧
        (dmaQ t q).staged = [{ off := x.off + o.off, bytes := stampSeq p.len psn o.off o.bytes, fin := none }] ∧
        (dmaQ t q).pkt = some { place := x.off, len := p.len, psn := psn, line := p.info.line, done := o.off + o.bytes.length } ∧
        t.rd (DMAQ_DSEQ_PSEQ q) = (psn + 1) % 65536 ∧ (fifoOf t ch).offer = none) ∧
      (x.pkt = none → covered x d p.len = true → x.off = 0 → bufLen x d < p.len →
        ∃ t, exec (.dmaBurst q) s = .next (finish t) ∧ (dmaQ t q).mode = .halted ∧ t.rd (DMAQ_STAT_CAUSE q) = 7 ∧
        t.chans = s.chans)) ∧
    (Quiet s → canMaster s = false → exec .dmaBeatArbitration s = .next s) ∧
    (canMaster s = true → (∀ c ∈ s.dma.ctl, ctlHeld s c = false) → tagsUsed s + s.dma.ctl.length ≤ tagLimit s →
      ∃ t, exec .dmaBeatArbitration s = .next (finish t) ∧
      s.outbox ++ (s.dma.ctl.map fun c => match c with
        | .fetch _ a => Out.hostRead a 64
        | .sgl _ a => .hostRead a 64
        | .barrier _ _ a => .hostRead a 0
        | .write a b => .hostWrite a b false false false) <+: t.outbox) ∧
    (Quiet s → x.flying.contains .barrier = false → exec (.barrierComplete q) s = .next s) ∧
    (∀ b rest, x.flying.contains .barrier = true → x.barriers = b :: rest → b.done = false → b.id ≠ 0 →
      s.dma.flight.any (·.1 == b.id) = true → (∀ c ∈ rest, c.done = false ∧ c.id ≠ b.id) →
      ∃ t, exec (.barrierComplete q) s = .next (finish t) ∧ (dmaQ t q).barriers = rest ∧
      (∀ k more, s.dma.flight = (b.id, k) :: more → t.dma.flight = more) ∧
      (∀ r, b.recs = [r] → x.recs = [] → b.rm = none → crFull s q = false →
        let a := s.rd64 (DMAQ_CRBASE_LO_ADDR q) (DMAQ_CRBASE_HI_ADDR q) + 32 * slot
        let bytes := recBytes r q (s.rb (DMAQ_CRTAIL_PHASE q))
        t.dma.ctl = s.dma.ctl ++ [.write a (bytes.take 0x1C), .write (a + 0x1C) (bytes.drop 0x1C)] ∧
        t.rd (DMAQ_CRTAIL_SLOT q) = (slot + 1) % n ∧
        t.rb (DMAQ_CRTAIL_PHASE q) = (s.rb (DMAQ_CRTAIL_PHASE q) != decide ((slot + 1) % n = 0)) ∧ (dmaQ t q).recs = [])) ∧
    (∀ v : BitVec 16, ∃ t, exec (.crheadWrite q v) s = .next (finish t) ∧ t.rd (DMAQ_CRHEAD_SLOT q) = v.toNat ∧
      (x.recs = [] → t.dma = s.dma ∧ t.evq = s.evq)) ∧
    (Quiet s → x.coalAt = none ∨ s.rd (DMAQ_COAL_TIME q) = 0 → exec (.coalTimer q) s = .next s) ∧
    (∀ u, x.coalAt = some u → s.rd (DMAQ_COAL_TIME q) ≠ 0 →
      (Quiet s → s.now < u + 1000 * s.rd (DMAQ_COAL_TIME q) → exec (.coalTimer q) s = .next s) ∧
      (u + 1000 * s.rd (DMAQ_COAL_TIME q) ≤ s.now → exec (.coalTimer q) s = .next (finish
        ((modQ s q fun x => { x with coalCnt := 0, coalAt := none }).raise ((ev (EV_DMA_CMPL q)).at_ 6 q)))))

/-- DRC_PPRNOW while the channel runs, a switch, calibration list or spill is under way, or the controller is not in service:
EV_DRC_PPR_FAIL alone; else STATE 4. PPR_WINDOW_END in the window: STATE 2, each valid entry repaired (V clear) or refused (V
and FAIL set), profile slots and stores invalid, the library copied from the lowest other controller; else nothing. DRC_RETRAIN
and, with a period, DRAM_PERIODIC_TRAIN in service start the periodic training unless one holds the bus; else nothing.
DRAM_READ_RETURN: what a sound read of the cells returns passes its check; a burst that passes changes nothing but library
copies that had failed, which take it; a re-read that passes counts REREAD with EV_DRC_CRC; two that fail count FAIL with the
address and EV_DRC_CRC_FAIL: a library burst is then taken from the other copies and its jig is invalid once none gives it, and
a failed read-modify-write writes its bytes into the data as read. (It is taken that the register file and the memories are in
canonical form, which every step keeps: KeptHoldsAcrossEveryStep.) (spec/12_dram_controller.md (R303, R304, R305, R315, R317);
spec/02_jigs_boot_job_switch.md (R47)) -/
def Obligations.RepairsTrainingAndBurstsOfTheDram : Prop :=
  ∀ (s : State) (k : Fin 4), RegsWf s → MemWf s →
    (let no := s.running k || s.switching k || s.calList k || s.rb (FIFO_STAT_SPILL k) || s.rd (DRC_STAT_STATE k) != 2
     (no = true → exec (.drcPprnow k) s = .next (finish (s.raise ((ev (EV_DRC_PPR_FAIL k)).at_ 8 k)))) ∧
     (Quiet s → no = false → exec (.drcPprnow k) s = .next (s.wr (DRC_STAT_STATE k) 4))) ∧
    (∀ oks : List Bool,
      (Quiet s → inWindow s k = false → exec (.pprWindowEnd k oks) s = .next s) ∧
      (inWindow s k = true → ∃ t, exec (.pprWindowEnd k oks) s = .next (finish t) ∧ t.rd (DRC_STAT_STATE k) = 2 ∧
        t.rd (CAL_STAT_PSLOTV k) = 0 ∧ (∀ j : Fin 4, t.rd (CAL_STORE_VALID k j) = 0) ∧
        (∀ e : Fin 8, (s.rb (DRC_PPR_V k e) = false → t.word (DRC_PPR_V k e).addr = s.word (DRC_PPR_V k e).addr) ∧
          (s.rb (DRC_PPR_V k e) = true → t.rb (DRC_PPR_V k e) = !oks.getD e true ∧ t.rb (DRC_PPR_FAIL k e) = !oks.getD e true)) ∧
        (∀ j, libCtl s = some j → ∀ x < 0x04000000, sget zeroByte (t.dram k) x = sget zeroByte (s.dram j) x) ∧
        (∀ m : Fin 4, m ≠ k → t.dram m = s.dram m) ∧ t.outbox = s.outbox)) ∧
    ((Quiet s → s.rd (DRC_STAT_STATE k) ≠ 2 ∨ (trainHolds s k).isSome = true →
        exec (.drcRetrain k) s = .next s ∧ exec (.dramPeriodicTrain k) s = .next s) ∧
      (Quiet s → s.rd (DRC_PTRAIN_PER k) = 0 → exec (.dramPeriodicTrain k) s = .next s) ∧
      (Quiet s → s.rd (DRC_STAT_STATE k) = 2 → trainHolds s k = none →
        exec (.drcRetrain k) s = .next (s.modDrc k fun d => { d with trainAt := some s.now }) ∧
        (s.rd (DRC_PTRAIN_PER k) ≠ 0 →
          exec (.dramPeriodicTrain k) s = .next (s.modDrc k fun d => { d with trainAt := some s.now })))) ∧
    (∀ (addr : Nat) (r : BurstReads),
      let a := addr / 64 * 64
      let hit (e : Nat) : Raise := ((ev e).at_ 8 k).detail_ (drcPlace s k a).word
      let good (b : BurstRead) : Bool := burstGood a (burstReturned (s.dram k) a b)
      let failed (i : Nat) : Bool := libServes s i && (drcOf s i).dead.contains a
      good ⟨none, []⟩ = true ∧
      (Quiet s → good r.first = true → 0x04000000 ≤ a ∨ (∀ i : Fin 4, failed i = false) →
        exec (.dramReadReturn k addr r) s = .next s) ∧
      (good r.first = true ∨ good r.again = true → ∃ t, exec (.dramReadReturn k addr r) s = .next (finish t) ∧
        t.evq = s.evq ++ (if good r.first then [] else [hit (EV_DRC_CRC k)]) ∧
        t.rd (DRC_CRCERR_REREAD k) =
          min (s.rd (DRC_CRCERR_REREAD k) + b2n (!good r.first)) (2 ^ (DRC_CRCERR_REREAD k).width - 1) ∧
        ∀ i : Fin 4,
          (a < 0x04000000 → failed i = true →
            readBytes (t.dram i) a 64 = readBytes (s.dram k) a 64 ∧ (drcOf t i).dead.contains a = false) ∧
          (0x04000000 ≤ a ∨ failed i = false → t.dram i = s.dram i)) ∧
      (good r.first = false → good r.again = false → ∃ t, exec (.dramReadReturn k addr r) s = .next (finish t) ∧
        t.evq = s.evq ++ [hit (EV_DRC_CRC_FAIL k)] ∧
        t.rd (DRC_CRCERR_FAIL k) = min (s.rd (DRC_CRCERR_FAIL k) + 1) (2 ^ (DRC_CRCERR_FAIL k).width - 1) ∧
        t.rd (DRC_FAILADDR_LO_ADDR k) = a % 2 ^ 32 ∧
        (r.merge = none → t.drams = s.drams ∧ (a < 0x04000000 → (drcOf t k).dead.contains a = true ∧
          (libSource t a = none → jigBit t (a / 0x100000) = false))) ∧
        (∀ new, r.merge = some new →
          readBytes (t.dram k) a 64 =
            new.foldl (fun b p => b.set p.1.val p.2) ((burstReturned (s.dram k) a r.again).take 64) ∧
          (drcOf t k).dead.contains a = false ∧
          (∀ x, x < a ∨ a + 64 ≤ x → sget zeroByte (t.dram k) x = sget zeroByte (s.dram k) x) ∧
          ∀ i : Fin 4, i ≠ k → t.dram i = s.dram i)))

/-- DRAM_SCHEDULE out of service changes nothing; in service each arrival takes the next place in the order, and with no
arrival, nothing waiting beyond its share and no throttle the request that leaves the queue is the one that R308 takes: a class
0 request where one can be served. No DRAM byte and no channel changes. DRAM_AGE_PROMOTE: every request past its age limit is in
class 0, every class 0 request stays one, and none is lost; with none past its limit nothing changes. DRAM_REFRESH closes the
bank's row and lowers its rolling count. DRAM_MR4_READ shows the highest reading and double rate, and one beyond the range
raises EV_DRC_TEMP. RH_WINDOW_CLEAR clears every row counter and throttle. (It is taken that the register file is in canonical
form, which every step keeps: KeptHoldsAcrossEveryStep.) (spec/12_dram_controller.md (R307, R308, R309, R311, R312, R313, R314))
-/
def Obligations.DramRequestsAreScheduledAndRowsGuarded : Prop :=
  ∀ (s : State) (k : Fin 4), RegsWf s →
    let d := drcOf s k
    (∀ asks busy,
      (Quiet s → s.rd (DRC_STAT_STATE k) ≠ 2 → exec (.dramSchedule k asks busy) s = .next s) ∧
      (s.rd (DRC_STAT_STATE k) = 2 → ∃ t, exec (.dramSchedule k asks busy) s = .next (finish t) ∧ t.drams = s.drams ∧
        t.chans = s.chans ∧ t.outbox = s.outbox ∧ (drcOf t k).nextSeq = d.nextSeq + asks.length ∧
        (asks = [] → d.waiting = [] → d.throttles = [] →
          let used := if d.frame = s.now / 1000 then d.used else 0
          (drcPick s k busy used = none → (drcOf t k).queue = d.queue ∧ t.evq = s.evq) ∧
          (∀ r, drcPick s k busy used = some r → (drcOf t k).queue = d.queue.filter (·.seq != r.seq) ∧
            r ∈ d.queue ∧ ((∃ x ∈ d.queue, x.cls = 0 ∧ bankTakes s k busy x = true) → r.cls = 0) ∧
            (drcOf t k).used = used + b2n (r.cls == 2 || r.cls == 3))))) ∧
    (Quiet s → (∀ r ∈ d.queue, tooOld s k r = false) → exec (.dramAgePromote k) s = .next s) ∧
    (Quiet s → ∃ t, exec (.dramAgePromote k) s = .next t ∧ (drcOf t k).queue.length = d.queue.length ∧
      (∀ r ∈ d.queue, tooOld s k r = true → { r with cls := 0 } ∈ (drcOf t k).queue) ∧
      (∀ r ∈ d.queue, r.cls = 0 → r ∈ (drcOf t k).queue) ∧
      (∀ r ∈ (drcOf t k).queue, r ∈ d.queue ∨ ∃ o ∈ d.queue, r = { o with cls := 0 })) ∧
    (∀ bank : Fin 128, Quiet s → ∃ t, exec (.dramRefresh k bank) s = .next t ∧
      (∀ x ∈ (drcOf t k).openRows, x.1 ≠ bank.val) ∧ assocGet (drcOf t k).raa bank = assocGet d.raa bank - d.refDec ∧
      (∀ b, b ≠ bank.val → assocGet (drcOf t k).raa b = assocGet d.raa b) ∧ (drcOf t k).queue = d.queue ∧ t.regs = s.regs) ∧
    (∀ (rank : Fin 2) (mr4 : BitVec 8) (double beyond : Bool), ∃ t,
      exec (.dramMr4Read k rank mr4 double beyond) s = .next (finish t) ∧ (drcOf t k).mr4 = d.mr4.set rank mr4.toNat ∧
      t.rd (DRC_TEMP_MR4 k) = (d.mr4.set rank mr4.toNat).foldl max 0 % 8 ∧
      t.rb (DRC_STAT_REF2X k) = (d.dbl.set rank (double || beyond)).any id ∧
      t.evq = s.evq ++ (if beyond then [(ev (EV_DRC_TEMP k)).at_ 8 k] else [])) ∧
    (Quiet s → exec (.rhWindowClear k) s = .next (s.modDrc k fun d => { d with hammer := [], throttles := [] }))

/-- MON_SNAP in a state between commands: for every input in MON_SNAPMASK the registers MON_R_i hold its sum, count, minimum,
maximum and status as they were live; with SNAPRST the live sum, count, status and status counts are then 0, the minimum
0x7FFF_FFFF and the maximum 0x8000_0000, and without it the live ones stay; an input outside the mask keeps its live values and
its registers. Nothing else changes, so every result falls in one interval. (It is taken that the register file is in canonical
form and the lists of queues and inputs complete, which every step keeps: KeptHoldsAcrossEveryStep.) (R331) -/
def Obligations.SnapCopiesAndResetsAccumulators : Prop :=
  ∀ (s : State) (rst : Bool), RegsWf s → FullLists s → Quiet s → ∃ t, exec (.monSnap rst) s = .next t ∧
    (∀ i : Fin 32, bit (s.rd MON_SNAPMASK_MASK) i = true →
      let m := monIn s i
      t.rd64 (MON_R_SUM_LO_V i) (MON_R_SUM_HI_V i) = toBits 64 m.sum ∧ t.rd (MON_R_COUNT_V i) = m.count % 2 ^ 32 ∧
      t.rd (MON_R_MIN_V i) = toBits 32 m.mn ∧ t.rd (MON_R_MAX_V i) = toBits 32 m.mx ∧
      t.rb (MON_R_STAT_SAT i) = m.sat ∧ t.rb (MON_R_STAT_OVR i) = m.ovr ∧ t.rb (MON_R_STAT_INV i) = m.inv ∧
      t.rb (MON_R_STAT_LIMLO i) = m.limlo ∧ t.rb (MON_R_STAT_LIMHI i) = m.limhi ∧
      t.rd (MON_R_STAT_OVRCNT i) = m.ovrCnt % 256 ∧ t.rd (MON_R_STAT_INVCNT i) = m.invCnt % 256 ∧
      (rst = false → monIn t i = m) ∧
      (rst = true → (monIn t i).sum = 0 ∧ (monIn t i).count = 0 ∧ toBits 32 (monIn t i).mn = 0x7FFFFFFF ∧
        toBits 32 (monIn t i).mx = 0x80000000 ∧ (monIn t i).ovrCnt = 0 ∧ (monIn t i).invCnt = 0 ∧ (monIn t i).sat = false ∧
        (monIn t i).latest = m.latest)) ∧
    (∀ i : Fin 32, bit (s.rd MON_SNAPMASK_MASK) i = false → monIn t i = monIn s i ∧
      ∀ a, 0x31000 + 0x20 * i.val ≤ a → a < 0x31020 + 0x20 * i.val → t.word a = s.word a) ∧
    t = { s with regs := t.regs, mon := { s.mon with ins := t.mon.ins } } ∧
    SameWords s t (fun a => 0x31000 ≤ a ∧ a < 0x31400)

/-- A regular conversion that ends with equal counts, no overload and no system calibration, and whose value is in range, gives
the result y to its input. With the limits enabled, y below LIMLO or above LIMHI sets LIMLO or LIMHI in the input's status;
EV_MON_LIMIT is raised with the input and the side (CODE 1 below, 2 above) where it is armed, and is then not armed; a result
within the limits raises none and arms it. (It is taken that the register file is in canonical form and the lists of queues and
inputs complete, which every step keeps: KeptHoldsAcrossEveryStep.) (R332) -/
def Obligations.LimitsOfAnInputRaiseOnce : Prop :=
  ∀ (s : State), RegsWf s → FullLists s →
    (∀ (i : Fin 32) (y : Int), s.rb (MON_IN_CFG_LIMEN i) = true →
      let m := monIn s i
      let t := monAccept s i y
      let low := decide (y < word32 s (MON_IN_LIMLO_V i))
      let high := decide (word32 s (MON_IN_LIMHI_V i) < y)
      (low = true → (monIn t i).limlo = true) ∧ (high = true → (monIn t i).limhi = true) ∧
      (monIn t i).limArmed = !(low || high) ∧ (monIn t i).latest = some (y, s.now) ∧
      t.evq.filter (·.ev == EV_MON_LIMIT) = s.evq.filter (·.ev == EV_MON_LIMIT) ++
        (if (low || high) && m.limArmed then [((ev EV_MON_LIMIT).at_ 10 i).code_ (if low then 1 else 2)] else [])) ∧
    (∀ (c : Fin 2) (j : ConvJob) (n : Nat) (x y : Int), (conv s c).job = some j → j.settle = false → j.kind = .regular →
      s.mon.sys = none → word32 s (MON_FULL_F c) ≠ word32 s (MON_ZERO_Z c) →
      x = (convX s (convU n j.k) (word32 s (MON_ZERO_Z c)) (word32 s (MON_FULL_F c))).1 → x.natAbs ≤ 2 ^ 23 →
      convY s j.input x = some y →
      exec (.monConversionEnd c ⟨n, n, false⟩) s = .next (finish (convGoOn (monAccept
        (s.modConv c fun v => { v with job := none, pos := v.pos + 1 }) j.input y))))

/-- MON_RUN_SET from 0 with both converters free and in service: each starts the settling conversion of its self-calibration on
input 30. MON_RUN_CLEAR from 1: tests and injected entries are gone, RUN is 0. MON_DIAGNOW with RUN and no test under way: the
first converter in service tests itself or will next, DIAGBUSY shows it; otherwise nothing. MON_DIAG_TIMER with PER 0 changes
nothing, else it acts as MON_DIAGNOW. MON_CONVERSION_END of a settling conversion while RUN: DISCARD counts and the conversion
proper begins; without a conversion nothing. MON_STALL counts STALL and raises EV_MON_STALL. MON_INJ_GO and MON_INJ_TIMER with
their source, EN and RUN: the sequence waits, or INJOVR counts with EV_MON_INJOVR where one waits still; else nothing.
MON_INJ_DUE: a free converter takes the first entry; with none waiting nothing. (It is taken that the register file is in
canonical form, which every step keeps: KeptHoldsAcrossEveryStep.) (spec/13_monitoring_converter.md (R327, R328, R329, R335,
R336, R338)) -/
def Obligations.ConvertersRunTestAndInject : Prop :=
  ∀ (s : State), RegsWf s →
    let run := s.rb MON_CTL_RUN
    (run = false → (∀ c : Fin 2, convOut s c = false ∧ (conv s c).job = none) → ∃ t, exec .monRunSet s = .next (finish t) ∧
      t.rb MON_CTL_RUN = true ∧ t.mon.startUp = true ∧ t.rd MON_STAT_CONV = 3 ∧ t.rb MON_STAT_DIAGBUSY = true ∧
      ∀ c : Fin 2, ∃ j, (conv t c).job = some j ∧ j.kind = .test ∧ j.input = 30 ∧ j.settle = true ∧ j.k = 10 * monTset s) ∧
    (run = true → ∃ t, exec .monRunSet s = .next (finish t) ∧ t.mon = s.mon ∧ t.rb MON_CTL_RUN = true) ∧
    (run = true → ∃ t, exec .monRunClear s = .next (finish t) ∧ t.rb MON_CTL_RUN = false ∧ t.mon.inj = [] ∧
      t.mon.startUp = false ∧ t.rb MON_STAT_DIAGBUSY = false ∧
      ∀ c : Fin 2, (conv t c).test = none ∧ (conv t c).testDue = none ∧ (conv t c).job = (conv s c).job) ∧
    (run = false → ∃ t, exec .monRunClear s = .next (finish t) ∧ t.mon = s.mon ∧ t.rb MON_CTL_RUN = false) ∧
    (Quiet s → run = false ∨ s.rb MON_STAT_DIAGBUSY = true ∨ (convOut s 0 = true ∧ convOut s 1 = true) →
      exec .monDiagnow s = .next s) ∧
    (∀ c : Fin 2, run = true → s.rb MON_STAT_DIAGBUSY = false → convOut s c = false → (c = 1 → convOut s 0 = true) →
      ∃ t, exec .monDiagnow s = .next (finish t) ∧ t.rb MON_STAT_DIAGBUSY = true ∧
      ((conv t c).testDue = some true ∨ ∃ x, (conv t c).test = some x ∧ x.full = true)) ∧
    (Quiet s → s.rd MON_DIAGCFG_PER = 0 → exec .monDiagTimer s = .next s) ∧
    (s.rd MON_DIAGCFG_PER ≠ 0 → exec .monDiagTimer s = exec .monDiagnow s) ∧
    (∀ (c : Fin 2) (k : ConvCount),
      (Quiet s → (conv s c).job = none → exec (.monConversionEnd c k) s = .next s ∧ exec (.monStall c) s = .next s) ∧
      (∀ j, (conv s c).job = some j →
        (run = true → j.settle = true → j.kind ≠ .test ∨ (conv s c).test ≠ none → Quiet s → ∃ t,
          exec (.monConversionEnd c k) s = .next t ∧
          t.rd MON_CNT_DISCARD = min (s.rd MON_CNT_DISCARD + 1) 65535 ∧
          (conv t c).job = some { j with settle := false, k := monK s, start := s.now } ∧ t.mon.ins = s.mon.ins) ∧
        (∃ t, exec (.monStall c) s = .next (finish (convGoOn t)) ∧ (conv t c).job = none ∧
          t.rd MON_CNT3_STALL = min (s.rd MON_CNT3_STALL + 1) 65535 ∧ t.evq = s.evq ++ [(ev EV_MON_STALL).at_ 7 c] ∧
          t.mon.ins = s.mon.ins))) ∧
    (∀ (c : Instr) (src : Nat), (c = .monInjGo ∧ src = 0) ∨ (c = .monInjTimer ∧ src = 1) →
      (Quiet s → injSrc s ≠ src ∨ s.rb MON_INJCFG_EN = false ∨ run = false → exec c s = .next s) ∧
      (injSrc s = src → s.rb MON_INJCFG_EN = true → run = true →
        (s.mon.inj ≠ [] → exec c s = .next (finish ((s.bump MON_CNT2_INJOVR).raise (ev EV_MON_INJOVR)))) ∧
        (Quiet s → s.mon.inj = [] → exec c s = .next { s with mon := { s.mon with
          injDue := false
          inj := [s.rd MON_INJSEQ_E0, s.rd MON_INJSEQ_E1, s.rd MON_INJSEQ_E2, s.rd MON_INJSEQ_E3].take
            (1 + s.rd MON_INJCFG_LENM1) } }))) ∧
    (Quiet s → s.mon.inj = [] ∨ s.mon.injDue = true → exec .monInjDue s = .next s) ∧
    (∀ i rest, s.mon.inj = i :: rest → s.mon.injDue = false → run = true → convOut s 0 = false → (conv s 0).job = none →
      (conv s 0).test = none → (conv s 0).testDue = none → s.mon.startUp = false → s.rb MON_INJCFG_PREEMPT = false →
      ∃ t j, exec .monInjDue s = .next (finish t) ∧ (conv t 0).job = some j ∧ j.input = i ∧ j.kind = .injected)

/-- MAINS_TIMEOUT: MAINSOK is 0, edges are forgotten, EV_MON_MAINS is raised where it was 1. MAINS_SYNC_EDGE within 10 µs of one
before is ignored (only its time is kept); with MSYNC 0 it starts the injected sequence where that is its source; with MSYNC 1
the edge is kept with the period from the one before, and MAINSOK is 0 where the period lies outside 16.5 to 22.5 ms.
MON_SYSCAL_ZERO and MON_SYSCAL_FULL while a step is under way change nothing; on an input below 24 the step begins with BUSY, N
conversions wanted (at least 1) and none taken; on another input FULL sets SYSERR. (It is taken that the register file is in
canonical form, which every step keeps: KeptHoldsAcrossEveryStep.) (spec/13_monitoring_converter.md (R324, R329, R337, R338);
spec/17_electrical_package.md (R416)) -/
def Obligations.MainsAndSystemCalibration : Prop :=
  ∀ (s : State), RegsWf s →
    (∃ t, exec .mainsTimeout s = .next (finish t) ∧ t.rb MON_STAT_MAINSOK = false ∧ t.mon.edge = none ∧ t.mon.period = none ∧
      t.mon.okRun = 0 ∧ t.evq = s.evq ++ (if s.rb MON_STAT_MAINSOK then [ev EV_MON_MAINS] else []) ∧
      SameWords s t (fun a => a = MON_STAT_MAINSOK.addr ∨ a = MON_PERIOD_K.addr)) ∧
    (∀ t, s.mon.sync = some t → s.now < t + 10000 → Quiet s →
      exec .mainsSyncEdge s = .next { s with mon := { s.mon with sync := some s.now } }) ∧
    ((∀ t, s.mon.sync = some t → t + 10000 ≤ s.now) → Quiet s → s.rb MON_CFG_MSYNC = false → injSrc s = 4 →
      s.rb MON_INJCFG_EN = true → s.rb MON_CTL_RUN = true → s.mon.inj = [] →
      exec .mainsSyncEdge s = .next { s with mon := { s.mon with
        sync := some s.now, injDue := false
        inj := [s.rd MON_INJSEQ_E0, s.rd MON_INJSEQ_E1, s.rd MON_INJSEQ_E2, s.rd MON_INJSEQ_E3].take
          (1 + s.rd MON_INJCFG_LENM1) } }) ∧
    ((∀ t, s.mon.sync = some t → t + 10000 ≤ s.now) → injSrc s ≠ 4 ∨ s.rb MON_INJCFG_EN = false ∨ s.rb MON_CTL_RUN = false →
      (Quiet s → s.rb MON_CFG_MSYNC = false → exec .mainsSyncEdge s = .next { s with mon := { s.mon with sync := some s.now } }) ∧
      (s.rb MON_CFG_MSYNC = true → ∃ t, exec .mainsSyncEdge s = .next (finish t) ∧ t.mon.edge = some s.now ∧
        t.mon.period = s.mon.edge.map (fun e => (s.now - e) / 100) ∧ t.mon.ins = s.mon.ins ∧
        (s.mon.edge = none → t.rb MON_STAT_MAINSOK = s.rb MON_STAT_MAINSOK ∧ t.evq = s.evq) ∧
        (∀ e, s.mon.edge = some e → (s.now - e) / 100 < 165000 ∨ 225000 < (s.now - e) / 100 →
          t.rb MON_STAT_MAINSOK = false ∧ t.mon.okRun = 0 ∧
          t.evq = s.evq ++ (if s.rb MON_STAT_MAINSOK then [ev EV_MON_MAINS] else [])) ∧
        (∀ e q, s.mon.edge = some e → s.mon.period = some q → 165000 ≤ (s.now - e) / 100 → (s.now - e) / 100 ≤ 225000 →
          100 * (((s.now - e) / 100 : Nat) - (q : Int)).natAbs ≤ q →
          t.mon.okRun = s.mon.okRun + 1 ∧ t.mon.kMains = (s.now - e) / 100 ∧
          t.rb MON_STAT_MAINSOK = (decide (2 ≤ s.mon.okRun) || s.rb MON_STAT_MAINSOK)))) ∧
    (∀ (i : Fin 32) (n : BitVec 16), Quiet s →
      (s.rb MON_STAT_BUSY = true → exec (.monSyscalFull i n) s = .next s ∧ exec (.monSyscalZero i n) s = .next s) ∧
      (s.rb MON_STAT_BUSY = false → ∀ (c : Instr) (full : Bool),
        (c = .monSyscalFull i n ∧ full = true) ∨ (c = .monSyscalZero i n ∧ full = false) → ∃ t, exec c s = .next t ∧
        t.rd MON_SYSCAL_INPUT = i ∧ t.rd MON_SYSCAL_N = n.toNat ∧ t.mon.ins = s.mon.ins ∧
        (i.val < 24 → t.rb MON_STAT_BUSY = true ∧ ∃ q, t.mon.sys = some q ∧ q.input = i ∧
          q.full = full ∧ q.want = max 1 n.toNat ∧ q.cnt = 0 ∧ q.sum = 0) ∧
        (24 ≤ i.val → t.mon = s.mon ∧ t.rb MON_STAT_SYSERR = (full || s.rb MON_STAT_SYSERR))))

/-- UMD_PORT_UP with the link not in use, or of the upper port on the manager, changes nothing; the lower port comes up with
EV_UMD_LINK, a worker's upper port with the next node number, or with EV_UMD_CFG beyond node 15. UMD_PORT_DOWN of a port that is
up: EV_UMD_LINK, and time is lost above, an echo below. UMD_NODE_TIMEOUT of a present node on the manager loses it and every
node beyond; else nothing. UMD_ECHO_TIMER and UMD_KEEPALIVE send an ECHO out of a port that is up and else do nothing (a worker
without a number only awaits a reply). A frame on a port that is down is ignored; one that fails its CRC or has no valid type
counts CRCERR with EV_UMD_CRC. UMD_ECHO from above is answered; the awaited one from below sets H. UMD_TIME on an idle worker
without time sets it; with time, an error of at most 1000 ns is slewed. UMD_TIME_SEND on a manager sends its time base, on a
worker nothing. (It is taken that the register file is in canonical form, which every step keeps: KeptHoldsAcrossEveryStep.)
(spec/14_multi_device_umade.md (R342, R344, R345, R347, R352, R356); spec/03_sensor_timing_lanes.md (R86)) -/
def Obligations.UmadePortsTimeAndEchoes : Prop :=
  ∀ (s : State) (bs : List Byte) (measured : Nat), RegsWf s →
    let up (b : Bool) : Bool := s.rb (if b then UMD_STAT_UPUP else UMD_STAT_DNUP)
    let hears (b : Bool) : Prop := umdOn s = true ∧ up b = true ∧ (s.umd.numbered = true ∨ isManager s = true)
    let echo (b : List Byte) : UmdFrame := ⟨7, umdNode s, false, 0, 0, b⟩
    (∀ (b : Bool) (above : Fin 16),
      (Quiet s → umdOn s = false ∨ (b = true ∧ isManager s = true) → exec (.umdPortUp b above) s = .next s) ∧
      (umdOn s = true → b = false → exec (.umdPortUp b above) s =
        .next (finish ((s.wr UMD_STAT_DNUP 1).raise (ev EV_UMD_LINK)))) ∧
      (umdOn s = true → b = true → isManager s = false → ∃ t, exec (.umdPortUp b above) s = .next (finish t) ∧
        t.rb UMD_STAT_UPUP = true ∧ t.rd UMD_STAT_NODE = (above.val + 1) % 16 ∧ t.umd.numbered = decide (above.val < 15) ∧
        t.evq = s.evq ++ ev EV_UMD_LINK :: (if above.val < 15 then [] else [ev EV_UMD_CFG])) ∧
      (Quiet s → up b = false → exec (.umdPortDown b) s = .next s) ∧
      (up b = true → ∃ t, exec (.umdPortDown b) s = .next (finish t) ∧ ev EV_UMD_LINK ∈ t.evq ∧
        (b = true → t.rb UMD_STAT_UPUP = false ∧ t.rb UMD_STAT_TIMEOK = false) ∧
        (b = false → t.rb UMD_STAT_DNUP = false ∧ t.umd.echo = none ∧
          (isManager s = true → ∀ i : Fin 16, 1 ≤ i.val → nodePresent t i = false)))) ∧
    (∀ node : Fin 16,
      (Quiet s → isManager s = false ∨ nodePresent s node = false → exec (.umdNodeTimeout node) s = .next s) ∧
      (isManager s = true → nodePresent s node = true → ∃ t, exec (.umdNodeTimeout node) s = .next (finish t) ∧
        ∀ i : Fin 16, nodePresent t i = (nodePresent s i && !decide (1 ≤ i.val ∧ node ≤ i)) ∧
          (nodePresent s i = true → 1 ≤ i.val → node ≤ i → (ev EV_UMD_NODE_LOST).at_ 9 i ∈ t.evq))) ∧
    (Quiet s → (umdOn s = false ∨ up false = false →
        exec .umdEchoTimer s = .next s ∧ exec (.umdKeepalive false) s = .next s) ∧
      (∀ c : Instr, c = .umdEchoTimer ∨ c = .umdKeepalive false → up false = true →
        (umdLive s = true → exec c s = .next
          ({ s with umd := { s.umd with echo := some (txCount s) } }.emit (.frame false (echo (leBytes 4 (txCount s))).bytes))) ∧
        (umdOn s = true → umdLive s = false → exec c s = .next { s with umd := { s.umd with echo := some (txCount s) } })) ∧
      (umdLive s = false ∨ up true = false → exec (.umdKeepalive true) s = .next s) ∧
      (umdLive s = true → up true = true →
        exec (.umdKeepalive true) s = .next (s.emit (.frame true (echo (leBytes 4 (txCount s))).bytes)))) ∧
    (∀ (c : Instr) (b : Bool),
      (b = true ∧ (c = .umdTick bs measured ∨ c = .umdTime bs measured ∨ c = .umdCmd bs ∨ c = .umdEcho true bs measured)) ∨
      (b = false ∧ (c = .umdReply bs ∨ c = .umdStatus bs ∨ c = .umdEvent bs ∨ c = .umdEcho false bs measured)) →
      (Quiet s → umdLive s = false ∨ up b = false → exec c s = .next s) ∧
      (hears b → parseFrame bs = none → exec c s = .next (finish ((s.bump UMD_CNT_CRCERR).raise (ev EV_UMD_CRC))))) ∧
    (∀ f, parseFrame bs = some f → f.ty = 7 →
      (Quiet s → hears true → exec (.umdEcho true bs measured) s =
        .next (s.emit (.frame true (echo (f.body.take 4 ++ leBytes 2 measured)).bytes))) ∧
      (Quiet s → hears false → s.umd.echo = some (fieldAt f.body 0 4) → exec (.umdEcho false bs measured) s =
        .next ({ s with umd := { s.umd with echo := none } }.wr UMD_HOP_H ((measured - fieldAt f.body 4 2) / 2)))) ∧
    (∀ f, parseFrame bs = some f → f.ty = 2 → hears true → isManager s = false → ∃ t,
      exec (.umdTime bs measured) s = .next (finish t) ∧
      (let target := fieldAt f.body 0 8 + unitsToNs (f.age + measured)
       let e : Int := (s.timeBase.toNat : Int) - target
       (s.rb UMD_STAT_TIMEOK = false → anyRunning s = false → t.timeBase = BitVec.ofNat 64 (target / 4 * 4) ∧
         t.rb UMD_STAT_TIMEOK = true) ∧
       (s.rb UMD_STAT_TIMEOK = true → e.natAbs ≤ 1000 → t.umd.slew = e ∧ t.timeBase = s.timeBase ∧ t.evq = s.evq) ∧
       (s.rb UMD_STAT_TIMEOK = true → 1000 < e.natAbs → ev EV_UMD_TIME ∈ t.evq))) ∧
    (Quiet s → isManager s = false → exec .umdTimeSend s = .next s) ∧
    (Quiet s → isManager s = true → umdOn s = true → up false = true → ∃ t age, exec .umdTimeSend s = .next t ∧
      t.outbox = s.outbox ++ [.frame false (UmdFrame.bytes ⟨2, 0, true, 0, age, leBytes 8 s.timeBase.toNat⟩)] ∧ t.regs = s.regs)

/-- On a node that hears the port. UMD_TICK on a worker keeps the line as the latest, and where a channel follows it waits for
its age, or counts LATE and is taken at once. UMD_TICK_T0 before the age is reached changes nothing; then the oldest tick is
taken. UMD_CMD on a worker goes on down; one that names no channel of the node ends there, a repeated one is answered with its
reply if it has one, a new one is executed. A frame for this node alone goes no further. UMD_REPLY on a worker goes up; on the
manager an unknown one changes nothing, an accepted PREPARE is counted, a refused LAMP or CAL shows state 3 with its node.
UMD_STATUS on the manager shows the node, with EV_UMD_NODE_UP where it is new; UMD_EVENT on the manager raises
EV_UMD_WORKER_EVT; on workers both go up. UMD_STATUS_SEND on a numbered worker sends its status. UMD_CMD_GO with the link not in
use takes its fields only; refused it shows state 3; a CAL of other nodes is sent and followed. UMD_REPLY_TIMEOUT: sent again up
to three times, then state 4. (It is taken that the register file is in canonical form, which every step keeps:
KeptHoldsAcrossEveryStep.) (spec/14_multi_device_umade.md (R346, R348, R349, R353, R354, R355)) -/
def Obligations.UmadeFramesAndCommands : Prop :=
  ∀ (s : State) (bs : List Byte) (f : UmdFrame) (lag : Nat), RegsWf s →
    let up (b : Bool) : Bool := s.rb (if b then UMD_STAT_UPUP else UMD_STAT_DNUP)
    let gets (b : Bool) (ty : Nat) : Prop := umdOn s = true ∧ up b = true ∧ (s.umd.numbered = true ∨ isManager s = true) ∧
      parseFrame bs = some f ∧ f.ty = ty
    let worker : Prop := isManager s = false
    let manager : Prop := isManager s = true
    let passed : State := s.emit (.frame true f.bytes)
    (gets true 1 → worker → ∃ t, exec (.umdTick bs lag) s = .next (finish t) ∧
      (s.rd UMD_CFG_TICKSRC = 0 → t.umd.latest = some (fieldAt f.body 0 6) ∧ t.umd.ticks = s.umd.ticks) ∧
      (s.rd UMD_CFG_TICKSRC ≠ 0 → f.age + lag + 30 ≤ s.rd UMD_TICKDLY_D →
        t.umd.latest = some (fieldAt f.body 0 6) ∧ ∃ w, t.umd.ticks = s.umd.ticks ++ [w] ∧ w.line = fieldAt f.body 0 6 ∧
        w.due = s.now + unitsToNs (s.rd UMD_TICKDLY_D - (f.age + lag)))) ∧
    (gets true 1 → worker → s.rd UMD_CFG_TICKSRC ≠ 0 → s.rd UMD_TICKDLY_D < f.age + lag + 30 → ∃ t w,
      exec (.umdTick bs lag) s = .next (finish (tickAll t w)) ∧ w.line = fieldAt f.body 0 6 ∧
      t.rd UMD_CNT_LATE = min (s.rd UMD_CNT_LATE + 1) (2 ^ UMD_CNT_LATE.width - 1) ∧
      t.evq = s.evq ++ [(ev EV_UMD_LATE).line_ (fieldAt f.body 0 6)]) ∧
    (Quiet s → s.umd.ticks = [] → exec .umdTickT0 s = .next s) ∧
    (∀ w rest, s.umd.ticks = w :: rest → (Quiet s → s.now < w.due → exec .umdTickT0 s = .next s) ∧
      (w.due ≤ s.now → exec .umdTickT0 s = .next (finish (tickAll { s with umd := { s.umd with ticks := rest } } w)))) ∧
    (gets true 3 → worker →
      let down := if umdMine s f then s else umdSend s false f
      let id := fieldAt f.body 1 1
      let mask := if f.bcast || umdMine s f then nodeMask (fieldAt f.body 8 8) (umdNode s) else 0
      (Quiet s → mask = 0 → exec (.umdCmd bs) s = .next (umdFlush down)) ∧
      (mask ≠ 0 → s.umd.ids.find? (·.1 == id) = none → exec (.umdCmd bs) s = .next (finish
        (cmdRun (idNote down id) id (fieldAt f.body 0 1) (fieldAt f.body 2 6) mask (f.body.drop 16)))) ∧
      (∀ i b, Quiet s → mask ≠ 0 → s.umd.ids.find? (·.1 == id) = some (i, b) → b ≠ [] →
        exec (.umdCmd bs) s = .next (umdFlush (umdSend down true ⟨4, umdNode s, false, 0, 0, b⟩))) ∧
      (∀ i, Quiet s → mask ≠ 0 → s.umd.ids.find? (·.1 == id) = some (i, []) →
        exec (.umdCmd bs) s = .next (umdFlush down))) ∧
    (gets false 4 →
      let id := fieldAt f.body 0 1
      let result := fieldAt f.body 2 1
      let known := s.umd.outs.find? fun o => o.id == id && o.node == f.src
      (Quiet s → worker → up true = true → exec (.umdReply bs) s = .next passed) ∧
      (Quiet s → manager → known = none → exec (.umdReply bs) s = .next s) ∧
      (∀ o, manager → known = some o → ∃ t, exec (.umdReply bs) s = .next (finish t) ∧
        (o.code = 1 → result = 0 → t.umd.outs = s.umd.outs.filter (fun x => !(x.id == id && x.node == f.src)) ∧
          t.umd.sys = s.umd.sys.map fun q => { q with waiting := q.waiting.filter (· != f.src) }) ∧
        (o.code ≠ 1 → result ≠ 0 → s.umd.user = some id → t.rd UMD_CMDCTL_STATE = 3 ∧ t.rd UMD_CMDCTL_NODE = f.src % 16))) ∧
    (gets false 5 → (Quiet s → worker → up true = true → exec (.umdStatus bs) s = .next passed) ∧
      (manager → f.src ≠ 0 → f.src < 16 → ∃ t, exec (.umdStatus bs) s = .next (finish t) ∧ nodePresent t f.src = true ∧
        t.word (UMD_NODE_STAT_PRES f.src).addr = BitVec.ofNat 32 (fieldAt f.body 0 4) &&& 0xFFFF0000 ∧
        t.evq = s.evq ++ (if nodePresent s f.src then [] else [(ev EV_UMD_NODE_UP).at_ 9 f.src]))) ∧
    (gets false 6 → (Quiet s → worker → up true = true → exec (.umdEvent bs) s = .next passed) ∧
      (manager → exec (.umdEvent bs) s = .next (finish (s.raise (((((ev EV_UMD_WORKER_EVT).at_ 9 f.src).line_
        (fieldAt f.body 10 6)).code_ (fieldAt f.body 16 2)).detail_ (fieldAt f.body 0 2 % 1024)))))) ∧
    (Quiet s → (manager ∨ s.umd.numbered = false → exec .umdStatusSend s = .next s) ∧
      (worker → s.umd.numbered = true → umdOn s = true → up true = true → exec .umdStatusSend s = .next (s.emit (.frame true
        (UmdFrame.bytes ⟨5, umdNode s, false, 0, 0, leBytes 4 (statusWord s) ++
          (List.range 4).flatMap fun n => leBytes 1 (jigOf s n)⟩))))) ∧
    (∀ (code : Fin 8) (g : Fin 4),
      let u := (s.wr UMD_CMDCTL_CODE code).wr UMD_CMDCTL_GROUP g
      let mask := s.rd64 UMD_CMDMASK_LO_MASK UMD_CMDMASK_HI_MASK
      let late := s.umd.latest.any fun t => decide (s.rd64 UMD_CMDLINE_LO_LINE UMD_CMDLINE_HI_LINE < t + 64)
      (Quiet s → umdOn s = false → exec (.umdCmdGo code g) s = .next u) ∧
      (umdOn s = true → worker ∨ (code.val ≠ 4 ∧ code.val ≠ 5) ∨ late = true → ∃ t,
        exec (.umdCmdGo code g) s = .next (finish t) ∧ t.rd UMD_CMDCTL_STATE = 3 ∧ t.rd UMD_CMDCTL_NODE = umdNode s ∧
        t.outbox = s.outbox ∧ t.umd.user = none) ∧
      (umdOn s = true → manager → code.val = 5 → late = false → nodeMask mask 0 = 0 → namedNodes mask ≠ [] → ∃ t,
        exec (.umdCmdGo code g) s = .next (finish t) ∧ t.umd.user = some s.umd.nextId ∧ t.rd UMD_CMDCTL_STATE = 1 ∧
        t.umd.nextId = (s.umd.nextId + 1) % 256 ∧ ∀ j ∈ namedNodes mask, ∃ o ∈ t.umd.outs,
          o.id = s.umd.nextId ∧ o.node = j ∧ o.code = 5 ∧ o.tries = 0)) ∧
    (∀ (id : BitVec 8) (node : Fin 16),
      let known := s.umd.outs.find? fun o => o.id == id.toNat && o.node == node.val
      (Quiet s → known = none → exec (.umdReplyTimeout id node) s = .next s) ∧
      (∀ o, known = some o → ∃ t, exec (.umdReplyTimeout id node) s = .next (finish t) ∧
        (o.tries < 3 → umdLive s = true → up false = true →
          t.outbox = s.outbox ∧ t.umd.tx = s.umd.tx ++ [(false, 3, UmdFrame.bytes ⟨3, umdNode s, true, 0, 0, o.body⟩)] ∧
          t.umd.outs = s.umd.outs.map fun x => if x.id = id.toNat ∧ x.node = node.val then { x with tries := x.tries + 1 } else x) ∧
        (3 ≤ o.tries → o.code ≠ 1 → s.umd.user = some id.toNat → t.rd UMD_CMDCTL_STATE = 4 ∧ t.rd UMD_CMDCTL_NODE = node ∧
          t.umd.user = none)))

/-- Each byte enters most significant bit first: the register shifts left and takes 0x1021 where the bit that leaves differs
from the one that comes. Bytes enter one after another, and the check value over "123456789" from 0xFFFF is 0x29B1. LANE_LHDR
starts the lane's CRC from 0xFFFF with payload bytes 1 to 7, and LANE_DATA_BLOCK adds the eight bytes of its block, byte j being
payload bits 8j + 7 to 8j; LANE_LEND with another CRC than the lane's counts CRCERR. (The commands bring payloads as they stand
before scrambling.) (It is taken that the register file is in canonical form, which every step keeps: KeptHoldsAcrossEveryStep.)
(R86) -/
def Obligations.Crc16OfALaneIsThatOfItsBytes : Prop :=
  (∀ (r : BitVec 16) (b : Byte), crc16 r [b] = (List.range 8).foldl
    (fun (r : BitVec 16) i => if r.getMsbD 0 != b.getMsbD i then (r <<< 1) ^^^ 0x1021#16 else r <<< 1) r) ∧
  (∀ (r : BitVec 16) (as bs : List Byte), crc16 r (as ++ bs) = crc16 (crc16 r as) bs) ∧
  crc16 0xFFFF ("123456789".toList.map fun c => BitVec.ofNat 8 c.toNat) = 0x29B1 ∧
  ∀ (s : State) (n : Fin 4) (lane : Fin 26) (p : BitVec 64) (l : LineRec) (r : LaneRx), RegsWf s →
    let u := (s.ch n).sns
    let pay (j : Nat) : Byte := p.extractLsb' (8 * j) 8
    (Quiet s → bits p.toNat 7 0 = 0x78 → bits p.toNat 63 34 = 0 → bits p.toNat 15 13 = 0 →
      rxTarget u (s.ch n).pipe.lines lane true = none → rxTarget u (s.ch n).pipe.lines lane false = some (l, r) →
      bits p.toNat 12 8 = ((l.sched.lanes[r.lane]?).map (·.id)).getD 0 →
      bits p.toNat 31 16 = (l.edge + (u.phys.getD r.lane LanePhy.idle).tagOff) % 65536 →
      ((bits p.toNat 33 32 = 0 ∧ l.sched.width = 10) ∨ (bits p.toNat 33 32 = 1 ∧ l.sched.width = 12)) →
      exec (.laneLhdr n lane p) s = .next (modRx s n l.trig r.lane fun x =>
        { x with started := true, crc := crc16 0xFFFF [pay 1, pay 2, pay 3, pay 4, pay 5, pay 6, pay 7] })) ∧
    (Quiet s → rxTarget u (s.ch n).pipe.lines lane true = some (l, r) →
      exec (.laneDataBlock n lane p) s = .next (modRx s n l.trig r.lane fun x =>
        { x with words := p :: x.words,
                 crc := crc16 x.crc [pay 0, pay 1, pay 2, pay 3, pay 4, pay 5, pay 6, pay 7] })) ∧
    (rxTarget u (s.ch n).pipe.lines lane true = some (l, r) → bits p.toNat 7 0 = 0x87 → bits p.toNat 63 48 = 0 →
      r.words.length = laneBlocks ((l.sched.lanes[r.lane]?).getD { id := 0, runs := [] }) l.sched.width →
      bits p.toNat 47 24 = laneSamples ((l.sched.lanes[r.lane]?).getD { id := 0, runs := [] }) →
      r.framing = false → bits p.toNat 23 8 ≠ r.crc.toNat → ∃ t, exec (.laneLend n lane p) s = .next (finish t) ∧
        t.rd (SNS_LANE_CRCERR n lane) = min (s.rd (SNS_LANE_CRCERR n lane) + 1) (2 ^ (SNS_LANE_CRCERR n lane).width - 1))

/-- The check value over "123456789" is 0xCBF4_3926. The register over a message is the register over its first part carried on
over the rest, and over one byte it is eight shifts to the right that take 0xEDB8_8320, which is 0x04C1_1DB7 with its bits
reflected, where the bit that leaves differs from the data bit, lowest bit first; the result of every message fits in 32 bits.
(spec/02_jigs_boot_job_switch.md (R34)) -/
def Obligations.Crc32ShiftsTheReflectedBits : Prop :=
  crc32 ("123456789".toList.map fun c => BitVec.ofNat 8 c.toNat) = 0xCBF43926 ∧
  (0x04C11DB7#32).reverse = 0xEDB88320#32 ∧
  (∀ bs : List Byte, crc32 bs < 2 ^ 32) ∧
  (∀ (as bs : List Byte), crc32 (as ++ bs) = bs.foldl crc32Byte (crc32 as ^^^ 0xFFFFFFFF) ^^^ 0xFFFFFFFF) ∧
  (∀ (r : BitVec 32) (b : Byte), crc32Byte r.toNat b = ((List.range 8).foldl
    (fun (r : BitVec 32) i => if r.getLsbD 0 != b.getLsbD i then (r >>> 1) ^^^ 0xEDB88320#32 else r >>> 1) r).toNat)
end

