-- ==== Sys2Proof/Laws/Sparse.lean ====
section
/-! SUPPORT. Laws/Sparse.lean: sparse memories keep their canonical form under every operation, a write is read back, and every other
address reads as before. -/

namespace Sys2Proof.Machine

section

variable {β : Type} {d : Nat → β}

theorem sget_nil (a : Nat) : sget d [] a = d a := rfl

theorem sget_unlisted (m : List (Nat × β)) (a : Nat) (h : ∀ p ∈ m, p.1 ≠ a) : sget d m a = d a := by
  induction m with
  | nil => rfl
  | cons p t ih =>
    have h1 : ¬ a = p.1 := fun e => h p (by simp) e.symm
    simp only [sget, if_neg h1]
    exact ih fun q hq => h q (by simp [hq])

/-- A listed entry of a canonical memory is what its address reads. -/
theorem sget_listed {m : List (Nat × β)} (w : SparseWf d m) {p : Nat × β} (h : p ∈ m) : sget d m p.1 = p.2 := by
  induction m with
  | nil => simp at h
  | cons q t ih =>
    obtain ⟨w1, w2⟩ := w
    rw [List.pairwise_cons] at w1
    rcases List.mem_cons.1 h with rfl | h
    · simp [sget]
    · have := w1.1 p h
      have hne : ¬ p.1 = q.1 := by omega
      simp only [sget, if_neg hne]
      exact ih ⟨w1.2, fun x hx => w2 x (by simp [hx])⟩ h

/-- Dropping entries keeps the canonical form. -/
theorem filter_wf {m : List (Nat × β)} (w : SparseWf d m) (k : Nat × β → Bool) : SparseWf d (m.filter k) :=
  ⟨w.1.filter k, fun p hp => w.2 p (List.mem_filter.1 hp).1⟩

/-- After entries are dropped by address, an address reads as before where it was kept, and as unlisted elsewhere. -/
theorem sget_filter (m : List (Nat × β)) (k : Nat → Bool) (a : Nat) :
    sget d (m.filter fun p => k p.1) a = if k a then sget d m a else d a := by
  induction m with
  | nil => simp [sget]
  | cons p t ih =>
    by_cases hp : k p.1
    · rw [List.filter_cons_of_pos (by simpa using hp)]
      simp only [sget]
      by_cases h : a = p.1
      · simp [h, hp]
      · simp only [if_neg h, ih]
    · rw [List.filter_cons_of_neg (by simpa using hp), ih]
      by_cases h : a = p.1
      · simp [h, hp]
      · simp only [sget, if_neg h]


theorem nil_wf : SparseWf d [] := ⟨List.Pairwise.nil, by simp⟩

variable [DecidableEq β]

/-- A write leaves every other address as it was. -/
theorem sget_sput_other (m : List (Nat × β)) {a b : Nat} (v : β) (h : b ≠ a) : sget d (sput d m a v) b = sget d m b := by
  induction m with
  | nil =>
    simp only [sput]
    split <;> simp [sget, h]
  | cons p t ih =>
    simp only [sput]
    split
    · split <;> simp [sget, h]
    · split
      · next h2 =>
        have hb : ¬ b = p.1 := by omega
        split <;> simp [sget, hb]
      · simp only [sget, ih]

/-- A written address reads what was written. -/
theorem sget_sput_same {m : List (Nat × β)} (w : SparseWf d m) (a : Nat) (v : β) : sget d (sput d m a v) a = v := by
  induction m with
  | nil =>
    simp only [sput]
    split
    · next h => simp [sget, h]
    · simp [sget]
  | cons p t ih =>
    obtain ⟨w1, w2⟩ := w
    rw [List.pairwise_cons] at w1
    simp only [sput]
    split
    · next h =>
      split
      · next hv =>
        have hp : ¬ a = p.1 := by omega
        rw [hv]
        exact sget_unlisted _ _ fun q hq => by
          rcases List.mem_cons.1 hq with rfl | hq
          · omega
          · have := w1.1 q hq; omega
      · simp [sget]
    · split
      · next h =>
        split
        · next hv =>
          rw [hv]
          exact sget_unlisted _ _ fun q hq => by have := w1.1 q hq; omega
        · simp [sget, h]
      · next h1 h2 =>
        simp only [sget, if_neg h2]
        exact ih ⟨w1.2, fun x hx => w2 x (by simp [hx])⟩

theorem mem_sput {m : List (Nat × β)} {a : Nat} {v : β} {p : Nat × β} (h : p ∈ sput d m a v) : p ∈ m ∨ (p = (a, v) ∧ v ≠ d a) := by
  induction m with
  | nil =>
    simp only [sput] at h
    split at h
    · simp at h
    · next hv => right; exact ⟨by simpa using h, hv⟩
  | cons q t ih =>
    simp only [sput] at h
    split at h
    · split at h
      · exact .inl h
      · next hv =>
        rcases List.mem_cons.1 h with rfl | h
        · exact .inr ⟨rfl, hv⟩
        · exact .inl h
    · split at h
      · next hq =>
        split at h
        · exact .inl (by simp [h])
        · next hv =>
          rcases List.mem_cons.1 h with rfl | h
          · exact .inr ⟨by rw [hq], by rw [← hq] at *; exact hv⟩
          · exact .inl (by simp [h])
      · rcases List.mem_cons.1 h with rfl | h
        · exact .inl (by simp)
        · rcases ih h with h | h
          · exact .inl (by simp [h])
          · exact .inr h

/-- A write keeps the canonical form. -/
theorem sput_wf {m : List (Nat × β)} (w : SparseWf d m) (a : Nat) (v : β) : SparseWf d (sput d m a v) := by
  obtain ⟨w1, w2⟩ := w
  refine ⟨?_, fun p hp => ?_⟩
  · induction m with
    | nil =>
      simp only [sput]
      split <;> simp
    | cons q t ih =>
      rw [List.pairwise_cons] at w1
      simp only [sput]
      split
      · next h =>
        split
        · rw [List.pairwise_cons]; exact w1
        · rw [List.pairwise_cons, List.pairwise_cons]
          refine ⟨fun x hx => ?_, w1⟩
          rcases List.mem_cons.1 hx with rfl | hx
          · exact h
          · have := w1.1 x hx; simp only; omega
      · split
        · next h =>
          split
          · exact w1.2
          · rw [List.pairwise_cons]
            exact w1
        · rw [List.pairwise_cons]
          refine ⟨fun x hx => ?_, ih w1.2 fun x hx => w2 x (by simp [hx])⟩
          rcases mem_sput hx with hx | ⟨rfl, _⟩
          · exact w1.1 x hx
          · simp only; omega
  · rcases mem_sput hp with h | ⟨rfl, h⟩
    · exact w2 p h
    · exact h

/-- Entries written one after another keep the canonical form. -/
theorem foldl_sput_wf {α : Type} (l : List α) (m : List (Nat × β)) (f : α → Nat) (g : α → β) (w : SparseWf d m) :
    SparseWf d (l.foldl (fun m p => sput d m (f p) (g p)) m) := by
  induction l generalizing m with
  | nil => exact w
  | cons p t ih => exact ih _ (sput_wf w _ _)

/-- Entries written elsewhere leave an address as it was. -/
theorem sget_foldl_sput_other {α : Type} (l : List α) (m : List (Nat × β)) (f : α → Nat) (g : α → β) (a : Nat)
    (h : ∀ p ∈ l, f p ≠ a) : sget d (l.foldl (fun m p => sput d m (f p) (g p)) m) a = sget d m a := by
  induction l generalizing m with
  | nil => rfl
  | cons p t ih =>
    rw [List.foldl_cons, ih _ fun q hq => h q (by simp [hq])]
    exact sget_sput_other _ _ fun e => h p (by simp) e.symm

end

/-! ## Byte memories. -/

theorem writeBytes_wf {m : List (Nat × Byte)} (w : SparseWf zeroByte m) (a : Nat) (bs : List Byte) :
    SparseWf zeroByte (writeBytes m a bs) := by
  induction bs generalizing m a with
  | nil => exact w
  | cons b t ih => exact ih (sput_wf w _ _) _

/-- Bytes outside those written read as before. -/
theorem sget_writeBytes_other (m : List (Nat × Byte)) (a x : Nat) (bs : List Byte) (h : x < a ∨ a + bs.length ≤ x) :
    sget zeroByte (writeBytes m a bs) x = sget zeroByte m x := by
  induction bs generalizing m a with
  | nil => rfl
  | cons b t ih =>
    simp only [List.length_cons] at h
    rw [writeBytes, ih _ _ (by omega)]
    exact sget_sput_other _ _ (by omega)

/-- Bytes written read back. -/
theorem sget_writeBytes_same {m : List (Nat × Byte)} (w : SparseWf zeroByte m) (a i : Nat) (bs : List Byte) (h : i < bs.length) :
    sget zeroByte (writeBytes m a bs) (a + i) = bs[i] := by
  induction bs generalizing m a i with
  | nil => simp at h
  | cons b t ih =>
    rw [writeBytes]
    cases i with
    | zero =>
      rw [sget_writeBytes_other _ _ _ _ (.inl (by omega))]
      exact sget_sput_same w _ _
    | succ i =>
      have := ih (sput_wf w a b) (a + 1) i (by simpa using h)
      rw [show a + (i + 1) = a + 1 + i by omega]
      simpa using this

theorem copyRegion_wf (src : List (Nat × Byte)) {dst : List (Nat × Byte)} (w : SparseWf zeroByte dst) (a b n : Nat) :
    SparseWf zeroByte (copyRegion src dst a b n) :=
  foldl_sput_wf _ _ (fun p : Nat × Byte => p.1 - a + b) (fun p => p.2) (filter_wf w _)

/-- A copy leaves the bytes outside its region as they were. -/
theorem sget_copyRegion_other (src dst : List (Nat × Byte)) (a b n x : Nat) (h : x < b ∨ b + n ≤ x) :
    sget zeroByte (copyRegion src dst a b n) x = sget zeroByte dst x := by
  dsimp only [copyRegion]
  rw [sget_foldl_sput_other _ _ (fun p : Nat × Byte => p.1 - a + b) (fun p => p.2)]
  · rw [sget_filter dst (fun y => decide (y < b ∨ b + n ≤ y)), if_pos (by simpa using h)]
  · intro p hp
    simp only [List.mem_filter, decide_eq_true_eq] at hp
    omega

/-- Flash bytes one after another. -/
theorem flashBytes_add (f : List (Nat × Byte)) (a n m : Nat) :
    flashBytes f a (n + m) = flashBytes f a n ++ flashBytes f (a + n) m := by
  simp [flashBytes, List.range_add, Nat.add_assoc, Function.comp_def]

/-- Flash bytes with nothing listed among them are erased. -/
theorem flashBytes_erased {f : List (Nat × Byte)} {a n : Nat} (h : ∀ p ∈ f, p.1 < a ∨ a + n ≤ p.1) :
    flashBytes f a n = List.replicate n 0xFF := by
  rw [flashBytes, List.eq_replicate_iff]
  refine ⟨by simp, fun b hb => ?_⟩
  obtain ⟨i, hi, rfl⟩ := List.mem_map.1 hb
  rw [sget_unlisted _ _ fun p hp => by have := h p hp; have := List.mem_range.1 hi; omega]
  rfl

/-- A sector of the flash that is erased or programmed keeps its form. -/
theorem foldl_program_wf (bs : List Byte) (m : List (Nat × Byte)) (a : Nat) (w : SparseWf erased m) :
    SparseWf erased (bs.foldl (fun (m : List (Nat × Byte) × Nat) b => (sput erased m.1 m.2 b, m.2 + 1)) (m, a)).1 := by
  induction bs generalizing m a with
  | nil => exact w
  | cons b t ih => exact ih _ _ (sput_wf w _ _)

end Sys2Proof.Machine
end

