-- ==== Sys2Proof/Laws/State.lean ====
section
/-! SUPPORT. Laws/State.lean: what each update of the state leaves as it is, field by field, and what it puts into its own field. -/

namespace Sys2Proof.Machine

theorem Quad.get_set_same {α : Type} (q : Quad α) (n : Nat) (x : α) : (q.set n x).get n = x := by
  match n with
  | 0 => rfl
  | 1 => rfl
  | 2 => rfl
  | _ + 3 => rfl

theorem Quad.get_set_other {α : Type} (q : Quad α) (n m : Fin 4) (x : α) (h : m ≠ n) : (q.set n x).get m = q.get m := by
  match n, m with
  | 0, 0 => exact absurd rfl h
  | 1, 1 => exact absurd rfl h
  | 2, 2 => exact absurd rfl h
  | 3, 3 => exact absurd rfl h
  | 0, 1 | 0, 2 | 0, 3 | 1, 0 | 1, 2 | 1, 3 | 2, 0 | 2, 1 | 2, 3 | 3, 0 | 3, 1 | 3, 2 => rfl

@[simp] theorem State.setWord_pending (s : State) (a : Nat) (w : Word) : (s.setWord a w).pending = s.pending := rfl
@[simp] theorem State.setWord_frozen (s : State) (a : Nat) (w : Word) : (s.setWord a w).frozen = s.frozen := rfl
@[simp] theorem State.setWord_now (s : State) (a : Nat) (w : Word) : (s.setWord a w).now = s.now := rfl
@[simp] theorem State.setWord_timeBase (s : State) (a : Nat) (w : Word) : (s.setWord a w).timeBase = s.timeBase := rfl
@[simp] theorem State.setWord_freeCtr (s : State) (a : Nat) (w : Word) : (s.setWord a w).freeCtr = s.freeCtr := rfl
@[simp] theorem State.setWord_chans (s : State) (a : Nat) (w : Word) : (s.setWord a w).chans = s.chans := rfl
@[simp] theorem State.setWord_drams (s : State) (a : Nat) (w : Word) : (s.setWord a w).drams = s.drams := rfl
@[simp] theorem State.setWord_evq (s : State) (a : Nat) (w : Word) : (s.setWord a w).evq = s.evq := rfl
@[simp] theorem State.setWord_outbox (s : State) (a : Nat) (w : Word) : (s.setWord a w).outbox = s.outbox := rfl
@[simp] theorem State.setWord_runners (s : State) (a : Nat) (w : Word) : (s.setWord a w).runners = s.runners := rfl
@[simp] theorem State.setWord_port (s : State) (a : Nat) (w : Word) : (s.setWord a w).port = s.port := rfl
@[simp] theorem State.setWord_justSet (s : State) (a : Nat) (w : Word) : (s.setWord a w).justSet = s.justSet := rfl
@[simp] theorem State.setWord_switches (s : State) (a : Nat) (w : Word) : (s.setWord a w).switches = s.switches := rfl
@[simp] theorem State.setWord_boot (s : State) (a : Nat) (w : Word) : (s.setWord a w).boot = s.boot := rfl
@[simp] theorem State.setWord_upd (s : State) (a : Nat) (w : Word) : (s.setWord a w).upd = s.upd := rfl
@[simp] theorem State.setWord_flash (s : State) (a : Nat) (w : Word) : (s.setWord a w).flash = s.flash := rfl
@[simp] theorem State.setWord_ldLow (s : State) (a : Nat) (w : Word) : (s.setWord a w).ldLow = s.ldLow := rfl
@[simp] theorem State.setWord_keyHash (s : State) (a : Nat) (w : Word) : (s.setWord a w).keyHash = s.keyHash := rfl
@[simp] theorem State.setWord_evt (s : State) (a : Nat) (w : Word) : (s.setWord a w).evt = s.evt := rfl
@[simp] theorem State.setWord_dma (s : State) (a : Nat) (w : Word) : (s.setWord a w).dma = s.dma := rfl
@[simp] theorem State.setWord_drc (s : State) (a : Nat) (w : Word) : (s.setWord a w).drc = s.drc := rfl
@[simp] theorem State.setWord_mon (s : State) (a : Nat) (w : Word) : (s.setWord a w).mon = s.mon := rfl
@[simp] theorem State.setWord_drv (s : State) (a : Nat) (w : Word) : (s.setWord a w).drv = s.drv := rfl
@[simp] theorem State.setWord_umd (s : State) (a : Nat) (w : Word) : (s.setWord a w).umd = s.umd := rfl

@[simp] theorem State.wr_pending (s : State) (f : Fld) (v : Nat) : (s.wr f v).pending = s.pending := rfl
@[simp] theorem State.wr_frozen (s : State) (f : Fld) (v : Nat) : (s.wr f v).frozen = s.frozen := rfl
@[simp] theorem State.wr_now (s : State) (f : Fld) (v : Nat) : (s.wr f v).now = s.now := rfl
@[simp] theorem State.wr_timeBase (s : State) (f : Fld) (v : Nat) : (s.wr f v).timeBase = s.timeBase := rfl
@[simp] theorem State.wr_freeCtr (s : State) (f : Fld) (v : Nat) : (s.wr f v).freeCtr = s.freeCtr := rfl
@[simp] theorem State.wr_chans (s : State) (f : Fld) (v : Nat) : (s.wr f v).chans = s.chans := rfl
@[simp] theorem State.wr_drams (s : State) (f : Fld) (v : Nat) : (s.wr f v).drams = s.drams := rfl
@[simp] theorem State.wr_evq (s : State) (f : Fld) (v : Nat) : (s.wr f v).evq = s.evq := rfl
@[simp] theorem State.wr_outbox (s : State) (f : Fld) (v : Nat) : (s.wr f v).outbox = s.outbox := rfl
@[simp] theorem State.wr_runners (s : State) (f : Fld) (v : Nat) : (s.wr f v).runners = s.runners := rfl
@[simp] theorem State.wr_port (s : State) (f : Fld) (v : Nat) : (s.wr f v).port = s.port := rfl
@[simp] theorem State.wr_justSet (s : State) (f : Fld) (v : Nat) : (s.wr f v).justSet = s.justSet := rfl
@[simp] theorem State.wr_switches (s : State) (f : Fld) (v : Nat) : (s.wr f v).switches = s.switches := rfl
@[simp] theorem State.wr_boot (s : State) (f : Fld) (v : Nat) : (s.wr f v).boot = s.boot := rfl
@[simp] theorem State.wr_upd (s : State) (f : Fld) (v : Nat) : (s.wr f v).upd = s.upd := rfl
@[simp] theorem State.wr_flash (s : State) (f : Fld) (v : Nat) : (s.wr f v).flash = s.flash := rfl
@[simp] theorem State.wr_ldLow (s : State) (f : Fld) (v : Nat) : (s.wr f v).ldLow = s.ldLow := rfl
@[simp] theorem State.wr_keyHash (s : State) (f : Fld) (v : Nat) : (s.wr f v).keyHash = s.keyHash := rfl
@[simp] theorem State.wr_evt (s : State) (f : Fld) (v : Nat) : (s.wr f v).evt = s.evt := rfl
@[simp] theorem State.wr_dma (s : State) (f : Fld) (v : Nat) : (s.wr f v).dma = s.dma := rfl
@[simp] theorem State.wr_drc (s : State) (f : Fld) (v : Nat) : (s.wr f v).drc = s.drc := rfl
@[simp] theorem State.wr_mon (s : State) (f : Fld) (v : Nat) : (s.wr f v).mon = s.mon := rfl
@[simp] theorem State.wr_drv (s : State) (f : Fld) (v : Nat) : (s.wr f v).drv = s.drv := rfl
@[simp] theorem State.wr_umd (s : State) (f : Fld) (v : Nat) : (s.wr f v).umd = s.umd := rfl

@[simp] theorem State.wb_pending (s : State) (f : Fld) (b : Bool) : (s.wb f b).pending = s.pending := rfl
@[simp] theorem State.wb_frozen (s : State) (f : Fld) (b : Bool) : (s.wb f b).frozen = s.frozen := rfl
@[simp] theorem State.wb_now (s : State) (f : Fld) (b : Bool) : (s.wb f b).now = s.now := rfl
@[simp] theorem State.wb_timeBase (s : State) (f : Fld) (b : Bool) : (s.wb f b).timeBase = s.timeBase := rfl
@[simp] theorem State.wb_freeCtr (s : State) (f : Fld) (b : Bool) : (s.wb f b).freeCtr = s.freeCtr := rfl
@[simp] theorem State.wb_chans (s : State) (f : Fld) (b : Bool) : (s.wb f b).chans = s.chans := rfl
@[simp] theorem State.wb_drams (s : State) (f : Fld) (b : Bool) : (s.wb f b).drams = s.drams := rfl
@[simp] theorem State.wb_evq (s : State) (f : Fld) (b : Bool) : (s.wb f b).evq = s.evq := rfl
@[simp] theorem State.wb_outbox (s : State) (f : Fld) (b : Bool) : (s.wb f b).outbox = s.outbox := rfl
@[simp] theorem State.wb_runners (s : State) (f : Fld) (b : Bool) : (s.wb f b).runners = s.runners := rfl
@[simp] theorem State.wb_port (s : State) (f : Fld) (b : Bool) : (s.wb f b).port = s.port := rfl
@[simp] theorem State.wb_justSet (s : State) (f : Fld) (b : Bool) : (s.wb f b).justSet = s.justSet := rfl
@[simp] theorem State.wb_switches (s : State) (f : Fld) (b : Bool) : (s.wb f b).switches = s.switches := rfl
@[simp] theorem State.wb_boot (s : State) (f : Fld) (b : Bool) : (s.wb f b).boot = s.boot := rfl
@[simp] theorem State.wb_upd (s : State) (f : Fld) (b : Bool) : (s.wb f b).upd = s.upd := rfl
@[simp] theorem State.wb_flash (s : State) (f : Fld) (b : Bool) : (s.wb f b).flash = s.flash := rfl
@[simp] theorem State.wb_ldLow (s : State) (f : Fld) (b : Bool) : (s.wb f b).ldLow = s.ldLow := rfl
@[simp] theorem State.wb_keyHash (s : State) (f : Fld) (b : Bool) : (s.wb f b).keyHash = s.keyHash := rfl
@[simp] theorem State.wb_evt (s : State) (f : Fld) (b : Bool) : (s.wb f b).evt = s.evt := rfl
@[simp] theorem State.wb_dma (s : State) (f : Fld) (b : Bool) : (s.wb f b).dma = s.dma := rfl
@[simp] theorem State.wb_drc (s : State) (f : Fld) (b : Bool) : (s.wb f b).drc = s.drc := rfl
@[simp] theorem State.wb_mon (s : State) (f : Fld) (b : Bool) : (s.wb f b).mon = s.mon := rfl
@[simp] theorem State.wb_drv (s : State) (f : Fld) (b : Bool) : (s.wb f b).drv = s.drv := rfl
@[simp] theorem State.wb_umd (s : State) (f : Fld) (b : Bool) : (s.wb f b).umd = s.umd := rfl

@[simp] theorem State.bump_pending (s : State) (f : Fld) : (s.bump f).pending = s.pending := rfl
@[simp] theorem State.bump_frozen (s : State) (f : Fld) : (s.bump f).frozen = s.frozen := rfl
@[simp] theorem State.bump_now (s : State) (f : Fld) : (s.bump f).now = s.now := rfl
@[simp] theorem State.bump_timeBase (s : State) (f : Fld) : (s.bump f).timeBase = s.timeBase := rfl
@[simp] theorem State.bump_freeCtr (s : State) (f : Fld) : (s.bump f).freeCtr = s.freeCtr := rfl
@[simp] theorem State.bump_chans (s : State) (f : Fld) : (s.bump f).chans = s.chans := rfl
@[simp] theorem State.bump_drams (s : State) (f : Fld) : (s.bump f).drams = s.drams := rfl
@[simp] theorem State.bump_evq (s : State) (f : Fld) : (s.bump f).evq = s.evq := rfl
@[simp] theorem State.bump_outbox (s : State) (f : Fld) : (s.bump f).outbox = s.outbox := rfl
@[simp] theorem State.bump_runners (s : State) (f : Fld) : (s.bump f).runners = s.runners := rfl
@[simp] theorem State.bump_port (s : State) (f : Fld) : (s.bump f).port = s.port := rfl
@[simp] theorem State.bump_justSet (s : State) (f : Fld) : (s.bump f).justSet = s.justSet := rfl
@[simp] theorem State.bump_switches (s : State) (f : Fld) : (s.bump f).switches = s.switches := rfl
@[simp] theorem State.bump_boot (s : State) (f : Fld) : (s.bump f).boot = s.boot := rfl
@[simp] theorem State.bump_upd (s : State) (f : Fld) : (s.bump f).upd = s.upd := rfl
@[simp] theorem State.bump_flash (s : State) (f : Fld) : (s.bump f).flash = s.flash := rfl
@[simp] theorem State.bump_ldLow (s : State) (f : Fld) : (s.bump f).ldLow = s.ldLow := rfl
@[simp] theorem State.bump_keyHash (s : State) (f : Fld) : (s.bump f).keyHash = s.keyHash := rfl
@[simp] theorem State.bump_evt (s : State) (f : Fld) : (s.bump f).evt = s.evt := rfl
@[simp] theorem State.bump_dma (s : State) (f : Fld) : (s.bump f).dma = s.dma := rfl
@[simp] theorem State.bump_drc (s : State) (f : Fld) : (s.bump f).drc = s.drc := rfl
@[simp] theorem State.bump_mon (s : State) (f : Fld) : (s.bump f).mon = s.mon := rfl
@[simp] theorem State.bump_drv (s : State) (f : Fld) : (s.bump f).drv = s.drv := rfl
@[simp] theorem State.bump_umd (s : State) (f : Fld) : (s.bump f).umd = s.umd := rfl

@[simp] theorem State.addSat_pending (s : State) (f : Fld) (k : Nat) : (s.addSat f k).pending = s.pending := rfl
@[simp] theorem State.addSat_frozen (s : State) (f : Fld) (k : Nat) : (s.addSat f k).frozen = s.frozen := rfl
@[simp] theorem State.addSat_now (s : State) (f : Fld) (k : Nat) : (s.addSat f k).now = s.now := rfl
@[simp] theorem State.addSat_timeBase (s : State) (f : Fld) (k : Nat) : (s.addSat f k).timeBase = s.timeBase := rfl
@[simp] theorem State.addSat_freeCtr (s : State) (f : Fld) (k : Nat) : (s.addSat f k).freeCtr = s.freeCtr := rfl
@[simp] theorem State.addSat_chans (s : State) (f : Fld) (k : Nat) : (s.addSat f k).chans = s.chans := rfl
@[simp] theorem State.addSat_drams (s : State) (f : Fld) (k : Nat) : (s.addSat f k).drams = s.drams := rfl
@[simp] theorem State.addSat_evq (s : State) (f : Fld) (k : Nat) : (s.addSat f k).evq = s.evq := rfl
@[simp] theorem State.addSat_outbox (s : State) (f : Fld) (k : Nat) : (s.addSat f k).outbox = s.outbox := rfl
@[simp] theorem State.addSat_runners (s : State) (f : Fld) (k : Nat) : (s.addSat f k).runners = s.runners := rfl
@[simp] theorem State.addSat_port (s : State) (f : Fld) (k : Nat) : (s.addSat f k).port = s.port := rfl
@[simp] theorem State.addSat_justSet (s : State) (f : Fld) (k : Nat) : (s.addSat f k).justSet = s.justSet := rfl
@[simp] theorem State.addSat_switches (s : State) (f : Fld) (k : Nat) : (s.addSat f k).switches = s.switches := rfl
@[simp] theorem State.addSat_boot (s : State) (f : Fld) (k : Nat) : (s.addSat f k).boot = s.boot := rfl
@[simp] theorem State.addSat_upd (s : State) (f : Fld) (k : Nat) : (s.addSat f k).upd = s.upd := rfl
@[simp] theorem State.addSat_flash (s : State) (f : Fld) (k : Nat) : (s.addSat f k).flash = s.flash := rfl
@[simp] theorem State.addSat_ldLow (s : State) (f : Fld) (k : Nat) : (s.addSat f k).ldLow = s.ldLow := rfl
@[simp] theorem State.addSat_keyHash (s : State) (f : Fld) (k : Nat) : (s.addSat f k).keyHash = s.keyHash := rfl
@[simp] theorem State.addSat_evt (s : State) (f : Fld) (k : Nat) : (s.addSat f k).evt = s.evt := rfl
@[simp] theorem State.addSat_dma (s : State) (f : Fld) (k : Nat) : (s.addSat f k).dma = s.dma := rfl
@[simp] theorem State.addSat_drc (s : State) (f : Fld) (k : Nat) : (s.addSat f k).drc = s.drc := rfl
@[simp] theorem State.addSat_mon (s : State) (f : Fld) (k : Nat) : (s.addSat f k).mon = s.mon := rfl
@[simp] theorem State.addSat_drv (s : State) (f : Fld) (k : Nat) : (s.addSat f k).drv = s.drv := rfl
@[simp] theorem State.addSat_umd (s : State) (f : Fld) (k : Nat) : (s.addSat f k).umd = s.umd := rfl

@[simp] theorem State.peak_pending (s : State) (f : Fld) (v : Nat) : (s.peak f v).pending = s.pending := rfl
@[simp] theorem State.peak_frozen (s : State) (f : Fld) (v : Nat) : (s.peak f v).frozen = s.frozen := rfl
@[simp] theorem State.peak_now (s : State) (f : Fld) (v : Nat) : (s.peak f v).now = s.now := rfl
@[simp] theorem State.peak_timeBase (s : State) (f : Fld) (v : Nat) : (s.peak f v).timeBase = s.timeBase := rfl
@[simp] theorem State.peak_freeCtr (s : State) (f : Fld) (v : Nat) : (s.peak f v).freeCtr = s.freeCtr := rfl
@[simp] theorem State.peak_chans (s : State) (f : Fld) (v : Nat) : (s.peak f v).chans = s.chans := rfl
@[simp] theorem State.peak_drams (s : State) (f : Fld) (v : Nat) : (s.peak f v).drams = s.drams := rfl
@[simp] theorem State.peak_evq (s : State) (f : Fld) (v : Nat) : (s.peak f v).evq = s.evq := rfl
@[simp] theorem State.peak_outbox (s : State) (f : Fld) (v : Nat) : (s.peak f v).outbox = s.outbox := rfl
@[simp] theorem State.peak_runners (s : State) (f : Fld) (v : Nat) : (s.peak f v).runners = s.runners := rfl
@[simp] theorem State.peak_port (s : State) (f : Fld) (v : Nat) : (s.peak f v).port = s.port := rfl
@[simp] theorem State.peak_justSet (s : State) (f : Fld) (v : Nat) : (s.peak f v).justSet = s.justSet := rfl
@[simp] theorem State.peak_switches (s : State) (f : Fld) (v : Nat) : (s.peak f v).switches = s.switches := rfl
@[simp] theorem State.peak_boot (s : State) (f : Fld) (v : Nat) : (s.peak f v).boot = s.boot := rfl
@[simp] theorem State.peak_upd (s : State) (f : Fld) (v : Nat) : (s.peak f v).upd = s.upd := rfl
@[simp] theorem State.peak_flash (s : State) (f : Fld) (v : Nat) : (s.peak f v).flash = s.flash := rfl
@[simp] theorem State.peak_ldLow (s : State) (f : Fld) (v : Nat) : (s.peak f v).ldLow = s.ldLow := rfl
@[simp] theorem State.peak_keyHash (s : State) (f : Fld) (v : Nat) : (s.peak f v).keyHash = s.keyHash := rfl
@[simp] theorem State.peak_evt (s : State) (f : Fld) (v : Nat) : (s.peak f v).evt = s.evt := rfl
@[simp] theorem State.peak_dma (s : State) (f : Fld) (v : Nat) : (s.peak f v).dma = s.dma := rfl
@[simp] theorem State.peak_drc (s : State) (f : Fld) (v : Nat) : (s.peak f v).drc = s.drc := rfl
@[simp] theorem State.peak_mon (s : State) (f : Fld) (v : Nat) : (s.peak f v).mon = s.mon := rfl
@[simp] theorem State.peak_drv (s : State) (f : Fld) (v : Nat) : (s.peak f v).drv = s.drv := rfl
@[simp] theorem State.peak_umd (s : State) (f : Fld) (v : Nat) : (s.peak f v).umd = s.umd := rfl

@[simp] theorem State.wr64_pending (s : State) (l h : Fld) (v : Nat) : (s.wr64 l h v).pending = s.pending := rfl
@[simp] theorem State.wr64_frozen (s : State) (l h : Fld) (v : Nat) : (s.wr64 l h v).frozen = s.frozen := rfl
@[simp] theorem State.wr64_now (s : State) (l h : Fld) (v : Nat) : (s.wr64 l h v).now = s.now := rfl
@[simp] theorem State.wr64_timeBase (s : State) (l h : Fld) (v : Nat) : (s.wr64 l h v).timeBase = s.timeBase := rfl
@[simp] theorem State.wr64_freeCtr (s : State) (l h : Fld) (v : Nat) : (s.wr64 l h v).freeCtr = s.freeCtr := rfl
@[simp] theorem State.wr64_chans (s : State) (l h : Fld) (v : Nat) : (s.wr64 l h v).chans = s.chans := rfl
@[simp] theorem State.wr64_drams (s : State) (l h : Fld) (v : Nat) : (s.wr64 l h v).drams = s.drams := rfl
@[simp] theorem State.wr64_evq (s : State) (l h : Fld) (v : Nat) : (s.wr64 l h v).evq = s.evq := rfl
@[simp] theorem State.wr64_outbox (s : State) (l h : Fld) (v : Nat) : (s.wr64 l h v).outbox = s.outbox := rfl
@[simp] theorem State.wr64_runners (s : State) (l h : Fld) (v : Nat) : (s.wr64 l h v).runners = s.runners := rfl
@[simp] theorem State.wr64_port (s : State) (l h : Fld) (v : Nat) : (s.wr64 l h v).port = s.port := rfl
@[simp] theorem State.wr64_justSet (s : State) (l h : Fld) (v : Nat) : (s.wr64 l h v).justSet = s.justSet := rfl
@[simp] theorem State.wr64_switches (s : State) (l h : Fld) (v : Nat) : (s.wr64 l h v).switches = s.switches := rfl
@[simp] theorem State.wr64_boot (s : State) (l h : Fld) (v : Nat) : (s.wr64 l h v).boot = s.boot := rfl
@[simp] theorem State.wr64_upd (s : State) (l h : Fld) (v : Nat) : (s.wr64 l h v).upd = s.upd := rfl
@[simp] theorem State.wr64_flash (s : State) (l h : Fld) (v : Nat) : (s.wr64 l h v).flash = s.flash := rfl
@[simp] theorem State.wr64_ldLow (s : State) (l h : Fld) (v : Nat) : (s.wr64 l h v).ldLow = s.ldLow := rfl
@[simp] theorem State.wr64_keyHash (s : State) (l h : Fld) (v : Nat) : (s.wr64 l h v).keyHash = s.keyHash := rfl
@[simp] theorem State.wr64_evt (s : State) (l h : Fld) (v : Nat) : (s.wr64 l h v).evt = s.evt := rfl
@[simp] theorem State.wr64_dma (s : State) (l h : Fld) (v : Nat) : (s.wr64 l h v).dma = s.dma := rfl
@[simp] theorem State.wr64_drc (s : State) (l h : Fld) (v : Nat) : (s.wr64 l h v).drc = s.drc := rfl
@[simp] theorem State.wr64_mon (s : State) (l h : Fld) (v : Nat) : (s.wr64 l h v).mon = s.mon := rfl
@[simp] theorem State.wr64_drv (s : State) (l h : Fld) (v : Nat) : (s.wr64 l h v).drv = s.drv := rfl
@[simp] theorem State.wr64_umd (s : State) (l h : Fld) (v : Nat) : (s.wr64 l h v).umd = s.umd := rfl

@[simp] theorem State.resetRange_pending (s : State) (a b : Nat) : (s.resetRange a b).pending = s.pending := rfl
@[simp] theorem State.resetRange_frozen (s : State) (a b : Nat) : (s.resetRange a b).frozen = s.frozen := rfl
@[simp] theorem State.resetRange_now (s : State) (a b : Nat) : (s.resetRange a b).now = s.now := rfl
@[simp] theorem State.resetRange_timeBase (s : State) (a b : Nat) : (s.resetRange a b).timeBase = s.timeBase := rfl
@[simp] theorem State.resetRange_freeCtr (s : State) (a b : Nat) : (s.resetRange a b).freeCtr = s.freeCtr := rfl
@[simp] theorem State.resetRange_chans (s : State) (a b : Nat) : (s.resetRange a b).chans = s.chans := rfl
@[simp] theorem State.resetRange_drams (s : State) (a b : Nat) : (s.resetRange a b).drams = s.drams := rfl
@[simp] theorem State.resetRange_evq (s : State) (a b : Nat) : (s.resetRange a b).evq = s.evq := rfl
@[simp] theorem State.resetRange_outbox (s : State) (a b : Nat) : (s.resetRange a b).outbox = s.outbox := rfl
@[simp] theorem State.resetRange_runners (s : State) (a b : Nat) : (s.resetRange a b).runners = s.runners := rfl
@[simp] theorem State.resetRange_port (s : State) (a b : Nat) : (s.resetRange a b).port = s.port := rfl
@[simp] theorem State.resetRange_justSet (s : State) (a b : Nat) : (s.resetRange a b).justSet = s.justSet := rfl
@[simp] theorem State.resetRange_switches (s : State) (a b : Nat) : (s.resetRange a b).switches = s.switches := rfl
@[simp] theorem State.resetRange_boot (s : State) (a b : Nat) : (s.resetRange a b).boot = s.boot := rfl
@[simp] theorem State.resetRange_upd (s : State) (a b : Nat) : (s.resetRange a b).upd = s.upd := rfl
@[simp] theorem State.resetRange_flash (s : State) (a b : Nat) : (s.resetRange a b).flash = s.flash := rfl
@[simp] theorem State.resetRange_ldLow (s : State) (a b : Nat) : (s.resetRange a b).ldLow = s.ldLow := rfl
@[simp] theorem State.resetRange_keyHash (s : State) (a b : Nat) : (s.resetRange a b).keyHash = s.keyHash := rfl
@[simp] theorem State.resetRange_evt (s : State) (a b : Nat) : (s.resetRange a b).evt = s.evt := rfl
@[simp] theorem State.resetRange_dma (s : State) (a b : Nat) : (s.resetRange a b).dma = s.dma := rfl
@[simp] theorem State.resetRange_drc (s : State) (a b : Nat) : (s.resetRange a b).drc = s.drc := rfl
@[simp] theorem State.resetRange_mon (s : State) (a b : Nat) : (s.resetRange a b).mon = s.mon := rfl
@[simp] theorem State.resetRange_drv (s : State) (a b : Nat) : (s.resetRange a b).drv = s.drv := rfl
@[simp] theorem State.resetRange_umd (s : State) (a b : Nat) : (s.resetRange a b).umd = s.umd := rfl

@[simp] theorem State.clearW1c_pending (s : State) (f : Fld) (m : Nat) : (s.clearW1c f m).pending = s.pending := rfl
@[simp] theorem State.clearW1c_frozen (s : State) (f : Fld) (m : Nat) : (s.clearW1c f m).frozen = s.frozen := rfl
@[simp] theorem State.clearW1c_now (s : State) (f : Fld) (m : Nat) : (s.clearW1c f m).now = s.now := rfl
@[simp] theorem State.clearW1c_timeBase (s : State) (f : Fld) (m : Nat) : (s.clearW1c f m).timeBase = s.timeBase := rfl
@[simp] theorem State.clearW1c_freeCtr (s : State) (f : Fld) (m : Nat) : (s.clearW1c f m).freeCtr = s.freeCtr := rfl
@[simp] theorem State.clearW1c_chans (s : State) (f : Fld) (m : Nat) : (s.clearW1c f m).chans = s.chans := rfl
@[simp] theorem State.clearW1c_drams (s : State) (f : Fld) (m : Nat) : (s.clearW1c f m).drams = s.drams := rfl
@[simp] theorem State.clearW1c_evq (s : State) (f : Fld) (m : Nat) : (s.clearW1c f m).evq = s.evq := rfl
@[simp] theorem State.clearW1c_outbox (s : State) (f : Fld) (m : Nat) : (s.clearW1c f m).outbox = s.outbox := rfl
@[simp] theorem State.clearW1c_runners (s : State) (f : Fld) (m : Nat) : (s.clearW1c f m).runners = s.runners := rfl
@[simp] theorem State.clearW1c_port (s : State) (f : Fld) (m : Nat) : (s.clearW1c f m).port = s.port := rfl
@[simp] theorem State.clearW1c_justSet (s : State) (f : Fld) (m : Nat) : (s.clearW1c f m).justSet = s.justSet := rfl
@[simp] theorem State.clearW1c_switches (s : State) (f : Fld) (m : Nat) : (s.clearW1c f m).switches = s.switches := rfl
@[simp] theorem State.clearW1c_boot (s : State) (f : Fld) (m : Nat) : (s.clearW1c f m).boot = s.boot := rfl
@[simp] theorem State.clearW1c_upd (s : State) (f : Fld) (m : Nat) : (s.clearW1c f m).upd = s.upd := rfl
@[simp] theorem State.clearW1c_flash (s : State) (f : Fld) (m : Nat) : (s.clearW1c f m).flash = s.flash := rfl
@[simp] theorem State.clearW1c_ldLow (s : State) (f : Fld) (m : Nat) : (s.clearW1c f m).ldLow = s.ldLow := rfl
@[simp] theorem State.clearW1c_keyHash (s : State) (f : Fld) (m : Nat) : (s.clearW1c f m).keyHash = s.keyHash := rfl
@[simp] theorem State.clearW1c_evt (s : State) (f : Fld) (m : Nat) : (s.clearW1c f m).evt = s.evt := rfl
@[simp] theorem State.clearW1c_dma (s : State) (f : Fld) (m : Nat) : (s.clearW1c f m).dma = s.dma := rfl
@[simp] theorem State.clearW1c_drc (s : State) (f : Fld) (m : Nat) : (s.clearW1c f m).drc = s.drc := rfl
@[simp] theorem State.clearW1c_mon (s : State) (f : Fld) (m : Nat) : (s.clearW1c f m).mon = s.mon := rfl
@[simp] theorem State.clearW1c_drv (s : State) (f : Fld) (m : Nat) : (s.clearW1c f m).drv = s.drv := rfl
@[simp] theorem State.clearW1c_umd (s : State) (f : Fld) (m : Nat) : (s.clearW1c f m).umd = s.umd := rfl

@[simp] theorem State.setW1c_pending (s : State) (f : Fld) (m : Nat) : (s.setW1c f m).pending = s.pending := rfl
@[simp] theorem State.setW1c_frozen (s : State) (f : Fld) (m : Nat) : (s.setW1c f m).frozen = s.frozen := rfl
@[simp] theorem State.setW1c_now (s : State) (f : Fld) (m : Nat) : (s.setW1c f m).now = s.now := rfl
@[simp] theorem State.setW1c_timeBase (s : State) (f : Fld) (m : Nat) : (s.setW1c f m).timeBase = s.timeBase := rfl
@[simp] theorem State.setW1c_freeCtr (s : State) (f : Fld) (m : Nat) : (s.setW1c f m).freeCtr = s.freeCtr := rfl
@[simp] theorem State.setW1c_chans (s : State) (f : Fld) (m : Nat) : (s.setW1c f m).chans = s.chans := rfl
@[simp] theorem State.setW1c_drams (s : State) (f : Fld) (m : Nat) : (s.setW1c f m).drams = s.drams := rfl
@[simp] theorem State.setW1c_evq (s : State) (f : Fld) (m : Nat) : (s.setW1c f m).evq = s.evq := rfl
@[simp] theorem State.setW1c_outbox (s : State) (f : Fld) (m : Nat) : (s.setW1c f m).outbox = s.outbox := rfl
@[simp] theorem State.setW1c_runners (s : State) (f : Fld) (m : Nat) : (s.setW1c f m).runners = s.runners := rfl
@[simp] theorem State.setW1c_port (s : State) (f : Fld) (m : Nat) : (s.setW1c f m).port = s.port := rfl
@[simp] theorem State.setW1c_switches (s : State) (f : Fld) (m : Nat) : (s.setW1c f m).switches = s.switches := rfl
@[simp] theorem State.setW1c_boot (s : State) (f : Fld) (m : Nat) : (s.setW1c f m).boot = s.boot := rfl
@[simp] theorem State.setW1c_upd (s : State) (f : Fld) (m : Nat) : (s.setW1c f m).upd = s.upd := rfl
@[simp] theorem State.setW1c_flash (s : State) (f : Fld) (m : Nat) : (s.setW1c f m).flash = s.flash := rfl
@[simp] theorem State.setW1c_ldLow (s : State) (f : Fld) (m : Nat) : (s.setW1c f m).ldLow = s.ldLow := rfl
@[simp] theorem State.setW1c_keyHash (s : State) (f : Fld) (m : Nat) : (s.setW1c f m).keyHash = s.keyHash := rfl
@[simp] theorem State.setW1c_evt (s : State) (f : Fld) (m : Nat) : (s.setW1c f m).evt = s.evt := rfl
@[simp] theorem State.setW1c_dma (s : State) (f : Fld) (m : Nat) : (s.setW1c f m).dma = s.dma := rfl
@[simp] theorem State.setW1c_drc (s : State) (f : Fld) (m : Nat) : (s.setW1c f m).drc = s.drc := rfl
@[simp] theorem State.setW1c_mon (s : State) (f : Fld) (m : Nat) : (s.setW1c f m).mon = s.mon := rfl
@[simp] theorem State.setW1c_drv (s : State) (f : Fld) (m : Nat) : (s.setW1c f m).drv = s.drv := rfl
@[simp] theorem State.setW1c_umd (s : State) (f : Fld) (m : Nat) : (s.setW1c f m).umd = s.umd := rfl

@[simp] theorem State.setCh_pending (s : State) (n : Nat) (c : Chan) : (s.setCh n c).pending = s.pending := rfl
@[simp] theorem State.setCh_regs (s : State) (n : Nat) (c : Chan) : (s.setCh n c).regs = s.regs := rfl
@[simp] theorem State.setCh_frozen (s : State) (n : Nat) (c : Chan) : (s.setCh n c).frozen = s.frozen := rfl
@[simp] theorem State.setCh_now (s : State) (n : Nat) (c : Chan) : (s.setCh n c).now = s.now := rfl
@[simp] theorem State.setCh_timeBase (s : State) (n : Nat) (c : Chan) : (s.setCh n c).timeBase = s.timeBase := rfl
@[simp] theorem State.setCh_freeCtr (s : State) (n : Nat) (c : Chan) : (s.setCh n c).freeCtr = s.freeCtr := rfl
@[simp] theorem State.setCh_drams (s : State) (n : Nat) (c : Chan) : (s.setCh n c).drams = s.drams := rfl
@[simp] theorem State.setCh_evq (s : State) (n : Nat) (c : Chan) : (s.setCh n c).evq = s.evq := rfl
@[simp] theorem State.setCh_outbox (s : State) (n : Nat) (c : Chan) : (s.setCh n c).outbox = s.outbox := rfl
@[simp] theorem State.setCh_runners (s : State) (n : Nat) (c : Chan) : (s.setCh n c).runners = s.runners := rfl
@[simp] theorem State.setCh_port (s : State) (n : Nat) (c : Chan) : (s.setCh n c).port = s.port := rfl
@[simp] theorem State.setCh_justSet (s : State) (n : Nat) (c : Chan) : (s.setCh n c).justSet = s.justSet := rfl
@[simp] theorem State.setCh_switches (s : State) (n : Nat) (c : Chan) : (s.setCh n c).switches = s.switches := rfl
@[simp] theorem State.setCh_boot (s : State) (n : Nat) (c : Chan) : (s.setCh n c).boot = s.boot := rfl
@[simp] theorem State.setCh_upd (s : State) (n : Nat) (c : Chan) : (s.setCh n c).upd = s.upd := rfl
@[simp] theorem State.setCh_flash (s : State) (n : Nat) (c : Chan) : (s.setCh n c).flash = s.flash := rfl
@[simp] theorem State.setCh_ldLow (s : State) (n : Nat) (c : Chan) : (s.setCh n c).ldLow = s.ldLow := rfl
@[simp] theorem State.setCh_keyHash (s : State) (n : Nat) (c : Chan) : (s.setCh n c).keyHash = s.keyHash := rfl
@[simp] theorem State.setCh_evt (s : State) (n : Nat) (c : Chan) : (s.setCh n c).evt = s.evt := rfl
@[simp] theorem State.setCh_dma (s : State) (n : Nat) (c : Chan) : (s.setCh n c).dma = s.dma := rfl
@[simp] theorem State.setCh_drc (s : State) (n : Nat) (c : Chan) : (s.setCh n c).drc = s.drc := rfl
@[simp] theorem State.setCh_mon (s : State) (n : Nat) (c : Chan) : (s.setCh n c).mon = s.mon := rfl
@[simp] theorem State.setCh_drv (s : State) (n : Nat) (c : Chan) : (s.setCh n c).drv = s.drv := rfl
@[simp] theorem State.setCh_umd (s : State) (n : Nat) (c : Chan) : (s.setCh n c).umd = s.umd := rfl

@[simp] theorem State.modCh_pending (s : State) (n : Nat) (f : Chan → Chan) : (s.modCh n f).pending = s.pending := rfl
@[simp] theorem State.modCh_regs (s : State) (n : Nat) (f : Chan → Chan) : (s.modCh n f).regs = s.regs := rfl
@[simp] theorem State.modCh_frozen (s : State) (n : Nat) (f : Chan → Chan) : (s.modCh n f).frozen = s.frozen := rfl
@[simp] theorem State.modCh_now (s : State) (n : Nat) (f : Chan → Chan) : (s.modCh n f).now = s.now := rfl
@[simp] theorem State.modCh_timeBase (s : State) (n : Nat) (f : Chan → Chan) : (s.modCh n f).timeBase = s.timeBase := rfl
@[simp] theorem State.modCh_freeCtr (s : State) (n : Nat) (f : Chan → Chan) : (s.modCh n f).freeCtr = s.freeCtr := rfl
@[simp] theorem State.modCh_drams (s : State) (n : Nat) (f : Chan → Chan) : (s.modCh n f).drams = s.drams := rfl
@[simp] theorem State.modCh_evq (s : State) (n : Nat) (f : Chan → Chan) : (s.modCh n f).evq = s.evq := rfl
@[simp] theorem State.modCh_outbox (s : State) (n : Nat) (f : Chan → Chan) : (s.modCh n f).outbox = s.outbox := rfl
@[simp] theorem State.modCh_runners (s : State) (n : Nat) (f : Chan → Chan) : (s.modCh n f).runners = s.runners := rfl
@[simp] theorem State.modCh_port (s : State) (n : Nat) (f : Chan → Chan) : (s.modCh n f).port = s.port := rfl
@[simp] theorem State.modCh_justSet (s : State) (n : Nat) (f : Chan → Chan) : (s.modCh n f).justSet = s.justSet := rfl
@[simp] theorem State.modCh_switches (s : State) (n : Nat) (f : Chan → Chan) : (s.modCh n f).switches = s.switches := rfl
@[simp] theorem State.modCh_boot (s : State) (n : Nat) (f : Chan → Chan) : (s.modCh n f).boot = s.boot := rfl
@[simp] theorem State.modCh_upd (s : State) (n : Nat) (f : Chan → Chan) : (s.modCh n f).upd = s.upd := rfl
@[simp] theorem State.modCh_flash (s : State) (n : Nat) (f : Chan → Chan) : (s.modCh n f).flash = s.flash := rfl
@[simp] theorem State.modCh_ldLow (s : State) (n : Nat) (f : Chan → Chan) : (s.modCh n f).ldLow = s.ldLow := rfl
@[simp] theorem State.modCh_keyHash (s : State) (n : Nat) (f : Chan → Chan) : (s.modCh n f).keyHash = s.keyHash := rfl
@[simp] theorem State.modCh_evt (s : State) (n : Nat) (f : Chan → Chan) : (s.modCh n f).evt = s.evt := rfl
@[simp] theorem State.modCh_dma (s : State) (n : Nat) (f : Chan → Chan) : (s.modCh n f).dma = s.dma := rfl
@[simp] theorem State.modCh_drc (s : State) (n : Nat) (f : Chan → Chan) : (s.modCh n f).drc = s.drc := rfl
@[simp] theorem State.modCh_mon (s : State) (n : Nat) (f : Chan → Chan) : (s.modCh n f).mon = s.mon := rfl
@[simp] theorem State.modCh_drv (s : State) (n : Nat) (f : Chan → Chan) : (s.modCh n f).drv = s.drv := rfl
@[simp] theorem State.modCh_umd (s : State) (n : Nat) (f : Chan → Chan) : (s.modCh n f).umd = s.umd := rfl

@[simp] theorem State.modSns_pending (s : State) (n : Nat) (f : SnsSt → SnsSt) : (s.modSns n f).pending = s.pending := rfl
@[simp] theorem State.modSns_regs (s : State) (n : Nat) (f : SnsSt → SnsSt) : (s.modSns n f).regs = s.regs := rfl
@[simp] theorem State.modSns_frozen (s : State) (n : Nat) (f : SnsSt → SnsSt) : (s.modSns n f).frozen = s.frozen := rfl
@[simp] theorem State.modSns_now (s : State) (n : Nat) (f : SnsSt → SnsSt) : (s.modSns n f).now = s.now := rfl
@[simp] theorem State.modSns_timeBase (s : State) (n : Nat) (f : SnsSt → SnsSt) : (s.modSns n f).timeBase = s.timeBase := rfl
@[simp] theorem State.modSns_freeCtr (s : State) (n : Nat) (f : SnsSt → SnsSt) : (s.modSns n f).freeCtr = s.freeCtr := rfl
@[simp] theorem State.modSns_drams (s : State) (n : Nat) (f : SnsSt → SnsSt) : (s.modSns n f).drams = s.drams := rfl
@[simp] theorem State.modSns_evq (s : State) (n : Nat) (f : SnsSt → SnsSt) : (s.modSns n f).evq = s.evq := rfl
@[simp] theorem State.modSns_outbox (s : State) (n : Nat) (f : SnsSt → SnsSt) : (s.modSns n f).outbox = s.outbox := rfl
@[simp] theorem State.modSns_runners (s : State) (n : Nat) (f : SnsSt → SnsSt) : (s.modSns n f).runners = s.runners := rfl
@[simp] theorem State.modSns_port (s : State) (n : Nat) (f : SnsSt → SnsSt) : (s.modSns n f).port = s.port := rfl
@[simp] theorem State.modSns_justSet (s : State) (n : Nat) (f : SnsSt → SnsSt) : (s.modSns n f).justSet = s.justSet := rfl
@[simp] theorem State.modSns_switches (s : State) (n : Nat) (f : SnsSt → SnsSt) : (s.modSns n f).switches = s.switches := rfl
@[simp] theorem State.modSns_boot (s : State) (n : Nat) (f : SnsSt → SnsSt) : (s.modSns n f).boot = s.boot := rfl
@[simp] theorem State.modSns_upd (s : State) (n : Nat) (f : SnsSt → SnsSt) : (s.modSns n f).upd = s.upd := rfl
@[simp] theorem State.modSns_flash (s : State) (n : Nat) (f : SnsSt → SnsSt) : (s.modSns n f).flash = s.flash := rfl
@[simp] theorem State.modSns_ldLow (s : State) (n : Nat) (f : SnsSt → SnsSt) : (s.modSns n f).ldLow = s.ldLow := rfl
@[simp] theorem State.modSns_keyHash (s : State) (n : Nat) (f : SnsSt → SnsSt) : (s.modSns n f).keyHash = s.keyHash := rfl
@[simp] theorem State.modSns_evt (s : State) (n : Nat) (f : SnsSt → SnsSt) : (s.modSns n f).evt = s.evt := rfl
@[simp] theorem State.modSns_dma (s : State) (n : Nat) (f : SnsSt → SnsSt) : (s.modSns n f).dma = s.dma := rfl
@[simp] theorem State.modSns_drc (s : State) (n : Nat) (f : SnsSt → SnsSt) : (s.modSns n f).drc = s.drc := rfl
@[simp] theorem State.modSns_mon (s : State) (n : Nat) (f : SnsSt → SnsSt) : (s.modSns n f).mon = s.mon := rfl
@[simp] theorem State.modSns_drv (s : State) (n : Nat) (f : SnsSt → SnsSt) : (s.modSns n f).drv = s.drv := rfl
@[simp] theorem State.modSns_umd (s : State) (n : Nat) (f : SnsSt → SnsSt) : (s.modSns n f).umd = s.umd := rfl

@[simp] theorem State.modPipe_pending (s : State) (n : Nat) (f : PipeSt → PipeSt) : (s.modPipe n f).pending = s.pending := rfl
@[simp] theorem State.modPipe_regs (s : State) (n : Nat) (f : PipeSt → PipeSt) : (s.modPipe n f).regs = s.regs := rfl
@[simp] theorem State.modPipe_frozen (s : State) (n : Nat) (f : PipeSt → PipeSt) : (s.modPipe n f).frozen = s.frozen := rfl
@[simp] theorem State.modPipe_now (s : State) (n : Nat) (f : PipeSt → PipeSt) : (s.modPipe n f).now = s.now := rfl
@[simp] theorem State.modPipe_timeBase (s : State) (n : Nat) (f : PipeSt → PipeSt) : (s.modPipe n f).timeBase = s.timeBase := rfl
@[simp] theorem State.modPipe_freeCtr (s : State) (n : Nat) (f : PipeSt → PipeSt) : (s.modPipe n f).freeCtr = s.freeCtr := rfl
@[simp] theorem State.modPipe_drams (s : State) (n : Nat) (f : PipeSt → PipeSt) : (s.modPipe n f).drams = s.drams := rfl
@[simp] theorem State.modPipe_evq (s : State) (n : Nat) (f : PipeSt → PipeSt) : (s.modPipe n f).evq = s.evq := rfl
@[simp] theorem State.modPipe_outbox (s : State) (n : Nat) (f : PipeSt → PipeSt) : (s.modPipe n f).outbox = s.outbox := rfl
@[simp] theorem State.modPipe_runners (s : State) (n : Nat) (f : PipeSt → PipeSt) : (s.modPipe n f).runners = s.runners := rfl
@[simp] theorem State.modPipe_port (s : State) (n : Nat) (f : PipeSt → PipeSt) : (s.modPipe n f).port = s.port := rfl
@[simp] theorem State.modPipe_justSet (s : State) (n : Nat) (f : PipeSt → PipeSt) : (s.modPipe n f).justSet = s.justSet := rfl
@[simp] theorem State.modPipe_switches (s : State) (n : Nat) (f : PipeSt → PipeSt) : (s.modPipe n f).switches = s.switches := rfl
@[simp] theorem State.modPipe_boot (s : State) (n : Nat) (f : PipeSt → PipeSt) : (s.modPipe n f).boot = s.boot := rfl
@[simp] theorem State.modPipe_upd (s : State) (n : Nat) (f : PipeSt → PipeSt) : (s.modPipe n f).upd = s.upd := rfl
@[simp] theorem State.modPipe_flash (s : State) (n : Nat) (f : PipeSt → PipeSt) : (s.modPipe n f).flash = s.flash := rfl
@[simp] theorem State.modPipe_ldLow (s : State) (n : Nat) (f : PipeSt → PipeSt) : (s.modPipe n f).ldLow = s.ldLow := rfl
@[simp] theorem State.modPipe_keyHash (s : State) (n : Nat) (f : PipeSt → PipeSt) : (s.modPipe n f).keyHash = s.keyHash := rfl
@[simp] theorem State.modPipe_evt (s : State) (n : Nat) (f : PipeSt → PipeSt) : (s.modPipe n f).evt = s.evt := rfl
@[simp] theorem State.modPipe_dma (s : State) (n : Nat) (f : PipeSt → PipeSt) : (s.modPipe n f).dma = s.dma := rfl
@[simp] theorem State.modPipe_drc (s : State) (n : Nat) (f : PipeSt → PipeSt) : (s.modPipe n f).drc = s.drc := rfl
@[simp] theorem State.modPipe_mon (s : State) (n : Nat) (f : PipeSt → PipeSt) : (s.modPipe n f).mon = s.mon := rfl
@[simp] theorem State.modPipe_drv (s : State) (n : Nat) (f : PipeSt → PipeSt) : (s.modPipe n f).drv = s.drv := rfl
@[simp] theorem State.modPipe_umd (s : State) (n : Nat) (f : PipeSt → PipeSt) : (s.modPipe n f).umd = s.umd := rfl

@[simp] theorem State.modRsmp_pending (s : State) (n : Nat) (f : RsmpSt → RsmpSt) : (s.modRsmp n f).pending = s.pending := rfl
@[simp] theorem State.modRsmp_regs (s : State) (n : Nat) (f : RsmpSt → RsmpSt) : (s.modRsmp n f).regs = s.regs := rfl
@[simp] theorem State.modRsmp_frozen (s : State) (n : Nat) (f : RsmpSt → RsmpSt) : (s.modRsmp n f).frozen = s.frozen := rfl
@[simp] theorem State.modRsmp_now (s : State) (n : Nat) (f : RsmpSt → RsmpSt) : (s.modRsmp n f).now = s.now := rfl
@[simp] theorem State.modRsmp_timeBase (s : State) (n : Nat) (f : RsmpSt → RsmpSt) : (s.modRsmp n f).timeBase = s.timeBase := rfl
@[simp] theorem State.modRsmp_freeCtr (s : State) (n : Nat) (f : RsmpSt → RsmpSt) : (s.modRsmp n f).freeCtr = s.freeCtr := rfl
@[simp] theorem State.modRsmp_drams (s : State) (n : Nat) (f : RsmpSt → RsmpSt) : (s.modRsmp n f).drams = s.drams := rfl
@[simp] theorem State.modRsmp_evq (s : State) (n : Nat) (f : RsmpSt → RsmpSt) : (s.modRsmp n f).evq = s.evq := rfl
@[simp] theorem State.modRsmp_outbox (s : State) (n : Nat) (f : RsmpSt → RsmpSt) : (s.modRsmp n f).outbox = s.outbox := rfl
@[simp] theorem State.modRsmp_runners (s : State) (n : Nat) (f : RsmpSt → RsmpSt) : (s.modRsmp n f).runners = s.runners := rfl
@[simp] theorem State.modRsmp_port (s : State) (n : Nat) (f : RsmpSt → RsmpSt) : (s.modRsmp n f).port = s.port := rfl
@[simp] theorem State.modRsmp_justSet (s : State) (n : Nat) (f : RsmpSt → RsmpSt) : (s.modRsmp n f).justSet = s.justSet := rfl
@[simp] theorem State.modRsmp_switches (s : State) (n : Nat) (f : RsmpSt → RsmpSt) : (s.modRsmp n f).switches = s.switches := rfl
@[simp] theorem State.modRsmp_boot (s : State) (n : Nat) (f : RsmpSt → RsmpSt) : (s.modRsmp n f).boot = s.boot := rfl
@[simp] theorem State.modRsmp_upd (s : State) (n : Nat) (f : RsmpSt → RsmpSt) : (s.modRsmp n f).upd = s.upd := rfl
@[simp] theorem State.modRsmp_flash (s : State) (n : Nat) (f : RsmpSt → RsmpSt) : (s.modRsmp n f).flash = s.flash := rfl
@[simp] theorem State.modRsmp_ldLow (s : State) (n : Nat) (f : RsmpSt → RsmpSt) : (s.modRsmp n f).ldLow = s.ldLow := rfl
@[simp] theorem State.modRsmp_keyHash (s : State) (n : Nat) (f : RsmpSt → RsmpSt) : (s.modRsmp n f).keyHash = s.keyHash := rfl
@[simp] theorem State.modRsmp_evt (s : State) (n : Nat) (f : RsmpSt → RsmpSt) : (s.modRsmp n f).evt = s.evt := rfl
@[simp] theorem State.modRsmp_dma (s : State) (n : Nat) (f : RsmpSt → RsmpSt) : (s.modRsmp n f).dma = s.dma := rfl
@[simp] theorem State.modRsmp_drc (s : State) (n : Nat) (f : RsmpSt → RsmpSt) : (s.modRsmp n f).drc = s.drc := rfl
@[simp] theorem State.modRsmp_mon (s : State) (n : Nat) (f : RsmpSt → RsmpSt) : (s.modRsmp n f).mon = s.mon := rfl
@[simp] theorem State.modRsmp_drv (s : State) (n : Nat) (f : RsmpSt → RsmpSt) : (s.modRsmp n f).drv = s.drv := rfl
@[simp] theorem State.modRsmp_umd (s : State) (n : Nat) (f : RsmpSt → RsmpSt) : (s.modRsmp n f).umd = s.umd := rfl

@[simp] theorem State.modFifo_pending (s : State) (n : Nat) (f : FifoSt → FifoSt) : (s.modFifo n f).pending = s.pending := rfl
@[simp] theorem State.modFifo_regs (s : State) (n : Nat) (f : FifoSt → FifoSt) : (s.modFifo n f).regs = s.regs := rfl
@[simp] theorem State.modFifo_frozen (s : State) (n : Nat) (f : FifoSt → FifoSt) : (s.modFifo n f).frozen = s.frozen := rfl
@[simp] theorem State.modFifo_now (s : State) (n : Nat) (f : FifoSt → FifoSt) : (s.modFifo n f).now = s.now := rfl
@[simp] theorem State.modFifo_timeBase (s : State) (n : Nat) (f : FifoSt → FifoSt) : (s.modFifo n f).timeBase = s.timeBase := rfl
@[simp] theorem State.modFifo_freeCtr (s : State) (n : Nat) (f : FifoSt → FifoSt) : (s.modFifo n f).freeCtr = s.freeCtr := rfl
@[simp] theorem State.modFifo_drams (s : State) (n : Nat) (f : FifoSt → FifoSt) : (s.modFifo n f).drams = s.drams := rfl
@[simp] theorem State.modFifo_evq (s : State) (n : Nat) (f : FifoSt → FifoSt) : (s.modFifo n f).evq = s.evq := rfl
@[simp] theorem State.modFifo_outbox (s : State) (n : Nat) (f : FifoSt → FifoSt) : (s.modFifo n f).outbox = s.outbox := rfl
@[simp] theorem State.modFifo_runners (s : State) (n : Nat) (f : FifoSt → FifoSt) : (s.modFifo n f).runners = s.runners := rfl
@[simp] theorem State.modFifo_port (s : State) (n : Nat) (f : FifoSt → FifoSt) : (s.modFifo n f).port = s.port := rfl
@[simp] theorem State.modFifo_justSet (s : State) (n : Nat) (f : FifoSt → FifoSt) : (s.modFifo n f).justSet = s.justSet := rfl
@[simp] theorem State.modFifo_switches (s : State) (n : Nat) (f : FifoSt → FifoSt) : (s.modFifo n f).switches = s.switches := rfl
@[simp] theorem State.modFifo_boot (s : State) (n : Nat) (f : FifoSt → FifoSt) : (s.modFifo n f).boot = s.boot := rfl
@[simp] theorem State.modFifo_upd (s : State) (n : Nat) (f : FifoSt → FifoSt) : (s.modFifo n f).upd = s.upd := rfl
@[simp] theorem State.modFifo_flash (s : State) (n : Nat) (f : FifoSt → FifoSt) : (s.modFifo n f).flash = s.flash := rfl
@[simp] theorem State.modFifo_ldLow (s : State) (n : Nat) (f : FifoSt → FifoSt) : (s.modFifo n f).ldLow = s.ldLow := rfl
@[simp] theorem State.modFifo_keyHash (s : State) (n : Nat) (f : FifoSt → FifoSt) : (s.modFifo n f).keyHash = s.keyHash := rfl
@[simp] theorem State.modFifo_evt (s : State) (n : Nat) (f : FifoSt → FifoSt) : (s.modFifo n f).evt = s.evt := rfl
@[simp] theorem State.modFifo_dma (s : State) (n : Nat) (f : FifoSt → FifoSt) : (s.modFifo n f).dma = s.dma := rfl
@[simp] theorem State.modFifo_drc (s : State) (n : Nat) (f : FifoSt → FifoSt) : (s.modFifo n f).drc = s.drc := rfl
@[simp] theorem State.modFifo_mon (s : State) (n : Nat) (f : FifoSt → FifoSt) : (s.modFifo n f).mon = s.mon := rfl
@[simp] theorem State.modFifo_drv (s : State) (n : Nat) (f : FifoSt → FifoSt) : (s.modFifo n f).drv = s.drv := rfl
@[simp] theorem State.modFifo_umd (s : State) (n : Nat) (f : FifoSt → FifoSt) : (s.modFifo n f).umd = s.umd := rfl

@[simp] theorem State.modLmp_pending (s : State) (n : Nat) (f : LmpSt → LmpSt) : (s.modLmp n f).pending = s.pending := rfl
@[simp] theorem State.modLmp_regs (s : State) (n : Nat) (f : LmpSt → LmpSt) : (s.modLmp n f).regs = s.regs := rfl
@[simp] theorem State.modLmp_frozen (s : State) (n : Nat) (f : LmpSt → LmpSt) : (s.modLmp n f).frozen = s.frozen := rfl
@[simp] theorem State.modLmp_now (s : State) (n : Nat) (f : LmpSt → LmpSt) : (s.modLmp n f).now = s.now := rfl
@[simp] theorem State.modLmp_timeBase (s : State) (n : Nat) (f : LmpSt → LmpSt) : (s.modLmp n f).timeBase = s.timeBase := rfl
@[simp] theorem State.modLmp_freeCtr (s : State) (n : Nat) (f : LmpSt → LmpSt) : (s.modLmp n f).freeCtr = s.freeCtr := rfl
@[simp] theorem State.modLmp_drams (s : State) (n : Nat) (f : LmpSt → LmpSt) : (s.modLmp n f).drams = s.drams := rfl
@[simp] theorem State.modLmp_evq (s : State) (n : Nat) (f : LmpSt → LmpSt) : (s.modLmp n f).evq = s.evq := rfl
@[simp] theorem State.modLmp_outbox (s : State) (n : Nat) (f : LmpSt → LmpSt) : (s.modLmp n f).outbox = s.outbox := rfl
@[simp] theorem State.modLmp_runners (s : State) (n : Nat) (f : LmpSt → LmpSt) : (s.modLmp n f).runners = s.runners := rfl
@[simp] theorem State.modLmp_port (s : State) (n : Nat) (f : LmpSt → LmpSt) : (s.modLmp n f).port = s.port := rfl
@[simp] theorem State.modLmp_justSet (s : State) (n : Nat) (f : LmpSt → LmpSt) : (s.modLmp n f).justSet = s.justSet := rfl
@[simp] theorem State.modLmp_switches (s : State) (n : Nat) (f : LmpSt → LmpSt) : (s.modLmp n f).switches = s.switches := rfl
@[simp] theorem State.modLmp_boot (s : State) (n : Nat) (f : LmpSt → LmpSt) : (s.modLmp n f).boot = s.boot := rfl
@[simp] theorem State.modLmp_upd (s : State) (n : Nat) (f : LmpSt → LmpSt) : (s.modLmp n f).upd = s.upd := rfl
@[simp] theorem State.modLmp_flash (s : State) (n : Nat) (f : LmpSt → LmpSt) : (s.modLmp n f).flash = s.flash := rfl
@[simp] theorem State.modLmp_ldLow (s : State) (n : Nat) (f : LmpSt → LmpSt) : (s.modLmp n f).ldLow = s.ldLow := rfl
@[simp] theorem State.modLmp_keyHash (s : State) (n : Nat) (f : LmpSt → LmpSt) : (s.modLmp n f).keyHash = s.keyHash := rfl
@[simp] theorem State.modLmp_evt (s : State) (n : Nat) (f : LmpSt → LmpSt) : (s.modLmp n f).evt = s.evt := rfl
@[simp] theorem State.modLmp_dma (s : State) (n : Nat) (f : LmpSt → LmpSt) : (s.modLmp n f).dma = s.dma := rfl
@[simp] theorem State.modLmp_drc (s : State) (n : Nat) (f : LmpSt → LmpSt) : (s.modLmp n f).drc = s.drc := rfl
@[simp] theorem State.modLmp_mon (s : State) (n : Nat) (f : LmpSt → LmpSt) : (s.modLmp n f).mon = s.mon := rfl
@[simp] theorem State.modLmp_drv (s : State) (n : Nat) (f : LmpSt → LmpSt) : (s.modLmp n f).drv = s.drv := rfl
@[simp] theorem State.modLmp_umd (s : State) (n : Nat) (f : LmpSt → LmpSt) : (s.modLmp n f).umd = s.umd := rfl

@[simp] theorem State.modPos_pending (s : State) (n : Nat) (f : PosSt → PosSt) : (s.modPos n f).pending = s.pending := rfl
@[simp] theorem State.modPos_regs (s : State) (n : Nat) (f : PosSt → PosSt) : (s.modPos n f).regs = s.regs := rfl
@[simp] theorem State.modPos_frozen (s : State) (n : Nat) (f : PosSt → PosSt) : (s.modPos n f).frozen = s.frozen := rfl
@[simp] theorem State.modPos_now (s : State) (n : Nat) (f : PosSt → PosSt) : (s.modPos n f).now = s.now := rfl
@[simp] theorem State.modPos_timeBase (s : State) (n : Nat) (f : PosSt → PosSt) : (s.modPos n f).timeBase = s.timeBase := rfl
@[simp] theorem State.modPos_freeCtr (s : State) (n : Nat) (f : PosSt → PosSt) : (s.modPos n f).freeCtr = s.freeCtr := rfl
@[simp] theorem State.modPos_drams (s : State) (n : Nat) (f : PosSt → PosSt) : (s.modPos n f).drams = s.drams := rfl
@[simp] theorem State.modPos_evq (s : State) (n : Nat) (f : PosSt → PosSt) : (s.modPos n f).evq = s.evq := rfl
@[simp] theorem State.modPos_outbox (s : State) (n : Nat) (f : PosSt → PosSt) : (s.modPos n f).outbox = s.outbox := rfl
@[simp] theorem State.modPos_runners (s : State) (n : Nat) (f : PosSt → PosSt) : (s.modPos n f).runners = s.runners := rfl
@[simp] theorem State.modPos_port (s : State) (n : Nat) (f : PosSt → PosSt) : (s.modPos n f).port = s.port := rfl
@[simp] theorem State.modPos_justSet (s : State) (n : Nat) (f : PosSt → PosSt) : (s.modPos n f).justSet = s.justSet := rfl
@[simp] theorem State.modPos_switches (s : State) (n : Nat) (f : PosSt → PosSt) : (s.modPos n f).switches = s.switches := rfl
@[simp] theorem State.modPos_boot (s : State) (n : Nat) (f : PosSt → PosSt) : (s.modPos n f).boot = s.boot := rfl
@[simp] theorem State.modPos_upd (s : State) (n : Nat) (f : PosSt → PosSt) : (s.modPos n f).upd = s.upd := rfl
@[simp] theorem State.modPos_flash (s : State) (n : Nat) (f : PosSt → PosSt) : (s.modPos n f).flash = s.flash := rfl
@[simp] theorem State.modPos_ldLow (s : State) (n : Nat) (f : PosSt → PosSt) : (s.modPos n f).ldLow = s.ldLow := rfl
@[simp] theorem State.modPos_keyHash (s : State) (n : Nat) (f : PosSt → PosSt) : (s.modPos n f).keyHash = s.keyHash := rfl
@[simp] theorem State.modPos_evt (s : State) (n : Nat) (f : PosSt → PosSt) : (s.modPos n f).evt = s.evt := rfl
@[simp] theorem State.modPos_dma (s : State) (n : Nat) (f : PosSt → PosSt) : (s.modPos n f).dma = s.dma := rfl
@[simp] theorem State.modPos_drc (s : State) (n : Nat) (f : PosSt → PosSt) : (s.modPos n f).drc = s.drc := rfl
@[simp] theorem State.modPos_mon (s : State) (n : Nat) (f : PosSt → PosSt) : (s.modPos n f).mon = s.mon := rfl
@[simp] theorem State.modPos_drv (s : State) (n : Nat) (f : PosSt → PosSt) : (s.modPos n f).drv = s.drv := rfl
@[simp] theorem State.modPos_umd (s : State) (n : Nat) (f : PosSt → PosSt) : (s.modPos n f).umd = s.umd := rfl

@[simp] theorem State.modMot_pending (s : State) (n : Nat) (f : MotSt → MotSt) : (s.modMot n f).pending = s.pending := rfl
@[simp] theorem State.modMot_regs (s : State) (n : Nat) (f : MotSt → MotSt) : (s.modMot n f).regs = s.regs := rfl
@[simp] theorem State.modMot_frozen (s : State) (n : Nat) (f : MotSt → MotSt) : (s.modMot n f).frozen = s.frozen := rfl
@[simp] theorem State.modMot_now (s : State) (n : Nat) (f : MotSt → MotSt) : (s.modMot n f).now = s.now := rfl
@[simp] theorem State.modMot_timeBase (s : State) (n : Nat) (f : MotSt → MotSt) : (s.modMot n f).timeBase = s.timeBase := rfl
@[simp] theorem State.modMot_freeCtr (s : State) (n : Nat) (f : MotSt → MotSt) : (s.modMot n f).freeCtr = s.freeCtr := rfl
@[simp] theorem State.modMot_drams (s : State) (n : Nat) (f : MotSt → MotSt) : (s.modMot n f).drams = s.drams := rfl
@[simp] theorem State.modMot_evq (s : State) (n : Nat) (f : MotSt → MotSt) : (s.modMot n f).evq = s.evq := rfl
@[simp] theorem State.modMot_outbox (s : State) (n : Nat) (f : MotSt → MotSt) : (s.modMot n f).outbox = s.outbox := rfl
@[simp] theorem State.modMot_runners (s : State) (n : Nat) (f : MotSt → MotSt) : (s.modMot n f).runners = s.runners := rfl
@[simp] theorem State.modMot_port (s : State) (n : Nat) (f : MotSt → MotSt) : (s.modMot n f).port = s.port := rfl
@[simp] theorem State.modMot_justSet (s : State) (n : Nat) (f : MotSt → MotSt) : (s.modMot n f).justSet = s.justSet := rfl
@[simp] theorem State.modMot_switches (s : State) (n : Nat) (f : MotSt → MotSt) : (s.modMot n f).switches = s.switches := rfl
@[simp] theorem State.modMot_boot (s : State) (n : Nat) (f : MotSt → MotSt) : (s.modMot n f).boot = s.boot := rfl
@[simp] theorem State.modMot_upd (s : State) (n : Nat) (f : MotSt → MotSt) : (s.modMot n f).upd = s.upd := rfl
@[simp] theorem State.modMot_flash (s : State) (n : Nat) (f : MotSt → MotSt) : (s.modMot n f).flash = s.flash := rfl
@[simp] theorem State.modMot_ldLow (s : State) (n : Nat) (f : MotSt → MotSt) : (s.modMot n f).ldLow = s.ldLow := rfl
@[simp] theorem State.modMot_keyHash (s : State) (n : Nat) (f : MotSt → MotSt) : (s.modMot n f).keyHash = s.keyHash := rfl
@[simp] theorem State.modMot_evt (s : State) (n : Nat) (f : MotSt → MotSt) : (s.modMot n f).evt = s.evt := rfl
@[simp] theorem State.modMot_dma (s : State) (n : Nat) (f : MotSt → MotSt) : (s.modMot n f).dma = s.dma := rfl
@[simp] theorem State.modMot_drc (s : State) (n : Nat) (f : MotSt → MotSt) : (s.modMot n f).drc = s.drc := rfl
@[simp] theorem State.modMot_mon (s : State) (n : Nat) (f : MotSt → MotSt) : (s.modMot n f).mon = s.mon := rfl
@[simp] theorem State.modMot_drv (s : State) (n : Nat) (f : MotSt → MotSt) : (s.modMot n f).drv = s.drv := rfl
@[simp] theorem State.modMot_umd (s : State) (n : Nat) (f : MotSt → MotSt) : (s.modMot n f).umd = s.umd := rfl

@[simp] theorem State.modCal_pending (s : State) (n : Nat) (f : CalSt → CalSt) : (s.modCal n f).pending = s.pending := rfl
@[simp] theorem State.modCal_regs (s : State) (n : Nat) (f : CalSt → CalSt) : (s.modCal n f).regs = s.regs := rfl
@[simp] theorem State.modCal_frozen (s : State) (n : Nat) (f : CalSt → CalSt) : (s.modCal n f).frozen = s.frozen := rfl
@[simp] theorem State.modCal_now (s : State) (n : Nat) (f : CalSt → CalSt) : (s.modCal n f).now = s.now := rfl
@[simp] theorem State.modCal_timeBase (s : State) (n : Nat) (f : CalSt → CalSt) : (s.modCal n f).timeBase = s.timeBase := rfl
@[simp] theorem State.modCal_freeCtr (s : State) (n : Nat) (f : CalSt → CalSt) : (s.modCal n f).freeCtr = s.freeCtr := rfl
@[simp] theorem State.modCal_drams (s : State) (n : Nat) (f : CalSt → CalSt) : (s.modCal n f).drams = s.drams := rfl
@[simp] theorem State.modCal_evq (s : State) (n : Nat) (f : CalSt → CalSt) : (s.modCal n f).evq = s.evq := rfl
@[simp] theorem State.modCal_outbox (s : State) (n : Nat) (f : CalSt → CalSt) : (s.modCal n f).outbox = s.outbox := rfl
@[simp] theorem State.modCal_runners (s : State) (n : Nat) (f : CalSt → CalSt) : (s.modCal n f).runners = s.runners := rfl
@[simp] theorem State.modCal_port (s : State) (n : Nat) (f : CalSt → CalSt) : (s.modCal n f).port = s.port := rfl
@[simp] theorem State.modCal_justSet (s : State) (n : Nat) (f : CalSt → CalSt) : (s.modCal n f).justSet = s.justSet := rfl
@[simp] theorem State.modCal_switches (s : State) (n : Nat) (f : CalSt → CalSt) : (s.modCal n f).switches = s.switches := rfl
@[simp] theorem State.modCal_boot (s : State) (n : Nat) (f : CalSt → CalSt) : (s.modCal n f).boot = s.boot := rfl
@[simp] theorem State.modCal_upd (s : State) (n : Nat) (f : CalSt → CalSt) : (s.modCal n f).upd = s.upd := rfl
@[simp] theorem State.modCal_flash (s : State) (n : Nat) (f : CalSt → CalSt) : (s.modCal n f).flash = s.flash := rfl
@[simp] theorem State.modCal_ldLow (s : State) (n : Nat) (f : CalSt → CalSt) : (s.modCal n f).ldLow = s.ldLow := rfl
@[simp] theorem State.modCal_keyHash (s : State) (n : Nat) (f : CalSt → CalSt) : (s.modCal n f).keyHash = s.keyHash := rfl
@[simp] theorem State.modCal_evt (s : State) (n : Nat) (f : CalSt → CalSt) : (s.modCal n f).evt = s.evt := rfl
@[simp] theorem State.modCal_dma (s : State) (n : Nat) (f : CalSt → CalSt) : (s.modCal n f).dma = s.dma := rfl
@[simp] theorem State.modCal_drc (s : State) (n : Nat) (f : CalSt → CalSt) : (s.modCal n f).drc = s.drc := rfl
@[simp] theorem State.modCal_mon (s : State) (n : Nat) (f : CalSt → CalSt) : (s.modCal n f).mon = s.mon := rfl
@[simp] theorem State.modCal_drv (s : State) (n : Nat) (f : CalSt → CalSt) : (s.modCal n f).drv = s.drv := rfl
@[simp] theorem State.modCal_umd (s : State) (n : Nat) (f : CalSt → CalSt) : (s.modCal n f).umd = s.umd := rfl

@[simp] theorem State.modDram_pending (s : State) (k : Nat) (f : List (Nat × Byte) → List (Nat × Byte)) : (s.modDram k f).pending = s.pending := rfl
@[simp] theorem State.modDram_regs (s : State) (k : Nat) (f : List (Nat × Byte) → List (Nat × Byte)) : (s.modDram k f).regs = s.regs := rfl
@[simp] theorem State.modDram_frozen (s : State) (k : Nat) (f : List (Nat × Byte) → List (Nat × Byte)) : (s.modDram k f).frozen = s.frozen := rfl
@[simp] theorem State.modDram_now (s : State) (k : Nat) (f : List (Nat × Byte) → List (Nat × Byte)) : (s.modDram k f).now = s.now := rfl
@[simp] theorem State.modDram_timeBase (s : State) (k : Nat) (f : List (Nat × Byte) → List (Nat × Byte)) : (s.modDram k f).timeBase = s.timeBase := rfl
@[simp] theorem State.modDram_freeCtr (s : State) (k : Nat) (f : List (Nat × Byte) → List (Nat × Byte)) : (s.modDram k f).freeCtr = s.freeCtr := rfl
@[simp] theorem State.modDram_chans (s : State) (k : Nat) (f : List (Nat × Byte) → List (Nat × Byte)) : (s.modDram k f).chans = s.chans := rfl
@[simp] theorem State.modDram_evq (s : State) (k : Nat) (f : List (Nat × Byte) → List (Nat × Byte)) : (s.modDram k f).evq = s.evq := rfl
@[simp] theorem State.modDram_outbox (s : State) (k : Nat) (f : List (Nat × Byte) → List (Nat × Byte)) : (s.modDram k f).outbox = s.outbox := rfl
@[simp] theorem State.modDram_runners (s : State) (k : Nat) (f : List (Nat × Byte) → List (Nat × Byte)) : (s.modDram k f).runners = s.runners := rfl
@[simp] theorem State.modDram_port (s : State) (k : Nat) (f : List (Nat × Byte) → List (Nat × Byte)) : (s.modDram k f).port = s.port := rfl
@[simp] theorem State.modDram_justSet (s : State) (k : Nat) (f : List (Nat × Byte) → List (Nat × Byte)) : (s.modDram k f).justSet = s.justSet := rfl
@[simp] theorem State.modDram_switches (s : State) (k : Nat) (f : List (Nat × Byte) → List (Nat × Byte)) : (s.modDram k f).switches = s.switches := rfl
@[simp] theorem State.modDram_boot (s : State) (k : Nat) (f : List (Nat × Byte) → List (Nat × Byte)) : (s.modDram k f).boot = s.boot := rfl
@[simp] theorem State.modDram_upd (s : State) (k : Nat) (f : List (Nat × Byte) → List (Nat × Byte)) : (s.modDram k f).upd = s.upd := rfl
@[simp] theorem State.modDram_flash (s : State) (k : Nat) (f : List (Nat × Byte) → List (Nat × Byte)) : (s.modDram k f).flash = s.flash := rfl
@[simp] theorem State.modDram_ldLow (s : State) (k : Nat) (f : List (Nat × Byte) → List (Nat × Byte)) : (s.modDram k f).ldLow = s.ldLow := rfl
@[simp] theorem State.modDram_keyHash (s : State) (k : Nat) (f : List (Nat × Byte) → List (Nat × Byte)) : (s.modDram k f).keyHash = s.keyHash := rfl
@[simp] theorem State.modDram_evt (s : State) (k : Nat) (f : List (Nat × Byte) → List (Nat × Byte)) : (s.modDram k f).evt = s.evt := rfl
@[simp] theorem State.modDram_dma (s : State) (k : Nat) (f : List (Nat × Byte) → List (Nat × Byte)) : (s.modDram k f).dma = s.dma := rfl
@[simp] theorem State.modDram_drc (s : State) (k : Nat) (f : List (Nat × Byte) → List (Nat × Byte)) : (s.modDram k f).drc = s.drc := rfl
@[simp] theorem State.modDram_mon (s : State) (k : Nat) (f : List (Nat × Byte) → List (Nat × Byte)) : (s.modDram k f).mon = s.mon := rfl
@[simp] theorem State.modDram_drv (s : State) (k : Nat) (f : List (Nat × Byte) → List (Nat × Byte)) : (s.modDram k f).drv = s.drv := rfl
@[simp] theorem State.modDram_umd (s : State) (k : Nat) (f : List (Nat × Byte) → List (Nat × Byte)) : (s.modDram k f).umd = s.umd := rfl

@[simp] theorem State.raise_pending (s : State) (r : Raise) : (s.raise r).pending = s.pending := rfl
@[simp] theorem State.raise_regs (s : State) (r : Raise) : (s.raise r).regs = s.regs := rfl
@[simp] theorem State.raise_frozen (s : State) (r : Raise) : (s.raise r).frozen = s.frozen := rfl
@[simp] theorem State.raise_now (s : State) (r : Raise) : (s.raise r).now = s.now := rfl
@[simp] theorem State.raise_timeBase (s : State) (r : Raise) : (s.raise r).timeBase = s.timeBase := rfl
@[simp] theorem State.raise_freeCtr (s : State) (r : Raise) : (s.raise r).freeCtr = s.freeCtr := rfl
@[simp] theorem State.raise_chans (s : State) (r : Raise) : (s.raise r).chans = s.chans := rfl
@[simp] theorem State.raise_drams (s : State) (r : Raise) : (s.raise r).drams = s.drams := rfl
@[simp] theorem State.raise_outbox (s : State) (r : Raise) : (s.raise r).outbox = s.outbox := rfl
@[simp] theorem State.raise_runners (s : State) (r : Raise) : (s.raise r).runners = s.runners := rfl
@[simp] theorem State.raise_port (s : State) (r : Raise) : (s.raise r).port = s.port := rfl
@[simp] theorem State.raise_justSet (s : State) (r : Raise) : (s.raise r).justSet = s.justSet := rfl
@[simp] theorem State.raise_switches (s : State) (r : Raise) : (s.raise r).switches = s.switches := rfl
@[simp] theorem State.raise_boot (s : State) (r : Raise) : (s.raise r).boot = s.boot := rfl
@[simp] theorem State.raise_upd (s : State) (r : Raise) : (s.raise r).upd = s.upd := rfl
@[simp] theorem State.raise_flash (s : State) (r : Raise) : (s.raise r).flash = s.flash := rfl
@[simp] theorem State.raise_ldLow (s : State) (r : Raise) : (s.raise r).ldLow = s.ldLow := rfl
@[simp] theorem State.raise_keyHash (s : State) (r : Raise) : (s.raise r).keyHash = s.keyHash := rfl
@[simp] theorem State.raise_evt (s : State) (r : Raise) : (s.raise r).evt = s.evt := rfl
@[simp] theorem State.raise_dma (s : State) (r : Raise) : (s.raise r).dma = s.dma := rfl
@[simp] theorem State.raise_drc (s : State) (r : Raise) : (s.raise r).drc = s.drc := rfl
@[simp] theorem State.raise_mon (s : State) (r : Raise) : (s.raise r).mon = s.mon := rfl
@[simp] theorem State.raise_drv (s : State) (r : Raise) : (s.raise r).drv = s.drv := rfl
@[simp] theorem State.raise_umd (s : State) (r : Raise) : (s.raise r).umd = s.umd := rfl

@[simp] theorem State.emit_pending (s : State) (o : Out) : (s.emit o).pending = s.pending := rfl
@[simp] theorem State.emit_regs (s : State) (o : Out) : (s.emit o).regs = s.regs := rfl
@[simp] theorem State.emit_frozen (s : State) (o : Out) : (s.emit o).frozen = s.frozen := rfl
@[simp] theorem State.emit_now (s : State) (o : Out) : (s.emit o).now = s.now := rfl
@[simp] theorem State.emit_timeBase (s : State) (o : Out) : (s.emit o).timeBase = s.timeBase := rfl
@[simp] theorem State.emit_freeCtr (s : State) (o : Out) : (s.emit o).freeCtr = s.freeCtr := rfl
@[simp] theorem State.emit_chans (s : State) (o : Out) : (s.emit o).chans = s.chans := rfl
@[simp] theorem State.emit_drams (s : State) (o : Out) : (s.emit o).drams = s.drams := rfl
@[simp] theorem State.emit_evq (s : State) (o : Out) : (s.emit o).evq = s.evq := rfl
@[simp] theorem State.emit_runners (s : State) (o : Out) : (s.emit o).runners = s.runners := rfl
@[simp] theorem State.emit_port (s : State) (o : Out) : (s.emit o).port = s.port := rfl
@[simp] theorem State.emit_justSet (s : State) (o : Out) : (s.emit o).justSet = s.justSet := rfl
@[simp] theorem State.emit_switches (s : State) (o : Out) : (s.emit o).switches = s.switches := rfl
@[simp] theorem State.emit_boot (s : State) (o : Out) : (s.emit o).boot = s.boot := rfl
@[simp] theorem State.emit_upd (s : State) (o : Out) : (s.emit o).upd = s.upd := rfl
@[simp] theorem State.emit_flash (s : State) (o : Out) : (s.emit o).flash = s.flash := rfl
@[simp] theorem State.emit_ldLow (s : State) (o : Out) : (s.emit o).ldLow = s.ldLow := rfl
@[simp] theorem State.emit_keyHash (s : State) (o : Out) : (s.emit o).keyHash = s.keyHash := rfl
@[simp] theorem State.emit_evt (s : State) (o : Out) : (s.emit o).evt = s.evt := rfl
@[simp] theorem State.emit_dma (s : State) (o : Out) : (s.emit o).dma = s.dma := rfl
@[simp] theorem State.emit_drc (s : State) (o : Out) : (s.emit o).drc = s.drc := rfl
@[simp] theorem State.emit_mon (s : State) (o : Out) : (s.emit o).mon = s.mon := rfl
@[simp] theorem State.emit_drv (s : State) (o : Out) : (s.emit o).drv = s.drv := rfl
@[simp] theorem State.emit_umd (s : State) (o : Out) : (s.emit o).umd = s.umd := rfl

@[simp] theorem State.modBoot_pending (s : State) (f : BootSt → BootSt) : (s.modBoot f).pending = s.pending := rfl
@[simp] theorem State.modBoot_regs (s : State) (f : BootSt → BootSt) : (s.modBoot f).regs = s.regs := rfl
@[simp] theorem State.modBoot_frozen (s : State) (f : BootSt → BootSt) : (s.modBoot f).frozen = s.frozen := rfl
@[simp] theorem State.modBoot_now (s : State) (f : BootSt → BootSt) : (s.modBoot f).now = s.now := rfl
@[simp] theorem State.modBoot_timeBase (s : State) (f : BootSt → BootSt) : (s.modBoot f).timeBase = s.timeBase := rfl
@[simp] theorem State.modBoot_freeCtr (s : State) (f : BootSt → BootSt) : (s.modBoot f).freeCtr = s.freeCtr := rfl
@[simp] theorem State.modBoot_chans (s : State) (f : BootSt → BootSt) : (s.modBoot f).chans = s.chans := rfl
@[simp] theorem State.modBoot_drams (s : State) (f : BootSt → BootSt) : (s.modBoot f).drams = s.drams := rfl
@[simp] theorem State.modBoot_evq (s : State) (f : BootSt → BootSt) : (s.modBoot f).evq = s.evq := rfl
@[simp] theorem State.modBoot_outbox (s : State) (f : BootSt → BootSt) : (s.modBoot f).outbox = s.outbox := rfl
@[simp] theorem State.modBoot_runners (s : State) (f : BootSt → BootSt) : (s.modBoot f).runners = s.runners := rfl
@[simp] theorem State.modBoot_port (s : State) (f : BootSt → BootSt) : (s.modBoot f).port = s.port := rfl
@[simp] theorem State.modBoot_justSet (s : State) (f : BootSt → BootSt) : (s.modBoot f).justSet = s.justSet := rfl
@[simp] theorem State.modBoot_switches (s : State) (f : BootSt → BootSt) : (s.modBoot f).switches = s.switches := rfl
@[simp] theorem State.modBoot_upd (s : State) (f : BootSt → BootSt) : (s.modBoot f).upd = s.upd := rfl
@[simp] theorem State.modBoot_flash (s : State) (f : BootSt → BootSt) : (s.modBoot f).flash = s.flash := rfl
@[simp] theorem State.modBoot_ldLow (s : State) (f : BootSt → BootSt) : (s.modBoot f).ldLow = s.ldLow := rfl
@[simp] theorem State.modBoot_keyHash (s : State) (f : BootSt → BootSt) : (s.modBoot f).keyHash = s.keyHash := rfl
@[simp] theorem State.modBoot_evt (s : State) (f : BootSt → BootSt) : (s.modBoot f).evt = s.evt := rfl
@[simp] theorem State.modBoot_dma (s : State) (f : BootSt → BootSt) : (s.modBoot f).dma = s.dma := rfl
@[simp] theorem State.modBoot_drc (s : State) (f : BootSt → BootSt) : (s.modBoot f).drc = s.drc := rfl
@[simp] theorem State.modBoot_mon (s : State) (f : BootSt → BootSt) : (s.modBoot f).mon = s.mon := rfl
@[simp] theorem State.modBoot_drv (s : State) (f : BootSt → BootSt) : (s.modBoot f).drv = s.drv := rfl
@[simp] theorem State.modBoot_umd (s : State) (f : BootSt → BootSt) : (s.modBoot f).umd = s.umd := rfl

@[simp] theorem State.modUpd_pending (s : State) (f : UpdSt → UpdSt) : (s.modUpd f).pending = s.pending := rfl
@[simp] theorem State.modUpd_regs (s : State) (f : UpdSt → UpdSt) : (s.modUpd f).regs = s.regs := rfl
@[simp] theorem State.modUpd_frozen (s : State) (f : UpdSt → UpdSt) : (s.modUpd f).frozen = s.frozen := rfl
@[simp] theorem State.modUpd_now (s : State) (f : UpdSt → UpdSt) : (s.modUpd f).now = s.now := rfl
@[simp] theorem State.modUpd_timeBase (s : State) (f : UpdSt → UpdSt) : (s.modUpd f).timeBase = s.timeBase := rfl
@[simp] theorem State.modUpd_freeCtr (s : State) (f : UpdSt → UpdSt) : (s.modUpd f).freeCtr = s.freeCtr := rfl
@[simp] theorem State.modUpd_chans (s : State) (f : UpdSt → UpdSt) : (s.modUpd f).chans = s.chans := rfl
@[simp] theorem State.modUpd_drams (s : State) (f : UpdSt → UpdSt) : (s.modUpd f).drams = s.drams := rfl
@[simp] theorem State.modUpd_evq (s : State) (f : UpdSt → UpdSt) : (s.modUpd f).evq = s.evq := rfl
@[simp] theorem State.modUpd_outbox (s : State) (f : UpdSt → UpdSt) : (s.modUpd f).outbox = s.outbox := rfl
@[simp] theorem State.modUpd_runners (s : State) (f : UpdSt → UpdSt) : (s.modUpd f).runners = s.runners := rfl
@[simp] theorem State.modUpd_port (s : State) (f : UpdSt → UpdSt) : (s.modUpd f).port = s.port := rfl
@[simp] theorem State.modUpd_justSet (s : State) (f : UpdSt → UpdSt) : (s.modUpd f).justSet = s.justSet := rfl
@[simp] theorem State.modUpd_switches (s : State) (f : UpdSt → UpdSt) : (s.modUpd f).switches = s.switches := rfl
@[simp] theorem State.modUpd_boot (s : State) (f : UpdSt → UpdSt) : (s.modUpd f).boot = s.boot := rfl
@[simp] theorem State.modUpd_flash (s : State) (f : UpdSt → UpdSt) : (s.modUpd f).flash = s.flash := rfl
@[simp] theorem State.modUpd_ldLow (s : State) (f : UpdSt → UpdSt) : (s.modUpd f).ldLow = s.ldLow := rfl
@[simp] theorem State.modUpd_keyHash (s : State) (f : UpdSt → UpdSt) : (s.modUpd f).keyHash = s.keyHash := rfl
@[simp] theorem State.modUpd_evt (s : State) (f : UpdSt → UpdSt) : (s.modUpd f).evt = s.evt := rfl
@[simp] theorem State.modUpd_dma (s : State) (f : UpdSt → UpdSt) : (s.modUpd f).dma = s.dma := rfl
@[simp] theorem State.modUpd_drc (s : State) (f : UpdSt → UpdSt) : (s.modUpd f).drc = s.drc := rfl
@[simp] theorem State.modUpd_mon (s : State) (f : UpdSt → UpdSt) : (s.modUpd f).mon = s.mon := rfl
@[simp] theorem State.modUpd_drv (s : State) (f : UpdSt → UpdSt) : (s.modUpd f).drv = s.drv := rfl
@[simp] theorem State.modUpd_umd (s : State) (f : UpdSt → UpdSt) : (s.modUpd f).umd = s.umd := rfl

@[simp] theorem State.modEvt_pending (s : State) (f : EvtSt → EvtSt) : (s.modEvt f).pending = s.pending := rfl
@[simp] theorem State.modEvt_regs (s : State) (f : EvtSt → EvtSt) : (s.modEvt f).regs = s.regs := rfl
@[simp] theorem State.modEvt_frozen (s : State) (f : EvtSt → EvtSt) : (s.modEvt f).frozen = s.frozen := rfl
@[simp] theorem State.modEvt_now (s : State) (f : EvtSt → EvtSt) : (s.modEvt f).now = s.now := rfl
@[simp] theorem State.modEvt_timeBase (s : State) (f : EvtSt → EvtSt) : (s.modEvt f).timeBase = s.timeBase := rfl
@[simp] theorem State.modEvt_freeCtr (s : State) (f : EvtSt → EvtSt) : (s.modEvt f).freeCtr = s.freeCtr := rfl
@[simp] theorem State.modEvt_chans (s : State) (f : EvtSt → EvtSt) : (s.modEvt f).chans = s.chans := rfl
@[simp] theorem State.modEvt_drams (s : State) (f : EvtSt → EvtSt) : (s.modEvt f).drams = s.drams := rfl
@[simp] theorem State.modEvt_evq (s : State) (f : EvtSt → EvtSt) : (s.modEvt f).evq = s.evq := rfl
@[simp] theorem State.modEvt_outbox (s : State) (f : EvtSt → EvtSt) : (s.modEvt f).outbox = s.outbox := rfl
@[simp] theorem State.modEvt_runners (s : State) (f : EvtSt → EvtSt) : (s.modEvt f).runners = s.runners := rfl
@[simp] theorem State.modEvt_port (s : State) (f : EvtSt → EvtSt) : (s.modEvt f).port = s.port := rfl
@[simp] theorem State.modEvt_justSet (s : State) (f : EvtSt → EvtSt) : (s.modEvt f).justSet = s.justSet := rfl
@[simp] theorem State.modEvt_switches (s : State) (f : EvtSt → EvtSt) : (s.modEvt f).switches = s.switches := rfl
@[simp] theorem State.modEvt_boot (s : State) (f : EvtSt → EvtSt) : (s.modEvt f).boot = s.boot := rfl
@[simp] theorem State.modEvt_upd (s : State) (f : EvtSt → EvtSt) : (s.modEvt f).upd = s.upd := rfl
@[simp] theorem State.modEvt_flash (s : State) (f : EvtSt → EvtSt) : (s.modEvt f).flash = s.flash := rfl
@[simp] theorem State.modEvt_ldLow (s : State) (f : EvtSt → EvtSt) : (s.modEvt f).ldLow = s.ldLow := rfl
@[simp] theorem State.modEvt_keyHash (s : State) (f : EvtSt → EvtSt) : (s.modEvt f).keyHash = s.keyHash := rfl
@[simp] theorem State.modEvt_dma (s : State) (f : EvtSt → EvtSt) : (s.modEvt f).dma = s.dma := rfl
@[simp] theorem State.modEvt_drc (s : State) (f : EvtSt → EvtSt) : (s.modEvt f).drc = s.drc := rfl
@[simp] theorem State.modEvt_mon (s : State) (f : EvtSt → EvtSt) : (s.modEvt f).mon = s.mon := rfl
@[simp] theorem State.modEvt_drv (s : State) (f : EvtSt → EvtSt) : (s.modEvt f).drv = s.drv := rfl
@[simp] theorem State.modEvt_umd (s : State) (f : EvtSt → EvtSt) : (s.modEvt f).umd = s.umd := rfl

@[simp] theorem State.modDma_pending (s : State) (f : DmaSt → DmaSt) : (s.modDma f).pending = s.pending := rfl
@[simp] theorem State.modDma_regs (s : State) (f : DmaSt → DmaSt) : (s.modDma f).regs = s.regs := rfl
@[simp] theorem State.modDma_frozen (s : State) (f : DmaSt → DmaSt) : (s.modDma f).frozen = s.frozen := rfl
@[simp] theorem State.modDma_now (s : State) (f : DmaSt → DmaSt) : (s.modDma f).now = s.now := rfl
@[simp] theorem State.modDma_timeBase (s : State) (f : DmaSt → DmaSt) : (s.modDma f).timeBase = s.timeBase := rfl
@[simp] theorem State.modDma_freeCtr (s : State) (f : DmaSt → DmaSt) : (s.modDma f).freeCtr = s.freeCtr := rfl
@[simp] theorem State.modDma_chans (s : State) (f : DmaSt → DmaSt) : (s.modDma f).chans = s.chans := rfl
@[simp] theorem State.modDma_drams (s : State) (f : DmaSt → DmaSt) : (s.modDma f).drams = s.drams := rfl
@[simp] theorem State.modDma_evq (s : State) (f : DmaSt → DmaSt) : (s.modDma f).evq = s.evq := rfl
@[simp] theorem State.modDma_outbox (s : State) (f : DmaSt → DmaSt) : (s.modDma f).outbox = s.outbox := rfl
@[simp] theorem State.modDma_runners (s : State) (f : DmaSt → DmaSt) : (s.modDma f).runners = s.runners := rfl
@[simp] theorem State.modDma_port (s : State) (f : DmaSt → DmaSt) : (s.modDma f).port = s.port := rfl
@[simp] theorem State.modDma_justSet (s : State) (f : DmaSt → DmaSt) : (s.modDma f).justSet = s.justSet := rfl
@[simp] theorem State.modDma_switches (s : State) (f : DmaSt → DmaSt) : (s.modDma f).switches = s.switches := rfl
@[simp] theorem State.modDma_boot (s : State) (f : DmaSt → DmaSt) : (s.modDma f).boot = s.boot := rfl
@[simp] theorem State.modDma_upd (s : State) (f : DmaSt → DmaSt) : (s.modDma f).upd = s.upd := rfl
@[simp] theorem State.modDma_flash (s : State) (f : DmaSt → DmaSt) : (s.modDma f).flash = s.flash := rfl
@[simp] theorem State.modDma_ldLow (s : State) (f : DmaSt → DmaSt) : (s.modDma f).ldLow = s.ldLow := rfl
@[simp] theorem State.modDma_keyHash (s : State) (f : DmaSt → DmaSt) : (s.modDma f).keyHash = s.keyHash := rfl
@[simp] theorem State.modDma_evt (s : State) (f : DmaSt → DmaSt) : (s.modDma f).evt = s.evt := rfl
@[simp] theorem State.modDma_drc (s : State) (f : DmaSt → DmaSt) : (s.modDma f).drc = s.drc := rfl
@[simp] theorem State.modDma_mon (s : State) (f : DmaSt → DmaSt) : (s.modDma f).mon = s.mon := rfl
@[simp] theorem State.modDma_drv (s : State) (f : DmaSt → DmaSt) : (s.modDma f).drv = s.drv := rfl
@[simp] theorem State.modDma_umd (s : State) (f : DmaSt → DmaSt) : (s.modDma f).umd = s.umd := rfl

@[simp] theorem State.modMon_pending (s : State) (f : MonSt → MonSt) : (s.modMon f).pending = s.pending := rfl
@[simp] theorem State.modMon_regs (s : State) (f : MonSt → MonSt) : (s.modMon f).regs = s.regs := rfl
@[simp] theorem State.modMon_frozen (s : State) (f : MonSt → MonSt) : (s.modMon f).frozen = s.frozen := rfl
@[simp] theorem State.modMon_now (s : State) (f : MonSt → MonSt) : (s.modMon f).now = s.now := rfl
@[simp] theorem State.modMon_timeBase (s : State) (f : MonSt → MonSt) : (s.modMon f).timeBase = s.timeBase := rfl
@[simp] theorem State.modMon_freeCtr (s : State) (f : MonSt → MonSt) : (s.modMon f).freeCtr = s.freeCtr := rfl
@[simp] theorem State.modMon_chans (s : State) (f : MonSt → MonSt) : (s.modMon f).chans = s.chans := rfl
@[simp] theorem State.modMon_drams (s : State) (f : MonSt → MonSt) : (s.modMon f).drams = s.drams := rfl
@[simp] theorem State.modMon_evq (s : State) (f : MonSt → MonSt) : (s.modMon f).evq = s.evq := rfl
@[simp] theorem State.modMon_outbox (s : State) (f : MonSt → MonSt) : (s.modMon f).outbox = s.outbox := rfl
@[simp] theorem State.modMon_runners (s : State) (f : MonSt → MonSt) : (s.modMon f).runners = s.runners := rfl
@[simp] theorem State.modMon_port (s : State) (f : MonSt → MonSt) : (s.modMon f).port = s.port := rfl
@[simp] theorem State.modMon_justSet (s : State) (f : MonSt → MonSt) : (s.modMon f).justSet = s.justSet := rfl
@[simp] theorem State.modMon_switches (s : State) (f : MonSt → MonSt) : (s.modMon f).switches = s.switches := rfl
@[simp] theorem State.modMon_boot (s : State) (f : MonSt → MonSt) : (s.modMon f).boot = s.boot := rfl
@[simp] theorem State.modMon_upd (s : State) (f : MonSt → MonSt) : (s.modMon f).upd = s.upd := rfl
@[simp] theorem State.modMon_flash (s : State) (f : MonSt → MonSt) : (s.modMon f).flash = s.flash := rfl
@[simp] theorem State.modMon_ldLow (s : State) (f : MonSt → MonSt) : (s.modMon f).ldLow = s.ldLow := rfl
@[simp] theorem State.modMon_keyHash (s : State) (f : MonSt → MonSt) : (s.modMon f).keyHash = s.keyHash := rfl
@[simp] theorem State.modMon_evt (s : State) (f : MonSt → MonSt) : (s.modMon f).evt = s.evt := rfl
@[simp] theorem State.modMon_dma (s : State) (f : MonSt → MonSt) : (s.modMon f).dma = s.dma := rfl
@[simp] theorem State.modMon_drc (s : State) (f : MonSt → MonSt) : (s.modMon f).drc = s.drc := rfl
@[simp] theorem State.modMon_drv (s : State) (f : MonSt → MonSt) : (s.modMon f).drv = s.drv := rfl
@[simp] theorem State.modMon_umd (s : State) (f : MonSt → MonSt) : (s.modMon f).umd = s.umd := rfl

@[simp] theorem State.modDrv_pending (s : State) (f : DrvSt → DrvSt) : (s.modDrv f).pending = s.pending := rfl
@[simp] theorem State.modDrv_regs (s : State) (f : DrvSt → DrvSt) : (s.modDrv f).regs = s.regs := rfl
@[simp] theorem State.modDrv_frozen (s : State) (f : DrvSt → DrvSt) : (s.modDrv f).frozen = s.frozen := rfl
@[simp] theorem State.modDrv_now (s : State) (f : DrvSt → DrvSt) : (s.modDrv f).now = s.now := rfl
@[simp] theorem State.modDrv_timeBase (s : State) (f : DrvSt → DrvSt) : (s.modDrv f).timeBase = s.timeBase := rfl
@[simp] theorem State.modDrv_freeCtr (s : State) (f : DrvSt → DrvSt) : (s.modDrv f).freeCtr = s.freeCtr := rfl
@[simp] theorem State.modDrv_chans (s : State) (f : DrvSt → DrvSt) : (s.modDrv f).chans = s.chans := rfl
@[simp] theorem State.modDrv_drams (s : State) (f : DrvSt → DrvSt) : (s.modDrv f).drams = s.drams := rfl
@[simp] theorem State.modDrv_evq (s : State) (f : DrvSt → DrvSt) : (s.modDrv f).evq = s.evq := rfl
@[simp] theorem State.modDrv_outbox (s : State) (f : DrvSt → DrvSt) : (s.modDrv f).outbox = s.outbox := rfl
@[simp] theorem State.modDrv_runners (s : State) (f : DrvSt → DrvSt) : (s.modDrv f).runners = s.runners := rfl
@[simp] theorem State.modDrv_port (s : State) (f : DrvSt → DrvSt) : (s.modDrv f).port = s.port := rfl
@[simp] theorem State.modDrv_justSet (s : State) (f : DrvSt → DrvSt) : (s.modDrv f).justSet = s.justSet := rfl
@[simp] theorem State.modDrv_switches (s : State) (f : DrvSt → DrvSt) : (s.modDrv f).switches = s.switches := rfl
@[simp] theorem State.modDrv_boot (s : State) (f : DrvSt → DrvSt) : (s.modDrv f).boot = s.boot := rfl
@[simp] theorem State.modDrv_upd (s : State) (f : DrvSt → DrvSt) : (s.modDrv f).upd = s.upd := rfl
@[simp] theorem State.modDrv_flash (s : State) (f : DrvSt → DrvSt) : (s.modDrv f).flash = s.flash := rfl
@[simp] theorem State.modDrv_ldLow (s : State) (f : DrvSt → DrvSt) : (s.modDrv f).ldLow = s.ldLow := rfl
@[simp] theorem State.modDrv_keyHash (s : State) (f : DrvSt → DrvSt) : (s.modDrv f).keyHash = s.keyHash := rfl
@[simp] theorem State.modDrv_evt (s : State) (f : DrvSt → DrvSt) : (s.modDrv f).evt = s.evt := rfl
@[simp] theorem State.modDrv_dma (s : State) (f : DrvSt → DrvSt) : (s.modDrv f).dma = s.dma := rfl
@[simp] theorem State.modDrv_drc (s : State) (f : DrvSt → DrvSt) : (s.modDrv f).drc = s.drc := rfl
@[simp] theorem State.modDrv_mon (s : State) (f : DrvSt → DrvSt) : (s.modDrv f).mon = s.mon := rfl
@[simp] theorem State.modDrv_umd (s : State) (f : DrvSt → DrvSt) : (s.modDrv f).umd = s.umd := rfl

@[simp] theorem State.modUmd_pending (s : State) (f : UmdSt → UmdSt) : (s.modUmd f).pending = s.pending := rfl
@[simp] theorem State.modUmd_regs (s : State) (f : UmdSt → UmdSt) : (s.modUmd f).regs = s.regs := rfl
@[simp] theorem State.modUmd_frozen (s : State) (f : UmdSt → UmdSt) : (s.modUmd f).frozen = s.frozen := rfl
@[simp] theorem State.modUmd_now (s : State) (f : UmdSt → UmdSt) : (s.modUmd f).now = s.now := rfl
@[simp] theorem State.modUmd_timeBase (s : State) (f : UmdSt → UmdSt) : (s.modUmd f).timeBase = s.timeBase := rfl
@[simp] theorem State.modUmd_freeCtr (s : State) (f : UmdSt → UmdSt) : (s.modUmd f).freeCtr = s.freeCtr := rfl
@[simp] theorem State.modUmd_chans (s : State) (f : UmdSt → UmdSt) : (s.modUmd f).chans = s.chans := rfl
@[simp] theorem State.modUmd_drams (s : State) (f : UmdSt → UmdSt) : (s.modUmd f).drams = s.drams := rfl
@[simp] theorem State.modUmd_evq (s : State) (f : UmdSt → UmdSt) : (s.modUmd f).evq = s.evq := rfl
@[simp] theorem State.modUmd_outbox (s : State) (f : UmdSt → UmdSt) : (s.modUmd f).outbox = s.outbox := rfl
@[simp] theorem State.modUmd_runners (s : State) (f : UmdSt → UmdSt) : (s.modUmd f).runners = s.runners := rfl
@[simp] theorem State.modUmd_port (s : State) (f : UmdSt → UmdSt) : (s.modUmd f).port = s.port := rfl
@[simp] theorem State.modUmd_justSet (s : State) (f : UmdSt → UmdSt) : (s.modUmd f).justSet = s.justSet := rfl
@[simp] theorem State.modUmd_switches (s : State) (f : UmdSt → UmdSt) : (s.modUmd f).switches = s.switches := rfl
@[simp] theorem State.modUmd_boot (s : State) (f : UmdSt → UmdSt) : (s.modUmd f).boot = s.boot := rfl
@[simp] theorem State.modUmd_upd (s : State) (f : UmdSt → UmdSt) : (s.modUmd f).upd = s.upd := rfl
@[simp] theorem State.modUmd_flash (s : State) (f : UmdSt → UmdSt) : (s.modUmd f).flash = s.flash := rfl
@[simp] theorem State.modUmd_ldLow (s : State) (f : UmdSt → UmdSt) : (s.modUmd f).ldLow = s.ldLow := rfl
@[simp] theorem State.modUmd_keyHash (s : State) (f : UmdSt → UmdSt) : (s.modUmd f).keyHash = s.keyHash := rfl
@[simp] theorem State.modUmd_evt (s : State) (f : UmdSt → UmdSt) : (s.modUmd f).evt = s.evt := rfl
@[simp] theorem State.modUmd_dma (s : State) (f : UmdSt → UmdSt) : (s.modUmd f).dma = s.dma := rfl
@[simp] theorem State.modUmd_drc (s : State) (f : UmdSt → UmdSt) : (s.modUmd f).drc = s.drc := rfl
@[simp] theorem State.modUmd_mon (s : State) (f : UmdSt → UmdSt) : (s.modUmd f).mon = s.mon := rfl
@[simp] theorem State.modUmd_drv (s : State) (f : UmdSt → UmdSt) : (s.modUmd f).drv = s.drv := rfl

@[simp] theorem State.modDrc_pending (s : State) (k : Nat) (f : DrcSt → DrcSt) : (s.modDrc k f).pending = s.pending := rfl
@[simp] theorem State.modDrc_regs (s : State) (k : Nat) (f : DrcSt → DrcSt) : (s.modDrc k f).regs = s.regs := rfl
@[simp] theorem State.modDrc_frozen (s : State) (k : Nat) (f : DrcSt → DrcSt) : (s.modDrc k f).frozen = s.frozen := rfl
@[simp] theorem State.modDrc_now (s : State) (k : Nat) (f : DrcSt → DrcSt) : (s.modDrc k f).now = s.now := rfl
@[simp] theorem State.modDrc_timeBase (s : State) (k : Nat) (f : DrcSt → DrcSt) : (s.modDrc k f).timeBase = s.timeBase := rfl
@[simp] theorem State.modDrc_freeCtr (s : State) (k : Nat) (f : DrcSt → DrcSt) : (s.modDrc k f).freeCtr = s.freeCtr := rfl
@[simp] theorem State.modDrc_chans (s : State) (k : Nat) (f : DrcSt → DrcSt) : (s.modDrc k f).chans = s.chans := rfl
@[simp] theorem State.modDrc_drams (s : State) (k : Nat) (f : DrcSt → DrcSt) : (s.modDrc k f).drams = s.drams := rfl
@[simp] theorem State.modDrc_evq (s : State) (k : Nat) (f : DrcSt → DrcSt) : (s.modDrc k f).evq = s.evq := rfl
@[simp] theorem State.modDrc_outbox (s : State) (k : Nat) (f : DrcSt → DrcSt) : (s.modDrc k f).outbox = s.outbox := rfl
@[simp] theorem State.modDrc_runners (s : State) (k : Nat) (f : DrcSt → DrcSt) : (s.modDrc k f).runners = s.runners := rfl
@[simp] theorem State.modDrc_port (s : State) (k : Nat) (f : DrcSt → DrcSt) : (s.modDrc k f).port = s.port := rfl
@[simp] theorem State.modDrc_justSet (s : State) (k : Nat) (f : DrcSt → DrcSt) : (s.modDrc k f).justSet = s.justSet := rfl
@[simp] theorem State.modDrc_switches (s : State) (k : Nat) (f : DrcSt → DrcSt) : (s.modDrc k f).switches = s.switches := rfl
@[simp] theorem State.modDrc_boot (s : State) (k : Nat) (f : DrcSt → DrcSt) : (s.modDrc k f).boot = s.boot := rfl
@[simp] theorem State.modDrc_upd (s : State) (k : Nat) (f : DrcSt → DrcSt) : (s.modDrc k f).upd = s.upd := rfl
@[simp] theorem State.modDrc_flash (s : State) (k : Nat) (f : DrcSt → DrcSt) : (s.modDrc k f).flash = s.flash := rfl
@[simp] theorem State.modDrc_ldLow (s : State) (k : Nat) (f : DrcSt → DrcSt) : (s.modDrc k f).ldLow = s.ldLow := rfl
@[simp] theorem State.modDrc_keyHash (s : State) (k : Nat) (f : DrcSt → DrcSt) : (s.modDrc k f).keyHash = s.keyHash := rfl
@[simp] theorem State.modDrc_evt (s : State) (k : Nat) (f : DrcSt → DrcSt) : (s.modDrc k f).evt = s.evt := rfl
@[simp] theorem State.modDrc_dma (s : State) (k : Nat) (f : DrcSt → DrcSt) : (s.modDrc k f).dma = s.dma := rfl
@[simp] theorem State.modDrc_mon (s : State) (k : Nat) (f : DrcSt → DrcSt) : (s.modDrc k f).mon = s.mon := rfl
@[simp] theorem State.modDrc_drv (s : State) (k : Nat) (f : DrcSt → DrcSt) : (s.modDrc k f).drv = s.drv := rfl
@[simp] theorem State.modDrc_umd (s : State) (k : Nat) (f : DrcSt → DrcSt) : (s.modDrc k f).umd = s.umd := rfl

@[simp] theorem State.raise_evq (s : State) (r : Raise) : (s.raise r).evq = s.evq ++ [r] := rfl
@[simp] theorem State.emit_outbox (s : State) (o : Out) : (s.emit o).outbox = s.outbox ++ [o] := rfl
@[simp] theorem State.modBoot_boot (s : State) (f : BootSt → BootSt) : (s.modBoot f).boot = f s.boot := rfl
@[simp] theorem State.modUpd_upd (s : State) (f : UpdSt → UpdSt) : (s.modUpd f).upd = f s.upd := rfl
@[simp] theorem State.modEvt_evt (s : State) (f : EvtSt → EvtSt) : (s.modEvt f).evt = f s.evt := rfl
@[simp] theorem State.modDma_dma (s : State) (f : DmaSt → DmaSt) : (s.modDma f).dma = f s.dma := rfl
@[simp] theorem State.modMon_mon (s : State) (f : MonSt → MonSt) : (s.modMon f).mon = f s.mon := rfl
@[simp] theorem State.modDrv_drv (s : State) (f : DrvSt → DrvSt) : (s.modDrv f).drv = f s.drv := rfl
@[simp] theorem State.modUmd_umd (s : State) (f : UmdSt → UmdSt) : (s.modUmd f).umd = f s.umd := rfl

theorem State.ch_setCh_same (s : State) (n : Nat) (c : Chan) : (s.setCh n c).ch n = c := Quad.get_set_same _ _ _

theorem State.ch_setCh_other (s : State) (n m : Fin 4) (c : Chan) (h : m ≠ n) : (s.setCh n c).ch m = s.ch m :=
  Quad.get_set_other _ _ _ _ h

/-- A word of a register follows the register file alone. -/
theorem State.word_congr {s t : State} (h : t.regs = s.regs) (a : Nat) : t.word a = s.word a := by
  rw [State.word, State.word, h]

end Sys2Proof.Machine
end

