-- ==== Sys2Proof/Laws/Fields.lean ====
section
/-! SUPPORT. Laws/Fields.lean: fields within a word, words within the register file, and states between two commands. -/

namespace Sys2Proof.Machine

/-! ## Fields within a word. -/

theorem Fld.width_pos (f : Fld) : 0 < f.width := Nat.succ_pos _

/-- A bit of a field within a word. -/
theorem Fld.of_testBit (f : Fld) (w : Word) (i : Nat) : (f.of w).testBit i = (decide (i < f.width) && w.getLsbD (f.lo + i)) := by
  rw [Fld.of, BitVec.testBit_toNat, BitVec.getLsbD_extractLsb']

theorem Fld.of_lt (f : Fld) (w : Word) : f.of w < 2 ^ f.width := (w.extractLsb' f.lo f.width).isLt

/-- The mask of a field has the field's bits. -/
theorem Fld.mask_bit (f : Fld) (h : f.Fits) (i : Nat) : f.mask.getLsbD i = (decide (f.lo ≤ i) && decide (i ≤ f.hi)) := by
  obtain ⟨h1, h2⟩ := h
  rw [Fld.mask, BitVec.getLsbD_ofNat, Nat.testBit_mul_two_pow, Nat.testBit_two_pow_sub_one, Fld.width]
  rw [Bool.eq_iff_iff]
  simp only [Bool.and_eq_true, decide_eq_true_eq]
  omega

/-- A bit of a word with one field replaced. -/
theorem Fld.put_bit (f : Fld) (h : f.Fits) (w : Word) (v i : Nat) :
    (f.put w v).getLsbD i = if f.lo ≤ i ∧ i ≤ f.hi then v.testBit (i - f.lo) else w.getLsbD i := by
  have hm := f.mask_bit h i
  obtain ⟨h1, h2⟩ := h
  rw [Fld.put, BitVec.getLsbD_or, BitVec.getLsbD_and, BitVec.getLsbD_not, hm, BitVec.getLsbD_ofNat, Nat.testBit_mul_two_pow,
    Nat.testBit_mod_two_pow, Fld.width]
  rcases Nat.lt_or_ge i 32 with h3 | h3
  · rcases Nat.lt_or_ge i f.lo with h4 | h4
    · simp [h3, Nat.not_le.2 h4]
    · rcases Nat.lt_or_ge f.hi i with h5 | h5
      · have h6 : ¬ (i - f.lo < f.hi - f.lo + 1) := by omega
        simp [h3, h4, Nat.not_le.2 h5, h6]
      · have h6 : i - f.lo < f.hi - f.lo + 1 := by omega
        simp [h3, h4, h5, h6]
  · have h4 : ¬ (i ≤ f.hi) := by omega
    simp [h4, Nat.not_lt.2 h3, BitVec.getLsbD_of_ge w i h3]

/-- A replaced field holds the value modulo its width. -/
theorem Fld.of_put_same (f : Fld) (h : f.Fits) (w : Word) (v : Nat) : f.of (f.put w v) = v % 2 ^ f.width := by
  refine Nat.eq_of_testBit_eq fun i => ?_
  rw [Fld.of_testBit, Fld.put_bit f h, Nat.testBit_mod_two_pow]
  have h1 := h.1
  by_cases h2 : i < f.width
  · have h3 : f.lo ≤ f.lo + i ∧ f.lo + i ≤ f.hi := by unfold Fld.width at h2; omega
    simp [h2, h3]
  · simp [h2]

/-- A field that shares no bit with the replaced one holds what it held. -/
theorem Fld.of_put_apart (f g : Fld) (hf : f.Fits) (hg : g.Fits) (h : f.hi < g.lo ∨ g.hi < f.lo) (w : Word) (v : Nat) :
    g.of (f.put w v) = g.of w := by
  refine Nat.eq_of_testBit_eq fun i => ?_
  rw [Fld.of_testBit, Fld.of_testBit, Fld.put_bit f hf]
  have h1 := hg.1
  by_cases h2 : i < g.width
  · have h3 : ¬ (f.lo ≤ g.lo + i ∧ g.lo + i ≤ f.hi) := by unfold Fld.width at h2; omega
    simp [h3]
  · simp [h2]

/-! ## Words within the register file. -/

theorem State.word_setWord_same {s : State} (h : RegsWf s) (a : Nat) (w : Word) : (s.setWord a w).word a = w := sget_sput_same h a w

theorem State.word_setWord_other (s : State) {a b : Nat} (w : Word) (h : b ≠ a) : (s.setWord a w).word b = s.word b :=
  sget_sput_other _ _ h

theorem RegsWf.setWord {s : State} (h : RegsWf s) (a : Nat) (w : Word) : RegsWf (s.setWord a w) := sput_wf h a w

theorem RegsWf.wr {s : State} (h : RegsWf s) (f : Fld) (v : Nat) : RegsWf (s.wr f v) := h.setWord _ _

theorem RegsWf.congr {s t : State} (h : RegsWf s) (e : t.regs = s.regs) : RegsWf t := by
  unfold RegsWf at *
  rwa [e]

/-- A register whose words agree in two states has the same fields in both. -/
theorem State.rd_congr {s t : State} (f : Fld) (h : t.word f.addr = s.word f.addr) : t.rd f = s.rd f := by
  rw [State.rd, State.rd, h]

theorem State.rd_lt (s : State) (f : Fld) : s.rd f < 2 ^ f.width := f.of_lt _

theorem SameWords.refl (s : State) (may : Nat → Prop) : SameWords s s may := fun _ _ => rfl

theorem SameWords.trans {s t u : State} {may : Nat → Prop} (h : SameWords s t may) (k : SameWords t u may) : SameWords s u may :=
  fun a ha => (k a ha).trans (h a ha)

theorem SameWords.mono {s t : State} {may more : Nat → Prop} (h : SameWords s t may) (k : ∀ a, may a → more a) : SameWords s t more :=
  fun a ha => h a fun m => ha (k a m)

/-- A write of a field at an allowed address. -/
theorem SameWords.wr (s : State) (f : Fld) (v : Nat) {may : Nat → Prop} (h : may f.addr) : SameWords s (s.wr f v) may :=
  fun a ha => State.word_setWord_other s _ fun e => ha (e ▸ h)

theorem reset_regsWf : RegsWf State.reset := nil_wf

theorem reset_memWf : MemWf State.reset := ⟨fun k => by
  match k with
  | 0 | 1 | 2 | 3 => exact nil_wf, fun f hf => by
  simp only [State.reset, List.mem_cons, List.not_mem_nil, or_false, or_self] at hf
  rw [hf]
  exact nil_wf⟩

/-! ## Between two commands. -/

theorem Quiet.congr {s t : State} (h : Quiet s) (e : t.evq = s.evq) (f : t.umd.prep = s.umd.prep) (g : t.umd.sys = s.umd.sys)
    (k : t.umd.tx = s.umd.tx) : Quiet t := ⟨e.trans h.1, f.trans h.2.1, g.trans h.2.2.1, k.trans h.2.2.2⟩

theorem settle_empty {s : State} (h : s.evq = []) : settle s = s := by
  unfold settle settleLoop
  rw [h]
  rfl

theorem umdFlush_empty {s : State} (h : s.umd.tx = []) : umdFlush s = s := by simp [umdFlush, h]

/-- The end of a command that raised nothing, with no Umade switch under way. -/
theorem finish_quiet {s : State} (h : Quiet s) : finish s = s := by
  obtain ⟨h1, h2, h3, h4⟩ := h
  simp [finish, settle_empty h1, h2, h3, umdFlush_empty h4]

end Sys2Proof.Machine
end

