-- ==== Sys2Proof/Laws/KeptBase.lean ====
section
/-! SUPPORT. Laws/KeptBase.lean: what Safety.lean calls Kept, through the shapes that definitions have and through the named operations
of Machine/Ops.lean. -/

namespace Sys2Proof.Machine

theorem Kept.refl (s : State) : Kept s s := ⟨rfl, rfl, id, id, id, List.prefix_refl _, Nat.le_refl _, Nat.le_refl _⟩

/-- What a command keeps depends on nothing but these parts of the state. -/
theorem Kept.same {s₀ s t : State} (hp : t.pending = s.pending) (hk : t.keyHash = s.keyHash) (hr : t.regs = s.regs)
    (hd : t.drams = s.drams) (hf : t.flash = s.flash) (hq : s.dma.qs.length = 16 → t.dma.qs.length = 16)
    (hm : s.mon.ins.length = 32 → t.mon.ins.length = 32)
    (ho : t.outbox = s.outbox) (hn : t.now = s.now) (hc : t.freeCtr = s.freeCtr) (h : Kept s₀ s) : Kept s₀ t := by
  obtain ⟨h1, h2, h3, h4, h5, h6, h7, h8⟩ := h
  refine ⟨hp.trans h1, hk.trans h2, fun x => (h3 x).congr hr, fun x => ?_, fun x => ?_, ho ▸ h6, hn ▸ h7, hc ▸ h8⟩
  · obtain ⟨a, b⟩ := h4 x
    exact ⟨fun k => by rw [State.dram, hd]; exact a k, hf ▸ b⟩
  · exact ⟨hq (h5 x).1, hm (h5 x).2⟩

/-- The same, for a state that is written out. -/
theorem Kept.parts {s₀ s : State} {fr tb ch ev ru po pa ju sw bo up ld et dm dc mo dv um} (hq : s.dma.qs.length = 16 → dm.qs.length = 16)
    (hm : s.mon.ins.length = 32 → mo.ins.length = 32) (h : Kept s₀ s) :
    Kept s₀ ⟨s.pending, s.regs, fr, s.now, tb, s.freeCtr, ch, s.drams, ev, s.outbox, ru, po, pa, ju, sw, bo, up, s.flash, ld, s.keyHash,
      et, dm, dc, mo, dv, um⟩ := Kept.same (s := s) rfl rfl rfl rfl rfl hq hm rfl rfl rfl h

theorem Kept.ite {s₀ : State} {c : Prop} [Decidable c] {a b : State} (ha : Kept s₀ a) (hb : Kept s₀ b) :
    Kept s₀ (if c then a else b) := by split <;> assumption

theorem Kept.foldl {s₀ : State} {α : Type} {l : List α} {f : State → α → State} {s : State} (h : Kept s₀ s)
    (hf : ∀ t x, Kept s₀ t → Kept s₀ (f t x)) : Kept s₀ (l.foldl f s) := by
  induction l generalizing s with
  | nil => exact h
  | cons x l ih => exact ih (hf _ _ h)

/-- A fold whose first part is the state. -/
theorem Kept.foldlFst {s₀ : State} {α β : Type} {l : List α} {f : State × β → α → State × β} {s : State × β} (h : Kept s₀ s.1)
    (hf : ∀ t x, Kept s₀ t.1 → Kept s₀ (f t x).1) : Kept s₀ (l.foldl f s).1 := by
  induction l generalizing s with
  | nil => exact h
  | cons x l ih => exact ih (hf _ _ h)

/-- A fold whose second part is the state. -/
theorem Kept.foldlSnd {s₀ : State} {α β : Type} {l : List α} {f : β × State → α → β × State} {s : β × State} (h : Kept s₀ s.2)
    (hf : ∀ t x, Kept s₀ t.2 → Kept s₀ (f t x).2) : Kept s₀ (l.foldl f s).2 := by
  induction l generalizing s with
  | nil => exact h
  | cons x l ih => exact ih (hf _ _ h)

/-- A fold whose third part is the state. -/
theorem Kept.foldlThd {s₀ : State} {α β γ : Type} {l : List α} {f : β × γ × State → α → β × γ × State} {s : β × γ × State}
    (h : Kept s₀ s.2.2) (hf : ∀ t x, Kept s₀ t.2.2 → Kept s₀ (f t x).2.2) : Kept s₀ (l.foldl f s).2.2 := by
  induction l generalizing s with
  | nil => exact h
  | cons x l ih => exact ih (hf _ _ h)

theorem iterate_kept {s₀ s : State} {k : Nat} {f : State → Nat → State} (h : Kept s₀ s)
    (hf : ∀ t i, Kept s₀ t → Kept s₀ (f t i)) : Kept s₀ (iterate k s f) := Kept.foldl h hf

/-- Registers change, and stay in canonical form. -/
theorem Kept.regs_ {s₀ s : State} {r : List (Nat × Word)} (h : Kept s₀ s) (hr : RegsWf s → SparseWf resetWord r) :
    Kept s₀ { s with regs := r } := by
  obtain ⟨h1, h2, h3, h4, h5, h6, h7, h8⟩ := h
  exact ⟨h1, h2, fun x => hr (h3 x), h4, h5, h6, h7, h8⟩

theorem State.setWord_kept {s₀ s : State} {a : Nat} {w : Word} (h : Kept s₀ s) : Kept s₀ (s.setWord a w) :=
  h.regs_ fun x => sput_wf x a w

theorem State.resetRange_kept {s₀ s : State} {a b : Nat} (h : Kept s₀ s) : Kept s₀ (s.resetRange a b) :=
  h.regs_ fun x => filter_wf x _

/-- More leaves the device. -/
theorem Kept.out_ {s₀ s : State} (l : List Out) (h : Kept s₀ s) : Kept s₀ { s with outbox := s.outbox ++ l } := by
  obtain ⟨h1, h2, h3, h4, h5, h6, h7, h8⟩ := h
  exact ⟨h1, h2, h3, h4, h5, h6.trans (List.prefix_append _ _), h7, h8⟩

theorem State.emit_kept {s₀ s : State} {o : Out} (h : Kept s₀ s) : Kept s₀ (s.emit o) := h.out_ [o]

/-- More free values have been used. -/
theorem Kept.freeCtr_ {s₀ s : State} {k : Nat} (h : Kept s₀ s) : Kept s₀ { s with freeCtr := s.freeCtr + k } := by
  obtain ⟨h1, h2, h3, h4, h5, h6, h7, h8⟩ := h
  exact ⟨h1, h2, h3, h4, h5, h6, h7, Nat.le_trans h8 (Nat.le_add_right _ _)⟩

theorem State.free_kept {s₀ s : State} {tag m : Nat} (h : Kept s₀ s) : Kept s₀ (s.free tag m).2 := h.freeCtr_

theorem State.free_kept' {s₀ s t : State} {tag m v : Nat} (h : Kept s₀ s) (e : s.free tag m = (v, t)) : Kept s₀ t := by
  have k : Kept s₀ (s.free tag m).2 := State.free_kept h
  rw [e] at k
  exact k

theorem Quad.get_set_wf {d : Nat → Byte} {q : Quad (List (Nat × Byte))} {m : List (Nat × Byte)} (k : Nat)
    (h : ∀ i : Fin 4, SparseWf d (q.get i)) (hm : SparseWf d m) (i : Fin 4) : SparseWf d ((q.set k m).get i) := by
  have h0 := h 0
  have h1 := h 1
  have h2 := h 2
  have h3 := h 3
  rcases k with _ | _ | _ | k <;> fin_cases i <;> assumption

theorem Quad.get_wf {d : Nat → Byte} {q : Quad (List (Nat × Byte))} (h : ∀ i : Fin 4, SparseWf d (q.get i)) (k : Nat) :
    SparseWf d (q.get k) := by
  rcases k with _ | _ | _ | k
  · exact h 0
  · exact h 1
  · exact h 2
  · exact h 3

theorem State.modDram_kept {s₀ s : State} {k : Nat} {f : List (Nat × Byte) → List (Nat × Byte)}
    (hf : ∀ m, SparseWf zeroByte m → SparseWf zeroByte (f m)) (h : Kept s₀ s) : Kept s₀ (s.modDram k f) := by
  obtain ⟨h1, h2, h3, h4, h5, h6, h7, h8⟩ := h
  exact ⟨h1, h2, h3, fun x => ⟨Quad.get_set_wf k (h4 x).1 (hf _ (Quad.get_wf (h4 x).1 k)), (h4 x).2⟩, h5, h6, h7, h8⟩

/-- The flash devices change, and stay in canonical form. -/
theorem Kept.flash_ {s₀ s : State} {fl : List (List (Nat × Byte))} (h : Kept s₀ s)
    (hf : (∀ f ∈ s.flash, SparseWf erased f) → ∀ f ∈ fl, SparseWf erased f) : Kept s₀ { s with flash := fl } := by
  obtain ⟨h1, h2, h3, h4, h5, h6, h7, h8⟩ := h
  exact ⟨h1, h2, h3, fun x => ⟨(h4 x).1, hf (h4 x).2⟩, h5, h6, h7, h8⟩

end Sys2Proof.Machine
end

