-- ==== Sys2Proof/Laws/KeptPixel.lean ====
section
/-! SUPPORT. Laws/KeptPixel.lean: what Safety.lean calls Kept, through the operations on registers and of the units of a channel:
if what stands before it keeps, what stands after it keeps. -/

namespace Sys2Proof.Machine

/-! ## Machine/Ops.lean. -/

theorem State.wr_kept {s₀ : State} {s : State} {f : Fld} {v : ℕ} (h : Kept s₀ s) : Kept s₀ (State.wr s f v) := by
  unfold State.wr
  repeat' first
    | with_reducible assumption
    | with_reducible refine State.setWord_kept ?_

theorem State.addSat_kept {s₀ : State} {s : State} {f : Fld} {k : ℕ} (h : Kept s₀ s) : Kept s₀ (State.addSat s f k) := by
  unfold State.addSat
  repeat' first
    | with_reducible assumption
    | with_reducible refine State.wr_kept ?_

theorem State.addWrap_kept {s₀ : State} {s : State} {f : Fld} {k : ℕ} (h : Kept s₀ s) : Kept s₀ (State.addWrap s f k).1 := by
  unfold State.addWrap
  repeat' first
    | with_reducible assumption
    | with_reducible refine State.wr_kept ?_

theorem State.addWrap_kept' {s₀ : State} {s : State} {f : Fld} {k : ℕ} {r0 : _} {r1 : _}
    (h : Kept s₀ s) (e : (State.addWrap s f k) = (r0, r1)) : Kept s₀ r0 := by
  have k : Kept s₀ (State.addWrap s f k).1 := State.addWrap_kept h
  rw [e] at k
  exact k

theorem State.bump_kept {s₀ : State} {s : State} {f : Fld} (h : Kept s₀ s) : Kept s₀ (State.bump s f) := by
  unfold State.bump
  repeat' first
    | with_reducible assumption
    | with_reducible refine State.addSat_kept ?_

theorem State.clear_kept {s₀ : State} {s : State} {fs : List Fld} (h : Kept s₀ s) : Kept s₀ (State.clear s fs) := by
  unfold State.clear
  repeat' first
    | with_reducible assumption
    | with_reducible refine State.wr_kept ?_
    | with_reducible refine Kept.foldl ?_ (fun _ _ _ => ?_)

theorem State.clearW1c_kept {s₀ : State} {s : State} {f : Fld} {m : ℕ} (h : Kept s₀ s) : Kept s₀ (State.clearW1c s f m) := by
  unfold State.clearW1c
  repeat' first
    | with_reducible assumption
    | with_reducible refine State.wr_kept ?_

theorem State.setCh_kept {s₀ : State} {s : State} {n : ℕ} {c : Chan} (h : Kept s₀ s) : Kept s₀ (State.setCh s n c) := by
  unfold State.setCh
  repeat' first
    | with_reducible assumption
    | fail_if_no_progress (with_reducible refine Kept.parts (fun hl => hl) (fun hl => hl) ?_)

theorem State.modCh_kept {s₀ : State} {s : State} {n : ℕ} {f : Chan → Chan} (h : Kept s₀ s) : Kept s₀ (State.modCh s n f) := by
  unfold State.modCh
  repeat' first
    | with_reducible assumption
    | with_reducible refine State.setCh_kept ?_

theorem State.modCal_kept {s₀ : State} {s : State} {n : ℕ} {f : CalSt → CalSt} (h : Kept s₀ s) :
    Kept s₀ (State.modCal s n f) := by
  unfold State.modCal
  repeat' first
    | with_reducible assumption
    | with_reducible refine State.modCh_kept ?_

theorem State.modDrv_kept {s₀ : State} {s : State} {f : DrvSt → DrvSt} (h : Kept s₀ s) : Kept s₀ (State.modDrv s f) := by
  unfold State.modDrv
  repeat' first
    | with_reducible assumption
    | fail_if_no_progress (with_reducible refine Kept.parts (fun hl => hl) (fun hl => hl) ?_)

theorem State.modFifo_kept {s₀ : State} {s : State} {n : ℕ} {f : FifoSt → FifoSt} (h : Kept s₀ s) :
    Kept s₀ (State.modFifo s n f) := by
  unfold State.modFifo
  repeat' first
    | with_reducible assumption
    | with_reducible refine State.modCh_kept ?_

theorem State.modLmp_kept {s₀ : State} {s : State} {n : ℕ} {f : LmpSt → LmpSt} (h : Kept s₀ s) :
    Kept s₀ (State.modLmp s n f) := by
  unfold State.modLmp
  repeat' first
    | with_reducible assumption
    | with_reducible refine State.modCh_kept ?_

theorem State.modMot_kept {s₀ : State} {s : State} {n : ℕ} {f : MotSt → MotSt} (h : Kept s₀ s) :
    Kept s₀ (State.modMot s n f) := by
  unfold State.modMot
  repeat' first
    | with_reducible assumption
    | with_reducible refine State.modCh_kept ?_

theorem State.modPipe_kept {s₀ : State} {s : State} {n : ℕ} {f : PipeSt → PipeSt} (h : Kept s₀ s) :
    Kept s₀ (State.modPipe s n f) := by
  unfold State.modPipe
  repeat' first
    | with_reducible assumption
    | with_reducible refine State.modCh_kept ?_

theorem State.modPos_kept {s₀ : State} {s : State} {n : ℕ} {f : PosSt → PosSt} (h : Kept s₀ s) :
    Kept s₀ (State.modPos s n f) := by
  unfold State.modPos
  repeat' first
    | with_reducible assumption
    | with_reducible refine State.modCh_kept ?_

theorem State.modRsmp_kept {s₀ : State} {s : State} {n : ℕ} {f : RsmpSt → RsmpSt} (h : Kept s₀ s) :
    Kept s₀ (State.modRsmp s n f) := by
  unfold State.modRsmp
  repeat' first
    | with_reducible assumption
    | with_reducible refine State.modCh_kept ?_

theorem State.modSns_kept {s₀ : State} {s : State} {n : ℕ} {f : SnsSt → SnsSt} (h : Kept s₀ s) :
    Kept s₀ (State.modSns s n f) := by
  unfold State.modSns
  repeat' first
    | with_reducible assumption
    | with_reducible refine State.modCh_kept ?_

theorem State.peak_kept {s₀ : State} {s : State} {f : Fld} {v : ℕ} (h : Kept s₀ s) : Kept s₀ (State.peak s f v) := by
  unfold State.peak
  repeat' first
    | with_reducible assumption
    | with_reducible refine State.wr_kept ?_

theorem State.raise_kept {s₀ : State} {s : State} {r : Raise} (h : Kept s₀ s) : Kept s₀ (State.raise s r) := by
  unfold State.raise
  repeat' first
    | with_reducible assumption
    | fail_if_no_progress (with_reducible refine Kept.parts (fun hl => hl) (fun hl => hl) ?_)

theorem State.raiseIf_kept {s₀ : State} {s : State} {c : Bool} {r : Raise} (h : Kept s₀ s) : Kept s₀ (State.raiseIf s c r) := by
  unfold State.raiseIf
  repeat' first
    | with_reducible assumption
    | with_reducible refine State.raise_kept ?_
    | with_reducible refine Kept.ite ?_ ?_

theorem State.setW1c_kept {s₀ : State} {s : State} {f : Fld} {m : ℕ} (h : Kept s₀ s) : Kept s₀ (State.setW1c s f m) := by
  unfold State.setW1c
  repeat' first
    | with_reducible assumption
    | with_reducible refine State.wr_kept ?_
    | (extract_lets +onlyGivenNames x; refine (fun (hx : Kept s₀ x) => ?_) (show Kept s₀ x from ?_); clear_value x; rotate_left; subst x)
    | fail_if_no_progress (with_reducible refine Kept.parts (fun hl => hl) (fun hl => hl) ?_)

theorem State.wb_kept {s₀ : State} {s : State} {f : Fld} {b : Bool} (h : Kept s₀ s) : Kept s₀ (State.wb s f b) := by
  unfold State.wb
  repeat' first
    | with_reducible assumption
    | with_reducible refine State.wr_kept ?_

theorem State.wr64_kept {s₀ : State} {s : State} {lo : Fld} {hi : Fld} {v : ℕ} (h : Kept s₀ s) :
    Kept s₀ (State.wr64 s lo hi v) := by
  unfold State.wr64
  repeat' first
    | with_reducible assumption
    | with_reducible refine State.wr_kept ?_

theorem driveForward_kept {s₀ : State} {s : State} {a : ℕ} (h : Kept s₀ s) : Kept s₀ (driveForward s a) := by
  unfold driveForward
  repeat' first
    | with_reducible assumption
    | with_reducible refine State.modDrv_kept ?_
    | with_reducible refine Kept.ite ?_ ?_

theorem driveSet_kept {s₀ : State} {s : State} {a : ℕ} (h : Kept s₀ s) : Kept s₀ (driveSet s a) := by
  unfold driveSet
  repeat' first
    | with_reducible assumption
    | with_reducible refine State.modDrv_kept ?_
    | with_reducible refine Kept.ite ?_ ?_

/-! ## Machine/SnsOps.lean. -/

theorem ctlDrive_kept {s₀ : State} {s : State} {n : ℕ} {p : ℕ} {level : Bool} (h : Kept s₀ s) :
    Kept s₀ (ctlDrive s n p level) := by
  unfold ctlDrive
  repeat' first
    | with_reducible assumption
    | with_reducible refine State.emit_kept ?_
    | with_reducible refine State.modSns_kept ?_

theorem ctlLevels_kept {s₀ : State} {s : State} {n : ℕ} {levels : ℕ} (h : Kept s₀ s) : Kept s₀ (ctlLevels s n levels) := by
  unfold ctlLevels
  repeat' first
    | with_reducible assumption
    | with_reducible refine iterate_kept ?_ (fun _ _ _ => ?_)
    | with_reducible refine ctlDrive_kept ?_
    | with_reducible refine Kept.ite ?_ ?_

theorem ctlIdle_kept {s₀ : State} {s : State} {n : ℕ} (h : Kept s₀ s) : Kept s₀ (ctlIdle s n) := by
  unfold ctlIdle
  repeat' first
    | with_reducible assumption
    | with_reducible refine ctlLevels_kept ?_
    | with_reducible refine Kept.ite ?_ ?_

theorem modRx_kept {s₀ : State} {s : State} {n : ℕ} {trig : ℕ} {lane : ℕ} {f : LaneRx → LaneRx} (h : Kept s₀ s) :
    Kept s₀ (modRx s n trig lane f) := by
  unfold modRx
  repeat' first
    | with_reducible assumption
    | with_reducible refine State.modPipe_kept ?_

theorem laneData_kept {s₀ : State} {s : State} {n : ℕ} {phys : ℕ} {p : BitVec 64} (h : Kept s₀ s) :
    Kept s₀ (laneData s n phys p) := by
  unfold laneData
  repeat' first
    | with_reducible assumption
    | with_reducible refine modRx_kept ?_
    | split

theorem poisonLine_kept {s₀ : State} {s : State} {n : ℕ} {trig : ℕ} (h : Kept s₀ s) : Kept s₀ (poisonLine s n trig) := by
  unfold poisonLine
  repeat' first
    | with_reducible assumption
    | with_reducible refine State.modPipe_kept ?_

theorem laneFail_kept {s₀ : State} {s : State} {n : ℕ} {l : LineRec} {phys : ℕ} {lane : ℕ} {e_5 : ℕ} {count : Fld}
    {alsoFlt : Bool} (h : Kept s₀ s) : Kept s₀ (laneFail s n l phys lane e_5 count alsoFlt) := by
  unfold laneFail
  repeat' first
    | with_reducible assumption
    | with_reducible refine State.bump_kept ?_
    | with_reducible refine poisonLine_kept ?_
    | with_reducible refine State.raise_kept ?_

theorem laneFraming_kept {s₀ : State} {s : State} {n : ℕ} {phys : ℕ} (h : Kept s₀ s) : Kept s₀ (laneFraming s n phys) := by
  unfold laneFraming
  repeat' first
    | with_reducible assumption
    | with_reducible refine modRx_kept ?_
    | split

theorem spiStart_kept {s₀ : State} {s : State} {n : ℕ} {j : SpiJob} (h : Kept s₀ s) : Kept s₀ (spiStart s n j) := by
  unfold spiStart
  repeat' first
    | with_reducible assumption
    | with_reducible refine State.emit_kept ?_
    | with_reducible refine State.modSns_kept ?_

theorem spiIdleNext_kept {s₀ : State} {s : State} {n : ℕ} (h : Kept s₀ s) : Kept s₀ (spiIdleNext s n) := by
  unfold spiIdleNext
  repeat' first
    | with_reducible assumption
    | with_reducible refine spiStart_kept ?_
    | with_reducible refine State.modSns_kept ?_
    | with_reducible refine Kept.ite ?_ ?_
    | split

theorem spareForLane_kept {s₀ : State} {s : State} {n : ℕ} {lane : ℕ} {lasting : Bool} (h : Kept s₀ s) :
    Kept s₀ (spareForLane s n lane lasting) := by
  unfold spareForLane
  repeat' first
    | with_reducible assumption
    | with_reducible refine spiIdleNext_kept ?_
    | with_reducible refine State.modSns_kept ?_
    | with_reducible refine State.raiseIf_kept ?_
    | split

theorem laneLasting_kept {s₀ : State} {s : State} {n : ℕ} {lane : ℕ} {byCount : Bool} (h : Kept s₀ s) :
    Kept s₀ (laneLasting s n lane byCount) := by
  unfold laneLasting
  repeat' first
    | with_reducible assumption
    | with_reducible refine State.wr_kept ?_
    | with_reducible refine State.raiseIf_kept ?_
    | with_reducible refine spareForLane_kept ?_
    | with_reducible refine Kept.ite ?_ ?_
    | (extract_lets +onlyGivenNames x; refine (fun (hx : Kept s₀ x) => ?_) (show Kept s₀ x from ?_); clear_value x; rotate_left; subst x)
    | split

theorem laneLend_kept {s₀ : State} {s : State} {n : ℕ} {phys : ℕ} {p : BitVec 64} (h : Kept s₀ s) :
    Kept s₀ (laneLend s n phys p) := by
  unfold laneLend
  repeat' first
    | with_reducible assumption
    | with_reducible refine laneFraming_kept ?_
    | with_reducible refine modRx_kept ?_
    | with_reducible refine laneFail_kept ?_
    | with_reducible refine poisonLine_kept ?_
    | with_reducible refine Kept.ite ?_ ?_
    | split

theorem tagFollow_kept {s₀ : State} {s : State} {n : ℕ} {l : LineRec} {lane : ℕ} {tag : ℕ} (h : Kept s₀ s) :
    Kept s₀ (tagFollow s n l lane tag) := by
  unfold tagFollow
  repeat' first
    | with_reducible assumption
    | with_reducible refine State.modSns_kept ?_

theorem laneLhdr_kept {s₀ : State} {s : State} {n : ℕ} {phys : ℕ} {p : BitVec 64} (h : Kept s₀ s) :
    Kept s₀ (laneLhdr s n phys p) := by
  unfold laneLhdr
  repeat' first
    | with_reducible assumption
    | with_reducible refine laneFraming_kept ?_
    | with_reducible refine laneFail_kept ?_
    | with_reducible refine modRx_kept ?_
    | with_reducible refine tagFollow_kept ?_
    | with_reducible refine Kept.ite ?_ ?_
    | (extract_lets +onlyGivenNames x; refine (fun (hx : Kept s₀ x) => ?_) (show Kept s₀ x from ?_); clear_value x; rotate_left; subst x)
    | split

theorem laneLockGain_kept {s₀ : State} {s : State} {n : ℕ} {phys : ℕ} (h : Kept s₀ s) : Kept s₀ (laneLockGain s n phys) := by
  unfold laneLockGain
  repeat' first
    | with_reducible assumption
    | with_reducible refine State.modSns_kept ?_
    | with_reducible refine State.wr_kept ?_

theorem laneLockLoss_kept {s₀ : State} {s : State} {n : ℕ} {phys : ℕ} (h : Kept s₀ s) : Kept s₀ (laneLockLoss s n phys) := by
  unfold laneLockLoss
  repeat' first
    | with_reducible assumption
    | with_reducible refine State.modSns_kept ?_
    | with_reducible refine State.wr_kept ?_
    | with_reducible refine modRx_kept ?_
    | with_reducible refine laneFail_kept ?_
    | with_reducible refine Kept.foldl ?_ (fun _ _ _ => ?_)
    | (extract_lets +onlyGivenNames x; refine (fun (hx : Kept s₀ x) => ?_) (show Kept s₀ x from ?_); clear_value x; rotate_left; subst x)
    | split

theorem laneTrain_kept {s₀ : State} {s : State} {n : ℕ} {phys : ℕ} {p : BitVec 64} {atUi : ℕ} (h : Kept s₀ s) :
    Kept s₀ (laneTrain s n phys p atUi) := by
  unfold laneTrain
  repeat' first
    | with_reducible assumption
    | with_reducible refine laneFraming_kept ?_
    | with_reducible refine State.modSns_kept ?_
    | with_reducible refine Kept.ite ?_ ?_

theorem startMissed_kept {s₀ : State} {s : State} {n : ℕ} {trig : ℕ} (h : Kept s₀ s) : Kept s₀ (startMissed s n trig) := by
  unfold startMissed
  repeat' first
    | with_reducible assumption
    | with_reducible refine State.modSns_kept ?_
    | with_reducible refine Kept.ite ?_ ?_

theorem lhdrMissing_kept {s₀ : State} {s : State} {n : ℕ} {lane : ℕ} (h : Kept s₀ s) : Kept s₀ (lhdrMissing s n lane) := by
  unfold lhdrMissing
  repeat' first
    | with_reducible assumption
    | with_reducible refine modRx_kept ?_
    | with_reducible refine laneFail_kept ?_
    | with_reducible refine startMissed_kept ?_
    | (extract_lets +onlyGivenNames x; clear_value x)
    | split

theorem snsClearSpares_kept {s₀ : State} {s : State} {n : ℕ} (h : Kept s₀ s) : Kept s₀ (snsClearSpares s n) := by
  unfold snsClearSpares
  repeat' first
    | with_reducible assumption
    | with_reducible refine State.modSns_kept ?_
    | with_reducible refine State.clear_kept ?_

theorem snsBecomeReady_kept {s₀ : State} {s : State} {n : ℕ} (h : Kept s₀ s) : Kept s₀ (snsBecomeReady s n) := by
  unfold snsBecomeReady
  repeat' first
    | with_reducible assumption
    | with_reducible refine snsClearSpares_kept ?_
    | with_reducible refine State.wr_kept ?_
    | with_reducible refine State.modSns_kept ?_
    | with_reducible refine State.modPipe_kept ?_
    | with_reducible refine State.raise_kept ?_
    | with_reducible refine Kept.ite ?_ ?_

theorem snsFault_kept {s₀ : State} {s : State} {n : ℕ} {cause : ℕ} (h : Kept s₀ s) : Kept s₀ (snsFault s n cause) := by
  unfold snsFault
  repeat' first
    | with_reducible assumption
    | with_reducible refine State.raise_kept ?_
    | with_reducible refine State.wr_kept ?_

theorem snsTrain_kept {s₀ : State} {s : State} {n : ℕ} (h : Kept s₀ s) : Kept s₀ (snsTrain s n) := by
  unfold snsTrain
  repeat' first
    | with_reducible assumption
    | with_reducible refine State.modSns_kept ?_
    | with_reducible refine State.wr_kept ?_
    | with_reducible refine ctlDrive_kept ?_

theorem snsInitStep_kept {s₀ : State} {s : State} {n : ℕ} {k : ℕ} (h : Kept s₀ s) : Kept s₀ (snsInitStep s n k) := by
  unfold snsInitStep
  repeat' first
    | with_reducible assumption
    | with_reducible refine spiStart_kept ?_
    | with_reducible refine snsTrain_kept ?_
    | split

theorem snsOutputsOff_kept {s₀ : State} {s : State} {n : ℕ} (h : Kept s₀ s) : Kept s₀ (snsOutputsOff s n) := by
  unfold snsOutputsOff
  repeat' first
    | with_reducible assumption
    | with_reducible refine ctlLevels_kept ?_
    | with_reducible refine State.modSns_kept ?_
    | with_reducible refine State.emit_kept ?_
    | with_reducible refine Kept.ite ?_ ?_

theorem snsOutputsOn_kept {s₀ : State} {s : State} {n : ℕ} (h : Kept s₀ s) : Kept s₀ (snsOutputsOn s n) := by
  unfold snsOutputsOn
  repeat' first
    | with_reducible assumption
    | with_reducible refine State.emit_kept ?_
    | with_reducible refine State.modSns_kept ?_
    | with_reducible refine ctlIdle_kept ?_
    | with_reducible refine Kept.ite ?_ ?_

theorem spiError_kept {s₀ : State} {s : State} {n : ℕ} (h : Kept s₀ s) : Kept s₀ (spiError s n) := by
  unfold spiError
  repeat' first
    | with_reducible assumption
    | with_reducible refine State.raise_kept ?_
    | with_reducible refine State.wr_kept ?_

theorem snsPowerOff_kept {s₀ : State} {s : State} {n : ℕ} (h : Kept s₀ s) : Kept s₀ (snsPowerOff s n) := by
  unfold snsPowerOff
  repeat' first
    | with_reducible assumption
    | with_reducible refine State.modSns_kept ?_
    | with_reducible refine snsOutputsOff_kept ?_
    | with_reducible refine State.wr_kept ?_
    | with_reducible refine iterate_kept ?_ (fun _ _ _ => ?_)
    | with_reducible refine spiError_kept ?_
    | with_reducible refine Kept.ite ?_ ?_

theorem snsSetSchedule_kept {s₀ : State} {s : State} {n : ℕ} {bs : List Byte} (h : Kept s₀ s) :
    Kept s₀ (snsSetSchedule s n bs) := by
  unfold snsSetSchedule
  repeat' first
    | with_reducible assumption
    | with_reducible refine State.wr_kept ?_
    | with_reducible refine State.modSns_kept ?_
    | with_reducible refine State.emit_kept ?_
    | with_reducible refine ctlIdle_kept ?_
    | with_reducible refine Kept.ite ?_ ?_

theorem snsTrainEnd_kept {s₀ : State} {s : State} {n : ℕ} (h : Kept s₀ s) : Kept s₀ (snsTrainEnd s n) := by
  unfold snsTrainEnd
  repeat' first
    | with_reducible assumption
    | with_reducible refine ctlIdle_kept ?_
    | with_reducible refine snsFault_kept ?_
    | with_reducible refine State.modSns_kept ?_
    | with_reducible refine iterate_kept ?_ (fun _ _ _ => ?_)
    | with_reducible refine State.wr_kept ?_
    | with_reducible refine snsBecomeReady_kept ?_
    | with_reducible refine Kept.ite ?_ ?_

theorem spareAssigned_kept {s₀ : State} {s : State} {n : ℕ} {lane : ℕ} {k : ℕ} {trig : ℕ} (h : Kept s₀ s) :
    Kept s₀ (spareAssigned s n lane k trig) := by
  unfold spareAssigned
  repeat' first
    | with_reducible assumption
    | with_reducible refine State.wr_kept ?_
    | with_reducible refine State.modSns_kept ?_
    | with_reducible refine State.raise_kept ?_
    | with_reducible refine Kept.ite ?_ ?_

theorem spoilAfter_kept {s₀ : State} {s : State} {n : ℕ} {T : ℕ} (h : Kept s₀ s) : Kept s₀ (spoilAfter s n T) := by
  unfold spoilAfter
  repeat' first
    | with_reducible assumption
    | with_reducible refine State.modCh_kept ?_

theorem spiSlotNext_kept {s₀ : State} {s : State} {n : ℕ} (h : Kept s₀ s) : Kept s₀ (spiSlotNext s n) := by
  unfold spiSlotNext
  repeat' first
    | with_reducible assumption
    | with_reducible refine spiStart_kept ?_
    | with_reducible refine State.modSns_kept ?_
    | with_reducible refine Kept.ite ?_ ?_
    | split

theorem spiDone_kept {s₀ : State} {s : State} {n : ℕ} {miso : ℕ} (h : Kept s₀ s) : Kept s₀ (spiDone s n miso) := by
  unfold spiDone
  repeat' first
    | with_reducible assumption
    | with_reducible refine State.modSns_kept ?_
    | with_reducible refine State.wr_kept ?_
    | with_reducible refine spoilAfter_kept ?_
    | with_reducible refine snsFault_kept ?_
    | with_reducible refine snsInitStep_kept ?_
    | with_reducible refine spiSlotNext_kept ?_
    | with_reducible refine spareAssigned_kept ?_
    | with_reducible refine spiIdleNext_kept ?_
    | with_reducible refine Kept.ite ?_ ?_
    | (extract_lets +onlyGivenNames x; first | (refine (fun (hx : Kept s₀ x) => ?_) (show Kept s₀ x from ?_); clear_value x; rotate_left; subst x) | (clear_value x))
    | split

theorem spiGo_kept {s₀ : State} {s : State} {n : ℕ} {nospoil : Bool} {len : ℕ} (h : Kept s₀ s) :
    Kept s₀ (spiGo s n nospoil len) := by
  unfold spiGo
  repeat' first
    | with_reducible assumption
    | with_reducible refine spiError_kept ?_
    | with_reducible refine State.wr_kept ?_
    | with_reducible refine State.modSns_kept ?_
    | with_reducible refine spiStart_kept ?_
    | with_reducible refine Kept.ite ?_ ?_

/-! ## Machine/PipeOps.lean. -/

theorem askReload_kept {s₀ : State} {s : State} {n : ℕ} {m : ℕ} {t : ℕ} {b : ℕ} (h : Kept s₀ s) :
    Kept s₀ (askReload s n m t b) := by
  unfold askReload
  repeat' first
    | with_reducible assumption
    | with_reducible refine State.modCh_kept ?_

theorem gainWrite_kept {s₀ : State} {s : State} {n : ℕ} {a : ℕ} {w : Word} (h : Kept s₀ s) : Kept s₀ (gainWrite s n a w) := by
  unfold gainWrite
  repeat' first
    | with_reducible assumption
    | with_reducible refine State.modPipe_kept ?_

theorem gainsShow_kept {s₀ : State} {s : State} {n : ℕ} (h : Kept s₀ s) : Kept s₀ (gainsShow s n) := by
  unfold gainsShow
  repeat' first
    | with_reducible assumption
    | with_reducible refine State.setWord_kept ?_
    | with_reducible refine Kept.foldl ?_ (fun _ _ _ => ?_)

theorem noSpare_kept {s₀ : State} {s : State} {n : ℕ} {ph : ℕ} (h : Kept s₀ s) : Kept s₀ (noSpare s n ph) := by
  unfold noSpare
  repeat' first
    | with_reducible assumption
    | with_reducible refine State.raise_kept ?_

theorem katDone_kept {s₀ : State} {s : State} {n : ℕ} {pass : Bool} (h : Kept s₀ s) : Kept s₀ (katDone s n pass) := by
  unfold katDone
  repeat' first
    | with_reducible assumption
    | with_reducible refine State.modPipe_kept ?_
    | with_reducible refine State.wr_kept ?_
    | with_reducible refine State.raise_kept ?_
    | with_reducible refine noSpare_kept ?_
    | with_reducible refine Kept.ite ?_ ?_
    | (extract_lets +onlyGivenNames x; first | (refine (fun (hx : Kept s₀ x) => ?_) (show Kept s₀ x from ?_); clear_value x; rotate_left; subst x) | (refine (fun (hf : ∀ t, Kept s₀ t → Kept s₀ (x t)) => ?_) (fun t ht => show Kept s₀ (x t) from ?_); clear_value x; rotate_left; dsimp only [x]; clear x))
    | with_reducible refine hf _ ?_
    | split

theorem katTimer_kept {s₀ : State} {s : State} {n : ℕ} (h : Kept s₀ s) : Kept s₀ (katTimer s n) := by
  unfold katTimer
  repeat' first
    | with_reducible assumption
    | with_reducible refine State.modPipe_kept ?_
    | with_reducible refine Kept.ite ?_ ?_

theorem modLine_kept {s₀ : State} {s : State} {n : ℕ} {trig : ℕ} {f : LineRec → LineRec} (h : Kept s₀ s) :
    Kept s₀ (modLine s n trig f) := by
  unfold modLine
  repeat' first
    | with_reducible assumption
    | with_reducible refine State.modPipe_kept ?_

theorem linePoison_kept {s₀ : State} {s : State} {n : ℕ} {l : LineRec} (h : Kept s₀ s) : Kept s₀ (linePoison s n l) := by
  unfold linePoison
  repeat' first
    | with_reducible assumption
    | with_reducible refine State.raise_kept ?_
    | with_reducible refine State.bump_kept ?_
    | with_reducible refine modLine_kept ?_
    | with_reducible refine Kept.ite ?_ ?_

theorem pipePoison_kept {s₀ : State} {s : State} {n : ℕ} {l : LineRec} (h : Kept s₀ s) : Kept s₀ (pipePoison s n l) := by
  unfold pipePoison
  repeat' first
    | with_reducible assumption
    | with_reducible refine modLine_kept ?_
    | with_reducible refine linePoison_kept ?_
    | with_reducible refine State.bump_kept ?_

theorem profileSwap_kept {s₀ : State} {s : State} {n : ℕ} {valid : Bool} (h : Kept s₀ s) : Kept s₀ (profileSwap s n valid) := by
  unfold profileSwap
  repeat' first
    | with_reducible assumption
    | with_reducible refine State.wb_kept ?_
    | with_reducible refine State.modPipe_kept ?_

theorem pushSlot_kept {s₀ : State} {s : State} {n : ℕ} {sl : AlignSlot} (h : Kept s₀ s) : Kept s₀ (pushSlot s n sl) := by
  unfold pushSlot
  repeat' first
    | with_reducible assumption
    | with_reducible refine State.modPipe_kept ?_

theorem setLag_kept {s₀ : State} {s : State} {n : ℕ} {ph : ℕ} {v : ℕ} {ns : ℕ} (h : Kept s₀ s) :
    Kept s₀ (setLag s n ph v ns) := by
  unfold setLag
  repeat' first
    | with_reducible assumption
    | with_reducible refine State.peak_kept ?_
    | with_reducible refine State.modPipe_kept ?_

theorem recomputeOrSkip_kept {s₀ : State} {s : State} {n : ℕ} {l : LineRec} {t : TileSt} {ph : ℕ} {lag : ℕ}
    (h : Kept s₀ s) : Kept s₀ (recomputeOrSkip s n l t ph lag) := by
  unfold recomputeOrSkip
  repeat' first
    | with_reducible assumption
    | with_reducible refine State.bump_kept ?_
    | with_reducible refine setLag_kept ?_
    | with_reducible refine modLine_kept ?_
    | with_reducible refine State.raise_kept ?_
    | with_reducible refine pipePoison_kept ?_
    | with_reducible refine Kept.ite ?_ ?_

theorem residueRaise_kept {s₀ : State} {s : State} {n : ℕ} {l : LineRec} {m : ℕ} {t : ℕ} (h : Kept s₀ s) :
    Kept s₀ (residueRaise s n l m t) := by
  unfold residueRaise
  repeat' first
    | with_reducible assumption
    | with_reducible refine State.raise_kept ?_

theorem residueEvent_kept {s₀ : State} {s : State} {n : ℕ} {l : LineRec} {m : ℕ} {t : ℕ} (h : Kept s₀ s) :
    Kept s₀ (residueEvent s n l m t) := by
  unfold residueEvent
  repeat' first
    | with_reducible assumption
    | with_reducible refine residueRaise_kept ?_
    | with_reducible refine State.bump_kept ?_

theorem shadingReload_kept {s₀ : State} {s : State} {n : ℕ} {m : ℕ} {t : ℕ} (h : Kept s₀ s) :
    Kept s₀ (shadingReload s n m t) := by
  unfold shadingReload
  repeat' first
    | with_reducible assumption
    | with_reducible refine State.modCh_kept ?_

theorem shadowLoad_kept {s₀ : State} {s : State} {n : ℕ} {prof : List (ℕ × Byte)} (h : Kept s₀ s) :
    Kept s₀ (shadowLoad s n prof) := by
  unfold shadowLoad
  repeat' first
    | with_reducible assumption
    | with_reducible refine State.modPipe_kept ?_
    | with_reducible refine State.modDram_kept (fun m hm => ?_) ?_
    | with_reducible refine copyRegion_wf _ ?_ _ _ _

theorem shadowWrite_kept {s₀ : State} {s : State} {n : ℕ} {off : ℕ} {bs : List Byte} (h : Kept s₀ s) :
    Kept s₀ (shadowWrite s n off bs) := by
  unfold shadowWrite
  repeat' first
    | with_reducible assumption
    | with_reducible refine State.modPipe_kept ?_
    | with_reducible refine State.modDram_kept (fun m hm => ?_) ?_
    | with_reducible refine writeBytes_wf ?_ _ _

theorem showFill_kept {s₀ : State} {s : State} {n : ℕ} (h : Kept s₀ s) : Kept s₀ (showFill s n) := by
  unfold showFill
  repeat' first
    | with_reducible assumption
    | with_reducible refine State.wr_kept ?_

theorem sliceForce_kept {s₀ : State} {s : State} {n : ℕ} {m : ℕ} (h : Kept s₀ s) : Kept s₀ (sliceForce s n m) := by
  unfold sliceForce
  repeat' first
    | with_reducible assumption
    | with_reducible refine State.modPipe_kept ?_
    | with_reducible refine Kept.ite ?_ ?_

theorem sliceLasting_kept {s₀ : State} {s : State} {n : ℕ} {ph : ℕ} (h : Kept s₀ s) : Kept s₀ (sliceLasting s n ph) := by
  unfold sliceLasting
  repeat' first
    | with_reducible assumption
    | with_reducible refine State.raise_kept ?_
    | with_reducible refine State.wr_kept ?_
    | with_reducible refine noSpare_kept ?_
    | with_reducible refine State.modPipe_kept ?_
    | with_reducible refine Kept.ite ?_ ?_

theorem spareAtTrigger_kept {s₀ : State} {s : State} {n : ℕ} {trig : ℕ} (h : Kept s₀ s) :
    Kept s₀ (spareAtTrigger s n trig) := by
  unfold spareAtTrigger
  repeat' first
    | with_reducible assumption
    | with_reducible refine State.modPipe_kept ?_
    | with_reducible refine State.wr_kept ?_
    | with_reducible refine State.raise_kept ?_
    | with_reducible refine Kept.ite ?_ ?_
    | (extract_lets +onlyGivenNames x; refine (fun (hx : Kept s₀ x) => ?_) (show Kept s₀ x from ?_); clear_value x; rotate_left; subst x)
    | split

theorem tileRecomputeDone_kept {s₀ : State} {s : State} {n : ℕ} {m : ℕ} {t : ℕ} {us : List Upset} {rawPar : Bool}
    {shdPar : ℕ} (h : Kept s₀ s) : Kept s₀ (tileRecomputeDone s n m t us rawPar shdPar) := by
  unfold tileRecomputeDone
  repeat' first
    | with_reducible assumption
    | with_reducible refine modLine_kept ?_
    | with_reducible refine pipePoison_kept ?_
    | with_reducible refine State.raise_kept ?_
    | with_reducible refine State.bump_kept ?_
    | with_reducible refine askReload_kept ?_
    | with_reducible refine residueEvent_kept ?_
    | with_reducible refine Kept.ite ?_ ?_
    | (extract_lets +onlyGivenNames x; clear_value x)
    | split

theorem tileVerdict_kept {s₀ : State} {s : State} {n : ℕ} {m : ℕ} {t : ℕ} {us : List Upset} {rawPar : Bool} {shdPar : ℕ}
    (h : Kept s₀ s) : Kept s₀ (tileVerdict s n m t us rawPar shdPar) := by
  unfold tileVerdict
  repeat' first
    | with_reducible assumption
    | with_reducible refine modLine_kept ?_
    | with_reducible refine pipePoison_kept ?_
    | with_reducible refine State.raise_kept ?_
    | with_reducible refine State.bump_kept ?_
    | with_reducible refine setLag_kept ?_
    | with_reducible refine recomputeOrSkip_kept ?_
    | with_reducible refine residueEvent_kept ?_
    | with_reducible refine Kept.ite ?_ ?_
    | (extract_lets +onlyGivenNames x; clear_value x)
    | split

/-! ## Machine/RsmpOps.lean. -/

theorem noEdgeCheck_kept {s₀ : State} {s : State} {n : ℕ} {info : TrigInfo} {found : Bool} (h : Kept s₀ s) :
    Kept s₀ (noEdgeCheck s n info found) := by
  unfold noEdgeCheck
  repeat' first
    | with_reducible assumption
    | with_reducible refine State.modRsmp_kept ?_
    | with_reducible refine State.raise_kept ?_
    | with_reducible refine Kept.ite ?_ ?_

theorem rsmpFault_kept {s₀ : State} {s : State} {n : ℕ} {info : TrigInfo} {again : Bool} (h : Kept s₀ s) :
    Kept s₀ (rsmpFault s n info again).1 := by
  unfold rsmpFault
  repeat' first
    | with_reducible assumption
    | with_reducible refine State.raise_kept ?_
    | with_reducible refine State.bump_kept ?_
    | with_reducible refine State.modRsmp_kept ?_
    | with_reducible refine State.peak_kept ?_
    | with_reducible refine Kept.ite ?_ ?_
    | (extract_lets +onlyGivenNames x; first | (refine (fun (hx : Kept s₀ x) => ?_) (show Kept s₀ x from ?_); clear_value x; rotate_left; subst x) | (refine (fun (hf : ∀ t, Kept s₀ t → Kept s₀ (x t)) => ?_) (fun t ht => show Kept s₀ (x t) from ?_); clear_value x; rotate_left; dsimp only [x]; clear x) | (clear_value x))
    | with_reducible refine hf _ ?_
    | split

theorem rsmpFault_kept' {s₀ : State} {s : State} {n : ℕ} {info : TrigInfo} {again : Bool} {r0 : _} {r1 : _} {r2 : _}
    (h : Kept s₀ s) (e : (rsmpFault s n info again) = (r0, r1, r2)) : Kept s₀ r0 := by
  have k : Kept s₀ (rsmpFault s n info again).1 := rsmpFault_kept h
  rw [e] at k
  exact k

theorem rsmpLagDecay_kept {s₀ : State} {s : State} {n : ℕ} {Q : ℕ} (h : Kept s₀ s) : Kept s₀ (rsmpLagDecay s n Q) := by
  unfold rsmpLagDecay
  repeat' first
    | with_reducible assumption
    | with_reducible refine State.modRsmp_kept ?_

theorem showPktLen_kept {s₀ : State} {s : State} {n : ℕ} (h : Kept s₀ s) : Kept s₀ (showPktLen s n) := by
  unfold showPktLen
  repeat' first
    | with_reducible assumption
    | with_reducible refine State.wr_kept ?_

theorem wanderStep_kept {s₀ : State} {s : State} {n : ℕ} {info : TrigInfo} {el : ℤ} {er : ℤ} (h : Kept s₀ s) :
    Kept s₀ (wanderStep s n info el er) := by
  unfold wanderStep
  repeat' first
    | with_reducible assumption
    | with_reducible refine State.wr_kept ?_
    | with_reducible refine State.modRsmp_kept ?_
    | with_reducible refine State.raiseIf_kept ?_

/-! ## Machine/MotOps.lean. -/

theorem showAxis_kept {s₀ : State} {s : State} {n : ℕ} {a : ℕ} (h : Kept s₀ s) : Kept s₀ (showAxis s n a) := by
  unfold showAxis
  repeat' first
    | with_reducible assumption
    | with_reducible refine State.wr_kept ?_
    | with_reducible refine State.wb_kept ?_

theorem setAxis_kept {s₀ : State} {s : State} {n : ℕ} {a : ℕ} {x : AxisSt} (h : Kept s₀ s) : Kept s₀ (setAxis s n a x) := by
  unfold setAxis
  repeat' first
    | with_reducible assumption
    | with_reducible refine State.modMot_kept ?_

theorem modAxis_kept {s₀ : State} {s : State} {n : ℕ} {a : ℕ} {f : AxisSt → AxisSt} (h : Kept s₀ s) :
    Kept s₀ (modAxis s n a f) := by
  unfold modAxis
  repeat' first
    | with_reducible assumption
    | with_reducible refine setAxis_kept ?_

theorem axisClrFlt_kept {s₀ : State} {s : State} {n : ℕ} {a : ℕ} (h : Kept s₀ s) : Kept s₀ (axisClrFlt s n a) := by
  unfold axisClrFlt
  repeat' first
    | with_reducible assumption
    | with_reducible refine showAxis_kept ?_
    | with_reducible refine modAxis_kept ?_
    | with_reducible refine State.wr_kept ?_

theorem endMove_kept {s₀ : State} {s : State} {n : ℕ} {a : ℕ} {code : ℕ} (h : Kept s₀ s) : Kept s₀ (endMove s n a code) := by
  unfold endMove
  repeat' first
    | with_reducible assumption
    | with_reducible refine modAxis_kept ?_
    | with_reducible refine showAxis_kept ?_
    | with_reducible refine State.raise_kept ?_
    | with_reducible refine State.wr_kept ?_

theorem endAxis_kept {s₀ : State} {s : State} {n : ℕ} {a : ℕ} {code : ℕ} (h : Kept s₀ s) : Kept s₀ (endAxis s n a code) := by
  unfold endAxis
  repeat' first
    | with_reducible assumption
    | with_reducible refine endMove_kept ?_
    | with_reducible refine State.raise_kept ?_
    | with_reducible refine State.wr_kept ?_
    | with_reducible refine Kept.ite ?_ ?_

theorem endGroup_kept {s₀ : State} {s : State} {n : ℕ} {m : ℕ} {code : ℕ} (h : Kept s₀ s) : Kept s₀ (endGroup s n m code) := by
  unfold endGroup
  repeat' first
    | with_reducible assumption
    | with_reducible refine State.modMot_kept ?_
    | with_reducible refine State.wr_kept ?_
    | with_reducible refine endAxis_kept ?_
    | with_reducible refine Kept.ite ?_ ?_
    | with_reducible refine Kept.foldl ?_ (fun _ _ _ => ?_)

theorem axisDrop_kept {s₀ : State} {s : State} {n : ℕ} {a : ℕ} (h : Kept s₀ s) : Kept s₀ (axisDrop s n a) := by
  unfold axisDrop
  repeat' first
    | with_reducible assumption
    | with_reducible refine modAxis_kept ?_
    | with_reducible refine endGroup_kept ?_
    | with_reducible refine State.wr_kept ?_
    | with_reducible refine endMove_kept ?_
    | with_reducible refine Kept.ite ?_ ?_

theorem axisEstop_kept {s₀ : State} {s : State} {n : ℕ} {a : ℕ} (h : Kept s₀ s) : Kept s₀ (axisEstop s n a) := by
  unfold axisEstop
  repeat' first
    | with_reducible assumption
    | with_reducible refine modAxis_kept ?_
    | (extract_lets +onlyGivenNames x; clear_value x)
    | split

theorem axisFault_kept {s₀ : State} {s : State} {n : ℕ} {a : ℕ} {stepCheck : Bool} (h : Kept s₀ s) :
    Kept s₀ (axisFault s n a stepCheck) := by
  unfold axisFault
  repeat' first
    | with_reducible assumption
    | with_reducible refine State.wr_kept ?_
    | with_reducible refine State.raise_kept ?_
    | with_reducible refine State.bump_kept ?_
    | with_reducible refine showAxis_kept ?_
    | with_reducible refine Kept.ite ?_ ?_

theorem axisHalt_kept {s₀ : State} {s : State} {n : ℕ} {a : ℕ} (h : Kept s₀ s) : Kept s₀ (axisHalt s n a) := by
  unfold axisHalt
  repeat' first
    | with_reducible assumption
    | with_reducible refine modAxis_kept ?_
    | (extract_lets +onlyGivenNames x; clear_value x)
    | split

theorem axisRefuse_kept {s₀ : State} {s : State} {n : ℕ} {a : ℕ} {cause : ℕ} (h : Kept s₀ s) :
    Kept s₀ (axisRefuse s n a cause) := by
  unfold axisRefuse
  repeat' first
    | with_reducible assumption
    | with_reducible refine State.raise_kept ?_
    | with_reducible refine State.bump_kept ?_
    | with_reducible refine State.wr_kept ?_

theorem axisHome_kept {s₀ : State} {s : State} {n : ℕ} {a : ℕ} {by_ : MoveBy} (h : Kept s₀ s) :
    Kept s₀ (axisHome s n a by_) := by
  unfold axisHome
  repeat' first
    | with_reducible assumption
    | with_reducible refine State.wr_kept ?_
    | with_reducible refine axisRefuse_kept ?_
    | with_reducible refine modAxis_kept ?_
    | with_reducible refine showAxis_kept ?_
    | with_reducible refine Kept.ite ?_ ?_
    | (extract_lets +onlyGivenNames x; first | (refine (fun (hx : Kept s₀ x) => ?_) (show Kept s₀ x from ?_); clear_value x; rotate_left; subst x) | (clear_value x))
    | split

theorem beginMove_kept {s₀ : State} {s : State} {n : ℕ} {a : ℕ} {tgt : ℤ} {set : RampSet} {by_ : MoveBy} {mode : MoveMode}
    (h : Kept s₀ s) : Kept s₀ (beginMove s n a tgt set by_ mode) := by
  unfold beginMove
  repeat' first
    | with_reducible assumption
    | with_reducible refine modAxis_kept ?_
    | with_reducible refine showAxis_kept ?_

theorem axisMove_kept {s₀ : State} {s : State} {n : ℕ} {a : ℕ} {tgt : ℤ} {by_ : MoveBy} (h : Kept s₀ s) :
    Kept s₀ (axisMove s n a tgt by_).1 := by
  unfold axisMove
  repeat' first
    | with_reducible assumption
    | with_reducible refine axisRefuse_kept ?_
    | with_reducible refine beginMove_kept ?_
    | with_reducible refine endMove_kept ?_
    | with_reducible refine Kept.ite ?_ ?_
    | (extract_lets +onlyGivenNames x; refine (fun (hx : Kept s₀ x) => ?_) (show Kept s₀ x from ?_); clear_value x; rotate_left; subst x)
    | split

theorem axisMove_kept' {s₀ : State} {s : State} {n : ℕ} {a : ℕ} {tgt : ℤ} {by_ : MoveBy} {r0 : _} {r1 : _}
    (h : Kept s₀ s) (e : (axisMove s n a tgt by_) = (r0, r1)) : Kept s₀ r0 := by
  have k : Kept s₀ (axisMove s n a tgt by_).1 := axisMove_kept h
  rw [e] at k
  exact k

theorem homeDone_kept {s₀ : State} {s : State} {n : ℕ} {a : ℕ} (h : Kept s₀ s) : Kept s₀ (homeDone s n a) := by
  unfold homeDone
  repeat' first
    | with_reducible assumption
    | with_reducible refine modAxis_kept ?_
    | with_reducible refine showAxis_kept ?_
    | with_reducible refine State.raise_kept ?_
    | with_reducible refine State.wr_kept ?_

theorem homeFail_kept {s₀ : State} {s : State} {n : ℕ} {a : ℕ} (h : Kept s₀ s) : Kept s₀ (homeFail s n a) := by
  unfold homeFail
  repeat' first
    | with_reducible assumption
    | with_reducible refine State.raise_kept ?_
    | with_reducible refine modAxis_kept ?_
    | with_reducible refine showAxis_kept ?_

theorem homeTick_kept {s₀ : State} {s : State} {n : ℕ} {a : ℕ} {phase : ℕ} (h : Kept s₀ s) : Kept s₀
    (homeTick s n a phase) := by
  unfold homeTick
  repeat' first
    | with_reducible assumption
    | with_reducible refine modAxis_kept ?_
    | with_reducible refine homeDone_kept ?_
    | with_reducible refine showAxis_kept ?_
    | with_reducible refine homeFail_kept ?_
    | with_reducible refine Kept.ite ?_ ?_

theorem decTest_kept {s₀ : State} {s : State} {n : ℕ} {a : ℕ} (h : Kept s₀ s) : Kept s₀ (decTest s n a) := by
  unfold decTest
  repeat' first
    | with_reducible assumption
    | with_reducible refine modAxis_kept ?_
    | with_reducible refine State.raise_kept ?_
    | with_reducible refine State.bump_kept ?_
    | with_reducible refine Kept.ite ?_ ?_

theorem followMaster_kept {s₀ : State} {s : State} {n : ℕ} {m : ℕ} (h : Kept s₀ s) : Kept s₀ (followMaster s n m) := by
  unfold followMaster
  repeat' first
    | with_reducible assumption
    | with_reducible refine modAxis_kept ?_
    | with_reducible refine showAxis_kept ?_
    | with_reducible refine Kept.ite ?_ ?_
    | with_reducible refine Kept.foldl ?_ (fun _ _ _ => ?_)

theorem moveTick_kept {s₀ : State} {s : State} {n : ℕ} {a : ℕ} (h : Kept s₀ s) : Kept s₀ (moveTick s n a) := by
  unfold moveTick
  repeat' first
    | with_reducible assumption
    | with_reducible refine decTest_kept ?_
    | with_reducible refine followMaster_kept ?_
    | with_reducible refine showAxis_kept ?_
    | with_reducible refine modAxis_kept ?_
    | with_reducible refine setAxis_kept ?_
    | with_reducible refine endGroup_kept ?_
    | with_reducible refine Kept.ite ?_ ?_

theorem slipTick_kept {s₀ : State} {s : State} {n : ℕ} {a : ℕ} (h : Kept s₀ s) : Kept s₀ (slipTick s n a) := by
  unfold slipTick
  repeat' first
    | with_reducible assumption
    | with_reducible refine State.wr_kept ?_
    | with_reducible refine modAxis_kept ?_
    | with_reducible refine axisFault_kept ?_
    | with_reducible refine axisEstop_kept ?_
    | with_reducible refine Kept.ite ?_ ?_

theorem axisTick_kept {s₀ : State} {s : State} {n : ℕ} {a : ℕ} (h : Kept s₀ s) : Kept s₀ (axisTick s n a) := by
  unfold axisTick
  repeat' first
    | with_reducible assumption
    | with_reducible refine homeTick_kept ?_
    | with_reducible refine moveTick_kept ?_
    | with_reducible refine slipTick_kept ?_
    | split

theorem csupPut_kept {s₀ : State} {s : State} {n : ℕ} {v : ℕ} (h : Kept s₀ s) : Kept s₀ (csupPut s n v) := by
  unfold csupPut
  repeat' first
    | with_reducible assumption
    | with_reducible refine driveForward_kept ?_
    | with_reducible refine State.wr_kept ?_

theorem estopAll_kept {s₀ : State} {s : State} {n : ℕ} (h : Kept s₀ s) : Kept s₀ (estopAll s n) := by
  unfold estopAll
  repeat' first
    | with_reducible assumption
    | with_reducible refine iterate_kept ?_ (fun _ _ _ => ?_)
    | with_reducible refine axisEstop_kept ?_

theorem groupGo_kept {s₀ : State} {s : State} {n : ℕ} (h : Kept s₀ s) : Kept s₀ (groupGo s n) := by
  unfold groupGo
  repeat' first
    | with_reducible assumption
    | with_reducible refine axisRefuse_kept ?_
    | with_reducible refine beginMove_kept ?_
    | with_reducible refine State.modMot_kept ?_
    | with_reducible refine State.wr_kept ?_
    | with_reducible refine endMove_kept ?_
    | with_reducible refine Kept.ite ?_ ?_
    | with_reducible refine Kept.foldl ?_ (fun _ _ _ => ?_)
    | (extract_lets +onlyGivenNames x; clear_value x)
    | split

theorem haltAll_kept {s₀ : State} {s : State} {n : ℕ} (h : Kept s₀ s) : Kept s₀ (haltAll s n) := by
  unfold haltAll
  repeat' first
    | with_reducible assumption
    | with_reducible refine iterate_kept ?_ (fun _ _ _ => ?_)
    | with_reducible refine axisHalt_kept ?_

theorem paramWrite_kept {s₀ : State} {s : State} {n : ℕ} {a : ℕ} {off : ℕ} {v : ℕ} (h : Kept s₀ s) :
    Kept s₀ (paramWrite s n a off v).1 := by
  unfold paramWrite
  repeat' first
    | with_reducible assumption
    | with_reducible refine State.wr_kept ?_
    | with_reducible refine axisRefuse_kept ?_
    | with_reducible refine modAxis_kept ?_
    | (extract_lets +onlyGivenNames x; first | (refine (fun (hx : Kept s₀ x) => ?_) (show Kept s₀ x from ?_); clear_value x; rotate_left; subst x) | (clear_value x))
    | split

theorem paramWrite_kept' {s₀ : State} {s : State} {n : ℕ} {a : ℕ} {off : ℕ} {v : ℕ} {r0 : _} {r1 : _}
    (h : Kept s₀ s) (e : (paramWrite s n a off v) = (r0, r1)) : Kept s₀ r0 := by
  have k : Kept s₀ (paramWrite s n a off v).1 := paramWrite_kept h
  rw [e] at k
  exact k

theorem rampTick_kept {s₀ : State} {s : State} {n : ℕ} (h : Kept s₀ s) : Kept s₀ (rampTick s n) := by
  unfold rampTick
  repeat' first
    | with_reducible assumption
    | with_reducible refine iterate_kept ?_ (fun _ _ _ => ?_)
    | with_reducible refine axisTick_kept ?_

theorem showRef_kept {s₀ : State} {s : State} {n : ℕ} {a : ℕ} (h : Kept s₀ s) : Kept s₀ (showRef s n a) := by
  unfold showRef
  repeat' first
    | with_reducible assumption
    | with_reducible refine State.wb_kept ?_

theorem slipBegin_kept {s₀ : State} {s : State} {n : ℕ} {a : ℕ} (h : Kept s₀ s) : Kept s₀ (slipBegin s n a) := by
  unfold slipBegin
  repeat' first
    | with_reducible assumption
    | with_reducible refine modAxis_kept ?_

/-! ## Machine/LmpOps.lean. -/

theorem applyStage_kept {s₀ : State} {s : State} {n : ℕ} {g : ℕ} {t : LvStage} (h : Kept s₀ s) :
    Kept s₀ (applyStage s n g t) := by
  unfold applyStage
  repeat' first
    | with_reducible assumption
    | with_reducible refine State.modLmp_kept ?_
    | with_reducible refine State.wr_kept ?_
    | with_reducible refine Kept.ite ?_ ?_

theorem modSink_kept {s₀ : State} {s : State} {n : ℕ} {i : ℕ} {f : SinkSt → SinkSt} (h : Kept s₀ s) :
    Kept s₀ (modSink s n i f) := by
  unfold modSink
  repeat' first
    | with_reducible assumption
    | with_reducible refine State.modLmp_kept ?_

theorem recordCheck_kept {s₀ : State} {s : State} {n : ℕ} {i : ℕ} {v : ℕ} {cur : ℕ} {bad : Bool} {conducting : Bool}
    (h : Kept s₀ s) : Kept s₀ (recordCheck s n i v cur bad conducting) := by
  unfold recordCheck
  repeat' first
    | with_reducible assumption
    | with_reducible refine modSink_kept ?_
    | with_reducible refine State.modLmp_kept ?_
    | with_reducible refine Kept.ite ?_ ?_

theorem lampReport_kept {s₀ : State} {s : State} {n : ℕ} {i : ℕ} {r : Fin 4 → Fin 12 → DriveReport} (h : Kept s₀ s) :
    Kept s₀ (lampReport s n i r) := by
  unfold lampReport
  repeat' first
    | with_reducible assumption
    | with_reducible refine State.modDrv_kept ?_
    | split

theorem declareShort_kept {s₀ : State} {s : State} {n : ℕ} {i : ℕ} (h : Kept s₀ s) : Kept s₀ (declareShort s n i) := by
  unfold declareShort
  repeat' first
    | with_reducible assumption
    | with_reducible refine lampReport_kept ?_
    | with_reducible refine modSink_kept ?_

theorem selfTest_kept {s₀ : State} {s : State} {n : ℕ} {i : ℕ} (h : Kept s₀ s) : Kept s₀ (selfTest s n i) := by
  unfold selfTest
  repeat' first
    | with_reducible assumption
    | with_reducible refine modSink_kept ?_

theorem continuousCheck_kept {s₀ : State} {s : State} {n : ℕ} {i : ℕ} {sn : SinkSense} (h : Kept s₀ s) :
    Kept s₀ (continuousCheck s n i sn) := by
  unfold continuousCheck
  repeat' first
    | with_reducible assumption
    | with_reducible refine modSink_kept ?_
    | with_reducible refine recordCheck_kept ?_
    | with_reducible refine declareShort_kept ?_
    | with_reducible refine selfTest_kept ?_
    | with_reducible refine Kept.ite ?_ ?_
    | split

theorem derStep_kept {s₀ : State} {s : State} {n : ℕ} (h : Kept s₀ s) : Kept s₀ (derStep s n) := by
  unfold derStep
  repeat' first
    | with_reducible assumption
    | with_reducible refine State.raiseIf_kept ?_
    | with_reducible refine State.wr_kept ?_
    | with_reducible refine Kept.ite ?_ ?_

theorem fadeStep_kept {s₀ : State} {s : State} {n : ℕ} {g : ℕ} (h : Kept s₀ s) : Kept s₀ (fadeStep s n g) := by
  unfold fadeStep
  repeat' first
    | with_reducible assumption
    | with_reducible refine State.wr_kept ?_
    | with_reducible refine State.raise_kept ?_
    | with_reducible refine State.modLmp_kept ?_
    | with_reducible refine Kept.ite ?_ ?_
    | split

theorem fadeStop_kept {s₀ : State} {s : State} {n : ℕ} (h : Kept s₀ s) : Kept s₀ (fadeStop s n) := by
  unfold fadeStop
  repeat' first
    | with_reducible assumption
    | with_reducible refine State.modLmp_kept ?_

theorem follow_kept {s₀ : State} {s : State} {n : ℕ} (h : Kept s₀ s) : Kept s₀ (follow s n).2 := by
  unfold follow
  repeat' first
    | with_reducible assumption
    | with_reducible refine iterate_kept ?_ (fun _ _ _ => ?_)
    | with_reducible refine State.wr_kept ?_

theorem follow_kept' {s₀ : State} {s : State} {n : ℕ} {r0 : _} {r1 : _} (h : Kept s₀ s) (e : (follow s n) = (r0, r1)) :
    Kept s₀ r1 := by
  have k : Kept s₀ (follow s n).2 := follow_kept h
  rw [e] at k
  exact k

theorem headroom_kept {s₀ : State} {s : State} {n : ℕ} (h : Kept s₀ s) : Kept s₀ (headroom s n) := by
  unfold headroom
  repeat' first
    | with_reducible assumption
    | with_reducible refine State.modLmp_kept ?_
    | with_reducible refine State.wr_kept ?_
    | with_reducible refine State.raiseIf_kept ?_
    | (extract_lets +onlyGivenNames x; clear_value x)
    | split

theorem holdSample_kept {s₀ : State} {s : State} {k : ℕ} {y : ℤ} (h : Kept s₀ s) : Kept s₀ (holdSample s k y) := by
  unfold holdSample
  repeat' first
    | with_reducible assumption
    | with_reducible refine iterate_kept ?_ (fun _ _ _ => ?_)
    | with_reducible refine modLine_kept ?_
    | with_reducible refine State.modLmp_kept ?_
    | with_reducible refine Kept.ite ?_ ?_
    | split

theorem holdStep_kept {s₀ : State} {s : State} {n : ℕ} {t0 : ℕ} (h : Kept s₀ s) : Kept s₀ (holdStep s n t0) := by
  unfold holdStep
  repeat' first
    | with_reducible assumption
    | with_reducible refine iterate_kept ?_ (fun _ _ _ => ?_)
    | with_reducible refine State.modLmp_kept ?_
    | with_reducible refine State.wr_kept ?_
    | with_reducible refine Kept.ite ?_ ?_
    | split

theorem holdUpdate_kept {s₀ : State} {s : State} {n : ℕ} {g : ℕ} (h : Kept s₀ s) : Kept s₀ (holdUpdate s n g) := by
  unfold holdUpdate
  repeat' first
    | with_reducible assumption
    | with_reducible refine State.modLmp_kept ?_
    | with_reducible refine State.wr_kept ?_
    | with_reducible refine State.free_kept ?_
    | with_reducible refine State.raiseIf_kept ?_
    | with_reducible refine Kept.ite ?_ ?_

theorem lampFaultClear_kept {s₀ : State} {s : State} {n : ℕ} {w : Word} (h : Kept s₀ s) : Kept s₀ (lampFaultClear s n w) := by
  unfold lampFaultClear
  repeat' first
    | with_reducible assumption
    | with_reducible refine iterate_kept ?_ (fun _ _ _ => ?_)
    | with_reducible refine modSink_kept ?_
    | with_reducible refine State.clearW1c_kept ?_
    | with_reducible refine Kept.ite ?_ ?_

theorem lampFaultEv_kept {s₀ : State} {s : State} {n : ℕ} {e_2 : ℕ} {i : ℕ} {code : ℕ} (h : Kept s₀ s) :
    Kept s₀ (lampFaultEv s n e_2 i code) := by
  unfold lampFaultEv
  repeat' first
    | with_reducible assumption
    | with_reducible refine State.modCal_kept ?_
    | with_reducible refine State.raise_kept ?_

theorem lampRefuse_kept {s₀ : State} {s : State} {n : ℕ} (h : Kept s₀ s) : Kept s₀ (lampRefuse s n) := by
  unfold lampRefuse
  repeat' first
    | with_reducible assumption
    | with_reducible refine State.raise_kept ?_
    | with_reducible refine State.bump_kept ?_

theorem showLamp_kept {s₀ : State} {s : State} {n : ℕ} (h : Kept s₀ s) : Kept s₀ (showLamp s n) := by
  unfold showLamp
  repeat' first
    | with_reducible assumption
    | with_reducible refine State.wb_kept ?_
    | with_reducible refine State.wr_kept ?_

theorem lampTemp_kept {s₀ : State} {s : State} {n : ℕ} {theta : Option (BitVec 16)} (h : Kept s₀ s) :
    Kept s₀ (lampTemp s n theta) := by
  unfold lampTemp
  repeat' first
    | with_reducible assumption
    | with_reducible refine State.raise_kept ?_
    | with_reducible refine State.modLmp_kept ?_
    | with_reducible refine State.raiseIf_kept ?_
    | with_reducible refine showLamp_kept ?_
    | with_reducible refine driveSet_kept ?_
    | with_reducible refine State.wr_kept ?_
    | with_reducible refine Kept.ite ?_ ?_
    | split

theorem lampsPulse_kept {s₀ : State} {s : State} {n t0 : Nat} (h : Kept s₀ s) : Kept s₀ (lampsPulse s n t0) := h.out_ _

theorem sinkUpdate_kept {s₀ : State} {s : State} {n : ℕ} (h : Kept s₀ s) : Kept s₀ (sinkUpdate s n) := by
  unfold sinkUpdate
  repeat' first
    | with_reducible assumption
    | with_reducible refine iterate_kept ?_ (fun _ _ _ => ?_)
    | with_reducible refine modSink_kept ?_
    | with_reducible refine State.raiseIf_kept ?_
    | with_reducible refine State.wr_kept ?_

theorem ldSyncEdge_kept {s₀ : State} {s : State} (h : Kept s₀ s) : Kept s₀ (ldSyncEdge s) := by
  unfold ldSyncEdge
  repeat' first
    | with_reducible assumption
    | with_reducible refine iterate_kept ?_ (fun _ _ _ => ?_)
    | with_reducible refine State.modLmp_kept ?_
    | with_reducible refine showLamp_kept ?_
    | with_reducible refine sinkUpdate_kept ?_
    | with_reducible refine applyStage_kept ?_
    | with_reducible refine Kept.ite ?_ ?_
    | split

theorem levelStage_kept {s₀ : State} {s : State} {n : ℕ} {g : ℕ} {level : ℕ} {fade : ℕ} {when_ : ℕ} {line : ℕ}
    (h : Kept s₀ s) : Kept s₀ (levelStage s n g level fade when_ line) := by
  unfold levelStage
  repeat' first
    | with_reducible assumption
    | with_reducible refine lampRefuse_kept ?_
    | with_reducible refine State.wr_kept ?_
    | with_reducible refine showLamp_kept ?_
    | with_reducible refine State.modLmp_kept ?_
    | with_reducible refine Kept.ite ?_ ?_

theorem levelWrite_kept {s₀ : State} {s : State} {n : ℕ} {g : ℕ} {level : ℕ} {fade : ℕ} (h : Kept s₀ s) :
    Kept s₀ (levelWrite s n g level fade) := by
  unfold levelWrite
  repeat' first
    | with_reducible assumption
    | with_reducible refine levelStage_kept ?_

theorem pulseCheck_kept {s₀ : State} {s : State} {n : ℕ} {i : ℕ} {amp : ℕ} {need : ℕ} {conducting : Bool}
    (h : Kept s₀ s) : Kept s₀ (pulseCheck s n i amp need conducting) := by
  unfold pulseCheck
  repeat' first
    | with_reducible assumption
    | with_reducible refine recordCheck_kept ?_
    | with_reducible refine modSink_kept ?_
    | with_reducible refine declareShort_kept ?_
    | with_reducible refine selfTest_kept ?_
    | with_reducible refine Kept.ite ?_ ?_

theorem lineChecks_kept {s₀ : State} {s : State} {n : ℕ} (h : Kept s₀ s) : Kept s₀ (lineChecks s n) := by
  unfold lineChecks
  repeat' first
    | with_reducible assumption
    | with_reducible refine iterate_kept ?_ (fun _ _ _ => ?_)
    | with_reducible refine pulseCheck_kept ?_
    | with_reducible refine Kept.ite ?_ ?_

theorem relightStep_kept {s₀ : State} {s : State} {n : ℕ} {t0 : ℕ} (h : Kept s₀ s) : Kept s₀ (relightStep s n t0) := by
  unfold relightStep
  repeat' first
    | with_reducible assumption
    | with_reducible refine iterate_kept ?_ (fun _ _ _ => ?_)
    | with_reducible refine modSink_kept ?_
    | with_reducible refine Kept.ite ?_ ?_
    | split

theorem lmpLineStart_kept {s₀ : State} {s : State} {n : ℕ} {t0 : ℕ} {line : Option ℕ} {trig : Bool} (h : Kept s₀ s) :
    Kept s₀ (lmpLineStart s n t0 line trig) := by
  unfold lmpLineStart
  repeat' first
    | with_reducible assumption
    | with_reducible refine iterate_kept ?_ (fun _ _ _ => ?_)
    | with_reducible refine applyStage_kept ?_
    | with_reducible refine State.bump_kept ?_
    | with_reducible refine fadeStep_kept ?_
    | with_reducible refine derStep_kept ?_
    | with_reducible refine holdStep_kept ?_
    | with_reducible refine relightStep_kept ?_
    | with_reducible refine sinkUpdate_kept ?_
    | with_reducible refine lineChecks_kept ?_
    | with_reducible refine lampsPulse_kept ?_
    | with_reducible refine showLamp_kept ?_
    | with_reducible refine State.modLmp_kept ?_
    | with_reducible refine Kept.ite ?_ ?_
    | split

theorem offWrite_kept {s₀ : State} {s : State} {n : ℕ} {off : Bool} (h : Kept s₀ s) : Kept s₀ (offWrite s n off) := by
  unfold offWrite
  repeat' first
    | with_reducible assumption
    | with_reducible refine State.bump_kept ?_
    | with_reducible refine showLamp_kept ?_
    | with_reducible refine State.wb_kept ?_
    | with_reducible refine Kept.ite ?_ ?_

theorem openReport_kept {s₀ : State} {s : State} {n : ℕ} {i : ℕ} (h : Kept s₀ s) : Kept s₀ (openReport s n i) := by
  unfold openReport
  repeat' first
    | with_reducible assumption
    | with_reducible refine lampFaultEv_kept ?_
    | with_reducible refine State.setW1c_kept ?_

theorem selfTestDone_kept {s₀ : State} {s : State} {n : ℕ} {i : ℕ} {regulates : Bool} (h : Kept s₀ s) :
    Kept s₀ (selfTestDone s n i regulates) := by
  unfold selfTestDone
  repeat' first
    | with_reducible assumption
    | with_reducible refine modSink_kept ?_
    | with_reducible refine lampReport_kept ?_
    | with_reducible refine Kept.ite ?_ ?_

theorem shortReport_kept {s₀ : State} {s : State} {n : ℕ} {i : ℕ} (h : Kept s₀ s) : Kept s₀ (shortReport s n i) := by
  unfold shortReport
  repeat' first
    | with_reducible assumption
    | with_reducible refine showLamp_kept ?_
    | with_reducible refine lampFaultEv_kept ?_
    | with_reducible refine State.setW1c_kept ?_

theorem sinkReport_kept {s₀ : State} {s : State} {n : ℕ} {i : ℕ} (h : Kept s₀ s) : Kept s₀ (sinkReport s n i) := by
  unfold sinkReport
  repeat' first
    | with_reducible assumption
    | with_reducible refine showLamp_kept ?_
    | with_reducible refine lampFaultEv_kept ?_
    | with_reducible refine State.wr_kept ?_

theorem stripLine_kept {s₀ : State} {s : State} {n : ℕ} {l : LineRec} {cal : Bool} (h : Kept s₀ s) :
    Kept s₀ (stripLine s n l cal) := by
  unfold stripLine
  repeat' first
    | with_reducible assumption
    | with_reducible refine iterate_kept ?_ (fun _ _ _ => ?_)
    | with_reducible refine State.modLmp_kept ?_
    | with_reducible refine modSink_kept ?_
    | with_reducible refine State.bump_kept ?_
    | with_reducible refine lampFaultEv_kept ?_
    | with_reducible refine Kept.ite ?_ ?_

/-! ## Machine/PosOps.lean. -/

theorem absDone_kept {s₀ : State} {s : State} {n : ℕ} {tick : ℕ} {f : AbsFrame} (h : Kept s₀ s) :
    Kept s₀ (absDone s n tick f) := by
  unfold absDone
  repeat' first
    | with_reducible assumption
    | with_reducible refine State.modPos_kept ?_
    | with_reducible refine State.wr_kept ?_
    | with_reducible refine State.wr64_kept ?_
    | with_reducible refine State.raise_kept ?_
    | with_reducible refine State.bump_kept ?_
    | with_reducible refine State.wb_kept ?_
    | with_reducible refine State.raiseIf_kept ?_
    | with_reducible refine Kept.ite ?_ ?_

theorem showPos_kept {s₀ : State} {s : State} {n : ℕ} (h : Kept s₀ s) : Kept s₀ (showPos s n) := by
  unfold showPos
  repeat' first
    | with_reducible assumption
    | with_reducible refine State.wr64_kept ?_
    | with_reducible refine State.wb_kept ?_
    | split

theorem loadCount_kept {s₀ : State} {s : State} {n : ℕ} {c : ℤ} (h : Kept s₀ s) : Kept s₀ (loadCount s n c) := by
  unfold loadCount
  repeat' first
    | with_reducible assumption
    | with_reducible refine State.wr_kept ?_
    | with_reducible refine State.modPos_kept ?_
    | with_reducible refine showPos_kept ?_

theorem absLoad_kept {s₀ : State} {s : State} {n : ℕ} (h : Kept s₀ s) : Kept s₀ (absLoad s n) := by
  unfold absLoad
  repeat' first
    | with_reducible assumption
    | with_reducible refine State.bump_kept ?_
    | with_reducible refine loadCount_kept ?_
    | with_reducible refine Kept.ite ?_ ?_
    | split

theorem absRead_kept {s₀ : State} {s : State} {n : ℕ} {tick : ℕ} (h : Kept s₀ s) : Kept s₀ (absRead s n tick) := by
  unfold absRead
  repeat' first
    | with_reducible assumption
    | with_reducible refine State.modPos_kept ?_
    | with_reducible refine State.wr_kept ?_
    | with_reducible refine Kept.ite ?_ ?_

theorem armOverlap_kept {s₀ : State} {s : State} {n : ℕ} {K : ℕ} {last : ℕ} (h : Kept s₀ s) :
    Kept s₀ (armOverlap s n K last) := by
  unfold armOverlap
  repeat' first
    | with_reducible assumption
    | with_reducible refine showPos_kept ?_
    | with_reducible refine State.modPos_kept ?_

theorem setCmp_kept {s₀ : State} {s : State} {n : ℕ} {c : ℕ} {l : Bool} (h : Kept s₀ s) : Kept s₀ (setCmp s n c l) := by
  unfold setCmp
  repeat' first
    | with_reducible assumption
    | with_reducible refine State.wr_kept ?_

theorem cmpFire_kept {s₀ : State} {s : State} {n : ℕ} {c : ℕ} {tick : ℕ} {e_4 : CmpEntry} (h : Kept s₀ s) :
    Kept s₀ (cmpFire s n c tick e_4) := by
  unfold cmpFire
  repeat' first
    | with_reducible assumption
    | with_reducible refine State.modPos_kept ?_
    | with_reducible refine setCmp_kept ?_
    | with_reducible refine Kept.ite ?_ ?_

theorem cmpStep_kept {s₀ : State} {s : State} {n : ℕ} {tick : ℕ} {count : ℤ} {up : Bool} (h : Kept s₀ s) :
    Kept s₀ (cmpStep s n tick count up) := by
  unfold cmpStep
  repeat' first
    | with_reducible assumption
    | with_reducible refine iterate_kept ?_ (fun _ _ _ => ?_)
    | with_reducible refine cmpFire_kept ?_
    | with_reducible refine Kept.ite ?_ ?_
    | with_reducible refine Kept.foldl ?_ (fun _ _ _ => ?_)

theorem cmpCorrection_kept {s₀ : State} {s : State} {n : ℕ} {tick : ℕ} {count : ℤ} {c : ℤ} (h : Kept s₀ s) :
    Kept s₀ (cmpCorrection s n tick count c) := by
  unfold cmpCorrection
  repeat' first
    | with_reducible assumption
    | with_reducible refine cmpStep_kept ?_
    | with_reducible refine Kept.foldl ?_ (fun _ _ _ => ?_)

theorem cmpRest_kept {s₀ : State} {s : State} {n : ℕ} (h : Kept s₀ s) : Kept s₀ (cmpRest s n) := by
  unfold cmpRest
  repeat' first
    | with_reducible assumption
    | with_reducible refine iterate_kept ?_ (fun _ _ _ => ?_)
    | with_reducible refine State.modPos_kept ?_
    | with_reducible refine setCmp_kept ?_
    | with_reducible refine Kept.ite ?_ ?_

theorem cmpEnable_kept {s₀ : State} {s : State} {n : ℕ} {en : ℕ} (h : Kept s₀ s) : Kept s₀ (cmpEnable s n en) := by
  unfold cmpEnable
  repeat' first
    | with_reducible assumption
    | with_reducible refine cmpRest_kept ?_
    | with_reducible refine State.wr_kept ?_

theorem cmpPulseEnd_kept {s₀ : State} {s : State} {n : ℕ} {c : ℕ} {tick : ℕ} (h : Kept s₀ s) :
    Kept s₀ (cmpPulseEnd s n c tick) := by
  unfold cmpPulseEnd
  repeat' first
    | with_reducible assumption
    | with_reducible refine State.modPos_kept ?_
    | with_reducible refine setCmp_kept ?_
    | with_reducible refine Kept.ite ?_ ?_
    | split

theorem correct_kept {s₀ : State} {s : State} {n : ℕ} {tick : ℕ} {line : Option ℕ} (h : Kept s₀ s) :
    Kept s₀ (correct s n tick line) := by
  unfold correct
  repeat' first
    | with_reducible assumption
    | with_reducible refine State.modPos_kept ?_
    | with_reducible refine cmpCorrection_kept ?_
    | with_reducible refine State.wr_kept ?_
    | with_reducible refine State.wr64_kept ?_
    | with_reducible refine showPos_kept ?_
    | with_reducible refine State.raise_kept ?_
    | with_reducible refine Kept.ite ?_ ?_
    | (extract_lets +onlyGivenNames x; refine (fun (hx : Kept s₀ x) => ?_) (show Kept s₀ x from ?_); clear_value x; rotate_left; subst x)
    | split

theorem disarmOverlap_kept {s₀ : State} {s : State} {n : ℕ} (h : Kept s₀ s) : Kept s₀ (disarmOverlap s n) := by
  unfold disarmOverlap
  repeat' first
    | with_reducible assumption
    | with_reducible refine showPos_kept ?_
    | with_reducible refine State.modPos_kept ?_

theorem divCount_kept {s₀ : State} {s : State} {n : ℕ} (h : Kept s₀ s) : Kept s₀ (divCount s n) := by
  unfold divCount
  repeat' first
    | with_reducible assumption
    | with_reducible refine State.modPos_kept ?_
    | with_reducible refine Kept.ite ?_ ?_

theorem divPulse_kept {s₀ : State} {s : State} {n : ℕ} {tick : ℕ} (h : Kept s₀ s) : Kept s₀ (divPulse s n tick) := by
  unfold divPulse
  repeat' first
    | with_reducible assumption
    | with_reducible refine State.modPos_kept ?_
    | with_reducible refine Kept.ite ?_ ?_

theorem divPulseEnd_kept {s₀ : State} {s : State} {n : ℕ} {tick : ℕ} (h : Kept s₀ s) : Kept s₀ (divPulseEnd s n tick) := by
  unfold divPulseEnd
  repeat' first
    | with_reducible assumption
    | with_reducible refine State.modPos_kept ?_
    | with_reducible refine Kept.ite ?_ ?_
    | split

theorem divSelect_kept {s₀ : State} {s : State} {n : ℕ} (h : Kept s₀ s) : Kept s₀ (divSelect s n) := by
  unfold divSelect
  repeat' first
    | with_reducible assumption
    | with_reducible refine State.modPos_kept ?_

theorem driftCheck_kept {s₀ : State} {s : State} {n : ℕ} {latched : ℤ} (h : Kept s₀ s) : Kept s₀ (driftCheck s n latched) := by
  unfold driftCheck
  repeat' first
    | with_reducible assumption
    | with_reducible refine State.peak_kept ?_
    | with_reducible refine State.wr_kept ?_
    | with_reducible refine State.modPos_kept ?_
    | with_reducible refine State.raise_kept ?_
    | with_reducible refine Kept.ite ?_ ?_

theorem gateCheck_kept {s₀ : State} {s : State} {n : ℕ} (h : Kept s₀ s) : Kept s₀ (gateCheck s n) := by
  unfold gateCheck
  repeat' first
    | with_reducible assumption
    | with_reducible refine State.raise_kept ?_
    | with_reducible refine State.bump_kept ?_
    | with_reducible refine State.modPos_kept ?_
    | with_reducible refine Kept.ite ?_ ?_

theorem genAdvance_kept {s₀ : State} {s : State} {clocks : ℕ} (h : Kept s₀ s) : Kept s₀ (genAdvance s clocks) := by
  unfold genAdvance
  repeat' first
    | with_reducible assumption
    | with_reducible refine iterate_kept ?_ (fun _ _ _ => ?_)
    | with_reducible refine State.modPos_kept ?_
    | with_reducible refine Kept.ite ?_ ?_

theorem genSelect_kept {s₀ : State} {s : State} {n : ℕ} (h : Kept s₀ s) : Kept s₀ (genSelect s n) := by
  unfold genSelect
  repeat' first
    | with_reducible assumption
    | with_reducible refine State.modPos_kept ?_

theorem reference_kept {s₀ : State} {s : State} {n : ℕ} (h : Kept s₀ s) : Kept s₀ (reference s n) := by
  unfold reference
  repeat' first
    | with_reducible assumption
    | with_reducible refine State.modPos_kept ?_
    | with_reducible refine State.wr64_kept ?_
    | with_reducible refine State.wr_kept ?_
    | with_reducible refine showPos_kept ?_
    | with_reducible refine driftCheck_kept ?_
    | with_reducible refine Kept.ite ?_ ?_

theorem indexEdge_kept {s₀ : State} {s : State} {n : ℕ} (h : Kept s₀ s) : Kept s₀ (indexEdge s n) := by
  unfold indexEdge
  repeat' first
    | with_reducible assumption
    | with_reducible refine reference_kept ?_
    | with_reducible refine Kept.ite ?_ ?_

theorem posPreset_kept {s₀ : State} {s : State} {n : ℕ} (h : Kept s₀ s) : Kept s₀ (posPreset s n) := by
  unfold posPreset
  repeat' first
    | with_reducible assumption
    | with_reducible refine State.bump_kept ?_
    | with_reducible refine State.modPos_kept ?_
    | with_reducible refine loadCount_kept ?_
    | with_reducible refine Kept.ite ?_ ?_

theorem refLostCheck_kept {s₀ : State} {s : State} {n : ℕ} (h : Kept s₀ s) : Kept s₀ (refLostCheck s n) := by
  unfold refLostCheck
  repeat' first
    | with_reducible assumption
    | with_reducible refine State.raise_kept ?_
    | with_reducible refine State.modPos_kept ?_
    | with_reducible refine Kept.ite ?_ ?_

theorem speedShow_kept {s₀ : State} {s : State} {n : ℕ} {tick : ℕ} (h : Kept s₀ s) : Kept s₀ (speedShow s n tick) := by
  unfold speedShow
  repeat' first
    | with_reducible assumption
    | with_reducible refine State.wb_kept ?_
    | with_reducible refine State.wr_kept ?_
    | with_reducible refine State.raiseIf_kept ?_
    | with_reducible refine State.modPos_kept ?_
    | with_reducible refine Kept.ite ?_ ?_

theorem speedChange_kept {s₀ : State} {s : State} {n : ℕ} {tick : ℕ} {up : Bool} (h : Kept s₀ s) :
    Kept s₀ (speedChange s n tick up) := by
  unfold speedChange
  repeat' first
    | with_reducible assumption
    | with_reducible refine State.modPos_kept ?_
    | with_reducible refine State.wb_kept ?_
    | with_reducible refine State.wr_kept ?_
    | with_reducible refine speedShow_kept ?_
    | with_reducible refine Kept.ite ?_ ?_

theorem speedUpdate_kept {s₀ : State} {s : State} {n : ℕ} {tick : ℕ} (h : Kept s₀ s) : Kept s₀ (speedUpdate s n tick) := by
  unfold speedUpdate
  repeat' first
    | with_reducible assumption
    | with_reducible refine State.wr_kept ?_
    | with_reducible refine State.modPos_kept ?_
    | with_reducible refine speedShow_kept ?_
    | with_reducible refine Kept.ite ?_ ?_
    | (extract_lets +onlyGivenNames x; first | (refine (fun (hx : Kept s₀ x) => ?_) (show Kept s₀ x from ?_); clear_value x; rotate_left; subst x) | (clear_value x))
    | split

theorem toothEdge_kept {s₀ : State} {s : State} {n : ℕ} {tick : ℕ} {up : Bool} (h : Kept s₀ s) :
    Kept s₀ (toothEdge s n tick up) := by
  unfold toothEdge
  repeat' first
    | with_reducible assumption
    | with_reducible refine State.modPos_kept ?_
    | with_reducible refine reference_kept ?_
    | with_reducible refine Kept.ite ?_ ?_
    | (extract_lets +onlyGivenNames x; first | (refine (fun (hx : Kept s₀ x) => ?_) (show Kept s₀ x from ?_); clear_value x; rotate_left; subst x) | (clear_value x))
    | split

/-! ## Machine/FifoOps.lean. -/

theorem ringWrite_wf {m : List (Nat × Byte)} (w : SparseWf zeroByte m) (base size off : Nat) (bs : List Byte) :
    SparseWf zeroByte (ringWrite m base size off bs) := writeBytes_wf (writeBytes_wf w _ _) _ _

theorem showFifo_kept {s₀ : State} {s : State} {n : ℕ} (h : Kept s₀ s) : Kept s₀ (showFifo s n) := by
  unfold showFifo
  repeat' first
    | with_reducible assumption
    | with_reducible refine State.peak_kept ?_
    | with_reducible refine State.wr_kept ?_
    | with_reducible refine State.wb_kept ?_

theorem nextMarker_kept {s₀ : State} {s : State} {n : ℕ} (h : Kept s₀ s) : Kept s₀ (nextMarker s n).2 := by
  unfold nextMarker
  repeat' first
    | with_reducible assumption
    | with_reducible refine State.modFifo_kept ?_

theorem nextMarker_kept' {s₀ : State} {s : State} {n : ℕ} {r0 : _} {r1 : _}
    (h : Kept s₀ s) (e : (nextMarker s n) = (r0, r1)) : Kept s₀ r1 := by
  have k : Kept s₀ (nextMarker s n).2 := nextMarker_kept h
  rw [e] at k
  exact k

theorem spanMarker_kept {s₀ : State} {s : State} {n : ℕ} {jig : ℕ} {sp : Span} {e_4 : SpanEnd} {sheet : ℕ} {index : ℕ}
    {granted : Bool} (h : Kept s₀ s) : Kept s₀ (spanMarker s n jig sp e_4 sheet index granted).2 := by
  unfold spanMarker
  repeat' first
    | with_reducible assumption
    | with_reducible refine nextMarker_kept ?_

theorem spanMarker_kept' {s₀ : State} {s : State} {n : ℕ} {jig : ℕ} {sp : Span} {e_4 : SpanEnd} {sheet : ℕ} {index : ℕ}
    {granted : Bool} {r0 : _} {r1 : _} (h : Kept s₀ s) (e : (spanMarker s n jig sp e_4 sheet index granted) = (r0, r1)) :
    Kept s₀ r1 := by
  have k : Kept s₀ (spanMarker s n jig sp e_4 sheet index granted).2 := spanMarker_kept h
  rw [e] at k
  exact k

theorem countMarker_kept {s₀ : State} {s : State} {n : ℕ} {bs : List Byte} (h : Kept s₀ s) : Kept s₀ (countMarker s n bs) := by
  unfold countMarker
  repeat' first
    | with_reducible assumption
    | with_reducible refine State.addWrap_kept ?_
    | with_reducible refine State.setW1c_kept ?_
    | with_reducible refine State.raise_kept ?_
    | with_reducible refine Kept.ite ?_ ?_

theorem reserveAppend_kept {s₀ : State} {s : State} {n : ℕ} {ps : List Pkt} (h : Kept s₀ s) :
    Kept s₀ (reserveAppend s n ps) := by
  unfold reserveAppend
  repeat' first
    | with_reducible assumption
    | with_reducible refine State.modFifo_kept ?_
    | with_reducible refine countMarker_kept ?_
    | with_reducible refine Kept.ite ?_ ?_
    | with_reducible refine Kept.foldl ?_ (fun _ _ _ => ?_)

theorem writeSpan_kept {s₀ : State} {s : State} {n : ℕ} {sp : Span} (h : Kept s₀ s) : Kept s₀ (writeSpan s n sp) := by
  unfold writeSpan
  repeat' first
    | with_reducible assumption
    | with_reducible refine spanMarker_kept ?_
    | with_reducible refine reserveAppend_kept ?_

theorem closeSpanRun_kept {s₀ : State} {s : State} {n : ℕ} (h : Kept s₀ s) : Kept s₀ (closeSpanRun s n) := by
  unfold closeSpanRun
  repeat' first
    | with_reducible assumption
    | with_reducible refine showFifo_kept ?_
    | with_reducible refine State.modFifo_kept ?_
    | with_reducible refine writeSpan_kept ?_
    | split

theorem dropLine_kept {s₀ : State} {s : State} {n : ℕ} {cause : ℕ} {e_3 : SpanEnd} {sheet : ℕ} (h : Kept s₀ s) :
    Kept s₀ (dropLine s n cause e_3 sheet) := by
  unfold dropLine
  repeat' first
    | with_reducible assumption
    | with_reducible refine State.modFifo_kept ?_
    | with_reducible refine writeSpan_kept ?_
    | with_reducible refine showFifo_kept ?_
    | with_reducible refine Kept.ite ?_ ?_
    | split

theorem paceApply_kept {s₀ : State} {s : State} {n : ℕ} {e_2 : ℕ} (h : Kept s₀ s) : Kept s₀ (paceApply s n e_2) := by
  unfold paceApply
  repeat' first
    | with_reducible assumption
    | with_reducible refine paramWrite_kept ?_
    | with_reducible refine State.wr_kept ?_
    | with_reducible refine State.bump_kept ?_
    | with_reducible refine Kept.ite ?_ ?_
    | split

theorem dtMove_kept {s₀ : State} {s : State} {n : ℕ} {tgt : ℤ} (h : Kept s₀ s) : Kept s₀ (dtMove s n tgt).1 := by
  unfold dtMove
  repeat' first
    | with_reducible assumption
    | with_reducible refine paceApply_kept ?_
    | with_reducible refine axisMove_kept ?_
    | (extract_lets +onlyGivenNames x; refine (fun (hx : Kept s₀ x) => ?_) (show Kept s₀ x from ?_); clear_value x; rotate_left; subst x)
    | split

theorem dtMove_kept' {s₀ : State} {s : State} {n : ℕ} {tgt : ℤ} {r0 : _} {r1 : _}
    (h : Kept s₀ s) (e : (dtMove s n tgt) = (r0, r1)) : Kept s₀ r0 := by
  have k : Kept s₀ (dtMove s n tgt).1 := dtMove_kept h
  rw [e] at k
  exact k

theorem dtBackoff_kept {s₀ : State} {s : State} {n : ℕ} (h : Kept s₀ s) : Kept s₀ (dtBackoff s n) := by
  unfold dtBackoff
  repeat' first
    | with_reducible assumption
    | with_reducible refine State.modFifo_kept ?_
    | with_reducible refine dtMove_kept ?_
    | with_reducible refine State.wr_kept ?_
    | with_reducible refine Kept.ite ?_ ?_
    | (extract_lets +onlyGivenNames x; refine (fun (hx : Kept s₀ x) => ?_) (show Kept s₀ x from ?_); clear_value x; rotate_left; subst x)
    | split

theorem dtHold_kept {s₀ : State} {s : State} {n : ℕ} {newN : Bool} {lost : Bool} (h : Kept s₀ s) :
    Kept s₀ (dtHold s n newN lost) := by
  unfold dtHold
  repeat' first
    | with_reducible assumption
    | with_reducible refine State.modFifo_kept ?_
    | with_reducible refine State.wr64_kept ?_
    | with_reducible refine State.wb_kept ?_
    | with_reducible refine State.wr_kept ?_
    | with_reducible refine State.raiseIf_kept ?_
    | split

theorem dtStop_kept {s₀ : State} {s : State} {n : ℕ} (h : Kept s₀ s) : Kept s₀ (dtStop s n) := by
  unfold dtStop
  repeat' first
    | with_reducible assumption
    | with_reducible refine State.modFifo_kept ?_
    | with_reducible refine State.raise_kept ?_
    | with_reducible refine State.wr_kept ?_
    | with_reducible refine axisHalt_kept ?_
    | with_reducible refine Kept.ite ?_ ?_
    | split

theorem dtJoined_kept {s₀ : State} {s : State} {n : ℕ} (h : Kept s₀ s) : Kept s₀ (dtJoined s n) := by
  unfold dtJoined
  repeat' first
    | with_reducible assumption
    | with_reducible refine State.modFifo_kept ?_
    | with_reducible refine State.wr_kept ?_
    | with_reducible refine dtStop_kept ?_
    | with_reducible refine Kept.ite ?_ ?_

theorem dtTryResume_kept {s₀ : State} {s : State} {n : ℕ} (h : Kept s₀ s) : Kept s₀ (dtTryResume s n) := by
  unfold dtTryResume
  repeat' first
    | with_reducible assumption
    | with_reducible refine dtBackoff_kept ?_
    | with_reducible refine Kept.ite ?_ ?_

theorem dtResume_kept {s₀ : State} {s : State} {n : ℕ} (h : Kept s₀ s) : Kept s₀ (dtResume s n) := by
  unfold dtResume
  repeat' first
    | with_reducible assumption
    | with_reducible refine dtTryResume_kept ?_
    | with_reducible refine State.modFifo_kept ?_
    | with_reducible refine Kept.ite ?_ ?_

theorem dtRunClear_kept {s₀ : State} {s : State} {n : ℕ} (h : Kept s₀ s) : Kept s₀ (dtRunClear s n) := by
  unfold dtRunClear
  repeat' first
    | with_reducible assumption
    | with_reducible refine State.modFifo_kept ?_
    | with_reducible refine State.wr_kept ?_
    | with_reducible refine disarmOverlap_kept ?_
    | with_reducible refine Kept.ite ?_ ?_

theorem dtWatch_kept {s₀ : State} {s : State} {n : ℕ} (h : Kept s₀ s) : Kept s₀ (dtWatch s n) := by
  unfold dtWatch
  repeat' first
    | with_reducible assumption
    | with_reducible refine State.modFifo_kept ?_
    | with_reducible refine State.wr_kept ?_
    | with_reducible refine dtHold_kept ?_
    | with_reducible refine dtTryResume_kept ?_
    | with_reducible refine armOverlap_kept ?_
    | with_reducible refine dtMove_kept ?_
    | with_reducible refine disarmOverlap_kept ?_
    | with_reducible refine Kept.ite ?_ ?_
    | (extract_lets +onlyGivenNames x; first | (refine (fun (hx : Kept s₀ x) => ?_) (show Kept s₀ x from ?_); clear_value x; rotate_left; subst x) | (refine (fun (hx : Kept s₀ x.1) => ?_) (show Kept s₀ x.1 from ?_); clear_value x; rotate_left; subst x) | (clear_value x))
    | split

theorem fifoFlush_kept {s₀ : State} {s : State} {n : ℕ} (h : Kept s₀ s) : Kept s₀ (fifoFlush s n) := by
  unfold fifoFlush
  repeat' first
    | with_reducible assumption
    | with_reducible refine State.modFifo_kept ?_

theorem fifoWatch_kept {s₀ : State} {s : State} {n : ℕ} (h : Kept s₀ s) : Kept s₀ (fifoWatch s n) := by
  unfold fifoWatch
  repeat' first
    | with_reducible assumption
    | with_reducible refine showFifo_kept ?_
    | with_reducible refine State.modFifo_kept ?_
    | with_reducible refine State.raiseIf_kept ?_
    | with_reducible refine dtStop_kept ?_
    | with_reducible refine dtTryResume_kept ?_
    | with_reducible refine Kept.ite ?_ ?_

theorem finishReserve_kept {s₀ : State} {s : State} {n : ℕ} (h : Kept s₀ s) : Kept s₀ (finishReserve s n) := by
  unfold finishReserve
  repeat' first
    | with_reducible assumption
    | with_reducible refine countMarker_kept ?_
    | with_reducible refine State.modFifo_kept ?_
    | with_reducible refine Kept.foldl ?_ (fun _ _ _ => ?_)

theorem grantLine_kept {s₀ : State} {s : State} {n : ℕ} {e_2 : SpanEnd} {rec_ : Bool} {join_ : Bool} (h : Kept s₀ s) :
    Kept s₀ (grantLine s n e_2 rec_ join_).2.2 := by
  unfold grantLine
  repeat' first
    | with_reducible assumption
    | with_reducible refine State.modFifo_kept ?_
    | with_reducible refine fifoWatch_kept ?_
    | with_reducible refine State.raise_kept ?_
    | with_reducible refine dropLine_kept ?_
    | with_reducible refine Kept.ite ?_ ?_
    | (extract_lets +onlyGivenNames x; first | (refine (fun (hx : Kept s₀ x) => ?_) (show Kept s₀ x from ?_); clear_value x; rotate_left; subst x) | (clear_value x))
    | split

theorem grantLine_kept' {s₀ : State} {s : State} {n : ℕ} {e_2 : SpanEnd} {rec_ : Bool} {join_ : Bool} {r0 : _} {r1 : _}
    {r2 : _} (h : Kept s₀ s) (e : (grantLine s n e_2 rec_ join_) = (r0, r1, r2)) : Kept s₀ r2 := by
  have k : Kept s₀ (grantLine s n e_2 rec_ join_).2.2 := grantLine_kept h
  rw [e] at k
  exact k

theorem handOver_kept {s₀ : State} {s : State} {n : ℕ} (h : Kept s₀ s) : Kept s₀ (handOver s n) := by
  unfold handOver
  repeat' first
    | with_reducible assumption
    | with_reducible refine State.wr64_kept ?_
    | with_reducible refine State.modFifo_kept ?_
    | with_reducible refine fifoWatch_kept ?_
    | (extract_lets +onlyGivenNames x; clear_value x)
    | split

theorem joinCount_kept {s₀ : State} {s : State} {n : ℕ} {r : JoinRes} {line : ℕ} (h : Kept s₀ s) :
    Kept s₀ (joinCount s n r line) := by
  unfold joinCount
  repeat' first
    | with_reducible assumption
    | with_reducible refine State.bump_kept ?_
    | with_reducible refine State.raise_kept ?_
    | with_reducible refine State.wr_kept ?_
    | with_reducible refine Kept.ite ?_ ?_

theorem lostMarker_kept {s₀ : State} {s : State} {n : ℕ} {cause : ℕ} {hdr : Option (List Byte)} {trl : Option (List Byte)}
    {ahead : List Pkt} {next : Option ℕ} {granted : Bool} (h : Kept s₀ s) :
    Kept s₀ (lostMarker s n cause hdr trl ahead next granted).2 := by
  unfold lostMarker
  repeat' first
    | with_reducible assumption
    | with_reducible refine nextMarker_kept ?_
    | with_reducible refine countMarker_kept ?_

theorem lostMarker_kept' {s₀ : State} {s : State} {n : ℕ} {cause : ℕ} {hdr : Option (List Byte)} {trl : Option (List Byte)}
    {ahead : List Pkt} {next : Option ℕ} {granted : Bool} {r0 : _} {r1 : _} (h : Kept s₀ s) (e
    : (lostMarker s n cause hdr trl ahead next granted) = (r0, r1)) : Kept s₀ r1 := by
  have k : Kept s₀ (lostMarker s n cause hdr trl ahead next granted).2 := lostMarker_kept h
  rw [e] at k
  exact k

theorem paceUpdate_kept {s₀ : State} {s : State} {n : ℕ} (h : Kept s₀ s) : Kept s₀ (paceUpdate s n) := by
  unfold paceUpdate
  repeat' first
    | with_reducible assumption
    | with_reducible refine paceApply_kept ?_
    | with_reducible refine State.wr_kept ?_
    | with_reducible refine Kept.ite ?_ ?_
    | (extract_lets +onlyGivenNames x; clear_value x)
    | split

theorem padFront_kept {s₀ : State} {s : State} {n : ℕ} (h : Kept s₀ s) : Kept s₀ (padFront s n) := by
  unfold padFront
  repeat' first
    | with_reducible assumption
    | with_reducible refine State.modFifo_kept ?_
    | with_reducible refine Kept.ite ?_ ?_
    | (extract_lets +onlyGivenNames x; clear_value x)
    | split

theorem parFails_kept {s₀ : State} {s : State} {n : ℕ} {line : ℕ} {k : ℕ} (h : Kept s₀ s) : Kept s₀ (parFails s n line k) := by
  unfold parFails
  repeat' first
    | with_reducible assumption
    | with_reducible refine iterate_kept ?_ (fun _ _ _ => ?_)
    | with_reducible refine State.raise_kept ?_
    | with_reducible refine State.bump_kept ?_

theorem readRequest_kept {s₀ : State} {s : State} {n : ℕ} {bad : SramBad} {cut : List Byte} (h : Kept s₀ s) :
    Kept s₀ (readRequest s n bad cut) := by
  unfold readRequest
  repeat' first
    | with_reducible assumption
    | with_reducible refine padFront_kept ?_
    | with_reducible refine parFails_kept ?_
    | with_reducible refine lostMarker_kept ?_
    | with_reducible refine fifoWatch_kept ?_
    | with_reducible refine State.modFifo_kept ?_
    | with_reducible refine showFifo_kept ?_
    | with_reducible refine Kept.ite ?_ ?_
    | (extract_lets +onlyGivenNames x; first | (refine (fun (hx : Kept s₀ x) => ?_) (show Kept s₀ x from ?_); clear_value x; rotate_left; subst x) | (clear_value x))
    | split

theorem sheetSpans_kept {s₀ : State} {s : State} {n : ℕ} {line : ℕ} {at_ : ℕ} {after : ℕ} (h : Kept s₀ s) :
    Kept s₀ (sheetSpans s n line at_ after) := by
  unfold sheetSpans
  repeat' first
    | with_reducible assumption
    | with_reducible refine State.modCh_kept ?_

theorem spillRead_kept {s₀ : State} {s : State} {n : ℕ} {bad : SpillBad} (h : Kept s₀ s) : Kept s₀ (spillRead s n bad) := by
  unfold spillRead
  repeat' first
    | with_reducible assumption
    | with_reducible refine fifoWatch_kept ?_
    | with_reducible refine State.modFifo_kept ?_
    | with_reducible refine State.raise_kept ?_
    | with_reducible refine State.bump_kept ?_
    | with_reducible refine lostMarker_kept ?_
    | with_reducible refine Kept.ite ?_ ?_
    | (extract_lets +onlyGivenNames x; first | (refine (fun (hx : Kept s₀ x) => ?_) (show Kept s₀ x from ?_); clear_value x; rotate_left; subst x) | (refine (fun (hx : Kept s₀ x.2) => ?_) (show Kept s₀ x.2 from ?_); clear_value x; rotate_left; subst x) | (refine (fun (hg : ∀ a t, Kept s₀ t → Kept s₀ (x a t)) => ?_) (fun a t ht => show Kept s₀ (x a t) from ?_); clear_value x; rotate_left; dsimp only [x]; clear x) | (clear_value x))
    | with_reducible refine hg _ _ ?_
    | split

theorem spillWrite_kept {s₀ : State} {s : State} {n : ℕ} (h : Kept s₀ s) : Kept s₀ (spillWrite s n) := by
  unfold spillWrite
  repeat' first
    | with_reducible assumption
    | with_reducible refine State.raiseIf_kept ?_
    | with_reducible refine fifoWatch_kept ?_
    | with_reducible refine State.modFifo_kept ?_
    | with_reducible refine State.modDram_kept (fun m hm => ?_) ?_
    | with_reducible refine ringWrite_wf ?_ _ _ _ _
    | with_reducible refine Kept.ite ?_ ?_
    | (extract_lets +onlyGivenNames x; clear_value x)
    | split

theorem stopPadding_kept {s₀ : State} {s : State} {n : ℕ} (h : Kept s₀ s) : Kept s₀ (stopPadding s n) := by
  unfold stopPadding
  repeat' first
    | with_reducible assumption
    | with_reducible refine padFront_kept ?_
    | with_reducible refine State.modFifo_kept ?_
    | with_reducible refine Kept.ite ?_ ?_

theorem tailToHead_kept {s₀ : State} {s : State} {n : ℕ} (h : Kept s₀ s) : Kept s₀ (tailToHead s n) := by
  unfold tailToHead
  repeat' first
    | with_reducible assumption
    | with_reducible refine fifoWatch_kept ?_
    | with_reducible refine State.modFifo_kept ?_
    | with_reducible refine Kept.ite ?_ ?_
    | (extract_lets +onlyGivenNames x; clear_value x)
    | split

/-! ## Machine/CalOps.lean. -/

theorem calAbandon_kept {s₀ : State} {s : State} {n : ℕ} (h : Kept s₀ s) : Kept s₀ (calAbandon s n) := by
  unfold calAbandon
  repeat' first
    | with_reducible assumption
    | with_reducible refine State.raise_kept ?_
    | with_reducible refine State.bump_kept ?_
    | with_reducible refine State.wr_kept ?_
    | with_reducible refine State.modCal_kept ?_
    | with_reducible refine Kept.ite ?_ ?_

theorem storeSlot_kept {s₀ : State} {s : State} {n : ℕ} {slot : ℕ} {valid : Bool} (h : Kept s₀ s) :
    Kept s₀ (storeSlot s n slot valid) := by
  unfold storeSlot
  repeat' first
    | with_reducible assumption
    | with_reducible refine State.wr_kept ?_
    | with_reducible refine State.modDram_kept (fun m hm => ?_) ?_
    | with_reducible refine copyRegion_wf _ ?_ _ _ _

theorem calActivate_kept {s₀ : State} {s : State} {n : ℕ} {line : ℕ} {ts : ℕ} (h : Kept s₀ s) :
    Kept s₀ (calActivate s n line ts) := by
  unfold calActivate
  repeat' first
    | with_reducible assumption
    | with_reducible refine profileSwap_kept ?_
    | with_reducible refine storeSlot_kept ?_
    | with_reducible refine State.wr_kept ?_
    | with_reducible refine State.bump_kept ?_
    | with_reducible refine State.wr64_kept ?_
    | with_reducible refine State.modCal_kept ?_
    | with_reducible refine Kept.foldl ?_ (fun _ _ _ => ?_)
    | split

theorem calActivateIdle_kept {s₀ : State} {s : State} {n : ℕ} {ts : BitVec 64} (h : Kept s₀ s) :
    Kept s₀ (calActivateIdle s n ts) := by
  unfold calActivateIdle
  repeat' first
    | with_reducible assumption
    | with_reducible refine calActivate_kept ?_
    | with_reducible refine Kept.ite ?_ ?_

theorem calAtTrigger_kept {s₀ : State} {s : State} {n : ℕ} {t0 : ℕ} {e_3 : SpanEnd} (h : Kept s₀ s) :
    Kept s₀ (calAtTrigger s n t0 e_3).2 := by
  unfold calAtTrigger
  repeat' first
    | with_reducible assumption
    | with_reducible refine calActivate_kept ?_
    | with_reducible refine State.modCal_kept ?_
    | with_reducible refine State.wr_kept ?_
    | with_reducible refine Kept.ite ?_ ?_
    | (extract_lets +onlyGivenNames x; refine (fun (hx : Kept s₀ x) => ?_) (show Kept s₀ x from ?_); clear_value x; rotate_left; subst x)
    | split

theorem calAtTrigger_kept' {s₀ : State} {s : State} {n : ℕ} {t0 : ℕ} {e_3 : SpanEnd} {r0 : _} {r1 : _}
    (h : Kept s₀ s) (e : (calAtTrigger s n t0 e_3) = (r0, r1)) : Kept s₀ r1 := by
  have k : Kept s₀ (calAtTrigger s n t0 e_3).2 := calAtTrigger_kept h
  rw [e] at k
  exact k

theorem calEval_kept {s₀ : State} {s : State} {n : ℕ} (h : Kept s₀ s) : Kept s₀ (calEval s n) := by
  unfold calEval
  repeat' first
    | with_reducible assumption
    | with_reducible refine State.wr_kept ?_
    | with_reducible refine State.modCal_kept ?_
    | with_reducible refine Kept.ite ?_ ?_

theorem showStats_kept {s₀ : State} {s : State} {n : ℕ} {P : ℕ} {t : CalStats} (h : Kept s₀ s) :
    Kept s₀ (showStats s n P t) := by
  unfold showStats
  repeat' first
    | with_reducible assumption
    | with_reducible refine State.wr_kept ?_

theorem freeStats_kept {s₀ : State} {s : State} {n : ℕ} (h : Kept s₀ s) : Kept s₀ (freeStats s n) := by
  unfold freeStats
  repeat' first
    | with_reducible assumption
    | with_reducible refine State.free_kept ?_
    | with_reducible refine State.wr_kept ?_
    | with_reducible refine Kept.foldl ?_ (fun _ _ _ => ?_)

theorem calSrefs_kept {s₀ : State} {s : State} {n : ℕ} (h : Kept s₀ s) : Kept s₀ (calSrefs s n).2 := by
  unfold calSrefs
  repeat' first
    | with_reducible assumption
    | with_reducible refine State.free_kept ?_
    | with_reducible refine Kept.foldlSnd ?_ (fun _ _ _ => ?_)
    | (extract_lets +onlyGivenNames x; first | (refine (fun (hx : Kept s₀ x.2) => ?_) (show Kept s₀ x.2 from ?_); clear_value x; rotate_left; subst x) | (clear_value x))
    | split

theorem calSrefs_kept' {s₀ : State} {s : State} {n : ℕ} {r0 : _} {r1 : _}
    (h : Kept s₀ s) (e : (calSrefs s n) = (r0, r1)) : Kept s₀ r1 := by
  have k : Kept s₀ (calSrefs s n).2 := calSrefs_kept h
  rw [e] at k
  exact k

theorem calEvalDone_kept {s₀ : State} {s : State} {n : ℕ} {again : ℕ} {stop : Option ℕ} (h : Kept s₀ s) :
    Kept s₀ (calEvalDone s n again stop) := by
  unfold calEvalDone
  repeat' first
    | with_reducible assumption
    | with_reducible refine State.addSat_kept ?_
    | with_reducible refine iterate_kept ?_ (fun _ _ _ => ?_)
    | with_reducible refine State.raise_kept ?_
    | with_reducible refine shadowWrite_kept ?_
    | with_reducible refine showStats_kept ?_
    | with_reducible refine freeStats_kept ?_
    | with_reducible refine calSrefs_kept ?_
    | with_reducible refine State.modCal_kept ?_
    | with_reducible refine State.wr_kept ?_
    | with_reducible refine State.bump_kept ?_
    | with_reducible refine Kept.ite ?_ ?_
    | split

theorem calFirstUse_kept {s₀ : State} {s : State} {n : ℕ} (h : Kept s₀ s) : Kept s₀ (calFirstUse s n) := by
  unfold calFirstUse
  repeat' first
    | with_reducible assumption
    | with_reducible refine State.modCal_kept ?_
    | with_reducible refine State.wr_kept ?_
    | with_reducible refine Kept.ite ?_ ?_

theorem gapClose_kept {s₀ : State} {s : State} {n : ℕ} (h : Kept s₀ s) : Kept s₀ (gapClose s n) := by
  unfold gapClose
  repeat' first
    | with_reducible assumption
    | with_reducible refine State.modCal_kept ?_
    | with_reducible refine State.wr_kept ?_
    | with_reducible refine calActivateIdle_kept ?_
    | with_reducible refine Kept.ite ?_ ?_

theorem calGapClose_kept {s₀ : State} {s : State} {n : ℕ} (h : Kept s₀ s) : Kept s₀ (calGapClose s n) := by
  unfold calGapClose
  repeat' first
    | with_reducible assumption
    | with_reducible refine gapClose_kept ?_
    | with_reducible refine Kept.ite ?_ ?_

theorem calListEnd_kept {s₀ : State} {s : State} {n : ℕ} {failed : Bool} (h : Kept s₀ s) : Kept s₀ (calListEnd s n failed) := by
  unfold calListEnd
  repeat' first
    | with_reducible assumption
    | with_reducible refine State.modCal_kept ?_
    | with_reducible refine calAbandon_kept ?_
    | with_reducible refine State.wr_kept ?_
    | with_reducible refine axisMove_kept ?_
    | with_reducible refine State.raise_kept ?_
    | with_reducible refine Kept.ite ?_ ?_
    | (extract_lets +onlyGivenNames x; first | (refine (fun (hx : Kept s₀ x) => ?_) (show Kept s₀ x from ?_); clear_value x; rotate_left; subst x) | (clear_value x))
    | split

theorem calListStart_kept {s₀ : State} {s : State} {n : ℕ} (h : Kept s₀ s) : Kept s₀ (calListStart s n) := by
  unfold calListStart
  repeat' first
    | with_reducible assumption
    | with_reducible refine calActivateIdle_kept ?_
    | with_reducible refine State.modCal_kept ?_
    | with_reducible refine iterate_kept ?_ (fun _ _ _ => ?_)
    | with_reducible refine State.wr_kept ?_
    | with_reducible refine State.raise_kept ?_
    | with_reducible refine Kept.ite ?_ ?_

theorem calLoad_kept {s₀ : State} {s : State} {n : ℕ} {slot : ℕ} (h : Kept s₀ s) : Kept s₀ (calLoad s n slot) := by
  unfold calLoad
  repeat' first
    | with_reducible assumption
    | with_reducible refine State.raise_kept ?_
    | with_reducible refine State.wr_kept ?_
    | with_reducible refine State.modCal_kept ?_
    | with_reducible refine Kept.ite ?_ ?_

theorem slideWatch_kept {s₀ : State} {s : State} {n : ℕ} (h : Kept s₀ s) : Kept s₀ (slideWatch s n) := by
  unfold slideWatch
  repeat' first
    | with_reducible assumption
    | with_reducible refine State.wb_kept ?_
    | with_reducible refine State.raiseIf_kept ?_
    | with_reducible refine State.modCal_kept ?_
    | with_reducible refine Kept.ite ?_ ?_
    | (extract_lets +onlyGivenNames x; refine (fun (hx : Kept s₀ x) => ?_) (show Kept s₀ x from ?_); clear_value x; rotate_left; subst x)
    | split

theorem calRough_kept {s₀ : State} {s : State} {n : ℕ} (h : Kept s₀ s) : Kept s₀ (calRough s n) := by
  unfold calRough
  repeat' first
    | with_reducible assumption
    | with_reducible refine State.modCal_kept ?_
    | with_reducible refine State.wr_kept ?_
    | with_reducible refine calAbandon_kept ?_
    | with_reducible refine slideWatch_kept ?_
    | with_reducible refine gapClose_kept ?_
    | with_reducible refine Kept.ite ?_ ?_

theorem calRunClear_kept {s₀ : State} {s : State} {n : ℕ} (h : Kept s₀ s) : Kept s₀ (calRunClear s n) := by
  unfold calRunClear
  repeat' first
    | with_reducible assumption
    | with_reducible refine gapClose_kept ?_
    | with_reducible refine Kept.ite ?_ ?_

theorem calRunningEnd_kept {s₀ : State} {s : State} {n : ℕ} (h : Kept s₀ s) : Kept s₀ (calRunningEnd s n) := by
  unfold calRunningEnd
  repeat' first
    | with_reducible assumption
    | with_reducible refine State.wr_kept ?_
    | with_reducible refine State.modCal_kept ?_
    | with_reducible refine calActivateIdle_kept ?_
    | with_reducible refine Kept.ite ?_ ?_

theorem calStore_kept {s₀ : State} {s : State} {n : ℕ} (h : Kept s₀ s) : Kept s₀ (calStore s n) := by
  unfold calStore
  repeat' first
    | with_reducible assumption
    | with_reducible refine State.raise_kept ?_
    | with_reducible refine State.wr_kept ?_
    | with_reducible refine State.modCal_kept ?_
    | with_reducible refine Kept.ite ?_ ?_

theorem calTemp_kept {s₀ : State} {s : State} {n : ℕ} {t : Option ℤ} (h : Kept s₀ s) : Kept s₀ (calTemp s n t) := by
  unfold calTemp
  repeat' first
    | with_reducible assumption
    | with_reducible refine State.modCal_kept ?_
    | with_reducible refine State.wr_kept ?_
    | with_reducible refine State.raise_kept ?_
    | with_reducible refine Kept.ite ?_ ?_
    | split

theorem captureFinish_kept {s₀ : State} {s : State} {n : ℕ} (h : Kept s₀ s) : Kept s₀ (captureFinish s n) := by
  unfold captureFinish
  repeat' first
    | with_reducible assumption
    | with_reducible refine State.modCal_kept ?_
    | with_reducible refine State.wr_kept ?_
    | with_reducible refine State.modDram_kept (fun m hm => ?_) ?_
    | with_reducible refine writeBytes_wf ?_ _ _
    | with_reducible refine Kept.ite ?_ ?_
    | (extract_lets +onlyGivenNames x; refine (fun (hx : Kept s₀ x) => ?_) (show Kept s₀ x from ?_); clear_value x; rotate_left; subst x)
    | split

theorem sumsToShadow_kept {s₀ : State} {s : State} {n : ℕ} {sums : List ℕ} (h : Kept s₀ s) :
    Kept s₀ (sumsToShadow s n sums) := by
  unfold sumsToShadow
  repeat' first
    | with_reducible assumption
    | with_reducible refine State.modPipe_kept ?_

theorem captureLine_kept {s₀ : State} {s : State} {n : ℕ} {l : LineRec} (h : Kept s₀ s) : Kept s₀ (captureLine s n l) := by
  unfold captureLine
  repeat' first
    | with_reducible assumption
    | with_reducible refine State.modCal_kept ?_
    | with_reducible refine State.wr_kept ?_
    | with_reducible refine sumsToShadow_kept ?_
    | with_reducible refine Kept.ite ?_ ?_
    | split

theorem captureStart_kept {s₀ : State} {s : State} {n : ℕ} {store : ℕ} {kind : ℕ} {want : ℕ} (h : Kept s₀ s) :
    Kept s₀ (captureStart s n store kind want) := by
  unfold captureStart
  repeat' first
    | with_reducible assumption
    | with_reducible refine State.wr_kept ?_
    | with_reducible refine State.modPipe_kept ?_
    | with_reducible refine State.modCal_kept ?_

theorem noteGapLine_kept {s₀ : State} {s : State} {n : ℕ} {e_2 : SpanEnd} (h : Kept s₀ s) : Kept s₀ (noteGapLine s n e_2) := by
  unfold noteGapLine
  repeat' first
    | with_reducible assumption
    | with_reducible refine State.modCal_kept ?_

theorem profileCopyDone_kept {s₀ : State} {s : State} {n : ℕ} (h : Kept s₀ s) : Kept s₀ (profileCopyDone s n) := by
  unfold profileCopyDone
  repeat' first
    | with_reducible assumption
    | with_reducible refine State.wr_kept ?_
    | with_reducible refine State.modCal_kept ?_
    | with_reducible refine storeSlot_kept ?_
    | with_reducible refine shadowLoad_kept ?_
    | with_reducible refine Kept.ite ?_ ?_
    | (extract_lets +onlyGivenNames x; refine (fun (hx : Kept s₀ x) => ?_) (show Kept s₀ x from ?_); clear_value x; rotate_left; subst x)
    | split

end Sys2Proof.Machine
end

