-- ==== Sys2Proof/Laws/KeptDevice.lean ====
section
/-! SUPPORT. Laws/KeptDevice.lean: what Safety.lean calls Kept, through the operations of the event unit, the library, DMA, DRAM, converter, drive die, Umade and list units:
if what stands before it keeps, what stands after it keeps. -/

namespace Sys2Proof.Machine

/-! ## Machine/EvtOps.lean. -/

theorem State.modDma_kept {s₀ s : State} {f : DmaSt → DmaSt} (hf : ∀ d, d.qs.length = 16 → (f d).qs.length = 16)
    (h : Kept s₀ s) :
    Kept s₀ (s.modDma f) := Kept.same (s := s) rfl rfl rfl rfl rfl (hf _) id rfl rfl rfl h

theorem State.modEvt_kept {s₀ : State} {s : State} {f : EvtSt → EvtSt} (h : Kept s₀ s) : Kept s₀ (State.modEvt s f) := by
  unfold State.modEvt
  repeat' first
    | with_reducible assumption
    | fail_if_no_progress (with_reducible refine Kept.parts (fun hl => hl) (fun hl => hl) ?_)

theorem ctlPush_kept {s₀ : State} {s : State} {c : CtlReq} (h : Kept s₀ s) : Kept s₀ (ctlPush s c) := by
  unfold ctlPush
  repeat' first
    | with_reducible assumption
    | with_reducible refine State.modDma_kept (fun _ hl => hl) ?_

theorem showTrk_kept {s₀ : State} {s : State} (h : Kept s₀ s) : Kept s₀ (showTrk s) := by
  unfold showTrk
  repeat' first
    | with_reducible assumption
    | with_reducible refine State.wr_kept ?_

theorem evCount_kept {s₀ : State} {s : State} {u : EvUnit} (h : Kept s₀ s) : Kept s₀ (evCount s u).2.2 := by
  unfold evCount
  repeat' first
    | with_reducible assumption
    | with_reducible refine State.bump_kept ?_
    | with_reducible refine State.modEvt_kept ?_
    | with_reducible refine showTrk_kept ?_
    | (extract_lets +onlyGivenNames x; first | (refine (fun (hx : Kept s₀ x) => ?_) (show Kept s₀ x from ?_); clear_value x; rotate_left; subst x) | (clear_value x))
    | split

theorem evCount_kept' {s₀ : State} {s : State} {u : EvUnit} {r0 : _} {r1 : _} {r2 : _}
    (h : Kept s₀ s) (e : (evCount s u) = (r0, r1, r2)) : Kept s₀ r2 := by
  have k : Kept s₀ (evCount s u).2.2 := evCount_kept h
  rw [e] at k
  exact k

theorem evForce_kept {s₀ : State} {s : State} {e_1 : ℕ} (h : Kept s₀ s) : Kept s₀ (evForce s e_1) := by
  unfold evForce
  repeat' first
    | with_reducible assumption
    | with_reducible refine State.raise_kept ?_
    | with_reducible refine Kept.ite ?_ ?_

theorem evLastClear_kept {s₀ : State} {s : State} {w : ℕ} {v : ℕ} (h : Kept s₀ s) : Kept s₀ (evLastClear s w v) := by
  unfold evLastClear
  repeat' first
    | with_reducible assumption
    | with_reducible refine State.clearW1c_kept ?_
    | with_reducible refine State.modEvt_kept ?_
    | with_reducible refine iterate_kept ?_ (fun _ _ _ => ?_)
    | with_reducible refine State.modCh_kept ?_
    | with_reducible refine showTrk_kept ?_
    | with_reducible refine showFifo_kept ?_

theorem evStatClear_kept {s₀ : State} {s : State} {w : ℕ} {v : ℕ} (h : Kept s₀ s) : Kept s₀ (evStatClear s w v) := by
  unfold evStatClear
  repeat' first
    | with_reducible assumption
    | with_reducible refine State.clearW1c_kept ?_

theorem logWrite_kept {s₀ : State} {s : State} {entry : List Byte} (h : Kept s₀ s) : Kept s₀ (logWrite s entry) := by
  unfold logWrite
  repeat' first
    | with_reducible assumption
    | with_reducible refine State.bump_kept ?_
    | with_reducible refine State.raise_kept ?_
    | with_reducible refine ctlPush_kept ?_
    | with_reducible refine State.modEvt_kept ?_
    | with_reducible refine State.wb_kept ?_
    | with_reducible refine State.wr_kept ?_
    | with_reducible refine Kept.ite ?_ ?_

theorem setPba_kept {s₀ : State} {s : State} {v : ℕ} {b : Bool} (h : Kept s₀ s) : Kept s₀ (setPba s v b) := by
  unfold setPba
  repeat' first
    | with_reducible assumption
    | with_reducible refine State.setWord_kept ?_

theorem msiIssue_kept {s₀ : State} {s : State} {v : ℕ} (h : Kept s₀ s) : Kept s₀ (msiIssue s v) := by
  unfold msiIssue
  repeat' first
    | with_reducible assumption
    | with_reducible refine setPba_kept ?_
    | with_reducible refine ctlPush_kept ?_
    | with_reducible refine Kept.ite ?_ ?_

theorem msiSend_kept {s₀ : State} {s : State} {v : ℕ} (h : Kept s₀ s) : Kept s₀ (msiSend s v) := by
  unfold msiSend
  repeat' first
    | with_reducible assumption
    | with_reducible refine State.modEvt_kept ?_
    | with_reducible refine msiIssue_kept ?_
    | with_reducible refine Kept.ite ?_ ?_

theorem logOut_kept {s₀ : State} {s : State} {w : LogWait} (h : Kept s₀ s) : Kept s₀ (logOut s w) := by
  unfold logOut
  repeat' first
    | with_reducible assumption
    | with_reducible refine logWrite_kept ?_
    | with_reducible refine msiSend_kept ?_
    | with_reducible refine State.modEvt_kept ?_
    | with_reducible refine Kept.ite ?_ ?_
    | (extract_lets +onlyGivenNames x; refine (fun (hx : Kept s₀ x) => ?_) (show Kept s₀ x from ?_); clear_value x; rotate_left; subst x)
    | split

theorem logRelease_kept {s₀ : State} {s : State} (h : Kept s₀ s) : Kept s₀ (logRelease s) := by
  unfold logRelease
  repeat' first
    | with_reducible assumption
    | with_reducible refine logOut_kept ?_
    | with_reducible refine State.modEvt_kept ?_
    | with_reducible refine Kept.foldl ?_ (fun _ _ _ => ?_)

theorem logEnable_kept {s₀ : State} {s : State} {on : Bool} (h : Kept s₀ s) : Kept s₀ (logEnable s on) := by
  unfold logEnable
  repeat' first
    | with_reducible assumption
    | with_reducible refine State.wb_kept ?_
    | with_reducible refine logRelease_kept ?_
    | with_reducible refine Kept.ite ?_ ?_

theorem msiHoldExpire_kept {s₀ : State} {s : State} {v : ℕ} (h : Kept s₀ s) : Kept s₀ (msiHoldExpire s v) := by
  unfold msiHoldExpire
  repeat' first
    | with_reducible assumption
    | with_reducible refine State.modEvt_kept ?_
    | with_reducible refine msiIssue_kept ?_
    | with_reducible refine Kept.ite ?_ ?_

theorem msiPending_kept {s₀ : State} {s : State} (h : Kept s₀ s) : Kept s₀ (msiPending s) := by
  unfold msiPending
  repeat' first
    | with_reducible assumption
    | with_reducible refine iterate_kept ?_ (fun _ _ _ => ?_)
    | with_reducible refine msiIssue_kept ?_
    | with_reducible refine Kept.ite ?_ ?_

theorem setEvLast_kept {s₀ : State} {s : State} {e_1 : ℕ} (h : Kept s₀ s) : Kept s₀ (setEvLast s e_1) := by
  unfold setEvLast
  repeat' first
    | with_reducible assumption
    | with_reducible refine State.setW1c_kept ?_

theorem setEvStat_kept {s₀ : State} {s : State} {e_1 : ℕ} (h : Kept s₀ s) : Kept s₀ (setEvStat s e_1) := by
  unfold setEvStat
  repeat' first
    | with_reducible assumption
    | with_reducible refine State.setW1c_kept ?_

theorem trackersLapse_kept {s₀ : State} {s : State} (h : Kept s₀ s) : Kept s₀ (trackersLapse s) := by
  unfold trackersLapse
  repeat' first
    | with_reducible assumption
    | with_reducible refine showTrk_kept ?_
    | with_reducible refine State.modEvt_kept ?_

/-! ## Machine/LibOps.lean. -/

theorem State.modDrc_kept {s₀ : State} {s : State} {k : ℕ} {f : DrcSt → DrcSt} (h : Kept s₀ s) :
    Kept s₀ (State.modDrc s k f) := by
  unfold State.modDrc
  repeat' first
    | with_reducible assumption
    | fail_if_no_progress (with_reducible refine Kept.parts (fun hl => hl) (fun hl => hl) ?_)

theorem imagePut_kept {s₀ : State} {s : State} {a : ℕ} {v : ℕ} (h : Kept s₀ s) : Kept s₀ (imagePut s a v) := by
  unfold imagePut
  repeat' first
    | with_reducible assumption
    | with_reducible refine State.setWord_kept ?_

theorem libPut_kept {s₀ : State} {s : State} {a : ℕ} {b : Byte} (h : Kept s₀ s) : Kept s₀ (libPut s a b) := by
  unfold libPut
  repeat' first
    | with_reducible assumption
    | with_reducible refine iterate_kept ?_ (fun _ _ _ => ?_)
    | with_reducible refine State.modDrc_kept ?_
    | with_reducible refine State.modDram_kept (fun m hm => ?_) ?_
    | with_reducible refine sput_wf ?_ _ _
    | with_reducible refine Kept.ite ?_ ?_

theorem setJigBit_kept {s₀ : State} {s : State} {j : ℕ} {b : Bool} (h : Kept s₀ s) : Kept s₀ (setJigBit s j b) := by
  unfold setJigBit
  repeat' first
    | with_reducible assumption
    | with_reducible refine State.wr_kept ?_

theorem libWrite_kept {s₀ : State} {s : State} {a : ℕ} {bs : List (Byte × Bool)} (h : Kept s₀ s) :
    Kept s₀ (libWrite s a bs) := by
  unfold libWrite
  repeat' first
    | with_reducible assumption
    | with_reducible refine State.raise_kept ?_
    | with_reducible refine setJigBit_kept ?_
    | with_reducible refine libPut_kept ?_
    | with_reducible refine Kept.ite ?_ ?_
    | with_reducible refine Kept.foldl ?_ (fun _ _ _ => ?_)
    | split

/-! ## Machine/DmaOps.lean. -/

theorem showQ_kept {s₀ : State} {s : State} {q : ℕ} (h : Kept s₀ s) : Kept s₀ (showQ s q) := by
  unfold showQ
  repeat' first
    | with_reducible assumption
    | with_reducible refine State.wr_kept ?_
    | with_reducible refine State.wr64_kept ?_
    | with_reducible refine Kept.ite ?_ ?_

theorem modQ_kept {s₀ : State} {s : State} {q : ℕ} {f : DmaQ → DmaQ} (h : Kept s₀ s) : Kept s₀ (modQ s q f) := by
  unfold modQ
  repeat' first
    | with_reducible assumption
    | with_reducible refine State.modDma_kept (fun _ hl => by simpa using hl) ?_

theorem abortEnd_kept {s₀ : State} {s : State} {q : ℕ} (h : Kept s₀ s) : Kept s₀ (abortEnd s q) := by
  unfold abortEnd
  repeat' first
    | with_reducible assumption
    | with_reducible refine showQ_kept ?_
    | with_reducible refine modQ_kept ?_
    | with_reducible refine Kept.ite ?_ ?_

theorem barrierAgain_kept {s₀ : State} {s : State} {q : ℕ} {id : ℕ} (h : Kept s₀ s) : Kept s₀ (barrierAgain s q id) := by
  unfold barrierAgain
  repeat' first
    | with_reducible assumption
    | with_reducible refine ctlPush_kept ?_
    | split

theorem barrierAsk_kept {s₀ : State} {s : State} {q : ℕ} {rs : List Rec} {desc : ℕ} {off : ℕ} {pseq : ℕ} {rm : Option ℕ}
    (h : Kept s₀ s) : Kept s₀ (barrierAsk s q rs desc off pseq rm) := by
  unfold barrierAsk
  repeat' first
    | with_reducible assumption
    | with_reducible refine modQ_kept ?_
    | with_reducible refine State.modDma_kept (fun _ hl => hl) ?_
    | with_reducible refine ctlPush_kept ?_

theorem showTrack_kept {s₀ : State} {s : State} (h : Kept s₀ s) : Kept s₀ (showTrack s) := by
  unfold showTrack
  repeat' first
    | with_reducible assumption
    | with_reducible refine State.wr_kept ?_

theorem flyBack_kept {s₀ : State} {s : State} {q : ℕ} {w : ReadWhat} (h : Kept s₀ s) : Kept s₀ (flyBack s q w) := by
  unfold flyBack
  repeat' first
    | with_reducible assumption
    | with_reducible refine showTrack_kept ?_
    | with_reducible refine modQ_kept ?_

theorem trackersFree_kept {s₀ : State} {s : State} {id : ℕ} (h : Kept s₀ s) : Kept s₀ (trackersFree s id) := by
  unfold trackersFree
  repeat' first
    | with_reducible assumption
    | with_reducible refine State.modDma_kept (fun _ hl => hl) ?_

theorem dmaCmpl_kept {s₀ : State} {s : State} {q : ℕ} (h : Kept s₀ s) : Kept s₀ (dmaCmpl s q) := by
  unfold dmaCmpl
  repeat' first
    | with_reducible assumption
    | with_reducible refine State.raise_kept ?_
    | with_reducible refine modQ_kept ?_

theorem recWrite_kept {s₀ : State} {s : State} {q : ℕ} {r : Rec} (h : Kept s₀ s) : Kept s₀ (recWrite s q r) := by
  unfold recWrite
  repeat' first
    | with_reducible assumption
    | with_reducible refine ctlPush_kept ?_
    | with_reducible refine State.wb_kept ?_
    | with_reducible refine State.wr_kept ?_
    | with_reducible refine modQ_kept ?_
    | with_reducible refine dmaCmpl_kept ?_
    | with_reducible refine Kept.ite ?_ ?_

theorem recDrain_kept {s₀ : State} {k : Nat} {s : State} {q : Nat} (h : Kept s₀ s) : Kept s₀ (recDrain k s q) := by
  induction k generalizing s with
  | zero => exact showQ_kept h
  | succ k ih =>
    rw [recDrain]
    split
    · exact Kept.ite (showQ_kept h) (ih (recWrite_kept (modQ_kept h)))
    · exact showQ_kept h

theorem recDue_kept {s₀ : State} {s : State} {q : ℕ} {rs : List Rec} (h : Kept s₀ s) : Kept s₀ (recDue s q rs) := by
  unfold recDue
  repeat' first
    | with_reducible assumption
    | with_reducible refine modQ_kept ?_
    | with_reducible refine recDrain_kept ?_

theorem rmEnd_kept {s₀ : State} {s : State} {q : ℕ} {status : ℕ} (h : Kept s₀ s) : Kept s₀ (rmEnd s q status) := by
  unfold rmEnd
  repeat' first
    | with_reducible assumption
    | with_reducible refine modQ_kept ?_
    | with_reducible refine dmaCmpl_kept ?_
    | with_reducible refine showQ_kept ?_
    | with_reducible refine State.wr_kept ?_
    | with_reducible refine State.setW1c_kept ?_

theorem recordsOut_kept {s₀ : State} {k : Nat} {s : State} {q : Nat} (h : Kept s₀ s) : Kept s₀ (recordsOut k s q) := by
  induction k generalizing s with
  | zero => exact abortEnd_kept h
  | succ k ih =>
    rw [recordsOut]
    split
    · refine Kept.ite (abortEnd_kept h) (ih ?_)
      split
      · exact rmEnd_kept (recDue_kept (modQ_kept h))
      · exact recDue_kept (modQ_kept h)
    · exact abortEnd_kept h

theorem barrierDone_kept {s₀ : State} {s : State} {q : ℕ} (h : Kept s₀ s) : Kept s₀ (barrierDone s q) := by
  unfold barrierDone
  repeat' first
    | with_reducible assumption
    | with_reducible refine flyBack_kept ?_
    | with_reducible refine abortEnd_kept ?_
    | with_reducible refine showTrack_kept ?_
    | with_reducible refine trackersFree_kept ?_
    | with_reducible refine modQ_kept ?_
    | with_reducible refine recordsOut_kept ?_
    | with_reducible refine Kept.ite ?_ ?_
    | (extract_lets +onlyGivenNames x; refine (fun (hx : Kept s₀ x) => ?_) (show Kept s₀ x from ?_); clear_value x; rotate_left; subst x)
    | split

theorem trackersKeep_kept {s₀ : State} {s : State} {id : ℕ} (h : Kept s₀ s) : Kept s₀ (trackersKeep s id) := by
  unfold trackersKeep
  repeat' first
    | with_reducible assumption
    | with_reducible refine State.modDma_kept (fun _ hl => hl) ?_

theorem dmaHalt_kept {s₀ : State} {s : State} {q : ℕ} {cause : ℕ} {posDesc : ℕ} {posOff : ℕ} {h_5 : HaltSt} {tries : ℕ}
    {pseq : ℕ} (h : Kept s₀ s) : Kept s₀ (dmaHalt s q cause posDesc posOff h_5 tries pseq) := by
  unfold dmaHalt
  repeat' first
    | with_reducible assumption
    | with_reducible refine modQ_kept ?_
    | with_reducible refine State.wr_kept ?_
    | with_reducible refine State.wr64_kept ?_
    | with_reducible refine showQ_kept ?_
    | with_reducible refine State.raise_kept ?_

theorem barrierHalt_kept {s₀ : State} {s : State} {q : ℕ} {cause : ℕ} {tries : ℕ} (h : Kept s₀ s) :
    Kept s₀ (barrierHalt s q cause tries) := by
  unfold barrierHalt
  repeat' first
    | with_reducible assumption
    | with_reducible refine trackersKeep_kept ?_
    | with_reducible refine State.modDma_kept (fun _ hl => hl) ?_
    | with_reducible refine modQ_kept ?_
    | with_reducible refine dmaHalt_kept ?_
    | with_reducible refine Kept.foldl ?_ (fun _ _ _ => ?_)

theorem flyOut_kept {s₀ : State} {s : State} {q : ℕ} {w : ReadWhat} (h : Kept s₀ s) : Kept s₀ (flyOut s q w) := by
  unfold flyOut
  repeat' first
    | with_reducible assumption
    | with_reducible refine showTrack_kept ?_
    | with_reducible refine modQ_kept ?_

theorem ctlOut_kept {s₀ : State} {s : State} {c : CtlReq} (h : Kept s₀ s) : Kept s₀ (ctlOut s c) := by
  unfold ctlOut
  repeat' first
    | with_reducible assumption
    | with_reducible refine State.emit_kept ?_
    | with_reducible refine flyOut_kept ?_
    | with_reducible refine State.modDma_kept (fun _ hl => hl) ?_
    | split

theorem issueCtl_kept {s₀ : State} {s : State} (h : Kept s₀ s) : Kept s₀ (issueCtl s) := by
  unfold issueCtl
  repeat' first
    | with_reducible assumption
    | with_reducible refine ctlOut_kept ?_
    | with_reducible refine State.modDma_kept (fun _ hl => hl) ?_
    | with_reducible refine Kept.foldlFst ?_ (fun _ _ _ => ?_)
    | (extract_lets +onlyGivenNames x; clear_value x)
    | split

theorem sglAsk_kept {s₀ : State} {s : State} {q : ℕ} (h : Kept s₀ s) : Kept s₀ (sglAsk s q) := by
  unfold sglAsk
  repeat' first
    | with_reducible assumption
    | with_reducible refine ctlPush_kept ?_
    | with_reducible refine modQ_kept ?_
    | with_reducible refine Kept.ite ?_ ?_

theorem dmaAskRead_kept {s₀ : State} {s : State} {q : ℕ} (h : Kept s₀ s) : Kept s₀ (dmaAskRead s q) := by
  unfold dmaAskRead
  repeat' first
    | with_reducible assumption
    | with_reducible refine sglAsk_kept ?_
    | with_reducible refine State.emit_kept ?_
    | with_reducible refine flyOut_kept ?_
    | with_reducible refine modQ_kept ?_
    | with_reducible refine Kept.ite ?_ ?_
    | (extract_lets +onlyGivenNames x; clear_value x)
    | split

theorem drrPick_kept {s₀ : State} {k : Nat} {s : State} {qs : List Nat} {lev c : Nat} (h : Kept s₀ s) :
    Kept s₀ (drrPick k s qs lev c).1 := by
  induction k generalizing s c with
  | zero => exact h
  | succ k ih =>
    unfold drrPick
    dsimp only
    split
    · exact Kept.same (s := s) rfl rfl rfl rfl rfl id id rfl rfl rfl h
    · split
      · exact h
      · exact ih (modQ_kept h)

theorem drrPick_kept' {s₀ : State} {k : Nat} {s : State} {qs : List Nat} {lev c : Nat} {t : State} {o : Option Nat}
    (h : Kept s₀ s) (e : drrPick k s qs lev c = (t, o)) : Kept s₀ t := by
  have j : Kept s₀ (drrPick k s qs lev c).1 := drrPick_kept h
  rw [e] at j
  exact j

theorem haltDesc_kept {s₀ : State} {s : State} {q : ℕ} {cause : ℕ} {at_ : ℕ} {off : ℕ} (h : Kept s₀ s) : Kept s₀
    (haltDesc s q cause at_ off) := by
  unfold haltDesc
  repeat' first
    | with_reducible assumption
    | with_reducible refine dmaHalt_kept ?_

theorem dmaFetch_kept {s₀ : State} {s : State} {q : ℕ} {a : ℕ} (h : Kept s₀ s) : Kept s₀ (dmaFetch s q a) := by
  unfold dmaFetch
  repeat' first
    | with_reducible assumption
    | with_reducible refine ctlPush_kept ?_
    | with_reducible refine modQ_kept ?_

theorem descBegin_kept {s₀ : State} {s : State} {q : ℕ} {d : Desc} (h : Kept s₀ s) : Kept s₀ (descBegin s q d) := by
  unfold descBegin
  repeat' first
    | with_reducible assumption
    | with_reducible refine modQ_kept ?_
    | with_reducible refine showQ_kept ?_
    | with_reducible refine dmaFetch_kept ?_
    | with_reducible refine Kept.ite ?_ ?_

theorem descDone_kept {s₀ : State} {s : State} {q : ℕ} (h : Kept s₀ s) : Kept s₀ (descDone s q) := by
  unfold descDone
  repeat' first
    | with_reducible assumption
    | with_reducible refine modQ_kept ?_
    | with_reducible refine haltDesc_kept ?_
    | with_reducible refine descBegin_kept ?_
    | with_reducible refine showQ_kept ?_
    | with_reducible refine dmaFetch_kept ?_
    | with_reducible refine Kept.ite ?_ ?_
    | (extract_lets +onlyGivenNames x; first | (refine (fun (hx : Kept s₀ x) => ?_) (show Kept s₀ x from ?_); clear_value x; rotate_left; subst x) | (clear_value x))
    | split

theorem recordPlain_kept {s₀ : State} {s : State} {q : ℕ} {rs : List Rec} {rm : Option ℕ} (h : Kept s₀ s) :
    Kept s₀ (recordPlain s q rs rm) := by
  unfold recordPlain
  repeat' first
    | with_reducible assumption
    | with_reducible refine modQ_kept ?_
    | with_reducible refine recordsOut_kept ?_

theorem closeBuf_kept {s₀ : State} {s : State} {q : ℕ} {d : Desc} (h : Kept s₀ s) : Kept s₀ (closeBuf s q d) := by
  unfold closeBuf
  repeat' first
    | with_reducible assumption
    | with_reducible refine descDone_kept ?_
    | with_reducible refine recordPlain_kept ?_
    | with_reducible refine modQ_kept ?_

theorem xferDone_kept {s₀ : State} {s : State} {q : ℕ} {d : Desc} {status : ℕ} {off : ℕ} {bytes : ℕ} {wrote : Bool}
    (h : Kept s₀ s) : Kept s₀ (xferDone s q d status off bytes wrote) := by
  unfold xferDone
  repeat' first
    | with_reducible assumption
    | with_reducible refine barrierAsk_kept ?_
    | with_reducible refine recordPlain_kept ?_
    | with_reducible refine modQ_kept ?_
    | with_reducible refine descDone_kept ?_
    | with_reducible refine Kept.ite ?_ ?_

theorem sendBeat_kept {s₀ : State} {s : State} {q : ℕ} (h : Kept s₀ s) : Kept s₀ (sendBeat s q) := by
  unfold sendBeat
  repeat' first
    | with_reducible assumption
    | with_reducible refine State.emit_kept ?_
    | with_reducible refine showTrack_kept ?_
    | with_reducible refine State.modDma_kept (fun _ hl => hl) ?_
    | with_reducible refine State.wr64_kept ?_
    | with_reducible refine modQ_kept ?_
    | with_reducible refine barrierAsk_kept ?_
    | with_reducible refine closeBuf_kept ?_
    | with_reducible refine xferDone_kept ?_
    | with_reducible refine Kept.ite ?_ ?_
    | (extract_lets +onlyGivenNames x; first | (refine (fun (hx : Kept s₀ x) => ?_) (show Kept s₀ x from ?_); clear_value x; rotate_left; subst x) | (clear_value x))
    | split

theorem beatArbitration_kept {s₀ : State} {s : State} (h : Kept s₀ s) : Kept s₀ (beatArbitration s) := by
  unfold beatArbitration
  repeat' first
    | with_reducible assumption
    | with_reducible refine issueCtl_kept ?_
    | with_reducible refine iterate_kept ?_ (fun _ _ _ => ?_)
    | with_reducible refine dmaAskRead_kept ?_
    | with_reducible refine sglAsk_kept ?_
    | with_reducible refine drrPick_kept ?_
    | with_reducible refine showQ_kept ?_
    | with_reducible refine sendBeat_kept ?_
    | with_reducible refine Kept.ite ?_ ?_
    | (extract_lets +onlyGivenNames x; first | (refine (fun (hx : Kept s₀ x.1) => ?_) (show Kept s₀ x.1 from ?_); clear_value x; rotate_left; subst x) | (clear_value x))
    | split

theorem closeSoon_kept {s₀ : State} {s : State} {q : ℕ} {d : Desc} (h : Kept s₀ s) : Kept s₀ (closeSoon s q d) := by
  unfold closeSoon
  repeat' first
    | with_reducible assumption
    | with_reducible refine closeBuf_kept ?_
    | with_reducible refine modQ_kept ?_
    | with_reducible refine Kept.ite ?_ ?_

theorem coalTimer_kept {s₀ : State} {s : State} {q : ℕ} (h : Kept s₀ s) : Kept s₀ (coalTimer s q) := by
  unfold coalTimer
  repeat' first
    | with_reducible assumption
    | with_reducible refine dmaCmpl_kept ?_
    | with_reducible refine Kept.ite ?_ ?_
    | split

theorem groupValue_kept {s₀ : State} {s : State} {bs : List Byte} (h : Kept s₀ s) : Kept s₀ (groupValue s bs).2 := by
  unfold groupValue
  repeat' first
    | with_reducible assumption
    | with_reducible refine State.free_kept ?_
    | (extract_lets +onlyGivenNames x; refine (fun (hx : Kept s₀ x.2) => ?_) (show Kept s₀ x.2 from ?_); clear_value x; rotate_left; subst x)
    | split

theorem groupValue_kept' {s₀ : State} {s : State} {bs : List Byte} {r0 : _} {r1 : _}
    (h : Kept s₀ s) (e : (groupValue s bs) = (r0, r1)) : Kept s₀ r1 := by
  have k : Kept s₀ (groupValue s bs).2 := groupValue_kept h
  rw [e] at k
  exact k

theorem compareTake_kept {s₀ : State} {s : State} {q : ℕ} {d : Desc} {got : List Byte} (h : Kept s₀ s) :
    Kept s₀ (compareTake s q d got) := by
  unfold compareTake
  repeat' first
    | with_reducible assumption
    | with_reducible refine groupValue_kept ?_
    | with_reducible refine State.wr_kept ?_
    | with_reducible refine State.wr64_kept ?_
    | with_reducible refine xferDone_kept ?_
    | with_reducible refine State.raise_kept ?_
    | with_reducible refine modQ_kept ?_
    | with_reducible refine Kept.ite ?_ ?_
    | (extract_lets +onlyGivenNames x; first | (refine (fun (hx : Kept s₀ x) => ?_) (show Kept s₀ x from ?_); clear_value x; rotate_left; subst x) | (clear_value x))
    | split

theorem crheadWrite_kept {s₀ : State} {s : State} {q : ℕ} {v : ℕ} (h : Kept s₀ s) : Kept s₀ (crheadWrite s q v) := by
  unfold crheadWrite
  repeat' first
    | with_reducible assumption
    | with_reducible refine State.wr_kept ?_
    | with_reducible refine recDrain_kept ?_

theorem dataArrive_kept {s₀ : State} {s : State} {q : ℕ} {bs : List Byte} (h : Kept s₀ s) : Kept s₀ (dataArrive s q bs) := by
  unfold dataArrive
  repeat' first
    | with_reducible assumption
    | with_reducible refine flyBack_kept ?_
    | with_reducible refine modQ_kept ?_
    | with_reducible refine showQ_kept ?_
    | with_reducible refine compareTake_kept ?_
    | with_reducible refine libWrite_kept ?_
    | with_reducible refine xferDone_kept ?_
    | with_reducible refine abortEnd_kept ?_
    | with_reducible refine Kept.ite ?_ ?_
    | with_reducible refine Kept.foldl ?_ (fun _ _ _ => ?_)
    | (extract_lets +onlyGivenNames x; refine (fun (hx : Kept s₀ x) => ?_) (show Kept s₀ x from ?_); clear_value x; rotate_left; subst x)
    | split

theorem notReady_kept {s₀ : State} {s : State} {q : ℕ} {cause : ℕ} (h : Kept s₀ s) : Kept s₀ (notReady s q cause) := by
  unfold notReady
  repeat' first
    | with_reducible assumption
    | with_reducible refine modQ_kept ?_
    | with_reducible refine showQ_kept ?_
    | with_reducible refine State.raise_kept ?_
    | with_reducible refine State.wr_kept ?_

theorem descBad_kept {s₀ : State} {s : State} {q : ℕ} {cause : ℕ} {a : ℕ} (h : Kept s₀ s) : Kept s₀ (descBad s q cause a) := by
  unfold descBad
  repeat' first
    | with_reducible assumption
    | with_reducible refine showQ_kept ?_
    | with_reducible refine modQ_kept ?_
    | with_reducible refine haltDesc_kept ?_
    | with_reducible refine Kept.ite ?_ ?_

theorem setNext_kept {s₀ : State} {s : State} {q : ℕ} {a : ℕ} (h : Kept s₀ s) : Kept s₀ (setNext s q a) := by
  unfold setNext
  repeat' first
    | with_reducible assumption
    | with_reducible refine State.wr_kept ?_

theorem descArrive_kept {s₀ : State} {s : State} {q : ℕ} {bs : List Byte} (h : Kept s₀ s) : Kept s₀ (descArrive s q bs) := by
  unfold descArrive
  repeat' first
    | with_reducible assumption
    | with_reducible refine modQ_kept ?_
    | with_reducible refine flyBack_kept ?_
    | with_reducible refine abortEnd_kept ?_
    | with_reducible refine dmaFetch_kept ?_
    | with_reducible refine showQ_kept ?_
    | with_reducible refine notReady_kept ?_
    | with_reducible refine descBad_kept ?_
    | with_reducible refine State.wr_kept ?_
    | with_reducible refine setNext_kept ?_
    | with_reducible refine descBegin_kept ?_
    | with_reducible refine Kept.ite ?_ ?_
    | (extract_lets +onlyGivenNames x; refine (fun (hx : Kept s₀ x) => ?_) (show Kept s₀ x from ?_); clear_value x; rotate_left; subst x)
    | split

theorem drainFront_kept {s₀ : State} {s : State} {n : ℕ} (h : Kept s₀ s) : Kept s₀ (drainFront s n) := by
  unfold drainFront
  repeat' first
    | with_reducible assumption
    | with_reducible refine fifoWatch_kept ?_
    | with_reducible refine State.modFifo_kept ?_

theorem dmaAbort_kept {s₀ : State} {s : State} {q : ℕ} (h : Kept s₀ s) : Kept s₀ (dmaAbort s q) := by
  unfold dmaAbort
  repeat' first
    | with_reducible assumption
    | with_reducible refine drainFront_kept ?_
    | with_reducible refine iterate_kept ?_ (fun _ _ _ => ?_)
    | with_reducible refine State.bump_kept ?_
    | with_reducible refine State.modDma_kept (fun _ hl => hl) ?_
    | with_reducible refine modQ_kept ?_
    | with_reducible refine abortEnd_kept ?_
    | with_reducible refine barrierAgain_kept ?_
    | with_reducible refine Kept.ite ?_ ?_
    | with_reducible refine Kept.foldl ?_ (fun _ _ _ => ?_)
    | split

theorem dmaTake_kept {s₀ : State} {s : State} {q : ℕ} {n : ℕ} {d : Desc} (h : Kept s₀ s) : Kept s₀ (dmaTake s q n d) := by
  unfold dmaTake
  repeat' first
    | with_reducible assumption
    | with_reducible refine State.wr_kept ?_
    | with_reducible refine modQ_kept ?_
    | with_reducible refine handOver_kept ?_
    | with_reducible refine closeSoon_kept ?_
    | with_reducible refine Kept.ite ?_ ?_
    | (extract_lets +onlyGivenNames x; clear_value x)
    | split

theorem dmaBurst_kept {s₀ : State} {s : State} {q : ℕ} (h : Kept s₀ s) : Kept s₀ (dmaBurst s q) := by
  unfold dmaBurst
  repeat' first
    | with_reducible assumption
    | with_reducible refine dmaTake_kept ?_
    | with_reducible refine sglAsk_kept ?_
    | with_reducible refine haltDesc_kept ?_
    | with_reducible refine closeSoon_kept ?_
    | with_reducible refine Kept.ite ?_ ?_
    | split

theorem dmaGo_kept {s₀ : State} {s : State} {q : ℕ} (h : Kept s₀ s) : Kept s₀ (dmaGo s q) := by
  unfold dmaGo
  repeat' first
    | with_reducible assumption
    | with_reducible refine State.raise_kept ?_
    | with_reducible refine haltDesc_kept ?_
    | with_reducible refine modQ_kept ?_
    | with_reducible refine showQ_kept ?_
    | with_reducible refine State.wr_kept ?_
    | with_reducible refine Kept.ite ?_ ?_
    | (extract_lets +onlyGivenNames x; first | (refine (fun (hx : Kept s₀ x) => ?_) (show Kept s₀ x from ?_); clear_value x; rotate_left; subst x) | (clear_value x))
    | split

theorem dmaPause_kept {s₀ : State} {s : State} {q : ℕ} {on : Bool} (h : Kept s₀ s) : Kept s₀ (dmaPause s q on) := by
  unfold dmaPause
  repeat' first
    | with_reducible assumption
    | with_reducible refine showQ_kept ?_
    | with_reducible refine State.wb_kept ?_

theorem dmaReset_kept {s₀ : State} {s : State} (h : Kept s₀ s) : Kept s₀ (dmaReset s) := by
  unfold dmaReset
  repeat' first
    | with_reducible assumption
    | with_reducible refine iterate_kept ?_ (fun _ _ _ => ?_)
    | with_reducible refine drainFront_kept ?_
    | with_reducible refine State.modFifo_kept ?_
    | with_reducible refine showTrack_kept ?_
    | with_reducible refine State.modDma_kept (fun _ hl => by simpa using hl) ?_
    | with_reducible refine Kept.ite ?_ ?_
    | split

theorem unconfirm_kept {s₀ : State} {s : State} {q : ℕ} (h : Kept s₀ s) : Kept s₀ (unconfirm s q) := by
  unfold unconfirm
  repeat' first
    | with_reducible assumption
    | with_reducible refine modQ_kept ?_
    | with_reducible refine recordsOut_kept ?_
    | with_reducible refine barrierAgain_kept ?_
    | with_reducible refine Kept.foldl ?_ (fun _ _ _ => ?_)

theorem dmaResume_kept {s₀ : State} {s : State} {q : ℕ} (h : Kept s₀ s) : Kept s₀ (dmaResume s q) := by
  unfold dmaResume
  repeat' first
    | with_reducible assumption
    | with_reducible refine State.wr_kept ?_
    | with_reducible refine modQ_kept ?_
    | with_reducible refine showQ_kept ?_
    | with_reducible refine dmaFetch_kept ?_
    | with_reducible refine sglAsk_kept ?_
    | with_reducible refine unconfirm_kept ?_
    | with_reducible refine abortEnd_kept ?_
    | with_reducible refine Kept.ite ?_ ?_
    | (extract_lets +onlyGivenNames x; first | (refine (fun (hx : Kept s₀ x) => ?_) (show Kept s₀ x from ?_); clear_value x; rotate_left; subst x) | (clear_value x))
    | split

theorem dmaStart_kept {s₀ : State} {s : State} {q : ℕ} (h : Kept s₀ s) : Kept s₀ (dmaStart s q) := by
  unfold dmaStart
  repeat' first
    | with_reducible assumption
    | with_reducible refine State.raise_kept ?_
    | with_reducible refine modQ_kept ?_
    | with_reducible refine showQ_kept ?_
    | with_reducible refine dmaFetch_kept ?_
    | with_reducible refine State.wr_kept ?_
    | with_reducible refine Kept.ite ?_ ?_

theorem doorbell_kept {s₀ : State} {s : State} {q : ℕ} (h : Kept s₀ s) : Kept s₀ (doorbell s q) := by
  unfold doorbell
  repeat' first
    | with_reducible assumption
    | with_reducible refine modQ_kept ?_
    | with_reducible refine showQ_kept ?_
    | with_reducible refine dmaFetch_kept ?_
    | with_reducible refine Kept.ite ?_ ?_
    | (extract_lets +onlyGivenNames x; first | (refine (fun (hx : Kept s₀ x) => ?_) (show Kept s₀ x from ?_); clear_value x; rotate_left; subst x) | (clear_value x))
    | split

theorem readFail_kept {s₀ : State} {s : State} {q : ℕ} {w : ReadWhat} {cause : ℕ} (h : Kept s₀ s) :
    Kept s₀ (readFail s q w cause) := by
  unfold readFail
  repeat' first
    | with_reducible assumption
    | with_reducible refine flyBack_kept ?_
    | with_reducible refine abortEnd_kept ?_
    | with_reducible refine trackersKeep_kept ?_
    | with_reducible refine modQ_kept ?_
    | with_reducible refine dmaHalt_kept ?_
    | with_reducible refine barrierHalt_kept ?_
    | with_reducible refine Kept.ite ?_ ?_
    | (extract_lets +onlyGivenNames x; first | (refine (fun (hx : Kept s₀ x) => ?_) (show Kept s₀ x from ?_); clear_value x; rotate_left; subst x) | (clear_value x))
    | split

theorem retryCount_kept {s₀ : State} {s : State} {q : ℕ} {w : ReadWhat} (h : Kept s₀ s) : Kept s₀ (retryCount s q w) := by
  unfold retryCount
  repeat' first
    | with_reducible assumption
    | with_reducible refine State.bump_kept ?_
    | with_reducible refine Kept.ite ?_ ?_

theorem retryNow_kept {s₀ : State} {s : State} {q : ℕ} (h : Kept s₀ s) : Kept s₀ (retryNow s q) := by
  unfold retryNow
  repeat' first
    | with_reducible assumption
    | with_reducible refine modQ_kept ?_
    | with_reducible refine ctlPush_kept ?_
    | with_reducible refine barrierAgain_kept ?_
    | (extract_lets +onlyGivenNames x; first | (refine (fun (hx : Kept s₀ x) => ?_) (show Kept s₀ x from ?_); clear_value x; rotate_left; subst x) | (clear_value x))
    | split

theorem sglElement_kept {s₀ : State} {s : State} {q : ℕ} {b : List Byte} (h : Kept s₀ s) : Kept s₀ (sglElement s q b) := by
  unfold sglElement
  repeat' first
    | with_reducible assumption
    | with_reducible refine haltDesc_kept ?_
    | with_reducible refine modQ_kept ?_
    | with_reducible refine Kept.ite ?_ ?_
    | (extract_lets +onlyGivenNames x; first | (refine (fun (hx : Kept s₀ x) => ?_) (show Kept s₀ x from ?_); clear_value x; rotate_left; subst x) | (clear_value x))
    | split

theorem sglArrive_kept {s₀ : State} {s : State} {q : ℕ} {bs : List Byte} (h : Kept s₀ s) : Kept s₀ (sglArrive s q bs) := by
  unfold sglArrive
  repeat' first
    | with_reducible assumption
    | with_reducible refine modQ_kept ?_
    | with_reducible refine flyBack_kept ?_
    | with_reducible refine abortEnd_kept ?_
    | with_reducible refine showQ_kept ?_
    | with_reducible refine iterate_kept ?_ (fun _ _ _ => ?_)
    | with_reducible refine sglElement_kept ?_
    | with_reducible refine Kept.ite ?_ ?_

theorem srcWrite_kept {s₀ : State} {s : State} {q : ℕ} {v : ℕ} (h : Kept s₀ s) : Kept s₀ (srcWrite s q v) := by
  unfold srcWrite
  repeat' first
    | with_reducible assumption
    | with_reducible refine State.raise_kept ?_
    | with_reducible refine State.wr_kept ?_
    | with_reducible refine Kept.ite ?_ ?_

/-! ## Machine/DrcOps.lean. -/

theorem issueRfm_kept {s₀ : State} {s : State} {k : ℕ} {bank : ℕ} (h : Kept s₀ s) : Kept s₀ (issueRfm s k bank) := by
  unfold issueRfm
  repeat' first
    | with_reducible assumption
    | with_reducible refine State.modDrc_kept ?_

theorem activate_kept {s₀ : State} {s : State} {k : ℕ} {p : DrcPlace} {who : DrcWho} (h : Kept s₀ s) :
    Kept s₀ (activate s k p who) := by
  unfold activate
  repeat' first
    | with_reducible assumption
    | with_reducible refine State.modDrc_kept ?_
    | with_reducible refine State.raise_kept ?_
    | with_reducible refine State.bump_kept ?_
    | with_reducible refine issueRfm_kept ?_
    | with_reducible refine Kept.ite ?_ ?_

theorem drcLock_kept {s₀ : State} {s : State} {on : Bool} (h : Kept s₀ s) : Kept s₀ (drcLock s on) := by
  unfold drcLock
  repeat' first
    | with_reducible assumption
    | with_reducible refine iterate_kept ?_ (fun _ _ _ => ?_)
    | with_reducible refine State.wb_kept ?_
    | with_reducible refine Kept.ite ?_ ?_

theorem drcMr4_kept {s₀ : State} {s : State} {k : ℕ} {rank : ℕ} {mr4 : ℕ} {double : Bool} {beyond : Bool}
    (h : Kept s₀ s) : Kept s₀ (drcMr4 s k rank mr4 double beyond) := by
  unfold drcMr4
  repeat' first
    | with_reducible assumption
    | with_reducible refine State.modDrc_kept ?_
    | with_reducible refine State.wb_kept ?_
    | with_reducible refine State.wr_kept ?_
    | with_reducible refine State.raiseIf_kept ?_

theorem drcPprNow_kept {s₀ : State} {s : State} {k : ℕ} (h : Kept s₀ s) : Kept s₀ (drcPprNow s k) := by
  unfold drcPprNow
  repeat' first
    | with_reducible assumption
    | with_reducible refine State.raise_kept ?_
    | with_reducible refine State.wr_kept ?_
    | with_reducible refine Kept.ite ?_ ?_

theorem drcPromote_kept {s₀ : State} {s : State} {k : ℕ} (h : Kept s₀ s) : Kept s₀ (drcPromote s k) := by
  unfold drcPromote
  repeat' first
    | with_reducible assumption
    | with_reducible refine State.modDrc_kept ?_

theorem writeBack_kept {s₀ : State} {s : State} {k : ℕ} {a : ℕ} (h : Kept s₀ s) : Kept s₀ (writeBack s k a) := by
  unfold writeBack
  repeat' first
    | with_reducible assumption
    | with_reducible refine iterate_kept ?_ (fun _ _ _ => ?_)
    | with_reducible refine State.modDrc_kept ?_
    | with_reducible refine State.modDram_kept (fun m hm => ?_) ?_
    | with_reducible refine writeBytes_wf ?_ _ _
    | with_reducible refine Kept.ite ?_ ?_

theorem readServed_kept {s₀ : State} {s : State} {k : ℕ} {a : ℕ} (h : Kept s₀ s) : Kept s₀ (readServed s k a) := by
  unfold readServed
  repeat' first
    | with_reducible assumption
    | with_reducible refine writeBack_kept ?_
    | with_reducible refine Kept.ite ?_ ?_

theorem readFailed_kept {s₀ : State} {s : State} {k : ℕ} {a : ℕ} (h : Kept s₀ s) : Kept s₀ (readFailed s k a) := by
  unfold readFailed
  repeat' first
    | with_reducible assumption
    | with_reducible refine State.modDrc_kept ?_
    | with_reducible refine setJigBit_kept ?_
    | with_reducible refine State.modCal_kept ?_
    | with_reducible refine State.wr_kept ?_
    | with_reducible refine Kept.ite ?_ ?_

theorem drcReadReturn_kept {s₀ : State} {s : State} {k : ℕ} {addr : ℕ} {r : BurstReads} (h : Kept s₀ s) :
    Kept s₀ (drcReadReturn s k addr r) := by
  unfold drcReadReturn
  repeat' first
    | with_reducible assumption
    | with_reducible refine State.raise_kept ?_
    | with_reducible refine State.wr_kept ?_
    | with_reducible refine State.bump_kept ?_
    | with_reducible refine readServed_kept ?_
    | with_reducible refine readFailed_kept ?_
    | with_reducible refine State.modDrc_kept ?_
    | with_reducible refine State.modDram_kept (fun m hm => ?_) ?_
    | with_reducible refine writeBytes_wf ?_ _ _
    | with_reducible refine Kept.ite ?_ ?_
    | split

theorem drcRefresh_kept {s₀ : State} {s : State} {k : ℕ} {bank : ℕ} (h : Kept s₀ s) : Kept s₀ (drcRefresh s k bank) := by
  unfold drcRefresh
  repeat' first
    | with_reducible assumption
    | with_reducible refine State.modDrc_kept ?_

theorem drcRegions_kept {s₀ : State} {s : State} {k : ℕ} (h : Kept s₀ s) : Kept s₀ (drcRegions s k) := by
  unfold drcRegions
  repeat' first
    | with_reducible assumption
    | with_reducible refine State.wr_kept ?_
    | with_reducible refine Kept.ite ?_ ?_

theorem drcRepairEnter_kept {s₀ : State} {s : State} {k : ℕ} {det : ℕ} (h : Kept s₀ s) : Kept s₀ (drcRepairEnter s k det) := by
  unfold drcRepairEnter
  repeat' first
    | with_reducible assumption
    | with_reducible refine State.raise_kept ?_
    | with_reducible refine State.setWord_kept ?_
    | with_reducible refine Kept.ite ?_ ?_
    | (extract_lets +onlyGivenNames x; clear_value x)
    | split

theorem drcRestart_kept {s₀ : State} {s : State} {k : ℕ} (h : Kept s₀ s) : Kept s₀ (drcRestart s k) := by
  unfold drcRestart
  repeat' first
    | with_reducible assumption
    | with_reducible refine State.resetRange_kept ?_
    | with_reducible refine State.setWord_kept ?_
    | with_reducible refine State.modDrc_kept ?_
    | with_reducible refine Kept.foldl ?_ (fun _ _ _ => ?_)

theorem drcSchedule_kept {s₀ : State} {s : State} {k : ℕ} {as : List DrcAsk} {busy : List ℕ} (h : Kept s₀ s) :
    Kept s₀ (drcSchedule s k as busy) := by
  unfold drcSchedule
  repeat' first
    | with_reducible assumption
    | with_reducible refine State.modDrc_kept ?_
    | with_reducible refine State.addSat_kept ?_
    | with_reducible refine activate_kept ?_
    | with_reducible refine Kept.ite ?_ ?_
    | (extract_lets +onlyGivenNames x; first | (refine (fun (hx : Kept s₀ x) => ?_) (show Kept s₀ x from ?_); clear_value x; rotate_left; subst x) | (clear_value x))
    | split

theorem drcTakePart_kept {s₀ : State} {s : State} {part : Option (List Byte)} {masks : Bool} (h : Kept s₀ s) :
    Kept s₀ (drcTakePart s part masks) := by
  unfold drcTakePart
  repeat' first
    | with_reducible assumption
    | with_reducible refine iterate_kept ?_ (fun _ _ _ => ?_)
    | with_reducible refine drcRegions_kept ?_
    | with_reducible refine State.modDrc_kept ?_
    | with_reducible refine State.wr_kept ?_
    | with_reducible refine Kept.ite ?_ ?_
    | with_reducible refine Kept.foldl ?_ (fun _ _ _ => ?_)
    | (extract_lets +onlyGivenNames x; clear_value x)
    | split

theorem drcTrain_kept {s₀ : State} {s : State} {k : ℕ} (h : Kept s₀ s) : Kept s₀ (drcTrain s k) := by
  unfold drcTrain
  repeat' first
    | with_reducible assumption
    | with_reducible refine State.modDrc_kept ?_
    | with_reducible refine Kept.ite ?_ ?_

theorem repairOne_kept {s₀ : State} {s : State} {k : ℕ} {e_2 : ℕ} {ok : Bool} (h : Kept s₀ s) :
    Kept s₀ (repairOne s k e_2 ok) := by
  unfold repairOne
  repeat' first
    | with_reducible assumption
    | with_reducible refine State.raise_kept ?_
    | with_reducible refine State.bump_kept ?_
    | with_reducible refine State.wr_kept ?_
    | with_reducible refine Kept.ite ?_ ?_

theorem drcTrained_kept {s₀ : State} {s : State} {k : ℕ} {bin : Fin 6} {parts : DramParts} {repair : Bool}
    (h : Kept s₀ s) : Kept s₀ (drcTrained s k bin parts repair) := by
  unfold drcTrained
  repeat' first
    | with_reducible assumption
    | with_reducible refine repairOne_kept ?_
    | with_reducible refine State.raise_kept ?_
    | with_reducible refine State.wr_kept ?_
    | with_reducible refine State.wb_kept ?_
    | with_reducible refine State.modDrc_kept ?_
    | with_reducible refine State.raiseIf_kept ?_
    | with_reducible refine Kept.ite ?_ ?_
    | split

theorem pprWindowEnd_kept {s₀ : State} {s : State} {k : ℕ} {oks : List Bool} (h : Kept s₀ s) :
    Kept s₀ (pprWindowEnd s k oks) := by
  unfold pprWindowEnd
  repeat' first
    | with_reducible assumption
    | with_reducible refine iterate_kept ?_ (fun _ _ _ => ?_)
    | with_reducible refine repairOne_kept ?_
    | with_reducible refine State.modDrc_kept ?_
    | with_reducible refine State.wr_kept ?_
    | with_reducible refine State.modDram_kept (fun m hm => ?_) ?_
    | with_reducible refine copyRegion_wf _ ?_ _ _ _
    | with_reducible refine Kept.ite ?_ ?_
    | split

theorem rhClear_kept {s₀ : State} {s : State} {k : ℕ} (h : Kept s₀ s) : Kept s₀ (rhClear s k) := by
  unfold rhClear
  repeat' first
    | with_reducible assumption
    | with_reducible refine State.modDrc_kept ?_

/-! ## Machine/MonOps.lean. -/

theorem State.modMon_kept {s₀ s : State} {f : MonSt → MonSt} (hf : ∀ d, d.ins.length = 32 → (f d).ins.length = 32)
    (h : Kept s₀ s) :
    Kept s₀ (s.modMon f) := Kept.same (s := s) rfl rfl rfl rfl rfl id (hf _) rfl rfl rfl h

theorem State.modConv_kept {s₀ : State} {s : State} {c : ℕ} {f : MonConv → MonConv} (h : Kept s₀ s) :
    Kept s₀ (State.modConv s c f) := by
  unfold State.modConv
  repeat' first
    | with_reducible assumption
    | with_reducible refine State.modMon_kept (fun _ hl => by (split <;> exact hl)) ?_

theorem State.modIn_kept {s₀ : State} {s : State} {i : ℕ} {f : MonIn → MonIn} (h : Kept s₀ s) :
    Kept s₀ (State.modIn s i f) := by
  unfold State.modIn
  repeat' first
    | with_reducible assumption
    | with_reducible refine State.modMon_kept (fun _ hl => by simpa using hl) ?_

theorem showMon_kept {s₀ : State} {s : State} (h : Kept s₀ s) : Kept s₀ (showMon s) := by
  unfold showMon
  repeat' first
    | with_reducible assumption
    | with_reducible refine State.wr_kept ?_
    | with_reducible refine State.wb_kept ?_

theorem convStart_kept {s₀ : State} {s : State} {c : ℕ} {i : ℕ} {kind : ConvKind} {at_ : ℕ} (h : Kept s₀ s) :
    Kept s₀ (convStart s c i kind at_) := by
  unfold convStart
  repeat' first
    | with_reducible assumption
    | with_reducible refine State.modConv_kept ?_

theorem convNext_kept {s₀ : State} {s : State} {c : ℕ} {at_ : ℕ} (h : Kept s₀ s) : Kept s₀ (convNext s c at_) := by
  unfold convNext
  repeat' first
    | with_reducible assumption
    | with_reducible refine convStart_kept ?_
    | with_reducible refine State.modConv_kept ?_
    | with_reducible refine State.modMon_kept (fun _ hl => hl) ?_
    | with_reducible refine Kept.ite ?_ ?_
    | (extract_lets +onlyGivenNames x; clear_value x)
    | split

theorem convBoth_kept {s₀ : State} {s : State} {half : Bool} (h : Kept s₀ s) : Kept s₀ (convBoth s half) := by
  unfold convBoth
  repeat' first
    | with_reducible assumption
    | with_reducible refine showMon_kept ?_
    | with_reducible refine convNext_kept ?_

theorem convGoOn_kept {s₀ : State} {s : State} (h : Kept s₀ s) : Kept s₀ (convGoOn s) := by
  unfold convGoOn
  repeat' first
    | with_reducible assumption
    | with_reducible refine convBoth_kept ?_
    | with_reducible refine State.modMon_kept (fun _ hl => hl) ?_
    | with_reducible refine Kept.ite ?_ ?_

theorem convFault_kept {s₀ : State} {s : State} {c : ℕ} (h : Kept s₀ s) : Kept s₀ (convFault s c) := by
  unfold convFault
  repeat' first
    | with_reducible assumption
    | with_reducible refine State.wr_kept ?_
    | with_reducible refine State.raise_kept ?_
    | with_reducible refine State.modConv_kept ?_
    | with_reducible refine State.modMon_kept (fun _ hl => hl) ?_
    | with_reducible refine convGoOn_kept ?_
    | with_reducible refine Kept.ite ?_ ?_

theorem convX_kept {s₀ : State} {s : State} {u : ℤ} {z : ℤ} {f : ℤ} (h : Kept s₀ s) : Kept s₀ (convX s u z f).2 := by
  unfold convX
  repeat' first
    | with_reducible assumption
    | with_reducible refine State.free_kept ?_
    | (extract_lets +onlyGivenNames x; refine (fun (hx : Kept s₀ x.2) => ?_) (show Kept s₀ x.2 from ?_); clear_value x; rotate_left; subst x)
    | split

theorem convX_kept' {s₀ : State} {s : State} {u : ℤ} {z : ℤ} {f : ℤ} {r0 : _} {r1 : _}
    (h : Kept s₀ s) (e : (convX s u z f) = (r0, r1)) : Kept s₀ r1 := by
  have k : Kept s₀ (convX s u z f).2 := convX_kept h
  rw [e] at k
  exact k

theorem injPreempt_kept {s₀ : State} {s : State} (h : Kept s₀ s) : Kept s₀ (injPreempt s) := by
  unfold injPreempt
  repeat' first
    | with_reducible assumption
    | with_reducible refine convGoOn_kept ?_
    | with_reducible refine State.modConv_kept ?_
    | with_reducible refine State.bump_kept ?_
    | with_reducible refine Kept.ite ?_ ?_
    | split

theorem monTrigger_kept {s₀ : State} {s : State} (h : Kept s₀ s) : Kept s₀ (monTrigger s) := by
  unfold monTrigger
  repeat' first
    | with_reducible assumption
    | with_reducible refine State.raise_kept ?_
    | with_reducible refine State.bump_kept ?_
    | with_reducible refine State.modMon_kept (fun _ hl => hl) ?_
    | with_reducible refine Kept.ite ?_ ?_

theorem monTriggerSrc_kept {s₀ : State} {s : State} {k : ℕ} {n : ℕ} {a : ℕ} (h : Kept s₀ s) :
    Kept s₀ (monTriggerSrc s k n a) := by
  unfold monTriggerSrc
  repeat' first
    | with_reducible assumption
    | with_reducible refine monTrigger_kept ?_
    | with_reducible refine Kept.ite ?_ ?_

theorem showPeriod_kept {s₀ : State} {s : State} (h : Kept s₀ s) : Kept s₀ (showPeriod s) := by
  unfold showPeriod
  repeat' first
    | with_reducible assumption
    | with_reducible refine State.wr_kept ?_

theorem mainsOk_kept {s₀ : State} {s : State} {ok : Bool} (h : Kept s₀ s) : Kept s₀ (mainsOk s ok) := by
  unfold mainsOk
  repeat' first
    | with_reducible assumption
    | with_reducible refine showPeriod_kept ?_
    | with_reducible refine State.wb_kept ?_
    | with_reducible refine State.raiseIf_kept ?_

theorem mainsEdge_kept {s₀ : State} {s : State} (h : Kept s₀ s) : Kept s₀ (mainsEdge s) := by
  unfold mainsEdge
  repeat' first
    | with_reducible assumption
    | with_reducible refine State.modMon_kept (fun _ hl => hl) ?_
    | with_reducible refine monTriggerSrc_kept ?_
    | with_reducible refine mainsOk_kept ?_
    | with_reducible refine Kept.ite ?_ ?_
    | (extract_lets +onlyGivenNames x; first | (refine (fun (hx : Kept s₀ x) => ?_) (show Kept s₀ x from ?_); clear_value x; rotate_left; subst x) | (clear_value x))
    | split

theorem mainsTimeout_kept {s₀ : State} {s : State} (h : Kept s₀ s) : Kept s₀ (mainsTimeout s) := by
  unfold mainsTimeout
  repeat' first
    | with_reducible assumption
    | with_reducible refine mainsOk_kept ?_
    | with_reducible refine State.modMon_kept (fun _ hl => hl) ?_

theorem vsupTake_kept {s₀ : State} {s : State} {n : ℕ} {y : ℤ} (h : Kept s₀ s) : Kept s₀ (vsupTake s n y) := by
  unfold vsupTake
  repeat' first
    | with_reducible assumption
    | with_reducible refine State.modMot_kept ?_
    | with_reducible refine State.wr_kept ?_
    | with_reducible refine csupPut_kept ?_
    | with_reducible refine State.raise_kept ?_
    | with_reducible refine State.free_kept ?_
    | with_reducible refine Kept.ite ?_ ?_

theorem monPass_kept {s₀ : State} {s : State} {i : ℕ} {y : ℤ} (h : Kept s₀ s) : Kept s₀ (monPass s i y) := by
  unfold monPass
  repeat' first
    | with_reducible assumption
    | with_reducible refine iterate_kept ?_ (fun _ _ _ => ?_)
    | with_reducible refine vsupTake_kept ?_
    | with_reducible refine holdSample_kept ?_
    | with_reducible refine Kept.ite ?_ ?_

theorem monAccept_kept {s₀ : State} {s : State} {i : ℕ} {y : ℤ} (h : Kept s₀ s) : Kept s₀ (monAccept s i y) := by
  unfold monAccept
  repeat' first
    | with_reducible assumption
    | with_reducible refine State.modIn_kept ?_
    | with_reducible refine State.raiseIf_kept ?_
    | with_reducible refine monPass_kept ?_

theorem monBad_kept {s₀ : State} {s : State} {i : ℕ} {ovr : Bool} (h : Kept s₀ s) : Kept s₀ (monBad s i ovr) := by
  unfold monBad
  repeat' first
    | with_reducible assumption
    | with_reducible refine State.modIn_kept ?_
    | with_reducible refine State.raiseIf_kept ?_

theorem monCfgWritten_kept {s₀ : State} {s : State} (h : Kept s₀ s) : Kept s₀ (monCfgWritten s) := by
  unfold monCfgWritten
  repeat' first
    | with_reducible assumption
    | with_reducible refine showPeriod_kept ?_
    | with_reducible refine mainsTimeout_kept ?_
    | with_reducible refine Kept.ite ?_ ?_

theorem testEnd_kept {s₀ : State} {s : State} {c : ℕ} {t : ConvTest} (h : Kept s₀ s) : Kept s₀ (testEnd s c t) := by
  unfold testEnd
  repeat' first
    | with_reducible assumption
    | with_reducible refine convX_kept ?_
    | with_reducible refine State.modConv_kept ?_
    | with_reducible refine State.wr_kept ?_
    | with_reducible refine State.raise_kept ?_
    | with_reducible refine State.bump_kept ?_
    | with_reducible refine State.modMon_kept (fun _ hl => hl) ?_
    | with_reducible refine Kept.ite ?_ ?_
    | (extract_lets +onlyGivenNames x; refine (fun (hx : Kept s₀ x.2) => ?_) (show Kept s₀ x.2 from ?_); clear_value x; rotate_left; subst x)
    | split

theorem sysCalTake_kept {s₀ : State} {s : State} {q : SysCal} {x : ℤ} (h : Kept s₀ s) : Kept s₀ (sysCalTake s q x) := by
  unfold sysCalTake
  repeat' first
    | with_reducible assumption
    | with_reducible refine State.modMon_kept (fun _ hl => hl) ?_
    | with_reducible refine State.wr_kept ?_
    | with_reducible refine State.raise_kept ?_
    | with_reducible refine Kept.ite ?_ ?_

theorem monResult_kept {s₀ : State} {s : State} {c : ℕ} {i : ℕ} {u : Option ℤ} (h : Kept s₀ s) :
    Kept s₀ (monResult s c i u) := by
  unfold monResult
  repeat' first
    | with_reducible assumption
    | with_reducible refine convX_kept ?_
    | with_reducible refine sysCalTake_kept ?_
    | with_reducible refine monBad_kept ?_
    | with_reducible refine monAccept_kept ?_
    | with_reducible refine Kept.ite ?_ ?_
    | (extract_lets +onlyGivenNames x; first | (refine (fun (hx : Kept s₀ x) => ?_) (show Kept s₀ x from ?_); clear_value x; rotate_left; subst x) | (refine (fun (hx : Kept s₀ x.2) => ?_) (show Kept s₀ x.2 from ?_); clear_value x; rotate_left; subst x) | (clear_value x))
    | split

theorem monConversionEnd_kept {s₀ : State} {s : State} {c : ℕ} {r : ConvCount} (h : Kept s₀ s) :
    Kept s₀ (monConversionEnd s c r) := by
  unfold monConversionEnd
  repeat' first
    | with_reducible assumption
    | with_reducible refine State.modConv_kept ?_
    | with_reducible refine State.bump_kept ?_
    | with_reducible refine convGoOn_kept ?_
    | with_reducible refine showMon_kept ?_
    | with_reducible refine State.raise_kept ?_
    | with_reducible refine testEnd_kept ?_
    | with_reducible refine monResult_kept ?_
    | with_reducible refine Kept.ite ?_ ?_
    | (extract_lets +onlyGivenNames x; first | (refine (fun (hx : Kept s₀ x) => ?_) (show Kept s₀ x from ?_); clear_value x; rotate_left; subst x) | (clear_value x))
    | split

theorem monDiag_kept {s₀ : State} {s : State} (h : Kept s₀ s) : Kept s₀ (monDiag s) := by
  unfold monDiag
  repeat' first
    | with_reducible assumption
    | with_reducible refine convGoOn_kept ?_
    | with_reducible refine State.modConv_kept ?_
    | with_reducible refine State.modMon_kept (fun _ hl => hl) ?_
    | with_reducible refine Kept.ite ?_ ?_

theorem monInjDue_kept {s₀ : State} {s : State} (h : Kept s₀ s) : Kept s₀ (monInjDue s) := by
  unfold monInjDue
  repeat' first
    | with_reducible assumption
    | with_reducible refine injPreempt_kept ?_
    | with_reducible refine convGoOn_kept ?_
    | with_reducible refine State.modMon_kept (fun _ hl => hl) ?_
    | with_reducible refine Kept.ite ?_ ?_

theorem monReset_kept {s₀ : State} {s : State} {warm : Bool} (h : Kept s₀ s) : Kept s₀ (monReset s warm) := by
  unfold monReset
  repeat' first
    | with_reducible assumption
    | with_reducible refine State.resetRange_kept ?_
    | with_reducible refine State.setWord_kept ?_
    | with_reducible refine State.modMon_kept (fun _ hl => by with_unfolding_all rfl) ?_
    | with_reducible refine Kept.ite ?_ ?_
    | with_reducible refine Kept.foldl ?_ (fun _ _ _ => ?_)

theorem monRun_kept {s₀ : State} {s : State} {on : Bool} (h : Kept s₀ s) : Kept s₀ (monRun s on) := by
  unfold monRun
  repeat' first
    | with_reducible assumption
    | with_reducible refine State.wb_kept ?_
    | with_reducible refine State.modConv_kept ?_
    | with_reducible refine State.modMon_kept (fun _ hl => hl) ?_
    | with_reducible refine convGoOn_kept ?_
    | with_reducible refine showPeriod_kept ?_
    | with_reducible refine showMon_kept ?_
    | with_reducible refine Kept.ite ?_ ?_

theorem monSeqWritten_kept {s₀ : State} {s : State} (h : Kept s₀ s) : Kept s₀ (monSeqWritten s) := by
  unfold monSeqWritten
  repeat' first
    | with_reducible assumption
    | with_reducible refine convGoOn_kept ?_
    | with_reducible refine State.modConv_kept ?_

theorem monSnap_kept {s₀ : State} {s : State} {rst : Bool} (h : Kept s₀ s) : Kept s₀ (monSnap s rst) := by
  unfold monSnap
  repeat' first
    | with_reducible assumption
    | with_reducible refine iterate_kept ?_ (fun _ _ _ => ?_)
    | with_reducible refine State.wr64_kept ?_
    | with_reducible refine State.wr_kept ?_
    | with_reducible refine State.wb_kept ?_
    | with_reducible refine State.modIn_kept ?_
    | with_reducible refine Kept.ite ?_ ?_

theorem monStall_kept {s₀ : State} {s : State} {c : ℕ} (h : Kept s₀ s) : Kept s₀ (monStall s c) := by
  unfold monStall
  repeat' first
    | with_reducible assumption
    | with_reducible refine State.raise_kept ?_
    | with_reducible refine State.bump_kept ?_
    | with_reducible refine State.modConv_kept ?_
    | with_reducible refine convGoOn_kept ?_
    | (extract_lets +onlyGivenNames x; refine (fun (hx : Kept s₀ x) => ?_) (show Kept s₀ x from ?_); clear_value x; rotate_left; subst x)
    | split

theorem sysCalStart_kept {s₀ : State} {s : State} {full : Bool} (h : Kept s₀ s) : Kept s₀ (sysCalStart s full) := by
  unfold sysCalStart
  repeat' first
    | with_reducible assumption
    | with_reducible refine State.wr_kept ?_
    | with_reducible refine State.modMon_kept (fun _ hl => hl) ?_
    | with_reducible refine Kept.ite ?_ ?_

/-! ## Machine/DrvOps.lean. -/

theorem axisRefresh_kept {s₀ : State} {s : State} {n : ℕ} {a : ℕ} {ref : Bool} (h : Kept s₀ s) :
    Kept s₀ (axisRefresh s n a ref) := by
  unfold axisRefresh
  repeat' first
    | with_reducible assumption
    | with_reducible refine showRef_kept ?_
    | with_reducible refine modAxis_kept ?_
    | with_reducible refine State.wr_kept ?_
    | with_reducible refine State.addSat_kept ?_
    | with_reducible refine State.wb_kept ?_

theorem dieTemp_kept {s₀ : State} {s : State} {t : BitVec 16} (h : Kept s₀ s) : Kept s₀ (dieTemp s t) := by
  unfold dieTemp
  repeat' first
    | with_reducible assumption
    | with_reducible refine State.wr_kept ?_
    | with_reducible refine State.raiseIf_kept ?_

theorem driveTake_kept {s₀ : State} {s : State} {a : ℕ} {w : Word} (h : Kept s₀ s) : Kept s₀ (driveTake s a w) := by
  unfold driveTake
  repeat' first
    | with_reducible assumption
    | with_reducible refine State.modDrv_kept ?_
    | with_reducible refine sinkUpdate_kept ?_
    | with_reducible refine Kept.ite ?_ ?_

theorem driveApply_kept {s₀ : State} {s : State} (h : Kept s₀ s) : Kept s₀ (driveApply s) := by
  unfold driveApply
  repeat' first
    | with_reducible assumption
    | with_reducible refine driveTake_kept ?_
    | with_reducible refine State.modDrv_kept ?_
    | with_reducible refine Kept.ite ?_ ?_
    | split

theorem driveNow_kept {s₀ : State} {s : State} {a : ℕ} (h : Kept s₀ s) : Kept s₀ (driveNow s a) := by
  unfold driveNow
  repeat' first
    | with_reducible assumption
    | with_reducible refine driveTake_kept ?_
    | with_reducible refine driveSet_kept ?_
    | with_reducible refine Kept.ite ?_ ?_

theorem drivePos_kept {s₀ : State} {s : State} {n : ℕ} {a : ℕ} {err : ℤ} (h : Kept s₀ s) : Kept s₀ (drivePos s n a err) := by
  unfold drivePos
  repeat' first
    | with_reducible assumption
    | with_reducible refine setAxis_kept ?_
    | with_reducible refine modAxis_kept ?_
    | with_reducible refine State.modDrv_kept ?_
    | with_reducible refine Kept.ite ?_ ?_
    | (extract_lets +onlyGivenNames x; refine (fun (hx : Kept s₀ x) => ?_) (show Kept s₀ x from ?_); clear_value x; rotate_left; subst x)
    | split

theorem motLateApply_kept {s₀ : State} {s : State} {n : ℕ} (h : Kept s₀ s) : Kept s₀ (motLateApply s n) := by
  unfold motLateApply
  repeat' first
    | with_reducible assumption
    | with_reducible refine iterate_kept ?_ (fun _ _ _ => ?_)
    | with_reducible refine driveNow_kept ?_
    | with_reducible refine State.setWord_kept ?_
    | with_reducible refine modAxis_kept ?_
    | with_reducible refine State.modCh_kept ?_
    | with_reducible refine Kept.ite ?_ ?_
    | with_reducible refine Kept.foldl ?_ (fun _ _ _ => ?_)

theorem motWatch_kept {s₀ : State} {s : State} {n : ℕ} (h : Kept s₀ s) : Kept s₀ (motWatch s n) := by
  unfold motWatch
  repeat' first
    | with_reducible assumption
    | with_reducible refine dtWatch_kept ?_
    | with_reducible refine slideWatch_kept ?_
    | with_reducible refine motLateApply_kept ?_

theorem jumpReport_kept {s₀ : State} {s : State} {n : ℕ} {a : ℕ} (h : Kept s₀ s) : Kept s₀ (jumpReport s n a) := by
  unfold jumpReport
  repeat' first
    | with_reducible assumption
    | with_reducible refine motWatch_kept ?_
    | with_reducible refine axisFault_kept ?_
    | with_reducible refine axisDrop_kept ?_

theorem limitedReport_kept {s₀ : State} {s : State} {n : ℕ} {a : ℕ} (h : Kept s₀ s) : Kept s₀ (limitedReport s n a) := by
  unfold limitedReport
  repeat' first
    | with_reducible assumption
    | with_reducible refine State.raise_kept ?_

theorem driveReport_kept {s₀ : State} {s : State} {thermal : Bool} (h : Kept s₀ s) : Kept s₀ (driveReport s thermal) := by
  unfold driveReport
  repeat' first
    | with_reducible assumption
    | with_reducible refine State.raise_kept ?_
    | with_reducible refine State.modDrv_kept ?_
    | with_reducible refine jumpReport_kept ?_
    | with_reducible refine limitedReport_kept ?_
    | with_reducible refine shortReport_kept ?_
    | with_reducible refine openReport_kept ?_
    | with_reducible refine sinkReport_kept ?_
    | with_reducible refine Kept.ite ?_ ?_
    | (extract_lets +onlyGivenNames x; refine (fun (hx : Kept s₀ x) => ?_) (show Kept s₀ x from ?_); clear_value x; rotate_left; subst x)
    | split

theorem driveShow_kept {s₀ : State} {s : State} (h : Kept s₀ s) : Kept s₀ (driveShow s) := by
  unfold driveShow
  repeat' first
    | with_reducible assumption
    | with_reducible refine iterate_kept ?_ (fun _ _ _ => ?_)
    | with_reducible refine showLamp_kept ?_
    | with_reducible refine sinkUpdate_kept ?_

theorem driveUnder_kept {s₀ : State} {s : State} (h : Kept s₀ s) : Kept s₀ (driveUnder s) := by
  unfold driveUnder
  repeat' first
    | with_reducible assumption
    | with_reducible refine driveShow_kept ?_
    | with_reducible refine State.modDrv_kept ?_

theorem driveUnderEnd_kept {s₀ : State} {s : State} (h : Kept s₀ s) : Kept s₀ (driveUnderEnd s) := by
  unfold driveUnderEnd
  repeat' first
    | with_reducible assumption
    | with_reducible refine driveShow_kept ?_
    | with_reducible refine State.modDrv_kept ?_
    | with_reducible refine Kept.ite ?_ ?_

theorem droop_kept {s₀ : State} {s : State} (h : Kept s₀ s) : Kept s₀ (droop s) := by
  unfold droop
  repeat' first
    | with_reducible assumption
    | with_reducible refine State.modEvt_kept ?_
    | with_reducible refine State.bump_kept ?_
    | with_reducible refine State.wr_kept ?_
    | with_reducible refine State.raise_kept ?_
    | with_reducible refine Kept.ite ?_ ?_

theorem linkFrame_kept {s₀ : State} {s : State} {bad : FrameBad} (h : Kept s₀ s) : Kept s₀ (linkFrame s bad) := by
  unfold linkFrame
  repeat' first
    | with_reducible assumption
    | with_reducible refine State.raise_kept ?_
    | with_reducible refine iterate_kept ?_ (fun _ _ _ => ?_)
    | with_reducible refine drivePos_kept ?_
    | with_reducible refine Kept.ite ?_ ?_

theorem linkTimeout_kept {s₀ : State} {s : State} (h : Kept s₀ s) : Kept s₀ (linkTimeout s) := by
  unfold linkTimeout
  repeat' first
    | with_reducible assumption
    | with_reducible refine driveShow_kept ?_
    | with_reducible refine State.raise_kept ?_
    | with_reducible refine State.wr_kept ?_
    | with_reducible refine State.modDrv_kept ?_
    | with_reducible refine Kept.ite ?_ ?_

theorem linkUp_kept {s₀ : State} {s : State} (h : Kept s₀ s) : Kept s₀ (linkUp s) := by
  unfold linkUp
  repeat' first
    | with_reducible assumption
    | with_reducible refine driveShow_kept ?_
    | with_reducible refine State.wr_kept ?_
    | with_reducible refine State.modDrv_kept ?_

theorem motWatchAll_kept {s₀ : State} {s : State} (h : Kept s₀ s) : Kept s₀ (motWatchAll s) := by
  unfold motWatchAll
  repeat' first
    | with_reducible assumption
    | with_reducible refine iterate_kept ?_ (fun _ _ _ => ?_)
    | with_reducible refine motWatch_kept ?_

theorem pllLoss_kept {s₀ : State} {s : State} {p : Pll} (h : Kept s₀ s) : Kept s₀ (pllLoss s p) := by
  unfold pllLoss
  repeat' first
    | with_reducible assumption
    | with_reducible refine State.raise_kept ?_
    | with_reducible refine State.wr_kept ?_
    | split

theorem pwmDuties_kept {s₀ : State} {s : State} {n : ℕ} {a : ℕ} (h : Kept s₀ s) : Kept s₀ (pwmDuties s n a) := by
  unfold pwmDuties
  repeat' first
    | with_reducible assumption
    | with_reducible refine modAxis_kept ?_
    | with_reducible refine State.modDrv_kept ?_
    | with_reducible refine Kept.ite ?_ ?_
    | split

theorem pwmPeriod_kept {s₀ : State} {s : State} {n : ℕ} {a : ℕ} (h : Kept s₀ s) : Kept s₀ (pwmPeriod s n a) := by
  unfold pwmPeriod
  repeat' first
    | with_reducible assumption
    | with_reducible refine pwmDuties_kept ?_
    | with_reducible refine State.emit_kept ?_

theorem showEnout_kept {s₀ : State} {s : State} {n : ℕ} (h : Kept s₀ s) : Kept s₀ (showEnout s n) := by
  unfold showEnout
  repeat' first
    | with_reducible assumption
    | with_reducible refine State.wb_kept ?_

theorem sinkRefresh_kept {s₀ : State} {s : State} {n : ℕ} {i : ℕ} (h : Kept s₀ s) : Kept s₀ (sinkRefresh s n i) := by
  unfold sinkRefresh
  repeat' first
    | with_reducible assumption
    | with_reducible refine State.addSat_kept ?_
    | with_reducible refine State.wr_kept ?_
    | with_reducible refine modSink_kept ?_

theorem statusRefresh_kept {s₀ : State} {s : State} {refs : BitVec 16} {senses : List (Fin 4 × Fin 12 × SinkSense)}
    (h : Kept s₀ s) : Kept s₀ (statusRefresh s refs senses) := by
  unfold statusRefresh
  repeat' first
    | with_reducible assumption
    | with_reducible refine modSink_kept ?_
    | with_reducible refine iterate_kept ?_ (fun _ _ _ => ?_)
    | with_reducible refine axisRefresh_kept ?_
    | with_reducible refine sinkRefresh_kept ?_
    | with_reducible refine showEnout_kept ?_
    | with_reducible refine State.wr_kept ?_
    | with_reducible refine Kept.ite ?_ ?_
    | with_reducible refine Kept.foldl ?_ (fun _ _ _ => ?_)

theorem stepSums_kept {s₀ : State} {s : State} {errs : List (Fin 4 × Fin 4 × ℤ)} (h : Kept s₀ s) :
    Kept s₀ (stepSums s errs) := by
  unfold stepSums
  repeat' first
    | with_reducible assumption
    | with_reducible refine iterate_kept ?_ (fun _ _ _ => ?_)
    | with_reducible refine motWatch_kept ?_
    | with_reducible refine axisFault_kept ?_
    | with_reducible refine axisEstop_kept ?_
    | with_reducible refine modAxis_kept ?_
    | with_reducible refine Kept.ite ?_ ?_

theorem stretchEnd_kept {s₀ : State} {s : State} (h : Kept s₀ s) : Kept s₀ (stretchEnd s) := by
  unfold stretchEnd
  repeat' first
    | with_reducible assumption
    | with_reducible refine State.modEvt_kept ?_
    | with_reducible refine State.peak_kept ?_
    | with_reducible refine State.wr_kept ?_
    | with_reducible refine State.raiseIf_kept ?_
    | split

theorem sysclkLoss_kept {s₀ : State} {s : State} (h : Kept s₀ s) : Kept s₀ (sysclkLoss s) := by
  unfold sysclkLoss
  repeat' first
    | with_reducible assumption
    | with_reducible refine State.raise_kept ?_
    | with_reducible refine State.wr_kept ?_

/-! ## Machine/UmdOps.lean. -/

theorem State.modUmd_kept {s₀ : State} {s : State} {f : UmdSt → UmdSt} (h : Kept s₀ s) : Kept s₀ (State.modUmd s f) := by
  unfold State.modUmd
  repeat' first
    | with_reducible assumption
    | fail_if_no_progress (with_reducible refine Kept.parts (fun hl => hl) (fun hl => hl) ?_)

theorem umdBad_kept {s₀ : State} {s : State} (h : Kept s₀ s) : Kept s₀ (umdBad s) := by
  unfold umdBad
  repeat' first
    | with_reducible assumption
    | with_reducible refine State.raise_kept ?_
    | with_reducible refine State.bump_kept ?_

theorem umdReceive_kept {s₀ : State} {s : State} {up : Bool} {bs : List Byte} {ty : Nat} {k : State → UmdFrame → State}
    (h : Kept s₀ s) (hk : ∀ t f, Kept s₀ t → Kept s₀ (k t f)) : Kept s₀ (umdReceive s up bs ty k) := by
  unfold umdReceive
  refine Kept.ite h ?_
  split
  · exact umdBad_kept h
  · exact Kept.ite (hk _ _ h) h

theorem umdSend_kept {s₀ : State} {s : State} {up : Bool} {f : UmdFrame} (h : Kept s₀ s) : Kept s₀ (umdSend s up f) := by
  unfold umdSend
  repeat' first
    | with_reducible assumption
    | with_reducible refine State.modUmd_kept ?_
    | with_reducible refine Kept.ite ?_ ?_

theorem echoArrive_kept {s₀ : State} {s : State} {up : Bool} {bs : List Byte} {measured : ℕ} (h : Kept s₀ s) :
    Kept s₀ (echoArrive s up bs measured) := by
  unfold echoArrive
  repeat' first
    | with_reducible assumption
    | with_reducible refine umdReceive_kept ?_ (fun _ _ _ => ?_)
    | with_reducible refine umdSend_kept ?_
    | with_reducible refine State.wr_kept ?_
    | with_reducible refine State.modUmd_kept ?_
    | with_reducible refine Kept.ite ?_ ?_

theorem echoSend_kept {s₀ : State} {s : State} (h : Kept s₀ s) : Kept s₀ (echoSend s) := by
  unfold echoSend
  repeat' first
    | with_reducible assumption
    | with_reducible refine umdSend_kept ?_
    | with_reducible refine State.modUmd_kept ?_
    | with_reducible refine Kept.ite ?_ ?_

theorem passUp_kept {s₀ : State} {s : State} {f : UmdFrame} (h : Kept s₀ s) : Kept s₀ (passUp s f) := by
  unfold passUp
  repeat' first
    | with_reducible assumption
    | with_reducible refine umdSend_kept ?_

theorem eventArrive_kept {s₀ : State} {s : State} {bs : List Byte} (h : Kept s₀ s) : Kept s₀ (eventArrive s bs) := by
  unfold eventArrive
  repeat' first
    | with_reducible assumption
    | with_reducible refine umdReceive_kept ?_ (fun _ _ _ => ?_)
    | with_reducible refine passUp_kept ?_
    | with_reducible refine State.raise_kept ?_
    | with_reducible refine Kept.ite ?_ ?_

theorem eventSend_kept {s₀ : State} {s : State} {r : Raise} (h : Kept s₀ s) : Kept s₀ (eventSend s r) := by
  unfold eventSend
  repeat' first
    | with_reducible assumption
    | with_reducible refine umdSend_kept ?_
    | with_reducible refine Kept.ite ?_ ?_

theorem keepAlive_kept {s₀ : State} {s : State} {up : Bool} (h : Kept s₀ s) : Kept s₀ (keepAlive s up) := by
  unfold keepAlive
  repeat' first
    | with_reducible assumption
    | with_reducible refine umdSend_kept ?_
    | with_reducible refine echoSend_kept ?_
    | with_reducible refine Kept.ite ?_ ?_

theorem showNode_kept {s₀ : State} {s : State} {j : ℕ} {here : Bool} (h : Kept s₀ s) : Kept s₀ (showNode s j here) := by
  unfold showNode
  repeat' first
    | with_reducible assumption
    | with_reducible refine State.wr_kept ?_

theorem nodesLost_kept {s₀ : State} {s : State} {j : ℕ} (h : Kept s₀ s) : Kept s₀ (nodesLost s j) := by
  unfold nodesLost
  repeat' first
    | with_reducible assumption
    | with_reducible refine iterate_kept ?_ (fun _ _ _ => ?_)
    | with_reducible refine State.raise_kept ?_
    | with_reducible refine State.bump_kept ?_
    | with_reducible refine State.setWord_kept ?_
    | with_reducible refine showNode_kept ?_
    | with_reducible refine Kept.ite ?_ ?_

theorem portDown_kept {s₀ : State} {s : State} {up : Bool} (h : Kept s₀ s) : Kept s₀ (portDown s up) := by
  unfold portDown
  repeat' first
    | with_reducible assumption
    | with_reducible refine State.raise_kept ?_
    | with_reducible refine State.wr_kept ?_
    | with_reducible refine State.modUmd_kept ?_
    | with_reducible refine nodesLost_kept ?_
    | with_reducible refine Kept.ite ?_ ?_

theorem portUp_kept {s₀ : State} {s : State} {up : Bool} {above : ℕ} (h : Kept s₀ s) : Kept s₀ (portUp s up above) := by
  unfold portUp
  repeat' first
    | with_reducible assumption
    | with_reducible refine State.raise_kept ?_
    | with_reducible refine State.wr_kept ?_
    | with_reducible refine State.modUmd_kept ?_
    | with_reducible refine Kept.ite ?_ ?_

theorem statusArrive_kept {s₀ : State} {s : State} {bs : List Byte} (h : Kept s₀ s) : Kept s₀ (statusArrive s bs) := by
  unfold statusArrive
  repeat' first
    | with_reducible assumption
    | with_reducible refine umdReceive_kept ?_ (fun _ _ _ => ?_)
    | with_reducible refine passUp_kept ?_
    | with_reducible refine State.setWord_kept ?_
    | with_reducible refine showNode_kept ?_
    | with_reducible refine State.raiseIf_kept ?_
    | with_reducible refine Kept.ite ?_ ?_

theorem statusSend_kept {s₀ : State} {s : State} (h : Kept s₀ s) : Kept s₀ (statusSend s) := by
  unfold statusSend
  repeat' first
    | with_reducible assumption
    | with_reducible refine umdSend_kept ?_
    | with_reducible refine Kept.ite ?_ ?_

theorem umdSendAged_kept {s₀ : State} {s : State} {f : UmdFrame} {age : ℕ} (h : Kept s₀ s) : Kept s₀ (umdSendAged s f age) := by
  unfold umdSendAged
  repeat' first
    | with_reducible assumption
    | with_reducible refine State.free_kept ?_
    | with_reducible refine umdSend_kept ?_

theorem timeArrive_kept {s₀ : State} {s : State} {bs : List Byte} {lag : ℕ} (h : Kept s₀ s) :
    Kept s₀ (timeArrive s bs lag) := by
  unfold timeArrive
  repeat' first
    | with_reducible assumption
    | with_reducible refine umdReceive_kept ?_ (fun _ _ _ => ?_)
    | with_reducible refine umdSendAged_kept ?_
    | with_reducible refine State.wr_kept ?_
    | with_reducible refine State.raiseIf_kept ?_
    | with_reducible refine State.modUmd_kept ?_
    | with_reducible refine Kept.ite ?_ ?_
    | split
    | fail_if_no_progress (with_reducible refine Kept.parts (fun hl => hl) (fun hl => hl) ?_)

theorem timeSend_kept {s₀ : State} {s : State} (h : Kept s₀ s) : Kept s₀ (timeSend s) := by
  unfold timeSend
  repeat' first
    | with_reducible assumption
    | with_reducible refine umdSendAged_kept ?_
    | with_reducible refine Kept.ite ?_ ?_

theorem timeTick_kept {s₀ : State} {s : State} {clocks : Nat} (h : Kept s₀ s) : Kept s₀ (timeTick s clocks) := by
  obtain ⟨h1, h2, h3, h4, h5, h6, h7, h8⟩ := h
  exact ⟨h1, h2, h3, h4, h5, h6, Nat.le_trans h7 (Nat.le_add_right _ _), h8⟩

theorem umdFlush_kept {s₀ : State} {s : State} (h : Kept s₀ s) : Kept s₀ (umdFlush s) := by
  unfold umdFlush
  exact Kept.ite h (Kept.same (s := { s with outbox := _ }) rfl rfl rfl rfl rfl id id rfl rfl rfl (h.out_ _))

/-! ## Machine/SeqOps.lean. -/

theorem modRunner_kept {s₀ : State} {s : State} {r : ℕ} {f : Runner → Runner} (h : Kept s₀ s) : Kept s₀ (modRunner s r f) := by
  unfold modRunner
  repeat' first
    | with_reducible assumption
    | fail_if_no_progress (with_reducible refine Kept.parts (fun hl => hl) (fun hl => hl) ?_)

theorem seqFail_kept {s₀ : State} {s : State} {r : ℕ} {cause : ℕ} (h : Kept s₀ s) : Kept s₀ (seqFail s r cause) := by
  unfold seqFail
  repeat' first
    | with_reducible assumption
    | with_reducible refine State.raise_kept ?_
    | with_reducible refine State.wr_kept ?_
    | with_reducible refine calListEnd_kept ?_
    | with_reducible refine Kept.ite ?_ ?_

theorem seqAbort_kept {s₀ : State} {s : State} {r : ℕ} (h : Kept s₀ s) : Kept s₀ (seqAbort s r) := by
  unfold seqAbort
  repeat' first
    | with_reducible assumption
    | with_reducible refine seqFail_kept ?_
    | with_reducible refine Kept.ite ?_ ?_

theorem seqBegin_kept {s₀ : State} {s : State} {r : ℕ} {ty : ℕ} {jig : ℕ} {words : List (BitVec 64)} {boot : Bool}
    (h : Kept s₀ s) : Kept s₀ (seqBegin s r ty jig words boot) := by
  unfold seqBegin
  repeat' first
    | with_reducible assumption
    | with_reducible refine State.wr_kept ?_
    | with_reducible refine modRunner_kept ?_
    | fail_if_no_progress (with_reducible refine Kept.parts (fun hl => hl) (fun hl => hl) ?_)

theorem seqGoto_kept {s₀ : State} {s : State} {r : ℕ} {pc : ℕ} (h : Kept s₀ s) : Kept s₀ (seqGoto s r pc) := by
  unfold seqGoto
  repeat' first
    | with_reducible assumption
    | with_reducible refine State.wr_kept ?_

theorem seqNext_kept {s₀ : State} {s : State} {r : ℕ} {k : ℕ} (h : Kept s₀ s) : Kept s₀ (seqNext s r k) := by
  unfold seqNext
  repeat' first
    | with_reducible assumption
    | with_reducible refine seqGoto_kept ?_

theorem seqPass_kept {s₀ : State} {s : State} {r : ℕ} (h : Kept s₀ s) : Kept s₀ (seqPass s r) := by
  unfold seqPass
  repeat' first
    | with_reducible assumption
    | with_reducible refine State.wr_kept ?_
    | with_reducible refine calListEnd_kept ?_
    | with_reducible refine Kept.ite ?_ ?_

theorem seqStartFail_kept {s₀ : State} {s : State} {r : ℕ} {ty : ℕ} {cause : ℕ} (h : Kept s₀ s) :
    Kept s₀ (seqStartFail s r ty cause) := by
  unfold seqStartFail
  repeat' first
    | with_reducible assumption
    | with_reducible refine State.wr_kept ?_
    | with_reducible refine State.raise_kept ?_

theorem seqStart_kept {s₀ : State} {s : State} {n : ℕ} {ty : ℕ} (h : Kept s₀ s) : Kept s₀ (seqStart s n ty) := by
  unfold seqStart
  repeat' first
    | with_reducible assumption
    | with_reducible refine State.raise_kept ?_
    | with_reducible refine seqStartFail_kept ?_
    | with_reducible refine seqBegin_kept ?_
    | with_reducible refine calListStart_kept ?_
    | with_reducible refine Kept.ite ?_ ?_
    | split

/-! ## Machine/RegOps.lean. -/

theorem chanPut_kept {s₀ : State} {s : State} {a : ℕ} {w : Word} (h : Kept s₀ s) : Kept s₀ (chanPut s a w) := by
  unfold chanPut
  repeat' first
    | with_reducible assumption
    | with_reducible refine driveForward_kept ?_
    | with_reducible refine State.setWord_kept ?_
    | with_reducible refine offWrite_kept ?_
    | with_reducible refine genSelect_kept ?_
    | with_reducible refine divSelect_kept ?_
    | with_reducible refine cmpEnable_kept ?_
    | with_reducible refine showPktLen_kept ?_
    | with_reducible refine fifoWatch_kept ?_
    | with_reducible refine showLamp_kept ?_
    | with_reducible refine csupPut_kept ?_
    | with_reducible refine slipBegin_kept ?_
    | with_reducible refine motWatch_kept ?_
    | with_reducible refine showAxis_kept ?_
    | with_reducible refine showRef_kept ?_
    | with_reducible refine slideWatch_kept ?_
    | with_reducible refine Kept.ite ?_ ?_

theorem devPut_kept {s₀ : State} {s : State} {a : ℕ} {w : Word} (h : Kept s₀ s) : Kept s₀ (devPut s a w) := by
  unfold devPut
  repeat' first
    | with_reducible assumption
    | with_reducible refine driveForward_kept ?_
    | with_reducible refine State.setWord_kept ?_
    | with_reducible refine monRun_kept ?_
    | with_reducible refine monCfgWritten_kept ?_
    | with_reducible refine monSeqWritten_kept ?_
    | with_reducible refine logEnable_kept ?_
    | with_reducible refine dmaPause_kept ?_
    | with_reducible refine crheadWrite_kept ?_
    | with_reducible refine showQ_kept ?_
    | with_reducible refine Kept.ite ?_ ?_

theorem regPut_kept {s₀ : State} {s : State} {a : ℕ} {w : Word} (h : Kept s₀ s) : Kept s₀ (regPut s a w) := by
  unfold regPut
  repeat' first
    | with_reducible assumption
    | with_reducible refine devPut_kept ?_
    | with_reducible refine chanPut_kept ?_
    | with_reducible refine Kept.ite ?_ ?_

end Sys2Proof.Machine
end

