-- ==== Sys2Proof/Laws/KeptWhole.lean ====
section
/-! SUPPORT. Laws/KeptWhole.lean: what Safety.lean calls Kept, through the operations that act across units: switches, boot, resets, event actions, triggers, lines and writes:
if what stands before it keeps, what stands after it keeps. -/

namespace Sys2Proof.Machine

/-! ## Machine/JigOps.lean. -/

theorem activateStart_kept {s₀ : State} {s : State} {n : ℕ} {jig : ℕ} {bs : List Byte} (h : Kept s₀ s) :
    Kept s₀ (activateStart s n jig bs) := by
  unfold activateStart
  repeat' first
    | with_reducible assumption
    | with_reducible refine State.raise_kept ?_
    | with_reducible refine seqBegin_kept ?_
    | with_reducible refine Kept.ite ?_ ?_
    | split

theorem arbTake_kept {s₀ : State} {s : State} {b : List Byte} (h : Kept s₀ s) : Kept s₀ (arbTake s b) := by
  unfold arbTake
  repeat' first
    | with_reducible assumption
    | with_reducible refine iterate_kept ?_ (fun _ _ _ => ?_)
    | with_reducible refine regPut_kept ?_

theorem devReg_kept {s₀ : State} {s : State} {e_1 : ℕ × ℕ} (h : Kept s₀ s) : Kept s₀ (devReg s e_1) := by
  unfold devReg
  repeat' first
    | with_reducible assumption
    | with_reducible refine regPut_kept ?_

theorem umdTake_kept {s₀ : State} {s : State} {b : List Byte} (h : Kept s₀ s) : Kept s₀ (umdTake s b) := by
  unfold umdTake
  repeat' first
    | with_reducible assumption
    | with_reducible refine State.wr_kept ?_
    | with_reducible refine Kept.ite ?_ ?_

theorem devSecTake_kept {s₀ : State} {boot : Bool} {bs : List Byte} {s : State} {c : JigSec} (h : Kept s₀ s) :
    Kept s₀ (devSecTake boot bs s c) := by
  unfold devSecTake
  repeat' first
    | with_reducible assumption
    | with_reducible refine devReg_kept ?_
    | with_reducible refine arbTake_kept ?_
    | with_reducible refine umdTake_kept ?_
    | with_reducible refine Kept.ite ?_ ?_
    | with_reducible refine Kept.foldl ?_ (fun _ _ _ => ?_)

theorem devTake_kept {s₀ : State} {s : State} {bs : List Byte} {boot : Bool} (h : Kept s₀ s) : Kept s₀ (devTake s bs boot) := by
  unfold devTake
  repeat' first
    | with_reducible assumption
    | with_reducible refine devSecTake_kept ?_
    | with_reducible refine Kept.foldl ?_ (fun _ _ _ => ?_)

theorem jigActive_kept {s₀ : State} {s : State} {n : ℕ} {jig : ℕ} (h : Kept s₀ s) : Kept s₀ (jigActive s n jig) := by
  unfold jigActive
  repeat' first
    | with_reducible assumption
    | with_reducible refine State.wr_kept ?_

theorem jigReg_kept {s₀ : State} {s : State} {e_1 : ℕ × ℕ} (h : Kept s₀ s) : Kept s₀ (jigReg s e_1) := by
  unfold jigReg
  repeat' first
    | with_reducible assumption
    | with_reducible refine State.modCh_kept ?_
    | with_reducible refine driveNow_kept ?_
    | with_reducible refine regPut_kept ?_
    | with_reducible refine State.modPipe_kept ?_
    | with_reducible refine State.modLmp_kept ?_
    | with_reducible refine State.wr_kept ?_
    | with_reducible refine Kept.ite ?_ ?_
    | (extract_lets +onlyGivenNames x; first | (refine (fun (hx : Kept s₀ x) => ?_) (show Kept s₀ x from ?_); clear_value x; rotate_left; subst x) | (clear_value x))
    | split

theorem jigShow_kept {s₀ : State} {s : State} {n : ℕ} (h : Kept s₀ s) : Kept s₀ (jigShow s n) := by
  unfold jigShow
  repeat' first
    | with_reducible assumption
    | with_reducible refine motWatch_kept ?_
    | with_reducible refine fifoWatch_kept ?_
    | with_reducible refine showLamp_kept ?_
    | with_reducible refine sinkUpdate_kept ?_
    | with_reducible refine showPktLen_kept ?_

theorem jigTrial_kept {s₀ : State} {s : State} {n : ℕ} {bs : List Byte} (h : Kept s₀ s) : Kept s₀ (jigTrial s n bs) := by
  unfold jigTrial
  repeat' first
    | with_reducible assumption
    | with_reducible refine imagePut_kept ?_
    | with_reducible refine State.modCh_kept ?_
    | with_reducible refine State.modSns_kept ?_
    | with_reducible refine Kept.foldl ?_ (fun _ _ _ => ?_)
    | (extract_lets +onlyGivenNames x; refine (fun (hx : Kept s₀ x) => ?_) (show Kept s₀ x from ?_); clear_value x; rotate_left; subst x)
    | split

theorem sineWait_kept {s₀ : State} {s : State} {n : ℕ} {new : List (ℕ × Byte)} (h : Kept s₀ s) :
    Kept s₀ (sineWait s n new) := by
  unfold sineWait
  repeat' first
    | with_reducible assumption
    | with_reducible refine State.modMot_kept ?_
    | with_reducible refine modAxis_kept ?_
    | with_reducible refine Kept.ite ?_ ?_
    | with_reducible refine Kept.foldl ?_ (fun _ _ _ => ?_)

theorem jigTake_kept {s₀ : State} {s : State} {n : ℕ} {bs : List Byte} {run : Option (ℕ × ℕ)} (h : Kept s₀ s) :
    Kept s₀ (jigTake s n bs run) := by
  unfold jigTake
  repeat' first
    | with_reducible assumption
    | with_reducible refine jigTrial_kept ?_
    | with_reducible refine sineWait_kept ?_
    | with_reducible refine snsSetSchedule_kept ?_
    | with_reducible refine State.modCh_kept ?_
    | with_reducible refine jigShow_kept ?_
    | with_reducible refine jigReg_kept ?_
    | with_reducible refine cmpRest_kept ?_
    | with_reducible refine State.modSns_kept ?_
    | with_reducible refine motWatch_kept ?_
    | with_reducible refine showLamp_kept ?_
    | with_reducible refine sinkUpdate_kept ?_
    | with_reducible refine State.wr_kept ?_
    | with_reducible refine Kept.foldl ?_ (fun _ _ _ => ?_)
    | (extract_lets +onlyGivenNames x; first | (refine (fun (hx : Kept s₀ x) => ?_) (show Kept s₀ x from ?_); clear_value x; rotate_left; subst x) | (clear_value x))
    | split

theorem lateTake_kept {s₀ : State} {s : State} {n : ℕ} (h : Kept s₀ s) : Kept s₀ (lateTake s n) := by
  unfold lateTake
  repeat' first
    | with_reducible assumption
    | with_reducible refine State.modCh_kept ?_
    | with_reducible refine regPut_kept ?_
    | with_reducible refine devTake_kept ?_
    | with_reducible refine State.modRsmp_kept ?_
    | with_reducible refine Kept.ite ?_ ?_
    | with_reducible refine Kept.foldl ?_ (fun _ _ _ => ?_)
    | split

theorem lateDue_kept {s₀ : State} {s : State} {n : ℕ} {trig : ℕ} (h : Kept s₀ s) : Kept s₀ (lateDue s n trig) := by
  unfold lateDue
  repeat' first
    | with_reducible assumption
    | with_reducible refine lateTake_kept ?_
    | with_reducible refine Kept.ite ?_ ?_
    | split

theorem modSw_kept {s₀ : State} {s : State} {i : ℕ} {f : SwReq → SwReq} (h : Kept s₀ s) : Kept s₀ (modSw s i f) := by
  unfold modSw
  repeat' first
    | with_reducible assumption
    | fail_if_no_progress (with_reducible refine Kept.parts (fun hl => hl) (fun hl => hl) ?_)

theorem setTgt_kept {s₀ : State} {s : State} {n : ℕ} {line : ℕ} (h : Kept s₀ s) : Kept s₀ (setTgt s n line) := by
  unfold setTgt
  repeat' first
    | with_reducible assumption
    | with_reducible refine State.wr_kept ?_

theorem setWarm_kept {s₀ : State} {s : State} {n : ℕ} {jig : ℕ} (h : Kept s₀ s) : Kept s₀ (setWarm s n jig) := by
  unfold setWarm
  repeat' first
    | with_reducible assumption
    | with_reducible refine State.wr_kept ?_

theorem stageCheck_kept {s₀ : State} {s : State} {n : ℕ} {bs : List Byte} (h : Kept s₀ s) : Kept s₀ (stageCheck s n bs).2 := by
  unfold stageCheck
  repeat' first
    | with_reducible assumption
    | with_reducible refine State.raise_kept ?_
    | with_reducible refine State.raiseIf_kept ?_
    | with_reducible refine Kept.foldl ?_ (fun _ _ _ => ?_)

theorem stageCheck_kept' {s₀ : State} {s : State} {n : ℕ} {bs : List Byte} {r0 : _} {r1 : _}
    (h : Kept s₀ s) (e : (stageCheck s n bs) = (r0, r1)) : Kept s₀ r1 := by
  have k : Kept s₀ (stageCheck s n bs).2 := stageCheck_kept h
  rw [e] at k
  exact k

theorem swCancelAt_kept {s₀ : State} {s : State} {i : ℕ} {reason : ℕ} (h : Kept s₀ s) : Kept s₀ (swCancelAt s i reason) := by
  unfold swCancelAt
  repeat' first
    | with_reducible assumption
    | with_reducible refine setTgt_kept ?_
    | with_reducible refine State.wr_kept ?_
    | with_reducible refine State.raise_kept ?_
    | with_reducible refine Kept.foldl ?_ (fun _ _ _ => ?_)
    | split
    | fail_if_no_progress (with_reducible refine Kept.parts (fun hl => hl) (fun hl => hl) ?_)

theorem swApply_kept {s₀ : State} {s : State} {n : ℕ} {i : ℕ} {run : Option (ℕ × ℕ)} (h : Kept s₀ s) :
    Kept s₀ (swApply s n i run) := by
  unfold swApply
  repeat' first
    | with_reducible assumption
    | with_reducible refine fadeStop_kept ?_
    | with_reducible refine jigTake_kept ?_
    | with_reducible refine profileSwap_kept ?_
    | with_reducible refine devTake_kept ?_
    | with_reducible refine State.modCh_kept ?_
    | with_reducible refine jigActive_kept ?_
    | with_reducible refine setTgt_kept ?_
    | with_reducible refine State.wr_kept ?_
    | with_reducible refine modSw_kept ?_
    | with_reducible refine State.raise_kept ?_
    | with_reducible refine activateStart_kept ?_
    | (extract_lets +onlyGivenNames x; refine (fun (hx : Kept s₀ x) => ?_) (show Kept s₀ x from ?_); clear_value x; rotate_left; subst x)
    | split
    | fail_if_no_progress (with_reducible refine Kept.parts (fun hl => hl) (fun hl => hl) ?_)

theorem swIdle_kept {s₀ : State} {s : State} {n : ℕ} (h : Kept s₀ s) : Kept s₀ (swIdle s n) := by
  unfold swIdle
  repeat' first
    | with_reducible assumption
    | with_reducible refine swApply_kept ?_
    | with_reducible refine Kept.ite ?_ ?_
    | split

theorem swCommit_kept {s₀ : State} {s : State} {i : ℕ} (h : Kept s₀ s) : Kept s₀ (swCommit s i) := by
  unfold swCommit
  repeat' first
    | with_reducible assumption
    | with_reducible refine modSw_kept ?_
    | with_reducible refine setWarm_kept ?_
    | with_reducible refine State.wr_kept ?_
    | with_reducible refine swIdle_kept ?_
    | with_reducible refine Kept.foldl ?_ (fun _ _ _ => ?_)
    | (extract_lets +onlyGivenNames x; refine (fun (hx : Kept s₀ x) => ?_) (show Kept s₀ x from ?_); clear_value x; rotate_left; subst x)
    | split

theorem swArmed_kept {s₀ : State} {s : State} {i : ℕ} (h : Kept s₀ s) : Kept s₀ (swArmed s i) := by
  unfold swArmed
  repeat' first
    | with_reducible assumption
    | with_reducible refine swCommit_kept ?_
    | with_reducible refine State.wr_kept ?_
    | with_reducible refine Kept.ite ?_ ?_
    | with_reducible refine Kept.foldl ?_ (fun _ _ _ => ?_)
    | split

theorem stagingDone_kept {s₀ : State} {s : State} {n : ℕ} {readFail : Bool} (h : Kept s₀ s) :
    Kept s₀ (stagingDone s n readFail) := by
  unfold stagingDone
  repeat' first
    | with_reducible assumption
    | with_reducible refine swCancelAt_kept ?_
    | with_reducible refine setJigBit_kept ?_
    | with_reducible refine stageCheck_kept ?_
    | with_reducible refine shadowLoad_kept ?_
    | with_reducible refine modSw_kept ?_
    | with_reducible refine swArmed_kept ?_
    | with_reducible refine State.wr_kept ?_
    | with_reducible refine Kept.ite ?_ ?_
    | split

theorem swAtLine_kept {s₀ : State} {s : State} {n : ℕ} {trig : ℕ} {line : ℕ} (h : Kept s₀ s) :
    Kept s₀ (swAtLine s n trig line) := by
  unfold swAtLine
  repeat' first
    | with_reducible assumption
    | with_reducible refine swApply_kept ?_
    | with_reducible refine Kept.ite ?_ ?_
    | split

theorem swCancelChan_kept {s₀ : State} {s : State} {n : ℕ} {reason : ℕ} (h : Kept s₀ s) :
    Kept s₀ (swCancelChan s n reason) := by
  unfold swCancelChan
  repeat' first
    | with_reducible assumption
    | with_reducible refine swCancelAt_kept ?_
    | with_reducible refine Kept.ite ?_ ?_
    | split

theorem swCancel_kept {s₀ : State} {s : State} {mask : ℕ} {reason : ℕ} (h : Kept s₀ s) : Kept s₀ (swCancel s mask reason) := by
  unfold swCancel
  repeat' first
    | with_reducible assumption
    | with_reducible refine swCancelChan_kept ?_
    | with_reducible refine Kept.foldl ?_ (fun _ _ _ => ?_)

theorem swGo_kept {s₀ : State} {s : State} {i : ℕ} (h : Kept s₀ s) : Kept s₀ (swGo s i) := by
  unfold swGo
  repeat' first
    | with_reducible assumption
    | with_reducible refine swArmed_kept ?_
    | with_reducible refine modSw_kept ?_

theorem swPitch_kept {s₀ : State} {s : State} {n : ℕ} {line : ℕ} (h : Kept s₀ s) : Kept s₀ (swPitch s n line) := by
  unfold swPitch
  repeat' first
    | with_reducible assumption
    | with_reducible refine imagePut_kept ?_
    | with_reducible refine Kept.foldl ?_ (fun _ _ _ => ?_)
    | split

theorem swRefuse_kept {s₀ : State} {s : State} {src : ℕ} {mask : ℕ} {reason : ℕ} (h : Kept s₀ s) :
    Kept s₀ (swRefuse s src mask reason) := by
  unfold swRefuse
  repeat' first
    | with_reducible assumption
    | with_reducible refine State.wr_kept ?_
    | with_reducible refine State.raise_kept ?_
    | with_reducible refine Kept.ite ?_ ?_
    | with_reducible refine Kept.foldl ?_ (fun _ _ _ => ?_)

theorem swRequest_kept {s₀ : State} {s : State} {src : ℕ} {jig : ℕ} {mask : ℕ} {line : Option ℕ} {go : Bool}
    (h : Kept s₀ s) : Kept s₀ (swRequest s src jig mask line go) := by
  unfold swRequest
  repeat' first
    | with_reducible assumption
    | with_reducible refine swRefuse_kept ?_
    | with_reducible refine State.free_kept ?_
    | with_reducible refine setTgt_kept ?_
    | with_reducible refine State.wr_kept ?_
    | with_reducible refine Kept.ite ?_ ?_
    | with_reducible refine Kept.foldl ?_ (fun _ _ _ => ?_)
    | (extract_lets +onlyGivenNames x; first | (refine (fun (hx : Kept s₀ x) => ?_) (show Kept s₀ x from ?_); clear_value x; rotate_left; subst x) | (refine (fun (hx : Kept s₀ x.2) => ?_) (show Kept s₀ x.2 from ?_); clear_value x; rotate_left; subst x) | (clear_value x))
    | split
    | fail_if_no_progress (with_reducible refine Kept.parts (fun hl => hl) (fun hl => hl) ?_)

theorem swUmdLate_kept {s₀ : State} {s : State} {n : ℕ} {line : ℕ} (h : Kept s₀ s) : Kept s₀ (swUmdLate s n line) := by
  unfold swUmdLate
  repeat' first
    | with_reducible assumption
    | with_reducible refine swCancelAt_kept ?_
    | with_reducible refine Kept.ite ?_ ?_
    | split

/-! ## Machine/EdgeOps.lean. -/

theorem edgeErrs_kept {s₀ : State} {s : State} {n : ℕ} {k : ℕ} {line : ℕ} (h : Kept s₀ s) : Kept s₀ (edgeErrs s n k line) := by
  unfold edgeErrs
  repeat' first
    | with_reducible assumption
    | with_reducible refine iterate_kept ?_ (fun _ _ _ => ?_)
    | with_reducible refine State.raise_kept ?_
    | with_reducible refine State.bump_kept ?_

theorem edgeLine_kept {s₀ : State} {s : State} {n : ℕ} {rows : List (List ℕ)} {P : ℕ} {info : TrigInfo} {badL : Bool}
    {badR : Bool} (h : Kept s₀ s) : Kept s₀ (edgeLine s n rows P info badL badR).2.2 := by
  unfold edgeLine
  repeat' first
    | with_reducible assumption
    | with_reducible refine State.wr_kept ?_
    | with_reducible refine noEdgeCheck_kept ?_
    | with_reducible refine wanderStep_kept ?_
    | with_reducible refine Kept.ite ?_ ?_
    | (extract_lets +onlyGivenNames x; first | (refine (fun (hx : Kept s₀ x) => ?_) (show Kept s₀ x from ?_); clear_value x; rotate_left; subst x) | (clear_value x))
    | split

theorem edgeLine_kept' {s₀ : State} {s : State} {n : ℕ} {rows : List (List ℕ)} {P : ℕ} {info : TrigInfo} {badL : Bool}
    {badR : Bool} {r0 : _} {r1 : _} {r2 : _} (h : Kept s₀ s) (e : (edgeLine s n rows P info badL badR) = (r0, r1, r2)) :
    Kept s₀ r2 := by
  have k : Kept s₀ (edgeLine s n rows P info badL badR).2.2 := edgeLine_kept h
  rw [e] at k
  exact k

theorem sheetClose_kept {s₀ : State} {s : State} {n : ℕ} {sh : SheetSt} {trunc : Bool} (h : Kept s₀ s) :
    Kept s₀ (sheetClose s n sh trunc).2 := by
  unfold sheetClose
  repeat' first
    | with_reducible assumption
    | with_reducible refine State.modRsmp_kept ?_
    | with_reducible refine State.raiseIf_kept ?_

theorem sheetClose_kept' {s₀ : State} {s : State} {n : ℕ} {sh : SheetSt} {trunc : Bool} {r0 : _} {r1 : _}
    (h : Kept s₀ s) (e : (sheetClose s n sh trunc) = (r0, r1)) : Kept s₀ r1 := by
  have k : Kept s₀ (sheetClose s n sh trunc).2 := sheetClose_kept h
  rw [e] at k
  exact k

theorem sheetOpen_kept {s₀ : State} {s : State} {n : ℕ} {e_2 : SpanEnd} {lost : ℕ} (h : Kept s₀ s) :
    Kept s₀ (sheetOpen s n e_2 lost).2 := by
  unfold sheetOpen
  repeat' first
    | with_reducible assumption
    | with_reducible refine State.wr_kept ?_
    | with_reducible refine State.modRsmp_kept ?_

theorem sheetOpen_kept' {s₀ : State} {s : State} {n : ℕ} {e_2 : SpanEnd} {lost : ℕ} {r0 : _} {r1 : _}
    (h : Kept s₀ s) (e : (sheetOpen s n e_2 lost) = (r0, r1)) : Kept s₀ r1 := by
  have k : Kept s₀ (sheetOpen s n e_2 lost).2 := sheetOpen_kept h
  rw [e] at k
  exact k

theorem sheetStep_kept {s₀ : State} {s : State} {n : ℕ} {rows : List (List ℕ)} {e_3 : SpanEnd} {dropped : Bool}
    {bad : List (Fin 16)} (h : Kept s₀ s) : Kept s₀ (sheetStep s n rows e_3 dropped bad).2 := by
  unfold sheetStep
  repeat' first
    | with_reducible assumption
    | with_reducible refine State.modRsmp_kept ?_
    | with_reducible refine sheetOpen_kept ?_
    | with_reducible refine sheetClose_kept ?_
    | (extract_lets +onlyGivenNames x; first | (refine (fun (hx : Kept s₀ x) => ?_) (show Kept s₀ x from ?_); clear_value x; rotate_left; subst x) | (refine (fun (hx : Kept s₀ x.2) => ?_) (show Kept s₀ x.2 from ?_); clear_value x; rotate_left; subst x) | (clear_value x))
    | split

theorem sheetStep_kept' {s₀ : State} {s : State} {n : ℕ} {rows : List (List ℕ)} {e_3 : SpanEnd} {dropped : Bool}
    {bad : List (Fin 16)} {r0 : _} {r1 : _} (h : Kept s₀ s) (e : (sheetStep s n rows e_3 dropped bad) = (r0, r1)) : Kept s₀ r1
    := by
  have k : Kept s₀ (sheetStep s n rows e_3 dropped bad).2 := sheetStep_kept h
  rw [e] at k
  exact k

/-! ## Machine/RunOps.lean. -/

theorem setRunBit_kept {s₀ : State} {s : State} {n : ℕ} {b : Bool} (h : Kept s₀ s) : Kept s₀ (setRunBit s n b) := by
  unfold setRunBit
  repeat' first
    | with_reducible assumption
    | with_reducible refine State.wr_kept ?_

theorem sheetRunClose_kept {s₀ : State} {s : State} {n : ℕ} (h : Kept s₀ s) : Kept s₀ (sheetRunClose s n) := by
  unfold sheetRunClose
  repeat' first
    | with_reducible assumption
    | with_reducible refine sheetClose_kept ?_
    | with_reducible refine showFifo_kept ?_
    | with_reducible refine reserveAppend_kept ?_
    | split

theorem setRunning_kept {s₀ : State} {s : State} {n : ℕ} {b : Bool} (h : Kept s₀ s) : Kept s₀ (setRunning s n b) := by
  unfold setRunning
  repeat' first
    | with_reducible assumption
    | with_reducible refine State.wr_kept ?_

theorem runEnd_kept {s₀ : State} {s : State} {n : ℕ} (h : Kept s₀ s) : Kept s₀ (runEnd s n) := by
  unfold runEnd
  repeat' first
    | with_reducible assumption
    | with_reducible refine calRunningEnd_kept ?_
    | with_reducible refine lateTake_kept ?_
    | with_reducible refine setRunning_kept ?_
    | with_reducible refine showLamp_kept ?_
    | with_reducible refine spiIdleNext_kept ?_
    | with_reducible refine swIdle_kept ?_
    | with_reducible refine Kept.ite ?_ ?_

theorem runClear_kept {s₀ : State} {s : State} {n : ℕ} (h : Kept s₀ s) : Kept s₀ (runClear s n) := by
  unfold runClear
  repeat' first
    | with_reducible assumption
    | with_reducible refine setRunBit_kept ?_
    | with_reducible refine closeSpanRun_kept ?_
    | with_reducible refine sheetRunClose_kept ?_
    | with_reducible refine calRunClear_kept ?_
    | with_reducible refine dtRunClear_kept ?_
    | with_reducible refine runEnd_kept ?_
    | with_reducible refine State.modFifo_kept ?_
    | with_reducible refine Kept.ite ?_ ?_

theorem runStart_kept {s₀ : State} {s : State} {n : ℕ} (h : Kept s₀ s) : Kept s₀ (runStart s n) := by
  unfold runStart
  repeat' first
    | with_reducible assumption
    | with_reducible refine setRunning_kept ?_
    | with_reducible refine setRunBit_kept ?_
    | with_reducible refine State.modPos_kept ?_
    | with_reducible refine State.modRsmp_kept ?_
    | with_reducible refine showFill_kept ?_
    | with_reducible refine State.modPipe_kept ?_
    | with_reducible refine State.modFifo_kept ?_
    | with_reducible refine State.modUmd_kept ?_
    | with_reducible refine showLamp_kept ?_
    | with_reducible refine calFirstUse_kept ?_

theorem runSet_kept {s₀ : State} {s : State} {n : ℕ} (h : Kept s₀ s) : Kept s₀ (runSet s n) := by
  unfold runSet
  repeat' first
    | with_reducible assumption
    | with_reducible refine State.raise_kept ?_
    | with_reducible refine runStart_kept ?_
    | with_reducible refine Kept.ite ?_ ?_

/-! ## Machine/BootOps.lean. -/

theorem State.modBoot_kept {s₀ : State} {s : State} {f : BootSt → BootSt} (h : Kept s₀ s) : Kept s₀ (State.modBoot s f) := by
  unfold State.modBoot
  repeat' first
    | with_reducible assumption
    | fail_if_no_progress (with_reducible refine Kept.parts (fun hl => hl) (fun hl => hl) ?_)

theorem bootPhase_kept {s₀ : State} {s : State} {p : BootPhase} {code : ℕ} (h : Kept s₀ s) : Kept s₀ (bootPhase s p code) := by
  unfold bootPhase
  repeat' first
    | with_reducible assumption
    | with_reducible refine State.wr_kept ?_
    | with_reducible refine State.modBoot_kept ?_

theorem bootDoneCheck_kept {s₀ : State} {s : State} (h : Kept s₀ s) : Kept s₀ (bootDoneCheck s) := by
  unfold bootDoneCheck
  repeat' first
    | with_reducible assumption
    | with_reducible refine State.raise_kept ?_
    | with_reducible refine bootPhase_kept ?_
    | with_reducible refine iterate_kept ?_ (fun _ _ _ => ?_)
    | with_reducible refine runSet_kept ?_
    | with_reducible refine Kept.ite ?_ ?_

theorem bootFail_kept {s₀ : State} {s : State} (h : Kept s₀ s) : Kept s₀ (bootFail s) := by
  unfold bootFail
  repeat' first
    | with_reducible assumption
    | with_reducible refine bootPhase_kept ?_

theorem setChBoot_kept {s₀ : State} {s : State} {n : ℕ} {c : ChBoot} (h : Kept s₀ s) : Kept s₀ (setChBoot s n c) := by
  unfold setChBoot
  repeat' first
    | with_reducible assumption
    | with_reducible refine State.modBoot_kept ?_

theorem setChPhase_kept {s₀ : State} {s : State} {n : ℕ} {p : ChPhase} (h : Kept s₀ s) : Kept s₀ (setChPhase s n p) := by
  unfold setChPhase
  repeat' first
    | with_reducible assumption
    | with_reducible refine setChBoot_kept ?_

theorem chFail_kept {s₀ : State} {s : State} {n : ℕ} (h : Kept s₀ s) : Kept s₀ (chFail s n) := by
  unfold chFail
  repeat' first
    | with_reducible assumption
    | with_reducible refine bootDoneCheck_kept ?_
    | with_reducible refine setChPhase_kept ?_

theorem chIdle_kept {s₀ : State} {s : State} {n : ℕ} (h : Kept s₀ s) : Kept s₀ (chIdle s n) := by
  unfold chIdle
  repeat' first
    | with_reducible assumption
    | with_reducible refine bootDoneCheck_kept ?_
    | with_reducible refine setChPhase_kept ?_
    | with_reducible refine State.wr_kept ?_

theorem chStartList_kept {s₀ : State} {s : State} {n : ℕ} (h : Kept s₀ s) : Kept s₀ (chStartList s n) := by
  unfold chStartList
  repeat' first
    | with_reducible assumption
    | with_reducible refine setChPhase_kept ?_
    | with_reducible refine seqBegin_kept ?_
    | with_reducible refine chIdle_kept ?_
    | split

theorem bootRest_kept {s₀ : State} {s : State} {n : ℕ} (h : Kept s₀ s) : Kept s₀ (bootRest s n) := by
  unfold bootRest
  repeat' first
    | with_reducible assumption
    | with_reducible refine State.raise_kept ?_
    | with_reducible refine chFail_kept ?_
    | with_reducible refine setWarm_kept ?_
    | with_reducible refine jigActive_kept ?_
    | with_reducible refine jigTake_kept ?_
    | with_reducible refine setChPhase_kept ?_
    | with_reducible refine seqBegin_kept ?_
    | with_reducible refine chStartList_kept ?_
    | with_reducible refine Kept.ite ?_ ?_
    | with_reducible refine Kept.foldl ?_ (fun _ _ _ => ?_)
    | (extract_lets +onlyGivenNames x; refine (fun (hx : Kept s₀ x) => ?_) (show Kept s₀ x from ?_); clear_value x; rotate_left; subst x)
    | split

theorem bootHome_kept {s₀ : State} {s : State} {n : ℕ} (h : Kept s₀ s) : Kept s₀ (bootHome s n) := by
  unfold bootHome
  repeat' first
    | with_reducible assumption
    | with_reducible refine chFail_kept ?_
    | with_reducible refine State.raise_kept ?_
    | with_reducible refine jigReg_kept ?_
    | with_reducible refine State.modCh_kept ?_
    | with_reducible refine iterate_kept ?_ (fun _ _ _ => ?_)
    | with_reducible refine modAxis_kept ?_
    | with_reducible refine bootRest_kept ?_
    | with_reducible refine motWatch_kept ?_
    | with_reducible refine setChPhase_kept ?_
    | with_reducible refine axisHome_kept ?_
    | with_reducible refine Kept.ite ?_ ?_
    | with_reducible refine Kept.foldl ?_ (fun _ _ _ => ?_)

theorem bootHomed_kept {s₀ : State} {s : State} {n : ℕ} (h : Kept s₀ s) : Kept s₀ (bootHomed s n) := by
  unfold bootHomed
  repeat' first
    | with_reducible assumption
    | with_reducible refine bootRest_kept ?_
    | with_reducible refine chFail_kept ?_
    | with_reducible refine State.raise_kept ?_
    | with_reducible refine Kept.ite ?_ ?_
    | with_reducible refine Kept.foldl ?_ (fun _ _ _ => ?_)
    | split

theorem bootRelease_kept {s₀ : State} {s : State} {mode : Fin 4} {role : Bool} (h : Kept s₀ s) :
    Kept s₀ (bootRelease s mode role) := by
  unfold bootRelease
  repeat' first
    | with_reducible assumption
    | with_reducible refine State.wr_kept ?_
    | with_reducible refine State.wb_kept ?_
    | with_reducible refine State.modBoot_kept ?_
    | with_reducible refine bootPhase_kept ?_
    | with_reducible refine linkUp_kept ?_
    | with_reducible refine Kept.ite ?_ ?_
    | with_reducible refine Kept.foldl ?_ (fun _ _ _ => ?_)

theorem chRestart_kept {s₀ : State} {s : State} {n : ℕ} (h : Kept s₀ s) : Kept s₀ (chRestart s n) := by
  unfold chRestart
  repeat' first
    | with_reducible assumption
    | with_reducible refine setChPhase_kept ?_
    | with_reducible refine setChBoot_kept ?_
    | with_reducible refine State.raise_kept ?_
    | with_reducible refine Kept.ite ?_ ?_
    | split

theorem channelsStart_kept {s₀ : State} {s : State} (h : Kept s₀ s) : Kept s₀ (channelsStart s) := by
  unfold channelsStart
  repeat' first
    | with_reducible assumption
    | with_reducible refine bootPhase_kept ?_
    | with_reducible refine iterate_kept ?_ (fun _ _ _ => ?_)
    | with_reducible refine chRestart_kept ?_
    | with_reducible refine setChBoot_kept ?_
    | with_reducible refine setChPhase_kept ?_
    | with_reducible refine bootDoneCheck_kept ?_
    | with_reducible refine Kept.ite ?_ ?_

theorem bootWatch_kept {s₀ : State} {s : State} (h : Kept s₀ s) : Kept s₀ (bootWatch s) := by
  unfold bootWatch
  repeat' first
    | with_reducible assumption
    | with_reducible refine channelsStart_kept ?_
    | with_reducible refine bootFail_kept ?_
    | with_reducible refine iterate_kept ?_ (fun _ _ _ => ?_)
    | with_reducible refine chFail_kept ?_
    | with_reducible refine chStartList_kept ?_
    | with_reducible refine chIdle_kept ?_
    | with_reducible refine Kept.ite ?_ ?_

theorem deviceStep_kept {s₀ : State} {s : State} (h : Kept s₀ s) : Kept s₀ (deviceStep s) := by
  unfold deviceStep
  repeat' first
    | with_reducible assumption
    | with_reducible refine bootPhase_kept ?_
    | with_reducible refine State.modBoot_kept ?_
    | with_reducible refine channelsStart_kept ?_
    | with_reducible refine bootFail_kept ?_
    | with_reducible refine State.raise_kept ?_
    | with_reducible refine devTake_kept ?_
    | with_reducible refine seqBegin_kept ?_
    | with_reducible refine Kept.ite ?_ ?_
    | (extract_lets +onlyGivenNames x; refine (fun (hx : Kept s₀ x) => ?_) (show Kept s₀ x from ?_); clear_value x; rotate_left; subst x)
    | split

theorem drcFresh_kept {s₀ : State} {s : State} (h : Kept s₀ s) : Kept s₀ (drcFresh s) := by
  unfold drcFresh
  repeat' first
    | with_reducible assumption
    | with_reducible refine iterate_kept ?_ (fun _ _ _ => ?_)
    | with_reducible refine State.wr_kept ?_
    | with_reducible refine Kept.foldl ?_ (fun _ _ _ => ?_)

theorem hostBoot_kept {s₀ : State} {s : State} {j : ℕ} (h : Kept s₀ s) : Kept s₀ (hostBoot s j) := by
  unfold hostBoot
  repeat' first
    | with_reducible assumption
    | with_reducible refine deviceStep_kept ?_
    | with_reducible refine State.wr_kept ?_
    | with_reducible refine drcTakePart_kept ?_
    | with_reducible refine Kept.ite ?_ ?_

theorem libMark_kept {s₀ : State} {s : State} {img : List Byte} (h : Kept s₀ s) : Kept s₀ (libMark s img) := by
  unfold libMark
  repeat' first
    | with_reducible assumption
    | with_reducible refine iterate_kept ?_ (fun _ _ _ => ?_)
    | with_reducible refine setJigBit_kept ?_
    | with_reducible refine State.raise_kept ?_
    | with_reducible refine Kept.ite ?_ ?_
    | split

theorem libStream_kept {s₀ : State} {s : State} {img : List Byte} (h : Kept s₀ s) : Kept s₀ (libStream s img) := by
  unfold libStream
  repeat' first
    | with_reducible assumption
    | with_reducible refine iterate_kept ?_ (fun _ _ _ => ?_)
    | with_reducible refine State.modDrc_kept ?_
    | with_reducible refine State.modDram_kept (fun m hm => ?_) ?_
    | with_reducible refine writeBytes_wf ?_ _ _
    | with_reducible refine Kept.ite ?_ ?_
    | split

theorem roughMark_kept {s₀ : State} {s : State} {n : ℕ} {e_2 : ℕ} (h : Kept s₀ s) : Kept s₀ (roughMark s n e_2) := by
  unfold roughMark
  repeat' first
    | with_reducible assumption
    | with_reducible refine State.wr_kept ?_
    | with_reducible refine State.raise_kept ?_
    | with_reducible refine State.modCh_kept ?_
    | with_reducible refine showPktLen_kept ?_

theorem marchDone_kept {s₀ : State} {s : State} {n : ℕ} {f : MarchFault} (h : Kept s₀ s) : Kept s₀ (marchDone s n f) := by
  unfold marchDone
  repeat' first
    | with_reducible assumption
    | with_reducible refine State.wb_kept ?_
    | with_reducible refine State.raiseIf_kept ?_
    | with_reducible refine roughMark_kept ?_
    | with_reducible refine bootHome_kept ?_
    | with_reducible refine Kept.ite ?_ ?_

theorem noLibrary_kept {s₀ : State} {s : State} (h : Kept s₀ s) : Kept s₀ (noLibrary s) := by
  unfold noLibrary
  repeat' first
    | with_reducible assumption
    | with_reducible refine bootFail_kept ?_
    | with_reducible refine State.raise_kept ?_

theorem signReport_kept {s₀ : State} {s : State} {img : List Byte} (h : Kept s₀ s) : Kept s₀ (signReport s img) := by
  unfold signReport
  repeat' first
    | with_reducible assumption
    | with_reducible refine State.modBoot_kept ?_
    | with_reducible refine Kept.ite ?_ ?_

theorem streamBegin_kept {s₀ : State} {s : State} (h : Kept s₀ s) : Kept s₀ (streamBegin s) := by
  unfold streamBegin
  repeat' first
    | with_reducible assumption
    | with_reducible refine noLibrary_kept ?_
    | with_reducible refine drcLock_kept ?_
    | with_reducible refine drcTakePart_kept ?_
    | with_reducible refine drcFresh_kept ?_
    | split

theorem streamDone_kept {s₀ : State} {s : State} (h : Kept s₀ s) : Kept s₀ (streamDone s) := by
  unfold streamDone
  repeat' first
    | with_reducible assumption
    | with_reducible refine signReport_kept ?_
    | with_reducible refine libStream_kept ?_
    | with_reducible refine libMark_kept ?_
    | with_reducible refine deviceStep_kept ?_
    | with_reducible refine State.wr_kept ?_
    | with_reducible refine noLibrary_kept ?_
    | with_reducible refine drcLock_kept ?_
    | with_reducible refine State.raise_kept ?_
    | with_reducible refine streamBegin_kept ?_
    | with_reducible refine State.modBoot_kept ?_
    | with_reducible refine Kept.ite ?_ ?_
    | split

theorem trainingOver_kept {s₀ : State} {s : State} (h : Kept s₀ s) : Kept s₀ (trainingOver s) := by
  unfold trainingOver
  repeat' first
    | with_reducible assumption
    | with_reducible refine streamBegin_kept ?_
    | with_reducible refine State.modBoot_kept ?_
    | with_reducible refine bootPhase_kept ?_
    | with_reducible refine drcLock_kept ?_
    | split

theorem trainingDone_kept {s₀ : State} {s : State} {k : ℕ} {bin : Fin 6} {parts : DramParts} {repair : Bool}
    (h : Kept s₀ s) : Kept s₀ (trainingDone s k bin parts repair) := by
  unfold trainingDone
  repeat' first
    | with_reducible assumption
    | with_reducible refine State.modBoot_kept ?_
    | with_reducible refine drcTrained_kept ?_
    | with_reducible refine trainingOver_kept ?_
    | with_reducible refine Kept.ite ?_ ?_

/-! ## Machine/ResetOps.lean. -/

theorem State.keepRegs_kept {s₀ : State} {s : State} {keep : Nat → Bool} (h : Kept s₀ s) : Kept s₀ (s.keepRegs keep) :=
  h.regs_ fun x => filter_wf x _

theorem State.resetAt_kept {s₀ : State} {s : State} {a : ℕ} (h : Kept s₀ s) : Kept s₀ (State.resetAt s a) := by
  unfold State.resetAt
  repeat' first
    | with_reducible assumption
    | with_reducible refine State.setWord_kept ?_

theorem bootAgain_kept {s₀ : State} {s : State} (h : Kept s₀ s) : Kept s₀ (bootAgain s) := by
  unfold bootAgain
  repeat' first
    | with_reducible assumption
    | with_reducible refine iterate_kept ?_ (fun _ _ _ => ?_)
    | with_reducible refine drcRestart_kept ?_
    | with_reducible refine State.wr_kept ?_
    | with_reducible refine bootPhase_kept ?_
    | with_reducible refine State.modBoot_kept ?_
    | with_reducible refine Kept.foldl ?_ (fun _ _ _ => ?_)

theorem showPins_kept {s₀ : State} {s : State} {n : ℕ} {present : Bool} (h : Kept s₀ s) : Kept s₀ (showPins s n present) := by
  unfold showPins
  repeat' first
    | with_reducible assumption
    | with_reducible refine State.wb_kept ?_
    | with_reducible refine iterate_kept ?_ (fun _ _ _ => ?_)
    | with_reducible refine showRef_kept ?_

theorem chanClear_kept {s₀ : State} {s : State} {n : ℕ} (h : Kept s₀ s) : Kept s₀ (chanClear s n) := by
  unfold chanClear
  repeat' first
    | with_reducible assumption
    | with_reducible refine State.resetRange_kept ?_
    | with_reducible refine State.wr_kept ?_
    | with_reducible refine showPins_kept ?_
    | with_reducible refine State.modCh_kept ?_
    | with_reducible refine snsOutputsOff_kept ?_
    | with_reducible refine modQ_kept ?_
    | with_reducible refine State.modDrv_kept ?_
    | with_reducible refine State.modUmd_kept ?_
    | with_reducible refine showFifo_kept ?_
    | with_reducible refine drcRegions_kept ?_
    | with_reducible refine Kept.ite ?_ ?_
    | with_reducible refine Kept.foldl ?_ (fun _ _ _ => ?_)
    | split

theorem chanEvents_kept {s₀ : State} {s : State} {n : ℕ} (h : Kept s₀ s) : Kept s₀ (chanEvents s n) := by
  unfold chanEvents
  repeat' first
    | with_reducible assumption
    | with_reducible refine iterate_kept ?_ (fun _ _ _ => ?_)
    | with_reducible refine State.wr_kept ?_
    | with_reducible refine State.modEvt_kept ?_
    | with_reducible refine showTrk_kept ?_
    | with_reducible refine State.resetAt_kept ?_

theorem switchReset_kept {s₀ : State} {s : State} {n : ℕ} (h : Kept s₀ s) : Kept s₀ (switchReset s n) := by
  unfold switchReset
  repeat' first
    | with_reducible assumption
    | with_reducible refine swIdle_kept ?_
    | with_reducible refine swCancelChan_kept ?_

theorem listDrop_kept {s₀ : State} {s : State} {n : ℕ} (h : Kept s₀ s) : Kept s₀ (listDrop s n) := by
  unfold listDrop
  repeat' first
    | with_reducible assumption
    | with_reducible refine State.raiseIf_kept ?_
    | with_reducible refine modRunner_kept ?_
    | with_reducible refine State.resetAt_kept ?_

theorem channelReset_kept {s₀ : State} {s : State} {n : ℕ} (h : Kept s₀ s) : Kept s₀ (channelReset s n) := by
  unfold channelReset
  repeat' first
    | with_reducible assumption
    | with_reducible refine switchReset_kept ?_
    | with_reducible refine setRunning_kept ?_
    | with_reducible refine setRunBit_kept ?_
    | with_reducible refine listDrop_kept ?_
    | with_reducible refine State.wr_kept ?_
    | with_reducible refine State.clear_kept ?_
    | with_reducible refine chanClear_kept ?_
    | with_reducible refine chanEvents_kept ?_
    | with_reducible refine bootDoneCheck_kept ?_
    | with_reducible refine chRestart_kept ?_
    | with_reducible refine setChPhase_kept ?_
    | with_reducible refine Kept.ite ?_ ?_

theorem dmaFinish_kept {s₀ : State} {s : State} (h : Kept s₀ s) : Kept s₀ (dmaFinish s) := by
  unfold dmaFinish
  repeat' first
    | with_reducible assumption
    | with_reducible refine State.modDma_kept (fun _ hl => hl) ?_
    | with_reducible refine iterate_kept ?_ (fun _ _ _ => ?_)
    | with_reducible refine modQ_kept ?_
    | with_reducible refine recordsOut_kept ?_
    | with_reducible refine issueCtl_kept ?_
    | with_reducible refine Kept.ite ?_ ?_

theorem flrReset_kept {s₀ : State} {s : State} (h : Kept s₀ s) : Kept s₀ (flrReset s) := by
  unfold flrReset
  repeat' first
    | with_reducible assumption
    | with_reducible refine State.keepRegs_kept ?_
    | with_reducible refine dmaReset_kept ?_
    | with_reducible refine State.wr_kept ?_
    | with_reducible refine State.raise_kept ?_
    | with_reducible refine State.modDma_kept (fun _ hl => hl) ?_

theorem Kept.blank {s₀ s : State} (h : Kept s₀ s) : Kept s₀ { State.reset with
    pending := s.pending, now := s.now, freeCtr := s.freeCtr, outbox := s.outbox, flash := s.flash, keyHash := s.keyHash,
    drv := { DrvSt.init with under := s.drv.under }, dma := { DmaSt.init with perst := s.dma.perst } } := by
  obtain ⟨h1, h2, h3, h4, h5, h6, h7, h8⟩ := h
  exact ⟨h1, h2, fun _ => reset_regsWf, fun x => ⟨reset_memWf.1, (h4 x).2⟩, fun _ => ⟨rfl, rfl⟩, h6, h7, h8⟩

theorem hardReset_kept {s₀ : State} {s : State} {pin : Bool} (h : Kept s₀ s) : Kept s₀ (hardReset s pin) := by
  have ht := (iterate_kept (k := 4) (f := snsOutputsOff) h fun _ _ k => snsOutputsOff_kept k).blank
  unfold hardReset
  exact Kept.ite (Kept.foldl (iterate_kept ht fun _ _ k => showPins_kept (State.setCh_kept k)) fun _ _ k => State.setWord_kept k)
    (iterate_kept ht fun _ _ k => showPins_kept (State.setCh_kept k))

theorem jigRecheck_kept {s₀ : State} {s : State} (h : Kept s₀ s) : Kept s₀ (jigRecheck s) := by
  unfold jigRecheck
  repeat' first
    | with_reducible assumption
    | with_reducible refine iterate_kept ?_ (fun _ _ _ => ?_)
    | with_reducible refine setJigBit_kept ?_
    | with_reducible refine Kept.ite ?_ ?_

theorem perstAssert_kept {s₀ : State} {s : State} (h : Kept s₀ s) : Kept s₀ (perstAssert s) := by
  unfold perstAssert
  repeat' first
    | with_reducible assumption
    | with_reducible refine State.raiseIf_kept ?_
    | with_reducible refine State.clear_kept ?_
    | with_reducible refine State.modDma_kept (fun _ hl => hl) ?_
    | with_reducible refine flrReset_kept ?_

theorem warmClear_kept {s₀ : State} {s : State} (h : Kept s₀ s) : Kept s₀ (warmClear s) := by
  unfold warmClear
  repeat' first
    | with_reducible assumption
    | with_reducible refine monReset_kept ?_
    | with_reducible refine dmaReset_kept ?_
    | with_reducible refine dmaFinish_kept ?_
    | with_reducible refine State.keepRegs_kept ?_
    | with_reducible refine State.wr_kept ?_
    | with_reducible refine State.wb_kept ?_
    | with_reducible refine State.modBoot_kept ?_
    | with_reducible refine iterate_kept ?_ (fun _ _ _ => ?_)
    | with_reducible refine chanClear_kept ?_
    | with_reducible refine drcTrain_kept ?_
    | with_reducible refine State.modDrc_kept ?_
    | (extract_lets +onlyGivenNames x; clear_value x)
    | fail_if_no_progress (with_reducible refine Kept.parts (fun hl => hl) (fun hl => hl) ?_)

theorem warmReset_kept {s₀ : State} {s : State} (h : Kept s₀ s) : Kept s₀ (warmReset s) := by
  unfold warmReset
  repeat' first
    | with_reducible assumption
    | with_reducible refine warmClear_kept ?_
    | with_reducible refine deviceStep_kept ?_
    | with_reducible refine jigRecheck_kept ?_
    | with_reducible refine bootPhase_kept ?_
    | with_reducible refine bootAgain_kept ?_
    | (extract_lets +onlyGivenNames x; first | (refine (fun (hx : Kept s₀ x) => ?_) (show Kept s₀ x from ?_); clear_value x; rotate_left; subst x) | (clear_value x))
    | split

/-! ## Machine/ActOps.lean. -/

theorem safeEnter_kept {s₀ : State} {s : State} {e_1 : ℕ} (h : Kept s₀ s) : Kept s₀ (safeEnter s e_1) := by
  unfold safeEnter
  repeat' first
    | with_reducible assumption
    | with_reducible refine State.raise_kept ?_
    | with_reducible refine State.wr_kept ?_
    | with_reducible refine iterate_kept ?_ (fun _ _ _ => ?_)
    | with_reducible refine calRough_kept ?_
    | with_reducible refine motWatch_kept ?_
    | with_reducible refine estopAll_kept ?_
    | with_reducible refine swCancel_kept ?_
    | with_reducible refine bootWatch_kept ?_
    | with_reducible refine seqAbort_kept ?_
    | with_reducible refine showFifo_kept ?_
    | with_reducible refine showLamp_kept ?_
    | with_reducible refine sinkUpdate_kept ?_
    | with_reducible refine Kept.ite ?_ ?_

theorem roughEnter_kept {s₀ : State} {s : State} {n : ℕ} {e_2 : ℕ} (h : Kept s₀ s) : Kept s₀ (roughEnter s n e_2) := by
  unfold roughEnter
  repeat' first
    | with_reducible assumption
    | with_reducible refine motWatch_kept ?_
    | with_reducible refine haltAll_kept ?_
    | with_reducible refine roughMark_kept ?_
    | with_reducible refine calRough_kept ?_
    | with_reducible refine fadeStop_kept ?_
    | with_reducible refine swCancelChan_kept ?_
    | with_reducible refine bootWatch_kept ?_
    | with_reducible refine seqAbort_kept ?_
    | with_reducible refine seqBegin_kept ?_
    | with_reducible refine showFifo_kept ?_
    | with_reducible refine showLamp_kept ?_
    | with_reducible refine Kept.ite ?_ ?_
    | split

theorem stopEnter_kept {s₀ : State} {s : State} {n : ℕ} {e_2 : ℕ} (h : Kept s₀ s) : Kept s₀ (stopEnter s n e_2) := by
  unfold stopEnter
  repeat' first
    | with_reducible assumption
    | with_reducible refine State.wr_kept ?_
    | with_reducible refine motWatch_kept ?_
    | with_reducible refine haltAll_kept ?_
    | with_reducible refine runClear_kept ?_
    | with_reducible refine offWrite_kept ?_
    | with_reducible refine driveForward_kept ?_
    | with_reducible refine State.modCh_kept ?_
    | with_reducible refine swCancelChan_kept ?_
    | with_reducible refine bootWatch_kept ?_
    | with_reducible refine seqAbort_kept ?_
    | with_reducible refine showFifo_kept ?_
    | with_reducible refine showLamp_kept ?_
    | with_reducible refine sinkUpdate_kept ?_
    | with_reducible refine Kept.ite ?_ ?_

theorem classActs_kept {s₀ : State} {s : State} {us : List EvUnit} (h : Kept s₀ s) : Kept s₀ (classActs s us) := by
  unfold classActs
  repeat' first
    | with_reducible assumption
    | with_reducible refine safeEnter_kept ?_
    | with_reducible refine roughEnter_kept ?_
    | with_reducible refine stopEnter_kept ?_
    | with_reducible refine Kept.ite ?_ ?_
    | with_reducible refine Kept.foldl ?_ (fun _ _ _ => ?_)
    | split

theorem countAll_kept {s₀ : State} {s : State} {r : Raise} (h : Kept s₀ s) : Kept s₀ (countAll s r).2.2 := by
  unfold countAll
  repeat' first
    | with_reducible assumption
    | with_reducible refine evCount_kept ?_
    | with_reducible refine Kept.foldlThd ?_ (fun _ _ _ => ?_)

theorem countAll_kept' {s₀ : State} {s : State} {r : Raise} {r0 : _} {r1 : _} {r2 : _}
    (h : Kept s₀ s) (e : (countAll s r) = (r0, r1, r2)) : Kept s₀ r2 := by
  have k : Kept s₀ (countAll s r).2.2 := countAll_kept h
  rw [e] at k
  exact k

theorem logRaise_kept {s₀ : State} {s : State} {r : Raise} {count : ℕ} {lasting : Bool} (h : Kept s₀ s) :
    Kept s₀ (logRaise s r count lasting) := by
  unfold logRaise
  repeat' first
    | with_reducible assumption
    | with_reducible refine logOut_kept ?_
    | with_reducible refine Kept.ite ?_ ?_

theorem unitAct_kept {s₀ : State} {s : State} {u : EvUnit} {detail : ℕ} (h : Kept s₀ s) : Kept s₀ (unitAct s u detail) := by
  unfold unitAct
  repeat' first
    | with_reducible assumption
    | with_reducible refine drcRepairEnter_kept ?_
    | with_reducible refine convFault_kept ?_
    | with_reducible refine State.raise_kept ?_
    | with_reducible refine State.wr_kept ?_
    | with_reducible refine laneLasting_kept ?_
    | with_reducible refine sliceLasting_kept ?_
    | with_reducible refine Kept.ite ?_ ?_

theorem evTake_kept {s₀ : State} {a : State × List EvUnit} {r : Raise} (h : Kept s₀ a.1) : Kept s₀ (evTake a r).1 := by
  unfold evTake
  repeat' first
    | with_reducible assumption
    | with_reducible refine countAll_kept ?_
    | with_reducible refine setEvStat_kept ?_
    | with_reducible refine State.raise_kept ?_
    | with_reducible refine setEvLast_kept ?_
    | with_reducible refine logRaise_kept ?_
    | with_reducible refine eventSend_kept ?_
    | with_reducible refine unitAct_kept ?_
    | with_reducible refine Kept.ite ?_ ?_
    | with_reducible refine Kept.foldl ?_ (fun _ _ _ => ?_)
    | (extract_lets +onlyGivenNames x; first | (refine (fun (hx : Kept s₀ x) => ?_) (show Kept s₀ x from ?_); clear_value x; rotate_left; subst x) | (refine (fun (hx : Kept s₀ x.2.2) => ?_) (show Kept s₀ x.2.2 from ?_); clear_value x; rotate_left; subst x))
    | split

theorem evTake_kept' {s₀ : State} {a : State × List EvUnit} {r : Raise} {r0 : _} {r1 : _}
    (h : Kept s₀ a.1) (e : (evTake a r) = (r0, r1)) : Kept s₀ r0 := by
  have k : Kept s₀ (evTake a r).1 := evTake_kept h
  rw [e] at k
  exact k

theorem listOver_kept {s₀ : State} {s : State} {r : ℕ} (h : Kept s₀ s) : Kept s₀ (listOver s r) := by
  unfold listOver
  repeat' first
    | with_reducible assumption
    | with_reducible refine bootWatch_kept ?_
    | with_reducible refine motWatch_kept ?_
    | with_reducible refine Kept.ite ?_ ?_

theorem seqAbortWatch_kept {s₀ : State} {s : State} {r : ℕ} (h : Kept s₀ s) : Kept s₀ (seqAbortWatch s r) := by
  unfold seqAbortWatch
  repeat' first
    | with_reducible assumption
    | with_reducible refine listOver_kept ?_
    | with_reducible refine seqAbort_kept ?_

theorem settleLoop_kept {s₀ : State} {k : Nat} {s : State} (h : Kept s₀ s) : Kept s₀ (settleLoop k s) := by
  induction k generalizing s with
  | zero => exact h
  | succ k ih =>
    rw [settleLoop]
    refine Kept.ite h (ih (classActs_kept (Kept.foldlFst ?_ fun _ _ hk => evTake_kept hk)))
    exact Kept.same (s := s) rfl rfl rfl rfl rfl id id rfl rfl rfl h

theorem settle_kept {s₀ : State} {s : State} (h : Kept s₀ s) : Kept s₀ (settle s) := by
  unfold settle
  repeat' first
    | with_reducible assumption
    | with_reducible refine settleLoop_kept ?_

/-! ## Machine/CmdOps.lean. -/

theorem calCmd_kept {s₀ : State} {s : State} {id : ℕ} {mask : ℕ} {line : ℕ} (h : Kept s₀ s) :
    Kept s₀ (calCmd s id mask line) := by
  unfold calCmd
  repeat' first
    | with_reducible assumption
    | with_reducible refine State.modUmd_kept ?_

theorem cmdShow_kept {s₀ : State} {s : State} {st : ℕ} {node : ℕ} (h : Kept s₀ s) : Kept s₀ (cmdShow s st node) := by
  unfold cmdShow
  repeat' first
    | with_reducible assumption
    | with_reducible refine State.modUmd_kept ?_
    | with_reducible refine State.wr_kept ?_

theorem cmdRefused_kept {s₀ : State} {s : State} {id : ℕ} {node : ℕ} (h : Kept s₀ s) : Kept s₀ (cmdRefused s id node) := by
  unfold cmdRefused
  repeat' first
    | with_reducible assumption
    | with_reducible refine cmdShow_kept ?_
    | with_reducible refine Kept.ite ?_ ?_

theorem cmdCheck_kept {s₀ : State} {s : State} (h : Kept s₀ s) : Kept s₀ (cmdCheck s) := by
  unfold cmdCheck
  repeat' first
    | with_reducible assumption
    | with_reducible refine cmdShow_kept ?_
    | with_reducible refine Kept.ite ?_ ?_
    | split

theorem cmdReply_kept {s₀ : State} {s : State} {id : ℕ} {code : ℕ} {result : ℕ} {reasons : List ℕ} (h : Kept s₀ s) :
    Kept s₀ (cmdReply s id code result reasons) := by
  unfold cmdReply
  repeat' first
    | with_reducible assumption
    | with_reducible refine umdSend_kept ?_
    | with_reducible refine State.modUmd_kept ?_

theorem calCmdOver_kept {s₀ : State} {s : State} {c : UmdCal} (h : Kept s₀ s) : Kept s₀ (calCmdOver s c) := by
  unfold calCmdOver
  repeat' first
    | with_reducible assumption
    | with_reducible refine State.modUmd_kept ?_
    | with_reducible refine cmdRefused_kept ?_
    | with_reducible refine cmdCheck_kept ?_
    | with_reducible refine cmdReply_kept ?_
    | with_reducible refine Kept.ite ?_ ?_

theorem calCmdAt_kept {s₀ : State} {s : State} {n : ℕ} {line : ℕ} (h : Kept s₀ s) : Kept s₀ (calCmdAt s n line) := by
  unfold calCmdAt
  repeat' first
    | with_reducible assumption
    | with_reducible refine seqStart_kept ?_
    | with_reducible refine State.modUmd_kept ?_
    | with_reducible refine calCmdOver_kept ?_
    | with_reducible refine Kept.ite ?_ ?_
    | (extract_lets +onlyGivenNames x; first | (refine (fun (hx : Kept s₀ x) => ?_) (show Kept s₀ x from ?_); clear_value x; rotate_left; subst x) | (clear_value x))
    | split

theorem lampCmd_kept {s₀ : State} {s : State} {mask : ℕ} {line : ℕ} {g : ℕ} {level : ℕ} {fade : ℕ} (h : Kept s₀ s) :
    Kept s₀ (lampCmd s mask line g level fade).2 := by
  unfold lampCmd
  repeat' first
    | with_reducible assumption
    | with_reducible refine State.free_kept ?_
    | with_reducible refine levelStage_kept ?_
    | with_reducible refine Kept.foldlSnd ?_ (fun _ _ _ => ?_)
    | (extract_lets +onlyGivenNames x; refine (fun (hx : Kept s₀ x.2) => ?_) (show Kept s₀ x.2 from ?_); clear_value x; rotate_left; subst x)
    | split

theorem lampCmd_kept' {s₀ : State} {s : State} {mask : ℕ} {line : ℕ} {g : ℕ} {level : ℕ} {fade : ℕ} {r0 : _} {r1 : _}
    (h : Kept s₀ s) (e : (lampCmd s mask line g level fade) = (r0, r1)) : Kept s₀ r1 := by
  have k : Kept s₀ (lampCmd s mask line g level fade).2 := lampCmd_kept h
  rw [e] at k
  exact k

theorem cmdRun_kept {s₀ : State} {s : State} {id : ℕ} {code : ℕ} {line : ℕ} {mask : ℕ} {args : List Byte}
    (h : Kept s₀ s) : Kept s₀ (cmdRun s id code line mask args) := by
  unfold cmdRun
  repeat' first
    | with_reducible assumption
    | with_reducible refine swRequest_kept ?_
    | with_reducible refine cmdReply_kept ?_
    | with_reducible refine State.modUmd_kept ?_
    | with_reducible refine swGo_kept ?_
    | with_reducible refine swCancelAt_kept ?_
    | with_reducible refine lampCmd_kept ?_
    | with_reducible refine calCmd_kept ?_
    | with_reducible refine Kept.ite ?_ ?_
    | (extract_lets +onlyGivenNames x; first | (refine (fun (hx : Kept s₀ x) => ?_) (show Kept s₀ x from ?_); clear_value x; rotate_left; subst x) | (refine (fun (hx : Kept s₀ x.2) => ?_) (show Kept s₀ x.2 from ?_); clear_value x; rotate_left; subst x) | (clear_value x))
    | split

theorem idNote_kept {s₀ : State} {s : State} {id : ℕ} (h : Kept s₀ s) : Kept s₀ (idNote s id) := by
  unfold idNote
  repeat' first
    | with_reducible assumption
    | with_reducible refine State.modUmd_kept ?_

theorem cmdArrive_kept {s₀ : State} {s : State} {bs : List Byte} (h : Kept s₀ s) : Kept s₀ (cmdArrive s bs) := by
  unfold cmdArrive
  repeat' first
    | with_reducible assumption
    | with_reducible refine umdReceive_kept ?_ (fun _ _ _ => ?_)
    | with_reducible refine umdSend_kept ?_
    | with_reducible refine cmdRun_kept ?_
    | with_reducible refine idNote_kept ?_
    | with_reducible refine Kept.ite ?_ ?_
    | split

theorem cmdSend_kept {s₀ : State} {s : State} {code : ℕ} {line : ℕ} {mask : ℕ} {args : List Byte} (h : Kept s₀ s) :
    Kept s₀ (cmdSend s code line mask args).2 := by
  unfold cmdSend
  repeat' first
    | with_reducible assumption
    | with_reducible refine umdSend_kept ?_
    | with_reducible refine State.modUmd_kept ?_

theorem cmdSend_kept' {s₀ : State} {s : State} {code : ℕ} {line : ℕ} {mask : ℕ} {args : List Byte} {r0 : _} {r1 : _}
    (h : Kept s₀ s) (e : (cmdSend s code line mask args) = (r0, r1)) : Kept s₀ r1 := by
  have k : Kept s₀ (cmdSend s code line mask args).2 := cmdSend_kept h
  rw [e] at k
  exact k

theorem cmdGo_kept {s₀ : State} {s : State} (h : Kept s₀ s) : Kept s₀ (cmdGo s) := by
  unfold cmdGo
  repeat' first
    | with_reducible assumption
    | with_reducible refine cmdShow_kept ?_
    | with_reducible refine cmdSend_kept ?_
    | with_reducible refine State.modUmd_kept ?_
    | with_reducible refine lampCmd_kept ?_
    | with_reducible refine cmdRefused_kept ?_
    | with_reducible refine cmdCheck_kept ?_
    | with_reducible refine calCmd_kept ?_
    | with_reducible refine Kept.ite ?_ ?_

theorem sysShow_kept {s₀ : State} {s : State} {st : ℕ} {reason : ℕ} {node : ℕ} (h : Kept s₀ s) :
    Kept s₀ (sysShow s st reason node) := by
  unfold sysShow
  repeat' first
    | with_reducible assumption
    | with_reducible refine State.wr_kept ?_

theorem sysFail_kept {s₀ : State} {s : State} {st : ℕ} {reason : ℕ} {node : ℕ} (h : Kept s₀ s) :
    Kept s₀ (sysFail s st reason node) := by
  unfold sysFail
  repeat' first
    | with_reducible assumption
    | with_reducible refine State.modUmd_kept ?_
    | with_reducible refine cmdSend_kept ?_
    | with_reducible refine swCancelAt_kept ?_
    | with_reducible refine State.raise_kept ?_
    | with_reducible refine sysShow_kept ?_
    | (extract_lets +onlyGivenNames x; refine (fun (hx : Kept s₀ x) => ?_) (show Kept s₀ x from ?_); clear_value x; rotate_left; subst x)
    | split

theorem sysLost_kept {s₀ : State} {s : State} {node : ℕ} (h : Kept s₀ s) : Kept s₀ (sysLost s node) := by
  unfold sysLost
  repeat' first
    | with_reducible assumption
    | with_reducible refine State.free_kept ?_
    | with_reducible refine sysFail_kept ?_

theorem sysCommit_kept {s₀ : State} {s : State} {q : UmdSys} (h : Kept s₀ s) : Kept s₀ (sysCommit s q) := by
  unfold sysCommit
  repeat' first
    | with_reducible assumption
    | with_reducible refine cmdSend_kept ?_
    | with_reducible refine State.modUmd_kept ?_
    | with_reducible refine sysShow_kept ?_
    | with_reducible refine swGo_kept ?_
    | (extract_lets +onlyGivenNames x; refine (fun (hx : Kept s₀ x) => ?_) (show Kept s₀ x from ?_); clear_value x; rotate_left; subst x)
    | split

theorem sysWatch_kept {s₀ : State} {s : State} (h : Kept s₀ s) : Kept s₀ (sysWatch s) := by
  unfold sysWatch
  repeat' first
    | with_reducible assumption
    | with_reducible refine State.modUmd_kept ?_
    | with_reducible refine sysLost_kept ?_
    | with_reducible refine sysCommit_kept ?_
    | with_reducible refine Kept.ite ?_ ?_
    | split

theorem prepWatch_kept {s₀ : State} {s : State} (h : Kept s₀ s) : Kept s₀ (prepWatch s) := by
  unfold prepWatch
  repeat' first
    | with_reducible assumption
    | with_reducible refine State.modUmd_kept ?_
    | with_reducible refine cmdReply_kept ?_
    | with_reducible refine sysFail_kept ?_
    | with_reducible refine Kept.ite ?_ ?_
    | (extract_lets +onlyGivenNames x; first | (refine (fun (hx : Kept s₀ x) => ?_) (show Kept s₀ x from ?_); clear_value x; rotate_left; subst x) | (clear_value x))
    | split

theorem umdWatch_kept {s₀ : State} {s : State} (h : Kept s₀ s) : Kept s₀ (umdWatch s) := by
  unfold umdWatch
  repeat' first
    | with_reducible assumption
    | with_reducible refine settle_kept ?_
    | with_reducible refine sysWatch_kept ?_
    | with_reducible refine prepWatch_kept ?_

theorem finish_kept {s₀ : State} {s : State} (h : Kept s₀ s) : Kept s₀ (finish s) := by
  unfold finish
  repeat' first
    | with_reducible assumption
    | with_reducible refine settle_kept ?_
    | with_reducible refine umdFlush_kept ?_
    | with_reducible refine umdWatch_kept ?_
    | with_reducible refine Kept.ite ?_ ?_

theorem hostCancel_kept {s₀ : State} {s : State} {mask : ℕ} (h : Kept s₀ s) : Kept s₀ (hostCancel s mask) := by
  unfold hostCancel
  repeat' first
    | with_reducible assumption
    | with_reducible refine sysFail_kept ?_
    | with_reducible refine swCancel_kept ?_
    | with_reducible refine Kept.ite ?_ ?_
    | split

theorem replyArrive_kept {s₀ : State} {s : State} {bs : List Byte} (h : Kept s₀ s) : Kept s₀ (replyArrive s bs) := by
  unfold replyArrive
  repeat' first
    | with_reducible assumption
    | with_reducible refine umdReceive_kept ?_ (fun _ _ _ => ?_)
    | with_reducible refine passUp_kept ?_
    | with_reducible refine State.modUmd_kept ?_
    | with_reducible refine sysFail_kept ?_
    | with_reducible refine cmdCheck_kept ?_
    | with_reducible refine cmdRefused_kept ?_
    | with_reducible refine Kept.ite ?_ ?_
    | (extract_lets +onlyGivenNames x; first | (refine (fun (hx : Kept s₀ x) => ?_) (show Kept s₀ x from ?_); clear_value x; rotate_left; subst x) | (clear_value x))
    | split

theorem replyTimeout_kept {s₀ : State} {s : State} {id : ℕ} {node : ℕ} (h : Kept s₀ s) : Kept s₀ (replyTimeout s id node) := by
  unfold replyTimeout
  repeat' first
    | with_reducible assumption
    | with_reducible refine umdSend_kept ?_
    | with_reducible refine State.modUmd_kept ?_
    | with_reducible refine sysLost_kept ?_
    | with_reducible refine cmdShow_kept ?_
    | with_reducible refine Kept.ite ?_ ?_
    | (extract_lets +onlyGivenNames x; refine (fun (hx : Kept s₀ x) => ?_) (show Kept s₀ x from ?_); clear_value x; rotate_left; subst x)
    | split

theorem sysRefuse_kept {s₀ : State} {s : State} {reason : ℕ} {node : ℕ} (h : Kept s₀ s) :
    Kept s₀ (sysRefuse s reason node) := by
  unfold sysRefuse
  repeat' first
    | with_reducible assumption
    | with_reducible refine State.raise_kept ?_
    | with_reducible refine sysShow_kept ?_

theorem sysRequest_kept {s₀ : State} {s : State} {jig : ℕ} {line : Option ℕ} (h : Kept s₀ s) :
    Kept s₀ (sysRequest s jig line) := by
  unfold sysRequest
  repeat' first
    | with_reducible assumption
    | with_reducible refine sysRefuse_kept ?_
    | with_reducible refine State.free_kept ?_
    | with_reducible refine cmdSend_kept ?_
    | with_reducible refine sysShow_kept ?_
    | with_reducible refine State.modUmd_kept ?_
    | with_reducible refine swRequest_kept ?_
    | with_reducible refine sysFail_kept ?_
    | with_reducible refine Kept.ite ?_ ?_
    | (extract_lets +onlyGivenNames x; first | (refine (fun (hx : Kept s₀ x) => ?_) (show Kept s₀ x from ?_); clear_value x; rotate_left; subst x) | (refine (fun (hx : Kept s₀ x.2) => ?_) (show Kept s₀ x.2 from ?_); clear_value x; rotate_left; subst x) | (clear_value x))
    | split

theorem request_kept {s₀ : State} {s : State} {src : ℕ} {jig : ℕ} {mask : ℕ} {line : Option ℕ} (h : Kept s₀ s) :
    Kept s₀ (request s src jig mask line) := by
  unfold request
  repeat' first
    | with_reducible assumption
    | with_reducible refine sysRequest_kept ?_
    | with_reducible refine swRequest_kept ?_
    | with_reducible refine Kept.ite ?_ ?_

/-! ## Machine/TrigOps.lean. -/

theorem countTrig_kept {s₀ : State} {s : State} {n : ℕ} {normal : Bool} (h : Kept s₀ s) :
    Kept s₀ (countTrig s n normal).2.2 := by
  unfold countTrig
  repeat' first
    | with_reducible assumption
    | with_reducible refine State.modPipe_kept ?_

theorem countTrig_kept' {s₀ : State} {s : State} {n : ℕ} {normal : Bool} {r0 : _} {r1 : _} {r2 : _}
    (h : Kept s₀ s) (e : (countTrig s n normal) = (r0, r1, r2)) : Kept s₀ r2 := by
  have k : Kept s₀ (countTrig s n normal).2.2 := countTrig_kept h
  rw [e] at k
  exact k

theorem trigLost_kept {s₀ : State} {s : State} {n : ℕ} {w : WaitTrig} (h : Kept s₀ s) : Kept s₀ (trigLost s n w) := by
  unfold trigLost
  repeat' first
    | with_reducible assumption
    | with_reducible refine State.raise_kept ?_
    | with_reducible refine State.bump_kept ?_
    | with_reducible refine showFill_kept ?_
    | with_reducible refine pushSlot_kept ?_
    | with_reducible refine State.modSns_kept ?_
    | with_reducible refine Kept.ite ?_ ?_

theorem swapAtTrigger_kept {s₀ : State} {s : State} {n : ℕ} {t0 : ℕ} (h : Kept s₀ s) : Kept s₀ (swapAtTrigger s n t0) := by
  unfold swapAtTrigger
  repeat' first
    | with_reducible assumption
    | with_reducible refine State.wr_kept ?_
    | with_reducible refine State.modPipe_kept ?_
    | with_reducible refine profileSwap_kept ?_
    | with_reducible refine Kept.ite ?_ ?_
    | split

theorem showGeff_kept {s₀ : State} {s : State} {n : ℕ} {g : GainSet} (h : Kept s₀ s) : Kept s₀ (showGeff s n g) := by
  unfold showGeff
  repeat' first
    | with_reducible assumption
    | with_reducible refine State.wr_kept ?_

theorem lineGrant_kept {s₀ : State} {s : State} {n : ℕ} {w : WaitTrig} (h : Kept s₀ s) : Kept s₀ (lineGrant s n w).2.2.2 := by
  unfold lineGrant
  repeat' first
    | with_reducible assumption
    | with_reducible refine grantLine_kept ?_
    | (extract_lets +onlyGivenNames x; first | (refine (fun (hx : Kept s₀ x.2.2) => ?_) (show Kept s₀ x.2.2 from ?_); clear_value x; rotate_left; subst x) | (clear_value x))
    | split

theorem lineGrant_kept' {s₀ : State} {s : State} {n : ℕ} {w : WaitTrig} {r0 : _} {r1 : _} {r2 : _} {r3 : _}
    (h : Kept s₀ s) (e : (lineGrant s n w) = (r0, r1, r2, r3)) : Kept s₀ r3 := by
  have k : Kept s₀ (lineGrant s n w).2.2.2 := lineGrant_kept h
  rw [e] at k
  exact k

theorem ctlEdges_kept {s₀ : State} {s : State} {n : ℕ} (h : Kept s₀ s) : Kept s₀ (ctlEdges s n) := by
  unfold ctlEdges
  repeat' first
    | with_reducible assumption
    | with_reducible refine ctlIdle_kept ?_
    | with_reducible refine ctlDrive_kept ?_
    | with_reducible refine Kept.ite ?_ ?_
    | with_reducible refine Kept.foldl ?_ (fun _ _ _ => ?_)

theorem lineStart_kept {s₀ : State} {s : State} {n : ℕ} {w : WaitTrig} {start : ℕ} (h : Kept s₀ s) :
    Kept s₀ (lineStart s n w start) := by
  unfold lineStart
  repeat' first
    | with_reducible assumption
    | with_reducible refine State.modPipe_kept ?_
    | with_reducible refine swAtLine_kept ?_
    | with_reducible refine gainsShow_kept ?_
    | with_reducible refine spareAtTrigger_kept ?_
    | with_reducible refine swapAtTrigger_kept ?_
    | with_reducible refine lmpLineStart_kept ?_
    | with_reducible refine follow_kept ?_
    | with_reducible refine State.raise_kept ?_
    | with_reducible refine State.bump_kept ?_
    | with_reducible refine showGeff_kept ?_
    | with_reducible refine lineGrant_kept ?_
    | with_reducible refine State.modFifo_kept ?_
    | with_reducible refine ctlEdges_kept ?_
    | with_reducible refine State.modSns_kept ?_
    | with_reducible refine Kept.ite ?_ ?_

theorem lineAccept_kept {s₀ : State} {s : State} {n : ℕ} {w : WaitTrig} (h : Kept s₀ s) : Kept s₀ (lineAccept s n w) := by
  unfold lineAccept
  repeat' first
    | with_reducible assumption
    | with_reducible refine State.modPipe_kept ?_
    | with_reducible refine trigLost_kept ?_
    | with_reducible refine lineStart_kept ?_
    | with_reducible refine State.modSns_kept ?_
    | with_reducible refine Kept.ite ?_ ?_
    | split

theorem captureTrigger_kept {s₀ : State} {s : State} {n : ℕ} (h : Kept s₀ s) : Kept s₀ (captureTrigger s n) := by
  unfold captureTrigger
  repeat' first
    | with_reducible assumption
    | with_reducible refine countTrig_kept ?_
    | with_reducible refine lineAccept_kept ?_
    | with_reducible refine Kept.ite ?_ ?_

theorem scrubTrig_kept {s₀ : State} {s : State} {n : ℕ} {line : ℕ} (h : Kept s₀ s) : Kept s₀ (scrubTrig s n line) := by
  unfold scrubTrig
  repeat' first
    | with_reducible assumption
    | with_reducible refine State.modEvt_kept ?_

theorem overlapTrigger_kept {s₀ : State} {s : State} {n : ℕ} {tick : ℕ} {line : ℕ} (h : Kept s₀ s) :
    Kept s₀ (overlapTrigger s n tick line) := by
  unfold overlapTrigger
  repeat' first
    | with_reducible assumption
    | with_reducible refine countTrig_kept ?_
    | with_reducible refine divPulse_kept ?_
    | with_reducible refine scrubTrig_kept ?_
    | with_reducible refine lineAccept_kept ?_

theorem divAdvance_kept {s₀ : State} {s : State} {n : ℕ} (h : Kept s₀ s) : Kept s₀ (divAdvance s n).2 := by
  unfold divAdvance
  repeat' first
    | with_reducible assumption
    | with_reducible refine swPitch_kept ?_
    | with_reducible refine State.modPos_kept ?_

theorem divAdvance_kept' {s₀ : State} {s : State} {n : ℕ} {r0 : _} {r1 : _}
    (h : Kept s₀ s) (e : (divAdvance s n) = (r0, r1)) : Kept s₀ r1 := by
  have k : Kept s₀ (divAdvance s n).2 := divAdvance_kept h
  rw [e] at k
  exact k

theorem systemTick_kept {s₀ : State} {s : State} {i : TrigInfo} (h : Kept s₀ s) : Kept s₀ (systemTick s i) := by
  unfold systemTick
  repeat' first
    | with_reducible assumption
    | with_reducible refine umdSendAged_kept ?_
    | with_reducible refine State.modUmd_kept ?_

theorem normalTrigger_kept {s₀ : State} {s : State} {n : ℕ} {i : TrigInfo} (h : Kept s₀ s) : Kept s₀ (normalTrigger s n i) := by
  unfold normalTrigger
  repeat' first
    | with_reducible assumption
    | with_reducible refine State.modFifo_kept ?_
    | with_reducible refine scrubTrig_kept ?_
    | with_reducible refine monTriggerSrc_kept ?_
    | with_reducible refine swPitch_kept ?_
    | with_reducible refine swUmdLate_kept ?_
    | with_reducible refine calCmdAt_kept ?_
    | with_reducible refine State.modRsmp_kept ?_
    | with_reducible refine noteGapLine_kept ?_
    | with_reducible refine calAtTrigger_kept ?_
    | with_reducible refine countTrig_kept ?_
    | with_reducible refine showFill_kept ?_
    | with_reducible refine pushSlot_kept ?_
    | with_reducible refine lineAccept_kept ?_
    | with_reducible refine Kept.ite ?_ ?_
    | split

theorem gapToReserve_kept {s₀ : State} {s : State} {n : ℕ} {e_2 : SpanEnd} (h : Kept s₀ s) :
    Kept s₀ (gapToReserve s n e_2) := by
  unfold gapToReserve
  repeat' first
    | with_reducible assumption
    | with_reducible refine reserveAppend_kept ?_
    | with_reducible refine State.modCal_kept ?_
    | (extract_lets +onlyGivenNames x; clear_value x)
    | split

theorem recordLost_kept {s₀ : State} {s : State} {n : ℕ} {x : LostTrig} (h : Kept s₀ s) : Kept s₀ (recordLost s n x) := by
  unfold recordLost
  repeat' first
    | with_reducible assumption
    | with_reducible refine dropLine_kept ?_
    | with_reducible refine State.modFifo_kept ?_
    | with_reducible refine showFifo_kept ?_
    | with_reducible refine gapToReserve_kept ?_
    | with_reducible refine Kept.ite ?_ ?_

theorem missedLines_kept {s₀ : State} {s : State} {n : ℕ} {k : ℕ} {xs : List LostTrig} (h : Kept s₀ s) :
    Kept s₀ (missedLines s n k xs) := by
  unfold missedLines
  repeat' first
    | with_reducible assumption
    | with_reducible refine State.modPipe_kept ?_
    | with_reducible refine pushSlot_kept ?_
    | with_reducible refine showFill_kept ?_
    | with_reducible refine State.modSns_kept ?_
    | with_reducible refine recordLost_kept ?_
    | with_reducible refine Kept.ite ?_ ?_
    | with_reducible refine Kept.foldl ?_ (fun _ _ _ => ?_)

theorem divTrigger_kept {s₀ : State} {s : State} {n : ℕ} {tick : ℕ} (h : Kept s₀ s) : Kept s₀ (divTrigger s n tick) := by
  unfold divTrigger
  repeat' first
    | with_reducible assumption
    | with_reducible refine divAdvance_kept ?_
    | with_reducible refine correct_kept ?_
    | with_reducible refine disarmOverlap_kept ?_
    | with_reducible refine State.modFifo_kept ?_
    | with_reducible refine divPulse_kept ?_
    | with_reducible refine systemTick_kept ?_
    | with_reducible refine normalTrigger_kept ?_
    | with_reducible refine missedLines_kept ?_
    | with_reducible refine Kept.ite ?_ ?_

theorem divStep_kept {s₀ : State} {s : State} {n : ℕ} {tick : ℕ} (h : Kept s₀ s) : Kept s₀ (divStep s n tick) := by
  unfold divStep
  repeat' first
    | with_reducible assumption
    | with_reducible refine State.modPos_kept ?_
    | with_reducible refine overlapTrigger_kept ?_
    | with_reducible refine divTrigger_kept ?_
    | with_reducible refine disarmOverlap_kept ?_
    | with_reducible refine Kept.ite ?_ ?_
    | (extract_lets +onlyGivenNames x; refine (fun (hx : Kept s₀ x) => ?_) (show Kept s₀ x from ?_); clear_value x; rotate_left; subst x)
    | split

theorem countMove_kept {s₀ : State} {s : State} {n : ℕ} {tick : ℕ} {up : Bool} {rise : Bool} (h : Kept s₀ s) :
    Kept s₀ (countMove s n tick up rise) := by
  unfold countMove
  repeat' first
    | with_reducible assumption
    | with_reducible refine cmpStep_kept ?_
    | with_reducible refine divCount_kept ?_
    | with_reducible refine State.modPos_kept ?_
    | with_reducible refine speedChange_kept ?_
    | with_reducible refine toothEdge_kept ?_
    | with_reducible refine refLostCheck_kept ?_
    | with_reducible refine divStep_kept ?_
    | with_reducible refine showPos_kept ?_
    | with_reducible refine gateCheck_kept ?_
    | with_reducible refine Kept.ite ?_ ?_

theorem recordBehind_kept {s₀ : State} {s : State} {n : ℕ} (h : Kept s₀ s) : Kept s₀ (recordBehind s n) := by
  unfold recordBehind
  repeat' first
    | with_reducible assumption
    | with_reducible refine recordLost_kept ?_
    | with_reducible refine State.modSns_kept ?_
    | with_reducible refine Kept.foldl ?_ (fun _ _ _ => ?_)

theorem deferredStart_kept {s₀ : State} {s : State} {n : ℕ} (h : Kept s₀ s) : Kept s₀ (deferredStart s n) := by
  unfold deferredStart
  repeat' first
    | with_reducible assumption
    | with_reducible refine State.raise_kept ?_
    | with_reducible refine State.peak_kept ?_
    | with_reducible refine State.bump_kept ?_
    | with_reducible refine recordBehind_kept ?_
    | with_reducible refine lineStart_kept ?_
    | with_reducible refine closeSpanRun_kept ?_
    | with_reducible refine Kept.ite ?_ ?_
    | (extract_lets +onlyGivenNames x; clear_value x)
    | split

theorem sourceEdge_kept {s₀ : State} {s : State} {n : ℕ} {a : Bool} {b : Bool} {sub : ℕ} (h : Kept s₀ s) :
    Kept s₀ (sourceEdge s n a b sub) := by
  unfold sourceEdge
  repeat' first
    | with_reducible assumption
    | with_reducible refine State.modPos_kept ?_
    | with_reducible refine State.raise_kept ?_
    | with_reducible refine State.wr_kept ?_
    | with_reducible refine State.bump_kept ?_
    | with_reducible refine countMove_kept ?_
    | with_reducible refine Kept.ite ?_ ?_
    | split

theorem genEdge_kept {s₀ : State} {s : State} {n : ℕ} {sub : ℕ} (h : Kept s₀ s) : Kept s₀ (genEdge s n sub) := by
  unfold genEdge
  repeat' first
    | with_reducible assumption
    | with_reducible refine State.modPos_kept ?_
    | with_reducible refine sourceEdge_kept ?_
    | with_reducible refine Kept.ite ?_ ?_
    | split

theorem encoderEdge_kept {s₀ : State} {s : State} {n : ℕ} {a : Bool} {b : Bool} {gen : Bool} {sub : ℕ} (h : Kept s₀ s) :
    Kept s₀ (encoderEdge s n a b gen sub) := by
  unfold encoderEdge
  repeat' first
    | with_reducible assumption
    | with_reducible refine genEdge_kept ?_
    | with_reducible refine State.modPos_kept ?_
    | with_reducible refine sourceEdge_kept ?_
    | with_reducible refine Kept.ite ?_ ?_

theorem indexPulse_kept {s₀ : State} {s : State} {n : ℕ} {gen : Bool} (h : Kept s₀ s) : Kept s₀ (indexPulse s n gen) := by
  unfold indexPulse
  repeat' first
    | with_reducible assumption
    | with_reducible refine State.modPos_kept ?_
    | with_reducible refine indexEdge_kept ?_
    | with_reducible refine Kept.ite ?_ ?_

theorem tickTrigger_kept {s₀ : State} {s : State} {n : ℕ} {t : TickWait} (h : Kept s₀ s) : Kept s₀ (tickTrigger s n t) := by
  unfold tickTrigger
  repeat' first
    | with_reducible assumption
    | with_reducible refine State.modUmd_kept ?_
    | with_reducible refine State.free_kept ?_
    | with_reducible refine State.raise_kept ?_
    | with_reducible refine State.bump_kept ?_
    | with_reducible refine missedLines_kept ?_
    | with_reducible refine correct_kept ?_
    | with_reducible refine State.modPos_kept ?_
    | with_reducible refine normalTrigger_kept ?_
    | with_reducible refine divPulse_kept ?_
    | with_reducible refine Kept.ite ?_ ?_

theorem tickAll_kept {s₀ : State} {s : State} {t : TickWait} (h : Kept s₀ s) : Kept s₀ (tickAll s t) := by
  unfold tickAll
  repeat' first
    | with_reducible assumption
    | with_reducible refine iterate_kept ?_ (fun _ _ _ => ?_)
    | with_reducible refine tickTrigger_kept ?_

theorem tickArrive_kept {s₀ : State} {s : State} {bs : List Byte} {lag : ℕ} (h : Kept s₀ s) :
    Kept s₀ (tickArrive s bs lag) := by
  unfold tickArrive
  repeat' first
    | with_reducible assumption
    | with_reducible refine umdReceive_kept ?_ (fun _ _ _ => ?_)
    | with_reducible refine State.peak_kept ?_
    | with_reducible refine umdSendAged_kept ?_
    | with_reducible refine State.modUmd_kept ?_
    | with_reducible refine tickAll_kept ?_
    | with_reducible refine State.raise_kept ?_
    | with_reducible refine State.bump_kept ?_
    | with_reducible refine Kept.ite ?_ ?_

theorem tickT0_kept {s₀ : State} {s : State} (h : Kept s₀ s) : Kept s₀ (tickT0 s) := by
  unfold tickT0
  repeat' first
    | with_reducible assumption
    | with_reducible refine tickAll_kept ?_
    | with_reducible refine State.modUmd_kept ?_
    | with_reducible refine Kept.ite ?_ ?_
    | split

/-! ## Machine/LineOps.lean. -/

theorem dropRow_kept {s₀ : State} {s : State} {n : ℕ} {slot : ℕ} {c : ℕ} (h : Kept s₀ s) : Kept s₀ (dropRow s n slot c) := by
  unfold dropRow
  repeat' first
    | with_reducible assumption
    | with_reducible refine State.modPipe_kept ?_

theorem freeRow_kept {s₀ : State} {s : State} {P : Nat} (h : Kept s₀ s) : Kept s₀ (freeRow s P).2 := h.freeCtr_

theorem freeRow_kept' {s₀ : State} {s : State} {P : Nat} {r : List Nat} {t : State} (h : Kept s₀ s) (e : freeRow s P = (r, t)) :
    Kept s₀ t := by
  have k : Kept s₀ (freeRow s P).2 := freeRow_kept h
  rw [e] at k
  exact k

theorem alignFail_kept {s₀ : State} {n : ℕ} {l : LineRec} {a : Aligned × State} {f : ℕ × Fin 3} (h : Kept s₀ a.2) :
    Kept s₀ (alignFail n l a f).2 := by
  unfold alignFail
  repeat' first
    | with_reducible assumption
    | with_reducible refine State.raise_kept ?_
    | with_reducible refine State.bump_kept ?_
    | with_reducible refine dropRow_kept ?_
    | with_reducible refine linePoison_kept ?_
    | with_reducible refine freeRow_kept ?_
    | with_reducible refine showFill_kept ?_
    | (extract_lets +onlyGivenNames x; first | (refine (fun (hx : Kept s₀ x) => ?_) (show Kept s₀ x from ?_); clear_value x; rotate_left; subst x) | (refine (fun (hx : Kept s₀ x.2) => ?_) (show Kept s₀ x.2 from ?_); clear_value x; rotate_left; subst x) | (clear_value x))
    | split

theorem alignFail_kept' {s₀ : State} {n : ℕ} {l : LineRec} {a : Aligned × State} {f : ℕ × Fin 3} {r0 : _} {r1 : _}
    (h : Kept s₀ a.2) (e : (alignFail n l a f) = (r0, r1)) : Kept s₀ r1 := by
  have k : Kept s₀ (alignFail n l a f).2 := alignFail_kept h
  rw [e] at k
  exact k

theorem interpFail_kept {s₀ : State} {n : ℕ} {l : LineRec} {p : PipeSt} {a : Aligned × State} {u : LineUpset}
    (h : Kept s₀ a.2) : Kept s₀ (interpFail n l p a u).2 := by
  unfold interpFail
  repeat' first
    | with_reducible assumption
    | with_reducible refine State.bump_kept ?_
    | with_reducible refine residueRaise_kept ?_
    | with_reducible refine State.free_kept ?_
    | with_reducible refine setLag_kept ?_
    | with_reducible refine modLine_kept ?_
    | with_reducible refine pipePoison_kept ?_
    | (extract_lets +onlyGivenNames x; first | (refine (fun (hx : Kept s₀ x) => ?_) (show Kept s₀ x from ?_); clear_value x; rotate_left; subst x) | (refine (fun (hx : Kept s₀ x.2) => ?_) (show Kept s₀ x.2 from ?_); clear_value x; rotate_left; subst x) | (clear_value x))
    | split

theorem interpFail_kept' {s₀ : State} {n : ℕ} {l : LineRec} {p : PipeSt} {a : Aligned × State} {u : LineUpset} {r0 : _}
    {r1 : _} (h : Kept s₀ a.2) (e : (interpFail n l p a u) = (r0, r1)) : Kept s₀ r1 := by
  have k : Kept s₀ (interpFail n l p a u).2 := interpFail_kept h
  rw [e] at k
  exact k

theorem alignStage_kept {s₀ : State} {s : State} {n : ℕ} {l : LineRec} {f : LineFaults} (h : Kept s₀ s) :
    Kept s₀ (alignStage s n l f).2 := by
  unfold alignStage
  repeat' first
    | with_reducible assumption
    | with_reducible refine showFill_kept ?_
    | with_reducible refine pushSlot_kept ?_
    | with_reducible refine interpFail_kept ?_
    | with_reducible refine alignFail_kept ?_
    | with_reducible refine Kept.foldlSnd ?_ (fun _ _ _ => ?_)

theorem alignStage_kept' {s₀ : State} {s : State} {n : ℕ} {l : LineRec} {f : LineFaults} {r0 : _} {r1 : _}
    (h : Kept s₀ s) (e : (alignStage s n l f) = (r0, r1)) : Kept s₀ r1 := by
  have k : Kept s₀ (alignStage s n l f).2 := alignStage_kept h
  rw [e] at k
  exact k

theorem droppedSheet_kept {s₀ : State} {s : State} {n : ℕ} {l : LineRec} {bs : List Byte} (h : Kept s₀ s) :
    Kept s₀ (droppedSheet s n l bs) := by
  unfold droppedSheet
  repeat' first
    | with_reducible assumption
    | with_reducible refine State.modCh_kept ?_
    | with_reducible refine reserveAppend_kept ?_
    | with_reducible refine Kept.ite ?_ ?_

theorem edgeStage_kept {s₀ : State} {s : State} {n : ℕ} {l : LineRec} {rows : List (List ℕ)} {f : LineFaults}
    (h : Kept s₀ s) : Kept s₀ (edgeStage s n l rows f).2.2.2 := by
  unfold edgeStage
  repeat' first
    | with_reducible assumption
    | with_reducible refine edgeErrs_kept ?_
    | with_reducible refine edgeLine_kept ?_
    | with_reducible refine sheetStep_kept ?_
    | with_reducible refine Kept.ite ?_ ?_
    | (extract_lets +onlyGivenNames x; first | (refine (fun (hx : Kept s₀ x) => ?_) (show Kept s₀ x from ?_); clear_value x; rotate_left; subst x) | (refine (fun (hx : Kept s₀ x.2) => ?_) (show Kept s₀ x.2 from ?_); clear_value x; rotate_left; subst x) | (refine (fun (hx : Kept s₀ x.2.2) => ?_) (show Kept s₀ x.2.2 from ?_); clear_value x; rotate_left; subst x) | (clear_value x))
    | split

theorem edgeStage_kept' {s₀ : State} {s : State} {n : ℕ} {l : LineRec} {rows : List (List ℕ)} {f : LineFaults} {r0 : _}
    {r1 : _} {r2 : _} {r3 : _} (h : Kept s₀ s) (e : (edgeStage s n l rows f) = (r0, r1, r2, r3)) : Kept s₀ r3 := by
  have k : Kept s₀ (edgeStage s n l rows f).2.2.2 := edgeStage_kept h
  rw [e] at k
  exact k

theorem gapTake_kept {s₀ : State} {s : State} {n : ℕ} {l : LineRec} {im : Image} {place : PktPlace} {granted : Bool}
    (h : Kept s₀ s) : Kept s₀ (gapTake s n l im place granted).2 := by
  unfold gapTake
  repeat' first
    | with_reducible assumption
    | with_reducible refine State.modCal_kept ?_
    | split

theorem gapTake_kept' {s₀ : State} {s : State} {n : ℕ} {l : LineRec} {im : Image} {place : PktPlace} {granted : Bool} {r0 : _}
    {r1 : _} (h : Kept s₀ s) (e : (gapTake s n l im place granted) = (r0, r1)) : Kept s₀ r1 := by
  have k : Kept s₀ (gapTake s n l im place granted).2 := gapTake_kept h
  rw [e] at k
  exact k

theorem grantedMarker_kept {s₀ : State} {s : State} {n : ℕ} {l : LineRec} {im : Image} {granted : Bool} (h : Kept s₀ s) :
    Kept s₀ (grantedMarker s n l im granted).2 := by
  unfold grantedMarker
  repeat' first
    | with_reducible assumption
    | with_reducible refine spanMarker_kept ?_
    | with_reducible refine countMarker_kept ?_
    | split

theorem grantedMarker_kept' {s₀ : State} {s : State} {n : ℕ} {l : LineRec} {im : Image} {granted : Bool} {r0 : _} {r1 : _}
    (h : Kept s₀ s) (e : (grantedMarker s n l im granted) = (r0, r1)) : Kept s₀ r1 := by
  have k : Kept s₀ (grantedMarker s n l im granted).2 := grantedMarker_kept h
  rw [e] at k
  exact k

theorem joinDone_kept {s₀ : State} {s : State} {n : ℕ} (h : Kept s₀ s) : Kept s₀ (joinDone s n) := by
  unfold joinDone
  repeat' first
    | with_reducible assumption
    | with_reducible refine State.modFifo_kept ?_
    | with_reducible refine State.modRsmp_kept ?_
    | with_reducible refine dtJoined_kept ?_
    | with_reducible refine Kept.ite ?_ ?_

theorem joinTake_kept {s₀ : State} {s : State} {n : ℕ} {l : LineRec} {im : Image} {place : PktPlace} {granted : Bool}
    (h : Kept s₀ s) : Kept s₀ (joinTake s n l im place granted).2.2 := by
  unfold joinTake
  repeat' first
    | with_reducible assumption
    | with_reducible refine joinCount_kept ?_
    | with_reducible refine State.modFifo_kept ?_
    | (extract_lets +onlyGivenNames x; first | (refine (fun (hx : Kept s₀ x) => ?_) (show Kept s₀ x from ?_); clear_value x; rotate_left; subst x) | (clear_value x))
    | split

theorem joinTake_kept' {s₀ : State} {s : State} {n : ℕ} {l : LineRec} {im : Image} {place : PktPlace} {granted : Bool}
    {r0 : _} {r1 : _} {r2 : _} (h : Kept s₀ s) (e : (joinTake s n l im place granted) = (r0, r1, r2)) : Kept s₀ r2 := by
  have k : Kept s₀ (joinTake s n l im place granted).2.2 := joinTake_kept h
  rw [e] at k
  exact k

theorem lineGone_kept {s₀ : State} {s : State} {n : ℕ} {l : LineRec} (h : Kept s₀ s) : Kept s₀ (lineGone s n l) := by
  unfold lineGone
  repeat' first
    | with_reducible assumption
    | with_reducible refine runEnd_kept ?_
    | with_reducible refine State.modPipe_kept ?_

theorem startY_kept {s₀ : State} {s : State} {n : ℕ} {line : ℕ} (h : Kept s₀ s) : Kept s₀ (startY s n line) := by
  unfold startY
  repeat' first
    | with_reducible assumption
    | with_reducible refine State.modRsmp_kept ?_
    | with_reducible refine Kept.ite ?_ ?_
    | split

theorem rsmpJudge_kept {s₀ : State} {n : ℕ} {l : LineRec} {passes : RsmpUpset → Bool} {a : RsmpErrs × State} {u : RsmpUpset}
    (h : Kept s₀ a.2) : Kept s₀ (rsmpJudge n l passes a u).2 := by
  unfold rsmpJudge
  repeat' first
    | with_reducible assumption
    | with_reducible refine rsmpFault_kept ?_
    | with_reducible refine modLine_kept ?_
    | (extract_lets +onlyGivenNames x; first | (refine (fun (hx : Kept s₀ x.1) => ?_) (show Kept s₀ x.1 from ?_); clear_value x; rotate_left; subst x) | (clear_value x))
    | split

theorem rsmpJudge_kept' {s₀ : State} {n : ℕ} {l : LineRec} {passes : RsmpUpset → Bool} {a : RsmpErrs × State} {u : RsmpUpset}
    {r0 : _} {r1 : _} (h : Kept s₀ a.2) (e : (rsmpJudge n l passes a u) = (r0, r1)) : Kept s₀ r1 := by
  have k : Kept s₀ (rsmpJudge n l passes a u).2 := rsmpJudge_kept h
  rw [e] at k
  exact k

theorem rsmpStage_kept {s₀ : State} {s : State} {n : ℕ} {l : LineRec} {al : Aligned} {f : LineFaults} (h : Kept s₀ s) :
    Kept s₀ (rsmpStage s n l al f).2 := by
  unfold rsmpStage
  repeat' first
    | with_reducible assumption
    | with_reducible refine rsmpLagDecay_kept ?_
    | with_reducible refine startY_kept ?_
    | with_reducible refine rsmpJudge_kept ?_
    | with_reducible refine State.modRsmp_kept ?_
    | with_reducible refine Kept.foldlSnd ?_ (fun _ _ _ => ?_)
    | (extract_lets +onlyGivenNames x; first | (refine (fun (hx : Kept s₀ x) => ?_) (show Kept s₀ x from ?_); clear_value x; rotate_left; subst x) | (refine (fun (hx : Kept s₀ x.2) => ?_) (show Kept s₀ x.2 from ?_); clear_value x; rotate_left; subst x) | (clear_value x))
    | split

theorem rsmpStage_kept' {s₀ : State} {s : State} {n : ℕ} {l : LineRec} {al : Aligned} {f : LineFaults} {r0 : _} {r1 : _}
    (h : Kept s₀ s) (e : (rsmpStage s n l al f) = (r0, r1)) : Kept s₀ r1 := by
  have k : Kept s₀ (rsmpStage s n l al f).2 := rsmpStage_kept h
  rw [e] at k
  exact k

theorem packLine_kept {s₀ : State} {s : State} {n : ℕ} {l : LineRec} {im : Image} {o : OutLine} (h : Kept s₀ s) :
    Kept s₀ (packLine s n l im o) := by
  unfold packLine
  repeat' first
    | with_reducible assumption
    | with_reducible refine grantedMarker_kept ?_
    | with_reducible refine gapTake_kept ?_
    | with_reducible refine joinTake_kept ?_
    | with_reducible refine State.modFifo_kept ?_
    | with_reducible refine State.wr64_kept ?_
    | with_reducible refine State.modCal_kept ?_

theorem packNothing_kept {s₀ : State} {s : State} {n : ℕ} {l : LineRec} {im : Image} (h : Kept s₀ s) :
    Kept s₀ (packNothing s n l im) := by
  unfold packNothing
  repeat' first
    | with_reducible assumption
    | with_reducible refine grantedMarker_kept ?_
    | with_reducible refine gapTake_kept ?_
    | with_reducible refine State.modFifo_kept ?_
    | with_reducible refine State.modCal_kept ?_
    | with_reducible refine Kept.ite ?_ ?_

theorem packDropped_kept {s₀ : State} {s : State} {n : ℕ} {l : LineRec} {im : Image} (h : Kept s₀ s) :
    Kept s₀ (packDropped s n l im) := by
  unfold packDropped
  repeat' first
    | with_reducible assumption
    | with_reducible refine gapToReserve_kept ?_
    | with_reducible refine joinTake_kept ?_
    | with_reducible refine State.modFifo_kept ?_
    | with_reducible refine reserveAppend_kept ?_
    | with_reducible refine droppedSheet_kept ?_
    | with_reducible refine Kept.ite ?_ ?_
    | (extract_lets +onlyGivenNames x; first | (refine (fun (hx : Kept s₀ x) => ?_) (show Kept s₀ x from ?_); clear_value x; rotate_left; subst x) | (refine (fun (hx : Kept s₀ x.2.2) => ?_) (show Kept s₀ x.2.2 from ?_); clear_value x; rotate_left; subst x))
    | split

theorem normalLine_kept {s₀ : State} {s : State} {n : ℕ} {l : LineRec} {f : LineFaults} (h : Kept s₀ s) :
    Kept s₀ (normalLine s n l f) := by
  unfold normalLine
  repeat' first
    | with_reducible assumption
    | with_reducible refine lateDue_kept ?_
    | with_reducible refine alignStage_kept ?_
    | with_reducible refine edgeStage_kept ?_
    | with_reducible refine rsmpStage_kept ?_
    | with_reducible refine sheetSpans_kept ?_
    | with_reducible refine stripLine_kept ?_
    | with_reducible refine captureLine_kept ?_
    | with_reducible refine State.modFifo_kept ?_
    | with_reducible refine packLine_kept ?_
    | with_reducible refine packNothing_kept ?_
    | with_reducible refine packDropped_kept ?_
    | with_reducible refine lineGone_kept ?_
    | with_reducible refine fifoWatch_kept ?_
    | with_reducible refine finishReserve_kept ?_
    | with_reducible refine Kept.ite ?_ ?_
    | split

theorem lineComplete_kept {s₀ : State} {s : State} {n : ℕ} {f : LineFaults} (h : Kept s₀ s) : Kept s₀ (lineComplete s n f) := by
  unfold lineComplete
  repeat' first
    | with_reducible assumption
    | with_reducible refine lineGone_kept ?_
    | with_reducible refine captureLine_kept ?_
    | with_reducible refine State.modFifo_kept ?_
    | with_reducible refine stripLine_kept ?_
    | with_reducible refine normalLine_kept ?_
    | with_reducible refine Kept.ite ?_ ?_
    | (extract_lets +onlyGivenNames x; refine (fun (hx : Kept s₀ x) => ?_) (show Kept s₀ x from ?_); clear_value x; rotate_left; subst x)
    | split

/-! ## Machine/BarOps.lean. -/

theorem barPresent_kept {s₀ : State} {s : State} {n : ℕ} (h : Kept s₀ s) : Kept s₀ (barPresent s n) := by
  unfold barPresent
  repeat' first
    | with_reducible assumption
    | with_reducible refine State.raise_kept ?_
    | with_reducible refine State.wr_kept ?_

theorem readoutLost_kept {s₀ : State} {s : State} {n : ℕ} (h : Kept s₀ s) : Kept s₀ (readoutLost s n) := by
  unfold readoutLost
  repeat' first
    | with_reducible assumption
    | with_reducible refine State.modPipe_kept ?_

theorem barRemoved_kept {s₀ : State} {s : State} {n : ℕ} (h : Kept s₀ s) : Kept s₀ (barRemoved s n) := by
  unfold barRemoved
  repeat' first
    | with_reducible assumption
    | with_reducible refine State.wr_kept ?_
    | with_reducible refine readoutLost_kept ?_
    | with_reducible refine snsPowerOff_kept ?_
    | with_reducible refine State.raise_kept ?_
    | with_reducible refine runClear_kept ?_
    | with_reducible refine Kept.ite ?_ ?_

theorem debounceEnd_kept {s₀ : State} {s : State} {n : ℕ} {low : Bool} (h : Kept s₀ s) : Kept s₀ (debounceEnd s n low) := by
  unfold debounceEnd
  repeat' first
    | with_reducible assumption
    | with_reducible refine State.wr_kept ?_
    | with_reducible refine State.raise_kept ?_
    | with_reducible refine Kept.ite ?_ ?_

theorem initWaitEnd_kept {s₀ : State} {s : State} {n : ℕ} (h : Kept s₀ s) : Kept s₀ (initWaitEnd s n) := by
  unfold initWaitEnd
  repeat' first
    | with_reducible assumption
    | with_reducible refine snsInitStep_kept ?_
    | with_reducible refine Kept.ite ?_ ?_

theorem internalMark_kept {s₀ : State} {s : State} {n : ℕ} (h : Kept s₀ s) : Kept s₀ (internalMark s n) := by
  unfold internalMark
  repeat' first
    | with_reducible assumption
    | with_reducible refine lmpLineStart_kept ?_
    | with_reducible refine Kept.ite ?_ ?_

theorem ldSyncPin_kept {s₀ : State} {s : State} (h : Kept s₀ s) : Kept s₀ (ldSyncPin s) := by
  unfold ldSyncPin
  repeat' first
    | with_reducible assumption
    | with_reducible refine ldSyncEdge_kept ?_
    | with_reducible refine Kept.ite ?_ ?_

theorem ldSyncPulse_kept {s₀ : State} {s : State} (h : Kept s₀ s) : Kept s₀ (ldSyncPulse s) := by
  unfold ldSyncPulse
  repeat' first
    | with_reducible assumption
    | with_reducible refine ldSyncEdge_kept ?_
    | with_reducible refine State.emit_kept ?_
    | with_reducible refine Kept.ite ?_ ?_
    | fail_if_no_progress (with_reducible refine Kept.parts (fun hl => hl) (fun hl => hl) ?_)

theorem ldSyncPulseEnd_kept {s₀ : State} {s : State} (h : Kept s₀ s) : Kept s₀ (ldSyncPulseEnd s) := by
  unfold ldSyncPulseEnd
  repeat' first
    | with_reducible assumption
    | with_reducible refine State.emit_kept ?_
    | with_reducible refine Kept.ite ?_ ?_
    | fail_if_no_progress (with_reducible refine Kept.parts (fun hl => hl) (fun hl => hl) ?_)

theorem powerWaitEnd_kept {s₀ : State} {s : State} {n : ℕ} (h : Kept s₀ s) : Kept s₀ (powerWaitEnd s n) := by
  unfold powerWaitEnd
  repeat' first
    | with_reducible assumption
    | with_reducible refine snsOutputsOn_kept ?_
    | with_reducible refine State.wr_kept ?_
    | with_reducible refine Kept.ite ?_ ?_

theorem snsDown_kept {s₀ : State} {s : State} {n : ℕ} (h : Kept s₀ s) : Kept s₀ (snsDown s n) := by
  unfold snsDown
  repeat' first
    | with_reducible assumption
    | with_reducible refine State.wr_kept ?_
    | with_reducible refine readoutLost_kept ?_
    | with_reducible refine snsPowerOff_kept ?_
    | with_reducible refine Kept.ite ?_ ?_

theorem snsRetrain_kept {s₀ : State} {s : State} {n : ℕ} (h : Kept s₀ s) : Kept s₀ (snsRetrain s n) := by
  unfold snsRetrain
  repeat' first
    | with_reducible assumption
    | with_reducible refine snsTrain_kept ?_
    | with_reducible refine State.modSns_kept ?_
    | with_reducible refine Kept.ite ?_ ?_

theorem snsUp_kept {s₀ : State} {s : State} {n : ℕ} (h : Kept s₀ s) : Kept s₀ (snsUp s n) := by
  unfold snsUp
  repeat' first
    | with_reducible assumption
    | with_reducible refine State.wr_kept ?_
    | with_reducible refine Kept.ite ?_ ?_

theorem spiSlot_kept {s₀ : State} {s : State} {n : ℕ} (h : Kept s₀ s) : Kept s₀ (spiSlot s n) := by
  unfold spiSlot
  repeat' first
    | with_reducible assumption
    | with_reducible refine spiSlotNext_kept ?_
    | with_reducible refine State.modSns_kept ?_
    | with_reducible refine Kept.ite ?_ ?_
    | split

theorem trainEnd_kept {s₀ : State} {s : State} {n : ℕ} (h : Kept s₀ s) : Kept s₀ (trainEnd s n) := by
  unfold trainEnd
  repeat' first
    | with_reducible assumption
    | with_reducible refine snsTrainEnd_kept ?_
    | with_reducible refine Kept.ite ?_ ?_

/-! ## Machine/UpdOps.lean. -/

theorem forall_mem_modify {α : Type} {P : α → Prop} {l : List α} {i : Nat} {g : α → α} (h : ∀ x ∈ l, P x)
    (hg : ∀ x, P x → P (g x)) : ∀ x ∈ l.modify i g, P x := by
  intro x hx
  obtain ⟨j, hj, e⟩ := List.getElem_of_mem hx
  rw [List.getElem_modify] at e
  have hl : j < l.length := by simpa using hj
  split at e
  · exact e ▸ hg _ (h _ (List.getElem_mem hl))
  · exact e ▸ h _ (List.getElem_mem hl)

theorem State.modUpd_kept {s₀ : State} {s : State} {f : UpdSt → UpdSt} (h : Kept s₀ s) : Kept s₀ (State.modUpd s f) := by
  unfold State.modUpd
  repeat' first
    | with_reducible assumption
    | fail_if_no_progress (with_reducible refine Kept.parts (fun hl => hl) (fun hl => hl) ?_)

theorem flashErase_kept {s₀ : State} {s : State} {i a n : Nat} (h : Kept s₀ s) : Kept s₀ (flashErase s i a n) :=
  h.flash_ fun x => forall_mem_modify x fun _ w => filter_wf w _

theorem flashProgram_kept {s₀ : State} {s : State} {i a : Nat} {bs : List Byte} (h : Kept s₀ s) :
    Kept s₀ (flashProgram s i a bs) :=
  h.flash_ fun x => forall_mem_modify x fun _ w => foldl_program_wf bs _ a w

theorem updState_kept {s₀ : State} {s : State} {st : ℕ} (h : Kept s₀ s) : Kept s₀ (updState s st) := by
  unfold updState
  repeat' first
    | with_reducible assumption
    | with_reducible refine State.wr_kept ?_

theorem updNoHeader_kept {s₀ : State} {s : State} (h : Kept s₀ s) : Kept s₀ (updNoHeader s) := by
  unfold updNoHeader
  repeat' first
    | with_reducible assumption
    | with_reducible refine flashErase_kept ?_
    | split

theorem updFail_kept {s₀ : State} {s : State} {cause : ℕ} (h : Kept s₀ s) : Kept s₀ (updFail s cause) := by
  unfold updFail
  repeat' first
    | with_reducible assumption
    | with_reducible refine State.raise_kept ?_
    | with_reducible refine State.modUpd_kept ?_
    | with_reducible refine State.wr_kept ?_
    | with_reducible refine updState_kept ?_
    | with_reducible refine updNoHeader_kept ?_

theorem updAbort_kept {s₀ : State} {s : State} (h : Kept s₀ s) : Kept s₀ (updAbort s) := by
  unfold updAbort
  repeat' first
    | with_reducible assumption
    | with_reducible refine updFail_kept ?_
    | with_reducible refine Kept.ite ?_ ?_

theorem updPhase_kept {s₀ : State} {s : State} {r : UpdPhase} (h : Kept s₀ s) : Kept s₀ (updPhase s r) := by
  unfold updPhase
  repeat' first
    | with_reducible assumption
    | with_reducible refine updFail_kept ?_
    | with_reducible refine updState_kept ?_
    | with_reducible refine flashErase_kept ?_
    | with_reducible refine flashProgram_kept ?_
    | with_reducible refine State.modUpd_kept ?_
    | with_reducible refine signReport_kept ?_
    | with_reducible refine State.raise_kept ?_
    | with_reducible refine Kept.ite ?_ ?_
    | (extract_lets +onlyGivenNames x; first | (refine (fun (hx : Kept s₀ x) => ?_) (show Kept s₀ x from ?_); clear_value x; rotate_left; subst x) | (clear_value x))
    | split

theorem updStart_kept {s₀ : State} {s : State} {mem : HostMem} (h : Kept s₀ s) : Kept s₀ (updStart s mem) := by
  unfold updStart
  repeat' first
    | with_reducible assumption
    | with_reducible refine State.wr_kept ?_
    | with_reducible refine updState_kept ?_
    | with_reducible refine updFail_kept ?_
    | with_reducible refine flashErase_kept ?_
    | with_reducible refine State.modUpd_kept ?_
    | with_reducible refine Kept.ite ?_ ?_
    | (extract_lets +onlyGivenNames x; first | (refine (fun (hx : Kept s₀ x) => ?_) (show Kept s₀ x from ?_); clear_value x; rotate_left; subst x) | (clear_value x))
    | split

theorem verifyDone_kept {s₀ : State} {s : State} (h : Kept s₀ s) : Kept s₀ (verifyDone s) := by
  unfold verifyDone
  repeat' first
    | with_reducible assumption
    | with_reducible refine State.modBoot_kept ?_
    | with_reducible refine State.wr_kept ?_
    | with_reducible refine signReport_kept ?_
    | with_reducible refine setJigBit_kept ?_
    | with_reducible refine State.raise_kept ?_
    | with_reducible refine Kept.ite ?_ ?_
    | (extract_lets +onlyGivenNames x; refine (fun (hx : Kept s₀ x) => ?_) (show Kept s₀ x from ?_); clear_value x; rotate_left; subst x)
    | split

theorem verifyStart_kept {s₀ : State} {s : State} {j : ℕ} (h : Kept s₀ s) : Kept s₀ (verifyStart s j) := by
  unfold verifyStart
  repeat' first
    | with_reducible assumption
    | with_reducible refine State.modBoot_kept ?_
    | with_reducible refine State.wr_kept ?_
    | with_reducible refine Kept.ite ?_ ?_

/-! ## Machine/PortOps.lean. -/

theorem portPut_kept {s₀ : State} {s : State} {a : ℕ} {w : Word} (h : Kept s₀ s) : Kept s₀ (portPut s a w) := by
  unfold portPut
  repeat' first
    | with_reducible assumption
    | with_reducible refine regPut_kept ?_

theorem onBit_kept {s₀ : State} {w : Word} {i : Nat} {f : State → State} {s : State} (h : Kept s₀ s)
    (hf : ∀ t, Kept s₀ t → Kept s₀ (f t)) : Kept s₀ (onBit w i f s) := Kept.ite (hf s h) h

theorem goRefuse_kept {s₀ : State} {s : State} {n : ℕ} {a : ℕ} (h : Kept s₀ s) : Kept s₀ (goRefuse s n a) := by
  unfold goRefuse
  repeat' first
    | with_reducible assumption
    | with_reducible refine axisRefuse_kept ?_

theorem axisCtl_kept {s₀ : State} {s : State} {n : ℕ} {a : ℕ} {w : Word} (h : Kept s₀ s) : Kept s₀ (axisCtl s n a w) := by
  unfold axisCtl
  repeat' first
    | with_reducible assumption
    | with_reducible refine portPut_kept ?_
    | with_reducible refine onBit_kept ?_ (fun _ _ => ?_)
    | with_reducible refine axisClrFlt_kept ?_
    | with_reducible refine goRefuse_kept ?_
    | with_reducible refine axisMove_kept ?_
    | with_reducible refine axisHome_kept ?_
    | with_reducible refine axisHalt_kept ?_
    | with_reducible refine axisEstop_kept ?_
    | with_reducible refine motWatch_kept ?_
    | with_reducible refine showAxis_kept ?_
    | with_reducible refine Kept.ite ?_ ?_

theorem axisParamPut_kept {s₀ : State} {s : State} {n : ℕ} {a : ℕ} {off : ℕ} {w : Word} (h : Kept s₀ s) :
    Kept s₀ (axisParamPut s n a off w) := by
  unfold axisParamPut
  repeat' first
    | with_reducible assumption
    | with_reducible refine paramWrite_kept ?_
    | with_reducible refine driveForward_kept ?_
    | with_reducible refine Kept.ite ?_ ?_

theorem calAbortNow_kept {s₀ : State} {s : State} {n : ℕ} (h : Kept s₀ s) : Kept s₀ (calAbortNow s n) := by
  unfold calAbortNow
  repeat' first
    | with_reducible assumption
    | with_reducible refine seqAbortWatch_kept ?_
    | with_reducible refine Kept.ite ?_ ?_

theorem calStartNow_kept {s₀ : State} {s : State} {n : ℕ} (h : Kept s₀ s) : Kept s₀ (calStartNow s n) := by
  unfold calStartNow
  repeat' first
    | with_reducible assumption
    | with_reducible refine seqStart_kept ?_

theorem calCtl_kept {s₀ : State} {s : State} {n : ℕ} {w : Word} (h : Kept s₀ s) : Kept s₀ (calCtl s n w) := by
  unfold calCtl
  repeat' first
    | with_reducible assumption
    | with_reducible refine portPut_kept ?_
    | with_reducible refine onBit_kept ?_ (fun _ _ => ?_)
    | with_reducible refine calAbortNow_kept ?_
    | with_reducible refine calStartNow_kept ?_
    | with_reducible refine calEval_kept ?_
    | with_reducible refine calStore_kept ?_
    | with_reducible refine calLoad_kept ?_
    | with_reducible refine State.clear_kept ?_

theorem chCtl_kept {s₀ : State} {s : State} {w : Word} (h : Kept s₀ s) : Kept s₀ (chCtl s w) := by
  unfold chCtl
  repeat' first
    | with_reducible assumption
    | with_reducible refine iterate_kept ?_ (fun _ _ _ => ?_)
    | with_reducible refine runSet_kept ?_
    | with_reducible refine runClear_kept ?_
    | with_reducible refine Kept.ite ?_ ?_

theorem snsCtl_kept {s₀ : State} {s : State} {n : ℕ} {w : Word} (h : Kept s₀ s) : Kept s₀ (snsCtl s n w) := by
  unfold snsCtl
  repeat' first
    | with_reducible assumption
    | with_reducible refine onBit_kept ?_ (fun _ _ => ?_)
    | with_reducible refine snsDown_kept ?_
    | with_reducible refine snsUp_kept ?_
    | with_reducible refine snsRetrain_kept ?_
    | with_reducible refine State.clear_kept ?_

theorem swapRequest_kept {s₀ : State} {s : State} {n : ℕ} (h : Kept s₀ s) : Kept s₀ (swapRequest s n) := by
  unfold swapRequest
  repeat' first
    | with_reducible assumption
    | with_reducible refine State.raise_kept ?_
    | with_reducible refine State.wr_kept ?_
    | with_reducible refine State.modPipe_kept ?_
    | with_reducible refine Kept.ite ?_ ?_

theorem pipeCtl_kept {s₀ : State} {s : State} {n : ℕ} {w : Word} (h : Kept s₀ s) : Kept s₀ (pipeCtl s n w) := by
  unfold pipeCtl
  repeat' first
    | with_reducible assumption
    | with_reducible refine portPut_kept ?_
    | with_reducible refine onBit_kept ?_ (fun _ _ => ?_)
    | with_reducible refine swapRequest_kept ?_
    | with_reducible refine State.clear_kept ?_

theorem gainPut_kept {s₀ : State} {s : State} {n : ℕ} {a : ℕ} {w : Word} (h : Kept s₀ s) : Kept s₀ (gainPut s n a w) := by
  unfold gainPut
  repeat' first
    | with_reducible assumption
    | with_reducible refine portPut_kept ?_
    | with_reducible refine gainWrite_kept ?_

theorem umdCfgPut_kept {s₀ : State} {s : State} {a : ℕ} {w : Word} (h : Kept s₀ s) : Kept s₀ (umdCfgPut s a w) := by
  unfold umdCfgPut
  repeat' first
    | with_reducible assumption
    | with_reducible refine portPut_kept ?_
    | with_reducible refine State.raise_kept ?_
    | with_reducible refine Kept.ite ?_ ?_

theorem fifoCtl_kept {s₀ : State} {s : State} {n : ℕ} {w : Word} (h : Kept s₀ s) : Kept s₀ (fifoCtl s n w) := by
  unfold fifoCtl
  repeat' first
    | with_reducible assumption
    | with_reducible refine onBit_kept ?_ (fun _ _ => ?_)
    | with_reducible refine State.clear_kept ?_
    | with_reducible refine fifoFlush_kept ?_

theorem dtCtl_kept {s₀ : State} {s : State} {n : ℕ} {w : Word} (h : Kept s₀ s) : Kept s₀ (dtCtl s n w) := by
  unfold dtCtl
  repeat' first
    | with_reducible assumption
    | with_reducible refine onBit_kept ?_ (fun _ _ => ?_)
    | with_reducible refine dtStop_kept ?_
    | with_reducible refine motWatch_kept ?_
    | with_reducible refine dtResume_kept ?_

theorem lmpCtl_kept {s₀ : State} {s : State} {n : ℕ} {w : Word} (h : Kept s₀ s) : Kept s₀ (lmpCtl s n w) := by
  unfold lmpCtl
  repeat' first
    | with_reducible assumption
    | with_reducible refine portPut_kept ?_
    | with_reducible refine onBit_kept ?_ (fun _ _ => ?_)
    | with_reducible refine showLamp_kept ?_
    | with_reducible refine fadeStop_kept ?_
    | with_reducible refine State.clear_kept ?_

theorem lampCfgPut_kept {s₀ : State} {s : State} {n : ℕ} {a : ℕ} {w : Word} (h : Kept s₀ s) : Kept s₀ (lampCfgPut s n a w) := by
  unfold lampCfgPut
  repeat' first
    | with_reducible assumption
    | with_reducible refine regPut_kept ?_
    | with_reducible refine lampRefuse_kept ?_
    | with_reducible refine Kept.ite ?_ ?_

theorem posCtl_kept {s₀ : State} {s : State} {n : ℕ} {w : Word} (h : Kept s₀ s) : Kept s₀ (posCtl s n w) := by
  unfold posCtl
  repeat' first
    | with_reducible assumption
    | with_reducible refine onBit_kept ?_ (fun _ _ => ?_)
    | with_reducible refine posPreset_kept ?_
    | with_reducible refine absLoad_kept ?_
    | with_reducible refine absRead_kept ?_
    | with_reducible refine State.clear_kept ?_

theorem motCtl_kept {s₀ : State} {s : State} {n : ℕ} {w : Word} (h : Kept s₀ s) : Kept s₀ (motCtl s n w) := by
  unfold motCtl
  repeat' first
    | with_reducible assumption
    | with_reducible refine portPut_kept ?_
    | with_reducible refine onBit_kept ?_ (fun _ _ => ?_)
    | with_reducible refine goRefuse_kept ?_
    | with_reducible refine groupGo_kept ?_
    | with_reducible refine haltAll_kept ?_
    | with_reducible refine estopAll_kept ?_
    | with_reducible refine State.clear_kept ?_
    | with_reducible refine motWatch_kept ?_
    | with_reducible refine iterate_kept ?_ (fun _ _ _ => ?_)
    | with_reducible refine showAxis_kept ?_
    | with_reducible refine Kept.ite ?_ ?_
    | with_reducible refine Kept.foldl ?_ (fun _ _ _ => ?_)

theorem chanWrite_kept {s₀ : State} {s : State} {n : ℕ} {o : ℕ} {w : Word} (h : Kept s₀ s) : Kept s₀ (chanWrite s n o w) := by
  unfold chanWrite
  repeat' first
    | with_reducible assumption
    | with_reducible refine snsCtl_kept ?_
    | with_reducible refine onBit_kept ?_ (fun _ _ => ?_)
    | with_reducible refine spareForLane_kept ?_
    | with_reducible refine portPut_kept ?_
    | with_reducible refine spiGo_kept ?_
    | with_reducible refine pipeCtl_kept ?_
    | with_reducible refine sliceForce_kept ?_
    | with_reducible refine gainPut_kept ?_
    | with_reducible refine State.clear_kept ?_
    | with_reducible refine umdCfgPut_kept ?_
    | with_reducible refine fifoCtl_kept ?_
    | with_reducible refine dtCtl_kept ?_
    | with_reducible refine lmpCtl_kept ?_
    | with_reducible refine levelWrite_kept ?_
    | with_reducible refine lampCfgPut_kept ?_
    | with_reducible refine lampFaultClear_kept ?_
    | with_reducible refine posCtl_kept ?_
    | with_reducible refine motCtl_kept ?_
    | with_reducible refine axisCtl_kept ?_
    | with_reducible refine axisParamPut_kept ?_
    | with_reducible refine calCtl_kept ?_
    | with_reducible refine Kept.ite ?_ ?_

theorem evtClear_kept {s₀ : State} {s : State} (h : Kept s₀ s) : Kept s₀ (evtClear s) := by
  unfold evtClear
  repeat' first
    | with_reducible assumption
    | with_reducible refine State.clear_kept ?_

theorem eachChan_kept {s₀ : State} {m : Nat} {f : State → Nat → State} {s : State} (h : Kept s₀ s)
    (hf : ∀ t n, Kept s₀ t → Kept s₀ (f t n)) : Kept s₀ (eachChan m f s) := Kept.foldl h hf

theorem rstCtl_kept {s₀ : State} {s : State} {w : Word} (h : Kept s₀ s) : Kept s₀ (rstCtl s w) := by
  unfold rstCtl
  repeat' first
    | with_reducible assumption
    | with_reducible refine warmReset_kept ?_
    | with_reducible refine eachChan_kept ?_ (fun _ _ _ => ?_)
    | with_reducible refine channelReset_kept ?_
    | with_reducible refine Kept.ite ?_ ?_

theorem queueCtl_kept {s₀ : State} {s : State} {q : ℕ} {w : Word} (h : Kept s₀ s) : Kept s₀ (queueCtl s q w) := by
  unfold queueCtl
  repeat' first
    | with_reducible assumption
    | with_reducible refine portPut_kept ?_
    | with_reducible refine dmaAbort_kept ?_
    | with_reducible refine onBit_kept ?_ (fun _ _ => ?_)
    | with_reducible refine dmaResume_kept ?_
    | with_reducible refine dmaStart_kept ?_
    | with_reducible refine dmaGo_kept ?_
    | with_reducible refine State.clear_kept ?_
    | with_reducible refine Kept.ite ?_ ?_

theorem queueWrite_kept {s₀ : State} {s : State} {q : ℕ} {o : ℕ} {w : Word} (h : Kept s₀ s) : Kept s₀ (queueWrite s q o w) := by
  unfold queueWrite
  repeat' first
    | with_reducible assumption
    | with_reducible refine queueCtl_kept ?_
    | with_reducible refine srcWrite_kept ?_
    | with_reducible refine State.setWord_kept ?_
    | with_reducible refine doorbell_kept ?_
    | with_reducible refine State.raise_kept ?_
    | with_reducible refine portPut_kept ?_
    | with_reducible refine Kept.ite ?_ ?_

theorem drcCtl_kept {s₀ : State} {s : State} {k : ℕ} {w : Word} (h : Kept s₀ s) : Kept s₀ (drcCtl s k w) := by
  unfold drcCtl
  repeat' first
    | with_reducible assumption
    | with_reducible refine onBit_kept ?_ (fun _ _ => ?_)
    | with_reducible refine State.clear_kept ?_
    | with_reducible refine drcPprNow_kept ?_
    | with_reducible refine drcTrain_kept ?_

theorem drcWrite_kept {s₀ : State} {s : State} {k : ℕ} {o : ℕ} {w : Word} (h : Kept s₀ s) : Kept s₀ (drcWrite s k o w) := by
  unfold drcWrite
  repeat' first
    | with_reducible assumption
    | with_reducible refine drcCtl_kept ?_
    | with_reducible refine portPut_kept ?_
    | with_reducible refine Kept.ite ?_ ?_

theorem monCtl_kept {s₀ : State} {s : State} {w : Word} (h : Kept s₀ s) : Kept s₀ (monCtl s w) := by
  unfold monCtl
  repeat' first
    | with_reducible assumption
    | with_reducible refine portPut_kept ?_
    | with_reducible refine onBit_kept ?_ (fun _ _ => ?_)
    | with_reducible refine monSnap_kept ?_
    | with_reducible refine monDiag_kept ?_
    | with_reducible refine State.clear_kept ?_

theorem monWrite_kept {s₀ : State} {s : State} {a : ℕ} {w : Word} (h : Kept s₀ s) : Kept s₀ (monWrite s a w) := by
  unfold monWrite
  repeat' first
    | with_reducible assumption
    | with_reducible refine monCtl_kept ?_
    | with_reducible refine onBit_kept ?_ (fun _ _ => ?_)
    | with_reducible refine monTriggerSrc_kept ?_
    | with_reducible refine sysCalStart_kept ?_
    | with_reducible refine portPut_kept ?_
    | with_reducible refine Kept.ite ?_ ?_

theorem umdClear_kept {s₀ : State} {s : State} (h : Kept s₀ s) : Kept s₀ (umdClear s) := by
  unfold umdClear
  repeat' first
    | with_reducible assumption
    | with_reducible refine State.clear_kept ?_

theorem devWrite_kept {s₀ : State} {s : State} {a : ℕ} {w : Word} (h : Kept s₀ s) : Kept s₀ (devWrite s a w) := by
  unfold devWrite
  repeat' first
    | with_reducible assumption
    | with_reducible refine onBit_kept ?_ (fun _ _ => ?_)
    | with_reducible refine evtClear_kept ?_
    | with_reducible refine portPut_kept ?_
    | with_reducible refine evForce_kept ?_
    | with_reducible refine evStatClear_kept ?_
    | with_reducible refine evLastClear_kept ?_
    | with_reducible refine rstCtl_kept ?_
    | with_reducible refine queueWrite_kept ?_
    | with_reducible refine drcWrite_kept ?_
    | with_reducible refine monWrite_kept ?_
    | with_reducible refine umdCfgPut_kept ?_
    | with_reducible refine cmdGo_kept ?_
    | with_reducible refine umdClear_kept ?_
    | with_reducible refine Kept.ite ?_ ?_

theorem swGoNow_kept {s₀ : State} {s : State} (h : Kept s₀ s) : Kept s₀ (swGoNow s) := by
  unfold swGoNow
  repeat' first
    | with_reducible assumption
    | with_reducible refine request_kept ?_

theorem swReq_kept {s₀ : State} {s : State} {w : Word} (h : Kept s₀ s) : Kept s₀ (swReq s w) := by
  unfold swReq
  repeat' first
    | with_reducible assumption
    | with_reducible refine portPut_kept ?_
    | with_reducible refine onBit_kept ?_ (fun _ _ => ?_)
    | with_reducible refine swGoNow_kept ?_
    | with_reducible refine hostCancel_kept ?_

theorem seqCtl_kept {s₀ : State} {s : State} {n : ℕ} {w : Word} (h : Kept s₀ s) : Kept s₀ (seqCtl s n w) := by
  unfold seqCtl
  repeat' first
    | with_reducible assumption
    | with_reducible refine portPut_kept ?_
    | with_reducible refine onBit_kept ?_ (fun _ _ => ?_)
    | with_reducible refine seqAbortWatch_kept ?_
    | with_reducible refine seqStart_kept ?_

theorem glbWrite_kept {s₀ : State} {s : State} {a : ℕ} {w : Word} (h : Kept s₀ s) : Kept s₀ (glbWrite s a w) := by
  unfold glbWrite
  repeat' first
    | with_reducible assumption
    | with_reducible refine onBit_kept ?_ (fun _ _ => ?_)
    | with_reducible refine hostBoot_kept ?_
    | with_reducible refine verifyStart_kept ?_
    | with_reducible refine portPut_kept ?_
    | with_reducible refine swReq_kept ?_
    | with_reducible refine updAbort_kept ?_
    | with_reducible refine chCtl_kept ?_
    | with_reducible refine ldSyncPulse_kept ?_
    | with_reducible refine seqCtl_kept ?_
    | with_reducible refine Kept.ite ?_ ?_

theorem msixWrite_kept {s₀ : State} {s : State} {a : ℕ} {w : Word} (h : Kept s₀ s) : Kept s₀ (msixWrite s a w) := by
  unfold msixWrite
  repeat' first
    | with_reducible assumption
    | with_reducible refine msiPending_kept ?_
    | with_reducible refine State.setWord_kept ?_

theorem profileWrite_kept {s₀ : State} {s : State} {n : ℕ} {off : ℕ} {w : Word} (h : Kept s₀ s) :
    Kept s₀ (profileWrite s n off w) := by
  unfold profileWrite
  repeat' first
    | with_reducible assumption
    | with_reducible refine State.raise_kept ?_
    | with_reducible refine shadowWrite_kept ?_
    | with_reducible refine Kept.ite ?_ ?_

theorem tableWrite_kept {s₀ : State} {s : State} {n : ℕ} {off : ℕ} {w : Word} (h : Kept s₀ s) :
    Kept s₀ (tableWrite s n off w) := by
  unfold tableWrite
  repeat' first
    | with_reducible assumption
    | with_reducible refine State.modCh_kept ?_
    | with_reducible refine cmpRest_kept ?_
    | with_reducible refine showLamp_kept ?_
    | with_reducible refine sinkUpdate_kept ?_
    | with_reducible refine Kept.ite ?_ ?_

theorem windowWrite_kept {s₀ : State} {s : State} {a : ℕ} {w : Word} (h : Kept s₀ s) : Kept s₀ (windowWrite s a w) := by
  unfold windowWrite
  repeat' first
    | with_reducible assumption
    | with_reducible refine profileWrite_kept ?_
    | with_reducible refine tableWrite_kept ?_
    | with_reducible refine Kept.ite ?_ ?_

theorem portWrite_kept {s₀ : State} {s : State} {a : ℕ} {w : Word} (h : Kept s₀ s) : Kept s₀ (portWrite s a w) := by
  unfold portWrite
  repeat' first
    | with_reducible assumption
    | with_reducible refine windowWrite_kept ?_
    | with_reducible refine devWrite_kept ?_
    | with_reducible refine chanWrite_kept ?_
    | with_reducible refine Kept.ite ?_ ?_

theorem hostWrite_kept {s₀ : State} {s : State} {a : ℕ} {w : Word} (h : Kept s₀ s) : Kept s₀ (hostWrite s a w) := by
  unfold hostWrite
  repeat' first
    | with_reducible assumption
    | with_reducible refine glbWrite_kept ?_
    | with_reducible refine msixWrite_kept ?_
    | with_reducible refine portWrite_kept ?_
    | with_reducible refine Kept.ite ?_ ?_

theorem readWord_kept {s₀ : State} {s : State} {a : ℕ} (h : Kept s₀ s) : Kept s₀ (readWord s a).2 := by
  unfold readWord
  repeat' first
    | with_reducible assumption
    | split
    | fail_if_no_progress (with_reducible refine Kept.parts (fun hl => hl) (fun hl => hl) ?_)

theorem readWord_kept' {s₀ : State} {s : State} {a : ℕ} {r0 : _} {r1 : _}
    (h : Kept s₀ s) (e : (readWord s a) = (r0, r1)) : Kept s₀ r1 := by
  have k : Kept s₀ (readWord s a).2 := readWord_kept h
  rw [e] at k
  exact k

theorem swapIdle_kept {s₀ : State} {s : State} {n : ℕ} (h : Kept s₀ s) : Kept s₀ (swapIdle s n) := by
  unfold swapIdle
  repeat' first
    | with_reducible assumption
    | with_reducible refine State.wr_kept ?_
    | with_reducible refine State.modPipe_kept ?_
    | with_reducible refine profileSwap_kept ?_
    | with_reducible refine Kept.ite ?_ ?_
    | split

/-! ## Machine/ListOps.lean. -/

theorem captureDone_kept {s₀ : State} {s : State} {n : ℕ} (h : Kept s₀ s) : Kept s₀ (captureDone s n) := by
  unfold captureDone
  repeat' first
    | with_reducible assumption
    | with_reducible refine showLamp_kept ?_
    | with_reducible refine captureFinish_kept ?_
    | with_reducible refine seqNext_kept ?_
    | with_reducible refine modRunner_kept ?_
    | with_reducible refine Kept.ite ?_ ?_

theorem listFail_kept {s₀ : State} {s : State} {r : ℕ} {cause : ℕ} (h : Kept s₀ s) : Kept s₀ (listFail s r cause) := by
  unfold listFail
  repeat' first
    | with_reducible assumption
    | with_reducible refine listOver_kept ?_
    | with_reducible refine seqFail_kept ?_

theorem listCapture_kept {s₀ : State} {s : State} {r : ℕ} (h : Kept s₀ s) : Kept s₀ (listCapture s r) := by
  unfold listCapture
  repeat' first
    | with_reducible assumption
    | with_reducible refine listFail_kept ?_
    | with_reducible refine modRunner_kept ?_
    | with_reducible refine showLamp_kept ?_
    | with_reducible refine captureStart_kept ?_
    | with_reducible refine Kept.ite ?_ ?_
    | (extract_lets +onlyGivenNames x; clear_value x)
    | split

theorem listCmp_kept {s₀ : State} {s : State} {r : ℕ} (h : Kept s₀ s) : Kept s₀ (listCmp s r) := by
  unfold listCmp
  repeat' first
    | with_reducible assumption
    | with_reducible refine readWord_kept ?_
    | with_reducible refine seqNext_kept ?_
    | with_reducible refine listFail_kept ?_
    | with_reducible refine seqGoto_kept ?_
    | with_reducible refine Kept.ite ?_ ?_
    | (extract_lets +onlyGivenNames x; clear_value x)
    | split

theorem listEnd_kept {s₀ : State} {s : State} {r : ℕ} (h : Kept s₀ s) : Kept s₀ (listEnd s r) := by
  unfold listEnd
  repeat' first
    | with_reducible assumption
    | with_reducible refine listFail_kept ?_
    | with_reducible refine listOver_kept ?_
    | with_reducible refine seqPass_kept ?_
    | with_reducible refine Kept.ite ?_ ?_
    | split

theorem listIllegal_kept {s₀ : State} {s : State} {r : ℕ} (h : Kept s₀ s) : Kept s₀ (listIllegal s r) := by
  unfold listIllegal
  repeat' first
    | with_reducible assumption
    | with_reducible refine listFail_kept ?_
    | with_reducible refine Kept.ite ?_ ?_

theorem listJump_kept {s₀ : State} {s : State} {r : ℕ} (h : Kept s₀ s) : Kept s₀ (listJump s r) := by
  unfold listJump
  repeat' first
    | with_reducible assumption
    | with_reducible refine seqGoto_kept ?_
    | split

theorem listMark_kept {s₀ : State} {s : State} {r : ℕ} (h : Kept s₀ s) : Kept s₀ (listMark s r) := by
  unfold listMark
  repeat' first
    | with_reducible assumption
    | with_reducible refine seqNext_kept ?_
    | with_reducible refine State.raise_kept ?_
    | (extract_lets +onlyGivenNames x; clear_value x)
    | split

theorem listMove_kept {s₀ : State} {s : State} {r : ℕ} (h : Kept s₀ s) : Kept s₀ (listMove s r) := by
  unfold listMove
  repeat' first
    | with_reducible assumption
    | with_reducible refine axisMove_kept ?_
    | with_reducible refine motWatch_kept ?_
    | with_reducible refine listFail_kept ?_
    | with_reducible refine modRunner_kept ?_
    | with_reducible refine State.wr_kept ?_
    | with_reducible refine seqNext_kept ?_
    | with_reducible refine Kept.ite ?_ ?_
    | (extract_lets +onlyGivenNames x; clear_value x)
    | split

theorem listWaitEv_kept {s₀ : State} {s : State} {r : ℕ} (h : Kept s₀ s) : Kept s₀ (listWaitEv s r) := by
  unfold listWaitEv
  repeat' first
    | with_reducible assumption
    | with_reducible refine seqNext_kept ?_
    | with_reducible refine modRunner_kept ?_
    | with_reducible refine State.wr_kept ?_
    | with_reducible refine Kept.ite ?_ ?_
    | split

theorem listWaitT_kept {s₀ : State} {s : State} {r : ℕ} (h : Kept s₀ s) : Kept s₀ (listWaitT s r) := by
  unfold listWaitT
  repeat' first
    | with_reducible assumption
    | with_reducible refine modRunner_kept ?_
    | with_reducible refine State.wr_kept ?_
    | split

theorem portAsk_kept {s₀ : State} {s : State} {src : ℕ} {addr : ℕ} {value : Word} {mask : Word} {words : ℕ}
    (h : Kept s₀ s) : Kept s₀ (portAsk s src addr value mask words) := by
  unfold portAsk
  repeat' first
    | with_reducible assumption
    | fail_if_no_progress (with_reducible refine Kept.parts (fun hl => hl) (fun hl => hl) ?_)

theorem listWrite_kept {s₀ : State} {s : State} {r : ℕ} (h : Kept s₀ s) : Kept s₀ (listWrite s r) := by
  unfold listWrite
  repeat' first
    | with_reducible assumption
    | with_reducible refine listFail_kept ?_
    | with_reducible refine portAsk_kept ?_
    | with_reducible refine Kept.ite ?_ ?_
    | split

theorem listWriteM_kept {s₀ : State} {s : State} {r : ℕ} (h : Kept s₀ s) : Kept s₀ (listWriteM s r) := by
  unfold listWriteM
  repeat' first
    | with_reducible assumption
    | with_reducible refine listFail_kept ?_
    | with_reducible refine portAsk_kept ?_
    | with_reducible refine Kept.ite ?_ ?_
    | split

theorem moveStandstill_kept {s₀ : State} {s : State} {r : ℕ} (h : Kept s₀ s) : Kept s₀ (moveStandstill s r) := by
  unfold moveStandstill
  repeat' first
    | with_reducible assumption
    | with_reducible refine seqNext_kept ?_
    | with_reducible refine Kept.ite ?_ ?_

theorem portTake_kept {s₀ : State} {s : State} {q : PortReq} (h : Kept s₀ s) : Kept s₀ (portTake s q) := by
  unfold portTake
  repeat' first
    | with_reducible assumption
    | with_reducible refine hostWrite_kept ?_
    | with_reducible refine portWrite_kept ?_
    | with_reducible refine seqNext_kept ?_
    | with_reducible refine Kept.ite ?_ ?_
    | (extract_lets +onlyGivenNames x; clear_value x)
    | split

theorem portApply_kept {s₀ : State} {s : State} (h : Kept s₀ s) : Kept s₀ (portApply s) := by
  unfold portApply
  repeat' first
    | with_reducible assumption
    | with_reducible refine portTake_kept ?_
    | with_reducible refine Kept.ite ?_ ?_
    | split
    | fail_if_no_progress (with_reducible refine Kept.parts (fun hl => hl) (fun hl => hl) ?_)

theorem portHost_kept {s₀ : State} {s : State} {addr : ℕ} {value : Word} (h : Kept s₀ s) : Kept s₀ (portHost s addr value) := by
  unfold portHost
  repeat' first
    | with_reducible assumption
    | with_reducible refine hostWrite_kept ?_
    | with_reducible refine portAsk_kept ?_
    | with_reducible refine Kept.ite ?_ ?_
    | fail_if_no_progress (with_reducible refine Kept.parts (fun hl => hl) (fun hl => hl) ?_)

theorem waitEvSatisfied_kept {s₀ : State} {s : State} {r : ℕ} (h : Kept s₀ s) : Kept s₀ (waitEvSatisfied s r) := by
  unfold waitEvSatisfied
  repeat' first
    | with_reducible assumption
    | with_reducible refine seqNext_kept ?_
    | with_reducible refine Kept.ite ?_ ?_

theorem waitEvTimeout_kept {s₀ : State} {s : State} {r : ℕ} (h : Kept s₀ s) : Kept s₀ (waitEvTimeout s r) := by
  unfold waitEvTimeout
  repeat' first
    | with_reducible assumption
    | with_reducible refine listFail_kept ?_
    | with_reducible refine Kept.ite ?_ ?_

theorem waitTExpire_kept {s₀ : State} {s : State} {r : ℕ} (h : Kept s₀ s) : Kept s₀ (waitTExpire s r) := by
  unfold waitTExpire
  repeat' first
    | with_reducible assumption
    | with_reducible refine seqNext_kept ?_
    | with_reducible refine Kept.ite ?_ ?_

/-! ## Machine/HostOps.lean. -/

theorem axisShow_kept {s₀ : State} {s : State} {n : ℕ} {a : ℕ} (h : Kept s₀ s) : Kept s₀ (axisShow s n a) := by
  unfold axisShow
  repeat' first
    | with_reducible assumption
    | with_reducible refine motWatch_kept ?_
    | with_reducible refine showAxis_kept ?_

theorem axisGoNow_kept {s₀ : State} {s : State} {n : ℕ} {a : ℕ} (h : Kept s₀ s) : Kept s₀ (axisGoNow s n a) := by
  unfold axisGoNow
  repeat' first
    | with_reducible assumption
    | with_reducible refine axisShow_kept ?_
    | with_reducible refine axisMove_kept ?_

theorem readDws_kept {s₀ : State} {s : State} {a k : Nat} (h : Kept s₀ s) : Kept s₀ (readDws s a k).2 := by
  induction k with
  | zero => exact h
  | succ k ih => exact readWord_kept ih

theorem readDws_kept' {s₀ : State} {s : State} {a k : Nat} {bs : List Byte} {t : State} (h : Kept s₀ s)
    (e : readDws s a k = (bs, t)) : Kept s₀ t := by
  have j : Kept s₀ (readDws s a k).2 := readDws_kept h
  rw [e] at j
  exact j

theorem barRequest_kept {s₀ : State} {s : State} {a : ℕ} {w : Word} {x3 : BarReq} (h : Kept s₀ s) :
    Kept s₀ (barRequest s a w x3) := by
  unfold barRequest
  repeat' first
    | with_reducible assumption
    | with_reducible refine portHost_kept ?_
    | with_reducible refine State.raise_kept ?_
    | with_reducible refine State.bump_kept ?_
    | with_reducible refine readDws_kept ?_
    | with_reducible refine State.emit_kept ?_
    | with_reducible refine Kept.ite ?_ ?_
    | split

theorem clockStep_kept {s₀ : State} {s : State} {clocks : ℕ} (h : Kept s₀ s) : Kept s₀ (clockStep s clocks) := by
  unfold clockStep
  repeat' first
    | with_reducible assumption
    | with_reducible refine timeTick_kept ?_
    | with_reducible refine genAdvance_kept ?_

theorem portClocks_kept {s₀ : State} {f : Nat} {s : State} {k : Nat} (h : Kept s₀ s) : Kept s₀ (portClocks f s k) := by
  induction f generalizing s k with
  | zero => exact clockStep_kept h
  | succ f ih =>
    exact Kept.ite h (Kept.ite (clockStep_kept h) (ih (clockStep_kept (finish_kept (portApply_kept h)))))

theorem clockTick_kept {s₀ : State} {s : State} {clocks : ℕ} (h : Kept s₀ s) : Kept s₀ (clockTick s clocks) := by
  unfold clockTick
  repeat' first
    | with_reducible assumption
    | with_reducible refine portClocks_kept ?_

theorem configWrite_kept {s₀ : State} {s : State} {w : CfgWrite} (h : Kept s₀ s) : Kept s₀ (configWrite s w) := by
  unfold configWrite
  repeat' first
    | with_reducible assumption
    | with_reducible refine State.wr_kept ?_
    | with_reducible refine State.wb_kept ?_
    | with_reducible refine State.modDma_kept (fun _ hl => hl) ?_
    | with_reducible refine iterate_kept ?_ (fun _ _ _ => ?_)
    | with_reducible refine showQ_kept ?_
    | with_reducible refine msiPending_kept ?_
    | with_reducible refine logRelease_kept ?_
    | with_reducible refine Kept.ite ?_ ?_

theorem fldWrite_kept {s₀ : State} {s : State} {f : Fld} {v : ℕ} (h : Kept s₀ s) : Kept s₀ (fldWrite s f v) := by
  unfold fldWrite
  repeat' first
    | with_reducible assumption
    | with_reducible refine portPut_kept ?_

theorem linkChange_kept {s₀ : State} {s : State} {up : Bool} {speed : ℕ} {width : ℕ} {flit : Bool} (h : Kept s₀ s) :
    Kept s₀ (linkChange s up speed width flit) := by
  unfold linkChange
  repeat' first
    | with_reducible assumption
    | with_reducible refine State.wb_kept ?_
    | with_reducible refine State.wr_kept ?_
    | with_reducible refine State.raiseIf_kept ?_
    | with_reducible refine flrReset_kept ?_
    | with_reducible refine Kept.ite ?_ ?_

theorem motShow_kept {s₀ : State} {s : State} {n : ℕ} (h : Kept s₀ s) : Kept s₀ (motShow s n) := by
  unfold motShow
  repeat' first
    | with_reducible assumption
    | with_reducible refine motWatch_kept ?_
    | with_reducible refine iterate_kept ?_ (fun _ _ _ => ?_)
    | with_reducible refine showAxis_kept ?_

theorem scrub_kept {s₀ : State} {s : State} {a : ℕ} {fail : Bool} (h : Kept s₀ s) : Kept s₀ (scrub s a fail) := by
  unfold scrub
  repeat' first
    | with_reducible assumption
    | with_reducible refine State.modEvt_kept ?_
    | with_reducible refine State.free_kept ?_
    | with_reducible refine State.raise_kept ?_
    | with_reducible refine Kept.ite ?_ ?_
    | split

theorem sysCalGo_kept {s₀ : State} {s : State} {input : ℕ} {count : ℕ} {full : Bool} (h : Kept s₀ s) :
    Kept s₀ (sysCalGo s input count full) := by
  unfold sysCalGo
  repeat' first
    | with_reducible assumption
    | with_reducible refine sysCalStart_kept ?_
    | with_reducible refine fldWrite_kept ?_
    | with_reducible refine Kept.ite ?_ ?_

end Sys2Proof.Machine
end

