-- ==== Sys2Proof/Laws/KeptCommands.lean ====
section
/-! SUPPORT. Laws/KeptCommands.lean: what Safety.lean calls Kept, through the meaning of each command:
if what stands before it keeps, what stands after it keeps. -/

namespace Sys2Proof.Machine

/-! ## Machine/DeviceCmds.lean. -/

theorem execChannelReset_kept {s₀ : State} {n : Fin 4} {s : State} {t : State}
    (h : Kept s₀ s) (e : (execChannelReset n s) = .next t) : Kept s₀ t := by
  replace e := Host.Outcome.next.inj e
  subst e
  repeat' first
    | with_reducible assumption
    | with_reducible refine finish_kept ?_
    | with_reducible refine channelReset_kept ?_

theorem execDieLinkFrame_kept {s₀ : State} {bad : FrameBad} {s : State} {t : State}
    (h : Kept s₀ s) (e : (execDieLinkFrame bad s) = .next t) : Kept s₀ t := by
  replace e := Host.Outcome.next.inj e
  subst e
  repeat' first
    | with_reducible assumption
    | with_reducible refine finish_kept ?_
    | with_reducible refine linkFrame_kept ?_

theorem execDieLinkReestablish_kept {s₀ : State} {s : State} {t : State}
    (h : Kept s₀ s) (e : (execDieLinkReestablish s) = .next t) : Kept s₀ t := by
  replace e := Host.Outcome.next.inj e
  subst e
  repeat' first
    | with_reducible assumption
    | with_reducible refine finish_kept ?_
    | with_reducible refine linkUp_kept ?_

theorem execDieLinkTimeout_kept {s₀ : State} {s : State} {t : State}
    (h : Kept s₀ s) (e : (execDieLinkTimeout s) = .next t) : Kept s₀ t := by
  replace e := Host.Outcome.next.inj e
  subst e
  repeat' first
    | with_reducible assumption
    | with_reducible refine finish_kept ?_
    | with_reducible refine linkTimeout_kept ?_

theorem execDriveDieReport_kept {s₀ : State} {thermal : Bool} {s : State} {t : State}
    (h : Kept s₀ s) (e : (execDriveDieReport thermal s) = .next t) : Kept s₀ t := by
  replace e := Host.Outcome.next.inj e
  subst e
  repeat' first
    | with_reducible assumption
    | with_reducible refine finish_kept ?_
    | with_reducible refine driveReport_kept ?_

theorem execDriveDieStatusRefresh_kept {s₀ : State} {refs : BitVec 16} {senses : List (Fin 4 × Fin 12 × SinkSense)}
    {s : State} {t : State} (h : Kept s₀ s) (e : (execDriveDieStatusRefresh refs senses s) = .next t) : Kept s₀ t := by
  replace e := Host.Outcome.next.inj e
  subst e
  repeat' first
    | with_reducible assumption
    | with_reducible refine finish_kept ?_
    | with_reducible refine statusRefresh_kept ?_

theorem execDriveDieWriteApply_kept {s₀ : State} {s : State} {t : State}
    (h : Kept s₀ s) (e : (execDriveDieWriteApply s) = .next t) : Kept s₀ t := by
  replace e := Host.Outcome.next.inj e
  subst e
  repeat' first
    | with_reducible assumption
    | with_reducible refine finish_kept ?_
    | with_reducible refine driveApply_kept ?_

theorem execDriveUndervoltage_kept {s₀ : State} {s : State} {t : State}
    (h : Kept s₀ s) (e : (execDriveUndervoltage s) = .next t) : Kept s₀ t := by
  replace e := Host.Outcome.next.inj e
  subst e
  repeat' first
    | with_reducible assumption
    | with_reducible refine finish_kept ?_
    | with_reducible refine driveUnder_kept ?_

theorem execDriveUndervoltageEnd_kept {s₀ : State} {s : State} {t : State}
    (h : Kept s₀ s) (e : (execDriveUndervoltageEnd s) = .next t) : Kept s₀ t := by
  replace e := Host.Outcome.next.inj e
  subst e
  repeat' first
    | with_reducible assumption
    | with_reducible refine finish_kept ?_
    | with_reducible refine driveUnderEnd_kept ?_

theorem execFunctionLevelReset_kept {s₀ : State} {s : State} {t : State}
    (h : Kept s₀ s) (e : (execFunctionLevelReset s) = .next t) : Kept s₀ t := by
  replace e := Host.Outcome.next.inj e
  subst e
  repeat' first
    | with_reducible assumption
    | with_reducible refine finish_kept ?_
    | with_reducible refine flrReset_kept ?_

theorem execPerstNAssert_kept {s₀ : State} {s : State} {t : State} (h : Kept s₀ s) (e : (execPerstNAssert s) = .next t) :
    Kept s₀ t := by
  replace e := Host.Outcome.next.inj e
  subst e
  repeat' first
    | with_reducible assumption
    | with_reducible refine finish_kept ?_
    | with_reducible refine perstAssert_kept ?_

theorem execPerstNRelease_kept {s₀ : State} {s : State} {t : State}
    (h : Kept s₀ s) (e : (execPerstNRelease s) = .next t) : Kept s₀ t := by
  replace e := Host.Outcome.next.inj e
  subst e
  repeat' first
    | with_reducible assumption
    | with_reducible refine finish_kept ?_
    | with_reducible refine State.modDma_kept (fun _ hl => hl) ?_

theorem execPinReset_kept {s₀ : State} {s : State} {t : State} (h : Kept s₀ s) (e : (execPinReset s) = .next t) :
    Kept s₀ t := by
  replace e := Host.Outcome.next.inj e
  subst e
  repeat' first
    | with_reducible assumption
    | with_reducible refine finish_kept ?_
    | with_reducible refine hardReset_kept ?_

theorem execPowerOnReset_kept {s₀ : State} {s : State} {t : State} (h : Kept s₀ s) (e : (execPowerOnReset s) = .next t) :
    Kept s₀ t := by
  replace e := Host.Outcome.next.inj e
  subst e
  repeat' first
    | with_reducible assumption
    | with_reducible refine finish_kept ?_
    | with_reducible refine hardReset_kept ?_

theorem execRailDip_kept {s₀ : State} {s : State} {t : State} (h : Kept s₀ s) (e : (execRailDip s) = .next t) : Kept s₀ t := by
  replace e := Host.Outcome.next.inj e
  subst e
  repeat' first
    | with_reducible assumption
    | with_reducible refine finish_kept ?_
    | with_reducible refine hardReset_kept ?_

theorem execRegisterWrite_kept {s₀ : State} {dw : BitVec 20} {value : Word} {how : BarReq} {s : State} {t : State}
    (h : Kept s₀ s) (e : (execRegisterWrite dw value how s) = .next t) : Kept s₀ t := by
  replace e := Host.Outcome.next.inj e
  subst e
  repeat' first
    | with_reducible assumption
    | with_reducible refine finish_kept ?_
    | with_reducible refine barRequest_kept ?_
    | with_reducible refine Kept.ite ?_ ?_

theorem execTimeBaseTick_kept {s₀ : State} {clocks : ℕ} {s : State} {t : State}
    (h : Kept s₀ s) (e : (execTimeBaseTick clocks s) = .next t) : Kept s₀ t := by
  replace e := Host.Outcome.next.inj e
  subst e
  repeat' first
    | with_reducible assumption
    | with_reducible refine finish_kept ?_
    | with_reducible refine clockTick_kept ?_

theorem execWarmReset_kept {s₀ : State} {s : State} {t : State} (h : Kept s₀ s) (e : (execWarmReset s) = .next t) :
    Kept s₀ t := by
  replace e := Host.Outcome.next.inj e
  subst e
  repeat' first
    | with_reducible assumption
    | with_reducible refine finish_kept ?_
    | with_reducible refine warmReset_kept ?_

/-! ## Machine/BootCmds.lean. -/

theorem execBar2Read_kept {s₀ : State} {addr : BitVec 26} {len : ℕ} {s : State} {t : State}
    (h : Kept s₀ s) (e : (execBar2Read addr len s) = .next t) : Kept s₀ t := by
  replace e := Host.Outcome.next.inj e
  subst e
  repeat' first
    | with_reducible assumption
    | with_reducible refine finish_kept ?_
    | with_reducible refine State.emit_kept ?_
    | with_reducible refine Kept.ite ?_ ?_

theorem execBar2Write_kept {s₀ : State} {addr : BitVec 26} {bytes : List (Byte × Bool)} {s : State} {t : State}
    (h : Kept s₀ s) (e : (execBar2Write addr bytes s) = .next t) : Kept s₀ t := by
  replace e := Host.Outcome.next.inj e
  subst e
  repeat' first
    | with_reducible assumption
    | with_reducible refine finish_kept ?_
    | with_reducible refine libWrite_kept ?_
    | with_reducible refine Kept.ite ?_ ?_

theorem execBootHomingDone_kept {s₀ : State} {n : Fin 4} {s : State} {t : State}
    (h : Kept s₀ s) (e : (execBootHomingDone n s) = .next t) : Kept s₀ t := by
  replace e := Host.Outcome.next.inj e
  subst e
  repeat' first
    | with_reducible assumption
    | with_reducible refine finish_kept ?_
    | with_reducible refine bootHomed_kept ?_

theorem execBootRelease_kept {s₀ : State} {mode : Fin 4} {role : Bool} {s : State} {t : State}
    (h : Kept s₀ s) (e : (execBootRelease mode role s) = .next t) : Kept s₀ t := by
  replace e := Host.Outcome.next.inj e
  subst e
  repeat' first
    | with_reducible assumption
    | with_reducible refine finish_kept ?_
    | with_reducible refine bootRelease_kept ?_

theorem execDramTrainingDone_kept {s₀ : State} {k : Fin 4} {bin : Fin 6} {parts : DramParts} {repair : Bool} {s : State}
    {t : State} (h : Kept s₀ s) (e : (execDramTrainingDone k bin parts repair s) = .next t) : Kept s₀ t := by
  replace e := Host.Outcome.next.inj e
  subst e
  repeat' first
    | with_reducible assumption
    | with_reducible refine finish_kept ?_
    | with_reducible refine trainingDone_kept ?_

theorem execJigVerify_kept {s₀ : State} {jig : Fin 64} {s : State} {t : State}
    (h : Kept s₀ s) (e : (execJigVerify jig s) = .next t) : Kept s₀ t := by
  replace e := Host.Outcome.next.inj e
  subst e
  repeat' first
    | with_reducible assumption
    | with_reducible refine finish_kept ?_
    | with_reducible refine verifyStart_kept ?_
    | with_reducible refine fldWrite_kept ?_

theorem execJigVerifyDone_kept {s₀ : State} {s : State} {t : State}
    (h : Kept s₀ s) (e : (execJigVerifyDone s) = .next t) : Kept s₀ t := by
  replace e := Host.Outcome.next.inj e
  subst e
  repeat' first
    | with_reducible assumption
    | with_reducible refine finish_kept ?_
    | with_reducible refine verifyDone_kept ?_

theorem execJobStb_kept {s₀ : State} {sel : Fin 64} {s : State} {t : State}
    (h : Kept s₀ s) (e : (execJobStb sel s) = .next t) : Kept s₀ t := by
  replace e := Host.Outcome.next.inj e
  subst e
  repeat' first
    | with_reducible assumption
    | with_reducible refine finish_kept ?_
    | with_reducible refine request_kept ?_
    | with_reducible refine Kept.ite ?_ ?_

theorem execLibUpdateAbort_kept {s₀ : State} {s : State} {t : State}
    (h : Kept s₀ s) (e : (execLibUpdateAbort s) = .next t) : Kept s₀ t := by
  replace e := Host.Outcome.next.inj e
  subst e
  repeat' first
    | with_reducible assumption
    | with_reducible refine finish_kept ?_
    | with_reducible refine updAbort_kept ?_

theorem execLibUpdateStart_kept {s₀ : State} {mem : HostMem} {s : State} {t : State}
    (h : Kept s₀ s) (e : (execLibUpdateStart mem s) = .next t) : Kept s₀ t := by
  replace e := Host.Outcome.next.inj e
  subst e
  repeat' first
    | with_reducible assumption
    | with_reducible refine finish_kept ?_
    | with_reducible refine updStart_kept ?_

theorem execLibUpdateStepDone_kept {s₀ : State} {phase : UpdPhase} {s : State} {t : State}
    (h : Kept s₀ s) (e : (execLibUpdateStepDone phase s) = .next t) : Kept s₀ t := by
  replace e := Host.Outcome.next.inj e
  subst e
  repeat' first
    | with_reducible assumption
    | with_reducible refine finish_kept ?_
    | with_reducible refine updPhase_kept ?_

theorem execLibctlBoot_kept {s₀ : State} {jig : Fin 64} {s : State} {t : State}
    (h : Kept s₀ s) (e : (execLibctlBoot jig s) = .next t) : Kept s₀ t := by
  replace e := Host.Outcome.next.inj e
  subst e
  repeat' first
    | with_reducible assumption
    | with_reducible refine finish_kept ?_
    | with_reducible refine hostBoot_kept ?_
    | with_reducible refine fldWrite_kept ?_

theorem execLibraryStreamDone_kept {s₀ : State} {s : State} {t : State}
    (h : Kept s₀ s) (e : (execLibraryStreamDone s) = .next t) : Kept s₀ t := by
  replace e := Host.Outcome.next.inj e
  subst e
  repeat' first
    | with_reducible assumption
    | with_reducible refine finish_kept ?_
    | with_reducible refine streamDone_kept ?_

theorem execMarchTestDone_kept {s₀ : State} {n : Fin 4} {faults : MarchFault} {s : State} {t : State}
    (h : Kept s₀ s) (e : (execMarchTestDone n faults s) = .next t) : Kept s₀ t := by
  replace e := Host.Outcome.next.inj e
  subst e
  repeat' first
    | with_reducible assumption
    | with_reducible refine finish_kept ?_
    | with_reducible refine marchDone_kept ?_

theorem execRunClear_kept {s₀ : State} {n : Fin 4} {s : State} {t : State}
    (h : Kept s₀ s) (e : (execRunClear n s) = .next t) : Kept s₀ t := by
  replace e := Host.Outcome.next.inj e
  subst e
  repeat' first
    | with_reducible assumption
    | with_reducible refine finish_kept ?_
    | with_reducible refine runClear_kept ?_

theorem execRunSet_kept {s₀ : State} {n : Fin 4} {s : State} {t : State}
    (h : Kept s₀ s) (e : (execRunSet n s) = .next t) : Kept s₀ t := by
  replace e := Host.Outcome.next.inj e
  subst e
  repeat' first
    | with_reducible assumption
    | with_reducible refine finish_kept ?_
    | with_reducible refine runSet_kept ?_
    | with_reducible refine Kept.ite ?_ ?_

theorem execRunningEnd_kept {s₀ : State} {n : Fin 4} {s : State} {t : State}
    (h : Kept s₀ s) (e : (execRunningEnd n s) = .next t) : Kept s₀ t := by
  replace e := Host.Outcome.next.inj e
  subst e
  repeat' first
    | with_reducible assumption
    | with_reducible refine finish_kept ?_
    | with_reducible refine runEnd_kept ?_

theorem execStagingDone_kept {s₀ : State} {n : Fin 4} {readFail : Bool} {s : State} {t : State}
    (h : Kept s₀ s) (e : (execStagingDone n readFail s) = .next t) : Kept s₀ t := by
  replace e := Host.Outcome.next.inj e
  subst e
  repeat' first
    | with_reducible assumption
    | with_reducible refine finish_kept ?_
    | with_reducible refine stagingDone_kept ?_

theorem execSwitchCancel_kept {s₀ : State} {mask : BitVec 4} {s : State} {t : State}
    (h : Kept s₀ s) (e : (execSwitchCancel mask s) = .next t) : Kept s₀ t := by
  replace e := Host.Outcome.next.inj e
  subst e
  repeat' first
    | with_reducible assumption
    | with_reducible refine finish_kept ?_
    | with_reducible refine hostCancel_kept ?_
    | with_reducible refine fldWrite_kept ?_

theorem execSwitchRequest_kept {s₀ : State} {jig : Fin 64} {mask : BitVec 4} {next : Bool} {s : State} {t : State}
    (h : Kept s₀ s) (e : (execSwitchRequest jig mask next s) = .next t) : Kept s₀ t := by
  replace e := Host.Outcome.next.inj e
  subst e
  repeat' first
    | with_reducible assumption
    | with_reducible refine finish_kept ?_
    | with_reducible refine swGoNow_kept ?_
    | with_reducible refine fldWrite_kept ?_

/-! ## Machine/ListsCmds.lean. -/

theorem execSeqAbort_kept {s₀ : State} {n : Fin 4} {s : State} {t : State}
    (h : Kept s₀ s) (e : (execSeqAbort n s) = .next t) : Kept s₀ t := by
  replace e := Host.Outcome.next.inj e
  subst e
  repeat' first
    | with_reducible assumption
    | with_reducible refine finish_kept ?_
    | with_reducible refine seqAbortWatch_kept ?_

theorem execSeqCapture_kept {s₀ : State} {r : Fin 5} {s : State} {t : State}
    (h : Kept s₀ s) (e : (execSeqCapture r s) = .next t) : Kept s₀ t := by
  replace e := Host.Outcome.next.inj e
  subst e
  repeat' first
    | with_reducible assumption
    | with_reducible refine finish_kept ?_
    | with_reducible refine listCapture_kept ?_

theorem execSeqCmp_kept {s₀ : State} {r : Fin 5} {s : State} {t : State}
    (h : Kept s₀ s) (e : (execSeqCmp r s) = .next t) : Kept s₀ t := by
  replace e := Host.Outcome.next.inj e
  subst e
  repeat' first
    | with_reducible assumption
    | with_reducible refine finish_kept ?_
    | with_reducible refine listCmp_kept ?_

theorem execSeqEnd_kept {s₀ : State} {r : Fin 5} {s : State} {t : State}
    (h : Kept s₀ s) (e : (execSeqEnd r s) = .next t) : Kept s₀ t := by
  replace e := Host.Outcome.next.inj e
  subst e
  repeat' first
    | with_reducible assumption
    | with_reducible refine finish_kept ?_
    | with_reducible refine listEnd_kept ?_

theorem execSeqIllegal_kept {s₀ : State} {r : Fin 5} {s : State} {t : State}
    (h : Kept s₀ s) (e : (execSeqIllegal r s) = .next t) : Kept s₀ t := by
  replace e := Host.Outcome.next.inj e
  subst e
  repeat' first
    | with_reducible assumption
    | with_reducible refine finish_kept ?_
    | with_reducible refine listIllegal_kept ?_

theorem execSeqJump_kept {s₀ : State} {r : Fin 5} {s : State} {t : State}
    (h : Kept s₀ s) (e : (execSeqJump r s) = .next t) : Kept s₀ t := by
  replace e := Host.Outcome.next.inj e
  subst e
  repeat' first
    | with_reducible assumption
    | with_reducible refine finish_kept ?_
    | with_reducible refine listJump_kept ?_

theorem execSeqMark_kept {s₀ : State} {r : Fin 5} {s : State} {t : State}
    (h : Kept s₀ s) (e : (execSeqMark r s) = .next t) : Kept s₀ t := by
  replace e := Host.Outcome.next.inj e
  subst e
  repeat' first
    | with_reducible assumption
    | with_reducible refine finish_kept ?_
    | with_reducible refine listMark_kept ?_

theorem execSeqMove_kept {s₀ : State} {r : Fin 5} {s : State} {t : State}
    (h : Kept s₀ s) (e : (execSeqMove r s) = .next t) : Kept s₀ t := by
  replace e := Host.Outcome.next.inj e
  subst e
  repeat' first
    | with_reducible assumption
    | with_reducible refine finish_kept ?_
    | with_reducible refine listMove_kept ?_

theorem execSeqMoveStandstill_kept {s₀ : State} {r : Fin 5} {s : State} {t : State}
    (h : Kept s₀ s) (e : (execSeqMoveStandstill r s) = .next t) : Kept s₀ t := by
  replace e := Host.Outcome.next.inj e
  subst e
  repeat' first
    | with_reducible assumption
    | with_reducible refine finish_kept ?_
    | with_reducible refine moveStandstill_kept ?_

theorem execSeqStart_kept {s₀ : State} {n : Fin 4} {type : Fin 8} {s : State} {t : State}
    (h : Kept s₀ s) (e : (execSeqStart n type s) = .next t) : Kept s₀ t := by
  replace e := Host.Outcome.next.inj e
  subst e
  repeat' first
    | with_reducible assumption
    | with_reducible refine finish_kept ?_
    | with_reducible refine seqStart_kept ?_
    | with_reducible refine fldWrite_kept ?_

theorem execSeqWaitev_kept {s₀ : State} {r : Fin 5} {s : State} {t : State}
    (h : Kept s₀ s) (e : (execSeqWaitev r s) = .next t) : Kept s₀ t := by
  replace e := Host.Outcome.next.inj e
  subst e
  repeat' first
    | with_reducible assumption
    | with_reducible refine finish_kept ?_
    | with_reducible refine listWaitEv_kept ?_

theorem execSeqWaitevSatisfied_kept {s₀ : State} {r : Fin 5} {s : State} {t : State}
    (h : Kept s₀ s) (e : (execSeqWaitevSatisfied r s) = .next t) : Kept s₀ t := by
  replace e := Host.Outcome.next.inj e
  subst e
  repeat' first
    | with_reducible assumption
    | with_reducible refine finish_kept ?_
    | with_reducible refine waitEvSatisfied_kept ?_

theorem execSeqWaitevTimeout_kept {s₀ : State} {r : Fin 5} {s : State} {t : State}
    (h : Kept s₀ s) (e : (execSeqWaitevTimeout r s) = .next t) : Kept s₀ t := by
  replace e := Host.Outcome.next.inj e
  subst e
  repeat' first
    | with_reducible assumption
    | with_reducible refine finish_kept ?_
    | with_reducible refine waitEvTimeout_kept ?_

theorem execSeqWaitt_kept {s₀ : State} {r : Fin 5} {s : State} {t : State}
    (h : Kept s₀ s) (e : (execSeqWaitt r s) = .next t) : Kept s₀ t := by
  replace e := Host.Outcome.next.inj e
  subst e
  repeat' first
    | with_reducible assumption
    | with_reducible refine finish_kept ?_
    | with_reducible refine listWaitT_kept ?_

theorem execSeqWaittExpire_kept {s₀ : State} {r : Fin 5} {s : State} {t : State}
    (h : Kept s₀ s) (e : (execSeqWaittExpire r s) = .next t) : Kept s₀ t := by
  replace e := Host.Outcome.next.inj e
  subst e
  repeat' first
    | with_reducible assumption
    | with_reducible refine finish_kept ?_
    | with_reducible refine waitTExpire_kept ?_

theorem execSeqWrite_kept {s₀ : State} {r : Fin 5} {s : State} {t : State}
    (h : Kept s₀ s) (e : (execSeqWrite r s) = .next t) : Kept s₀ t := by
  replace e := Host.Outcome.next.inj e
  subst e
  repeat' first
    | with_reducible assumption
    | with_reducible refine finish_kept ?_
    | with_reducible refine listWrite_kept ?_

theorem execSeqWritem_kept {s₀ : State} {r : Fin 5} {s : State} {t : State}
    (h : Kept s₀ s) (e : (execSeqWritem r s) = .next t) : Kept s₀ t := by
  replace e := Host.Outcome.next.inj e
  subst e
  repeat' first
    | with_reducible assumption
    | with_reducible refine finish_kept ?_
    | with_reducible refine listWriteM_kept ?_

/-! ## Machine/PositionCmds.lean. -/

theorem execAbsLoad_kept {s₀ : State} {n : Fin 4} {s : State} {t : State}
    (h : Kept s₀ s) (e : (execAbsLoad n s) = .next t) : Kept s₀ t := by
  replace e := Host.Outcome.next.inj e
  subst e
  repeat' first
    | with_reducible assumption
    | with_reducible refine finish_kept ?_
    | with_reducible refine absLoad_kept ?_

theorem execAbsRead_kept {s₀ : State} {n : Fin 4} {s : State} {t : State}
    (h : Kept s₀ s) (e : (execAbsRead n s) = .next t) : Kept s₀ t := by
  replace e := Host.Outcome.next.inj e
  subst e
  repeat' first
    | with_reducible assumption
    | with_reducible refine finish_kept ?_
    | with_reducible refine absRead_kept ?_

theorem execAbsReadComplete_kept {s₀ : State} {n : Fin 4} {frame : AbsFrame} {s : State} {t : State}
    (h : Kept s₀ s) (e : (execAbsReadComplete n frame s) = .next t) : Kept s₀ t := by
  replace e := Host.Outcome.next.inj e
  subst e
  repeat' first
    | with_reducible assumption
    | with_reducible refine finish_kept ?_
    | with_reducible refine absDone_kept ?_

theorem execAbsReadTimer_kept {s₀ : State} {n : Fin 4} {s : State} {t : State}
    (h : Kept s₀ s) (e : (execAbsReadTimer n s) = .next t) : Kept s₀ t := by
  replace e := Host.Outcome.next.inj e
  subst e
  repeat' first
    | with_reducible assumption
    | with_reducible refine finish_kept ?_
    | with_reducible refine absRead_kept ?_
    | with_reducible refine Kept.ite ?_ ?_

theorem execComparePulseEnd_kept {s₀ : State} {n : Fin 4} {c : Fin 4} {sub : Fin 6} {s : State} {t : State}
    (h : Kept s₀ s) (e : (execComparePulseEnd n c sub s) = .next t) : Kept s₀ t := by
  replace e := Host.Outcome.next.inj e
  subst e
  repeat' first
    | with_reducible assumption
    | with_reducible refine finish_kept ?_
    | with_reducible refine cmpPulseEnd_kept ?_

theorem execDeferredLineStart_kept {s₀ : State} {n : Fin 4} {s : State} {t : State}
    (h : Kept s₀ s) (e : (execDeferredLineStart n s) = .next t) : Kept s₀ t := by
  replace e := Host.Outcome.next.inj e
  subst e
  repeat' first
    | with_reducible assumption
    | with_reducible refine finish_kept ?_
    | with_reducible refine deferredStart_kept ?_

theorem execDivPulseEnd_kept {s₀ : State} {n : Fin 4} {sub : Fin 6} {s : State} {t : State}
    (h : Kept s₀ s) (e : (execDivPulseEnd n sub s) = .next t) : Kept s₀ t := by
  replace e := Host.Outcome.next.inj e
  subst e
  repeat' first
    | with_reducible assumption
    | with_reducible refine finish_kept ?_
    | with_reducible refine divPulseEnd_kept ?_

theorem execDriftCorrectionApply_kept {s₀ : State} {n : Fin 4} {s : State} {t : State}
    (h : Kept s₀ s) (e : (execDriftCorrectionApply n s) = .next t) : Kept s₀ t := by
  replace e := Host.Outcome.next.inj e
  subst e
  repeat' first
    | with_reducible assumption
    | with_reducible refine finish_kept ?_
    | with_reducible refine correct_kept ?_
    | with_reducible refine Kept.ite ?_ ?_

theorem execEncoderCountChange_kept {s₀ : State} {n : Fin 4} {a : Bool} {b : Bool} {gen : Bool} {sub : Fin 6} {s : State}
    {t : State} (h : Kept s₀ s) (e : (execEncoderCountChange n a b gen sub s) = .next t) : Kept s₀ t := by
  replace e := Host.Outcome.next.inj e
  subst e
  repeat' first
    | with_reducible assumption
    | with_reducible refine finish_kept ?_
    | with_reducible refine encoderEdge_kept ?_

theorem execIndexEdge_kept {s₀ : State} {n : Fin 4} {gen : Bool} {s : State} {t : State}
    (h : Kept s₀ s) (e : (execIndexEdge n gen s) = .next t) : Kept s₀ t := by
  replace e := Host.Outcome.next.inj e
  subst e
  repeat' first
    | with_reducible assumption
    | with_reducible refine finish_kept ?_
    | with_reducible refine indexPulse_kept ?_

theorem execPosClrcnt_kept {s₀ : State} {n : Fin 4} {s : State} {t : State}
    (h : Kept s₀ s) (e : (execPosClrcnt n s) = .next t) : Kept s₀ t := by
  replace e := Host.Outcome.next.inj e
  subst e
  repeat' first
    | with_reducible assumption
    | with_reducible refine finish_kept ?_
    | with_reducible refine State.clear_kept ?_

theorem execPosPreset_kept {s₀ : State} {n : Fin 4} {s : State} {t : State}
    (h : Kept s₀ s) (e : (execPosPreset n s) = .next t) : Kept s₀ t := by
  replace e := Host.Outcome.next.inj e
  subst e
  repeat' first
    | with_reducible assumption
    | with_reducible refine finish_kept ?_
    | with_reducible refine posPreset_kept ?_

theorem execSpeedUpdate_kept {s₀ : State} {n : Fin 4} {s : State} {t : State}
    (h : Kept s₀ s) (e : (execSpeedUpdate n s) = .next t) : Kept s₀ t := by
  replace e := Host.Outcome.next.inj e
  subst e
  repeat' first
    | with_reducible assumption
    | with_reducible refine finish_kept ?_
    | with_reducible refine speedUpdate_kept ?_

/-! ## Machine/SensorCmds.lean. -/

theorem execBarDebounceEnd_kept {s₀ : State} {n : Fin 4} {low : Bool} {s : State} {t : State}
    (h : Kept s₀ s) (e : (execBarDebounceEnd n low s) = .next t) : Kept s₀ t := by
  replace e := Host.Outcome.next.inj e
  subst e
  repeat' first
    | with_reducible assumption
    | with_reducible refine finish_kept ?_
    | with_reducible refine debounceEnd_kept ?_

theorem execBarInitWaitEnd_kept {s₀ : State} {n : Fin 4} {s : State} {t : State}
    (h : Kept s₀ s) (e : (execBarInitWaitEnd n s) = .next t) : Kept s₀ t := by
  replace e := Host.Outcome.next.inj e
  subst e
  repeat' first
    | with_reducible assumption
    | with_reducible refine finish_kept ?_
    | with_reducible refine initWaitEnd_kept ?_

theorem execBarPowerWaitEnd_kept {s₀ : State} {n : Fin 4} {s : State} {t : State}
    (h : Kept s₀ s) (e : (execBarPowerWaitEnd n s) = .next t) : Kept s₀ t := by
  replace e := Host.Outcome.next.inj e
  subst e
  repeat' first
    | with_reducible assumption
    | with_reducible refine finish_kept ?_
    | with_reducible refine powerWaitEnd_kept ?_

theorem execBarPresent_kept {s₀ : State} {n : Fin 4} {s : State} {t : State}
    (h : Kept s₀ s) (e : (execBarPresent n s) = .next t) : Kept s₀ t := by
  replace e := Host.Outcome.next.inj e
  subst e
  repeat' first
    | with_reducible assumption
    | with_reducible refine finish_kept ?_
    | with_reducible refine barPresent_kept ?_

theorem execBarRemoved_kept {s₀ : State} {n : Fin 4} {s : State} {t : State}
    (h : Kept s₀ s) (e : (execBarRemoved n s) = .next t) : Kept s₀ t := by
  replace e := Host.Outcome.next.inj e
  subst e
  repeat' first
    | with_reducible assumption
    | with_reducible refine finish_kept ?_
    | with_reducible refine barRemoved_kept ?_

theorem execLaneDataBlock_kept {s₀ : State} {n : Fin 4} {lane : Fin 26} {payload : BitVec 64} {s : State} {t : State}
    (h : Kept s₀ s) (e : (execLaneDataBlock n lane payload s) = .next t) : Kept s₀ t := by
  replace e := Host.Outcome.next.inj e
  subst e
  repeat' first
    | with_reducible assumption
    | with_reducible refine finish_kept ?_
    | with_reducible refine laneData_kept ?_

theorem execLaneIdleBlock_kept {s₀ : State} {n : Fin 4} {lane : Fin 26} {s : State} {t : State}
    (h : Kept s₀ s) (e : (execLaneIdleBlock n lane s) = .next t) : Kept s₀ t := by
  replace e := Host.Outcome.next.inj e
  subst e
  repeat' first
    | with_reducible assumption
    | with_reducible refine finish_kept ?_
    | with_reducible refine laneFraming_kept ?_

theorem execLaneLend_kept {s₀ : State} {n : Fin 4} {lane : Fin 26} {payload : BitVec 64} {s : State} {t : State}
    (h : Kept s₀ s) (e : (execLaneLend n lane payload s) = .next t) : Kept s₀ t := by
  replace e := Host.Outcome.next.inj e
  subst e
  repeat' first
    | with_reducible assumption
    | with_reducible refine finish_kept ?_
    | with_reducible refine laneLend_kept ?_

theorem execLaneLhdr_kept {s₀ : State} {n : Fin 4} {lane : Fin 26} {payload : BitVec 64} {s : State} {t : State}
    (h : Kept s₀ s) (e : (execLaneLhdr n lane payload s) = .next t) : Kept s₀ t := by
  replace e := Host.Outcome.next.inj e
  subst e
  repeat' first
    | with_reducible assumption
    | with_reducible refine finish_kept ?_
    | with_reducible refine laneLhdr_kept ?_

theorem execLaneLockGain_kept {s₀ : State} {n : Fin 4} {lane : Fin 26} {s : State} {t : State}
    (h : Kept s₀ s) (e : (execLaneLockGain n lane s) = .next t) : Kept s₀ t := by
  replace e := Host.Outcome.next.inj e
  subst e
  repeat' first
    | with_reducible assumption
    | with_reducible refine finish_kept ?_
    | with_reducible refine laneLockGain_kept ?_

theorem execLaneLockLoss_kept {s₀ : State} {n : Fin 4} {lane : Fin 26} {s : State} {t : State}
    (h : Kept s₀ s) (e : (execLaneLockLoss n lane s) = .next t) : Kept s₀ t := by
  replace e := Host.Outcome.next.inj e
  subst e
  repeat' first
    | with_reducible assumption
    | with_reducible refine finish_kept ?_
    | with_reducible refine laneLockLoss_kept ?_

theorem execLaneTrainBlock_kept {s₀ : State} {n : Fin 4} {lane : Fin 26} {payload : BitVec 64} {arrival : ℕ} {s : State}
    {t : State} (h : Kept s₀ s) (e : (execLaneTrainBlock n lane payload arrival s) = .next t) : Kept s₀ t := by
  replace e := Host.Outcome.next.inj e
  subst e
  repeat' first
    | with_reducible assumption
    | with_reducible refine finish_kept ?_
    | with_reducible refine laneTrain_kept ?_

theorem execLaneTrainingEnd_kept {s₀ : State} {n : Fin 4} {s : State} {t : State}
    (h : Kept s₀ s) (e : (execLaneTrainingEnd n s) = .next t) : Kept s₀ t := by
  replace e := Host.Outcome.next.inj e
  subst e
  repeat' first
    | with_reducible assumption
    | with_reducible refine finish_kept ?_
    | with_reducible refine trainEnd_kept ?_

theorem execLhdrMissing_kept {s₀ : State} {n : Fin 4} {lane : Fin 26} {s : State} {t : State}
    (h : Kept s₀ s) (e : (execLhdrMissing n lane s) = .next t) : Kept s₀ t := by
  replace e := Host.Outcome.next.inj e
  subst e
  repeat' first
    | with_reducible assumption
    | with_reducible refine finish_kept ?_
    | with_reducible refine lhdrMissing_kept ?_

theorem execSnsClrcnt_kept {s₀ : State} {n : Fin 4} {s : State} {t : State}
    (h : Kept s₀ s) (e : (execSnsClrcnt n s) = .next t) : Kept s₀ t := by
  replace e := Host.Outcome.next.inj e
  subst e
  repeat' first
    | with_reducible assumption
    | with_reducible refine finish_kept ?_
    | with_reducible refine State.clear_kept ?_

theorem execSnsDown_kept {s₀ : State} {n : Fin 4} {s : State} {t : State}
    (h : Kept s₀ s) (e : (execSnsDown n s) = .next t) : Kept s₀ t := by
  replace e := Host.Outcome.next.inj e
  subst e
  repeat' first
    | with_reducible assumption
    | with_reducible refine finish_kept ?_
    | with_reducible refine snsDown_kept ?_

theorem execSnsRetrain_kept {s₀ : State} {n : Fin 4} {s : State} {t : State}
    (h : Kept s₀ s) (e : (execSnsRetrain n s) = .next t) : Kept s₀ t := by
  replace e := Host.Outcome.next.inj e
  subst e
  repeat' first
    | with_reducible assumption
    | with_reducible refine finish_kept ?_
    | with_reducible refine snsRetrain_kept ?_

theorem execSnsSpareForce_kept {s₀ : State} {n : Fin 4} {lane : Fin 24} {s : State} {t : State}
    (h : Kept s₀ s) (e : (execSnsSpareForce n lane s) = .next t) : Kept s₀ t := by
  replace e := Host.Outcome.next.inj e
  subst e
  repeat' first
    | with_reducible assumption
    | with_reducible refine finish_kept ?_
    | with_reducible refine spareForLane_kept ?_
    | with_reducible refine fldWrite_kept ?_

theorem execSnsUp_kept {s₀ : State} {n : Fin 4} {s : State} {t : State} (h : Kept s₀ s) (e : (execSnsUp n s) = .next t) :
    Kept s₀ t := by
  replace e := Host.Outcome.next.inj e
  subst e
  repeat' first
    | with_reducible assumption
    | with_reducible refine finish_kept ?_
    | with_reducible refine snsUp_kept ?_

theorem execSpiGo_kept {s₀ : State} {n : Fin 4} {nospoil : Bool} {len : Fin 64} {s : State} {t : State}
    (h : Kept s₀ s) (e : (execSpiGo n nospoil len s) = .next t) : Kept s₀ t := by
  replace e := Host.Outcome.next.inj e
  subst e
  repeat' first
    | with_reducible assumption
    | with_reducible refine finish_kept ?_
    | with_reducible refine spiGo_kept ?_
    | with_reducible refine fldWrite_kept ?_

theorem execSpiSlot_kept {s₀ : State} {n : Fin 4} {s : State} {t : State}
    (h : Kept s₀ s) (e : (execSpiSlot n s) = .next t) : Kept s₀ t := by
  replace e := Host.Outcome.next.inj e
  subst e
  repeat' first
    | with_reducible assumption
    | with_reducible refine finish_kept ?_
    | with_reducible refine spiSlot_kept ?_

theorem execSpiTransactionDone_kept {s₀ : State} {n : Fin 4} {miso : BitVec 32} {s : State} {t : State}
    (h : Kept s₀ s) (e : (execSpiTransactionDone n miso s) = .next t) : Kept s₀ t := by
  replace e := Host.Outcome.next.inj e
  subst e
  repeat' first
    | with_reducible assumption
    | with_reducible refine finish_kept ?_
    | with_reducible refine spiDone_kept ?_

/-! ## Machine/PipelineCmds.lean. -/

theorem execLineComplete_kept {s₀ : State} {n : Fin 4} {faults : LineFaults} {s : State} {t : State}
    (h : Kept s₀ s) (e : (execLineComplete n faults s) = .next t) : Kept s₀ t := by
  replace e := Host.Outcome.next.inj e
  subst e
  repeat' first
    | with_reducible assumption
    | with_reducible refine finish_kept ?_
    | with_reducible refine lineComplete_kept ?_

theorem execPipeClrcnt_kept {s₀ : State} {n : Fin 4} {s : State} {t : State}
    (h : Kept s₀ s) (e : (execPipeClrcnt n s) = .next t) : Kept s₀ t := by
  replace e := Host.Outcome.next.inj e
  subst e
  repeat' first
    | with_reducible assumption
    | with_reducible refine finish_kept ?_
    | with_reducible refine State.clear_kept ?_

theorem execProfileSwapApply_kept {s₀ : State} {n : Fin 4} {s : State} {t : State}
    (h : Kept s₀ s) (e : (execProfileSwapApply n s) = .next t) : Kept s₀ t := by
  replace e := Host.Outcome.next.inj e
  subst e
  repeat' first
    | with_reducible assumption
    | with_reducible refine finish_kept ?_
    | with_reducible refine swapIdle_kept ?_

theorem execProfileSwapReq_kept {s₀ : State} {n : Fin 4} {swvalid : Bool} {s : State} {t : State}
    (h : Kept s₀ s) (e : (execProfileSwapReq n swvalid s) = .next t) : Kept s₀ t := by
  replace e := Host.Outcome.next.inj e
  subst e
  repeat' first
    | with_reducible assumption
    | with_reducible refine finish_kept ?_
    | with_reducible refine swapRequest_kept ?_
    | with_reducible refine fldWrite_kept ?_

theorem execProfileWindowWrite_kept {s₀ : State} {n : Fin 4} {off : ℕ} {value : Word} {s : State} {t : State}
    (h : Kept s₀ s) (e : (execProfileWindowWrite n off value s) = .next t) : Kept s₀ t := by
  replace e := Host.Outcome.next.inj e
  subst e
  repeat' first
    | with_reducible assumption
    | with_reducible refine finish_kept ?_
    | with_reducible refine profileWrite_kept ?_

theorem execShadingReloadDone_kept {s₀ : State} {n : Fin 4} {slice : Fin 8} {tile : Fin 64} {s : State} {t : State}
    (h : Kept s₀ s) (e : (execShadingReloadDone n slice tile s) = .next t) : Kept s₀ t := by
  replace e := Host.Outcome.next.inj e
  subst e
  repeat' first
    | with_reducible assumption
    | with_reducible refine finish_kept ?_
    | with_reducible refine shadingReload_kept ?_

theorem execSliceSpareForce_kept {s₀ : State} {n : Fin 4} {slice : Fin 8} {s : State} {t : State}
    (h : Kept s₀ s) (e : (execSliceSpareForce n slice s) = .next t) : Kept s₀ t := by
  replace e := Host.Outcome.next.inj e
  subst e
  repeat' first
    | with_reducible assumption
    | with_reducible refine finish_kept ?_
    | with_reducible refine sliceForce_kept ?_
    | with_reducible refine fldWrite_kept ?_

theorem execSpareKatDone_kept {s₀ : State} {n : Fin 4} {pass : Bool} {s : State} {t : State}
    (h : Kept s₀ s) (e : (execSpareKatDone n pass s) = .next t) : Kept s₀ t := by
  replace e := Host.Outcome.next.inj e
  subst e
  repeat' first
    | with_reducible assumption
    | with_reducible refine finish_kept ?_
    | with_reducible refine katDone_kept ?_

theorem execSpareKatTimer_kept {s₀ : State} {n : Fin 4} {s : State} {t : State}
    (h : Kept s₀ s) (e : (execSpareKatTimer n s) = .next t) : Kept s₀ t := by
  replace e := Host.Outcome.next.inj e
  subst e
  repeat' first
    | with_reducible assumption
    | with_reducible refine finish_kept ?_
    | with_reducible refine katTimer_kept ?_

theorem execTileRecomputeDone_kept {s₀ : State} {n : Fin 4} {slice : Fin 8} {tile : Fin 64} {upsets : List Upset}
    {rawPar : Bool} {shdPar : Fin 3} {s : State} {t : State} (h : Kept s₀ s) (e
    : (execTileRecomputeDone n slice tile upsets rawPar shdPar s) = .next t) : Kept s₀ t := by
  replace e := Host.Outcome.next.inj e
  subst e
  repeat' first
    | with_reducible assumption
    | with_reducible refine finish_kept ?_
    | with_reducible refine tileRecomputeDone_kept ?_

theorem execTileVerdict_kept {s₀ : State} {n : Fin 4} {slice : Fin 8} {tile : Fin 64} {upsets : List Upset} {rawPar : Bool}
    {shdPar : Fin 3} {s : State} {t : State} (h : Kept s₀ s) (e
    : (execTileVerdict n slice tile upsets rawPar shdPar s) = .next t) : Kept s₀ t := by
  replace e := Host.Outcome.next.inj e
  subst e
  repeat' first
    | with_reducible assumption
    | with_reducible refine finish_kept ?_
    | with_reducible refine tileVerdict_kept ?_

/-! ## Machine/LampsCmds.lean. -/

theorem execColourHoldUpdate_kept {s₀ : State} {n : Fin 4} {g : Fin 4} {s : State} {t : State}
    (h : Kept s₀ s) (e : (execColourHoldUpdate n g s) = .next t) : Kept s₀ t := by
  replace e := Host.Outcome.next.inj e
  subst e
  repeat' first
    | with_reducible assumption
    | with_reducible refine finish_kept ?_
    | with_reducible refine holdUpdate_kept ?_

theorem execContinuousSinkCheck_kept {s₀ : State} {n : Fin 4} {sink : Fin 12} {sense : SinkSense} {s : State} {t : State}
    (h : Kept s₀ s) (e : (execContinuousSinkCheck n sink sense s) = .next t) : Kept s₀ t := by
  replace e := Host.Outcome.next.inj e
  subst e
  repeat' first
    | with_reducible assumption
    | with_reducible refine finish_kept ?_
    | with_reducible refine continuousCheck_kept ?_

theorem execHeadroomUpdate_kept {s₀ : State} {n : Fin 4} {s : State} {t : State}
    (h : Kept s₀ s) (e : (execHeadroomUpdate n s) = .next t) : Kept s₀ t := by
  replace e := Host.Outcome.next.inj e
  subst e
  repeat' first
    | with_reducible assumption
    | with_reducible refine finish_kept ?_
    | with_reducible refine headroom_kept ?_

theorem execLampFadestop_kept {s₀ : State} {n : Fin 4} {s : State} {t : State}
    (h : Kept s₀ s) (e : (execLampFadestop n s) = .next t) : Kept s₀ t := by
  replace e := Host.Outcome.next.inj e
  subst e
  repeat' first
    | with_reducible assumption
    | with_reducible refine finish_kept ?_
    | with_reducible refine showLamp_kept ?_
    | with_reducible refine fadeStop_kept ?_

theorem execLampFaultClear_kept {s₀ : State} {n : Fin 4} {bits : Word} {s : State} {t : State}
    (h : Kept s₀ s) (e : (execLampFaultClear n bits s) = .next t) : Kept s₀ t := by
  replace e := Host.Outcome.next.inj e
  subst e
  repeat' first
    | with_reducible assumption
    | with_reducible refine finish_kept ?_
    | with_reducible refine lampFaultClear_kept ?_

theorem execLampInternalMark_kept {s₀ : State} {n : Fin 4} {s : State} {t : State}
    (h : Kept s₀ s) (e : (execLampInternalMark n s) = .next t) : Kept s₀ t := by
  replace e := Host.Outcome.next.inj e
  subst e
  repeat' first
    | with_reducible assumption
    | with_reducible refine finish_kept ?_
    | with_reducible refine internalMark_kept ?_

theorem execLampLevelWrite_kept {s₀ : State} {n : Fin 4} {g : Fin 4} {level : BitVec 16} {fade : BitVec 16} {s : State}
    {t : State} (h : Kept s₀ s) (e : (execLampLevelWrite n g level fade s) = .next t) : Kept s₀ t := by
  replace e := Host.Outcome.next.inj e
  subst e
  repeat' first
    | with_reducible assumption
    | with_reducible refine finish_kept ?_
    | with_reducible refine levelWrite_kept ?_

theorem execLampOffWrite_kept {s₀ : State} {n : Fin 4} {off : Bool} {s : State} {t : State}
    (h : Kept s₀ s) (e : (execLampOffWrite n off s) = .next t) : Kept s₀ t := by
  replace e := Host.Outcome.next.inj e
  subst e
  repeat' first
    | with_reducible assumption
    | with_reducible refine finish_kept ?_
    | with_reducible refine fldWrite_kept ?_

theorem execLampTempSample_kept {s₀ : State} {n : Fin 4} {theta : Option (BitVec 16)} {s : State} {t : State}
    (h : Kept s₀ s) (e : (execLampTempSample n theta s) = .next t) : Kept s₀ t := by
  replace e := Host.Outcome.next.inj e
  subst e
  repeat' first
    | with_reducible assumption
    | with_reducible refine finish_kept ?_
    | with_reducible refine lampTemp_kept ?_

theorem execLdSyncEdge_kept {s₀ : State} {s : State} {t : State} (h : Kept s₀ s) (e : (execLdSyncEdge s) = .next t) :
    Kept s₀ t := by
  replace e := Host.Outcome.next.inj e
  subst e
  repeat' first
    | with_reducible assumption
    | with_reducible refine finish_kept ?_
    | with_reducible refine ldSyncPin_kept ?_

theorem execLdSyncPulse_kept {s₀ : State} {out : Bool} {s : State} {t : State}
    (h : Kept s₀ s) (e : (execLdSyncPulse out s) = .next t) : Kept s₀ t := by
  replace e := Host.Outcome.next.inj e
  subst e
  repeat' first
    | with_reducible assumption
    | with_reducible refine finish_kept ?_
    | with_reducible refine ldSyncPulse_kept ?_
    | with_reducible refine fldWrite_kept ?_

theorem execLdSyncPulseEnd_kept {s₀ : State} {s : State} {t : State}
    (h : Kept s₀ s) (e : (execLdSyncPulseEnd s) = .next t) : Kept s₀ t := by
  replace e := Host.Outcome.next.inj e
  subst e
  repeat' first
    | with_reducible assumption
    | with_reducible refine finish_kept ?_
    | with_reducible refine ldSyncPulseEnd_kept ?_

theorem execLmpClrcnt_kept {s₀ : State} {n : Fin 4} {s : State} {t : State}
    (h : Kept s₀ s) (e : (execLmpClrcnt n s) = .next t) : Kept s₀ t := by
  replace e := Host.Outcome.next.inj e
  subst e
  repeat' first
    | with_reducible assumption
    | with_reducible refine finish_kept ?_
    | with_reducible refine State.clear_kept ?_

theorem execSinkSelfTestDone_kept {s₀ : State} {n : Fin 4} {sink : Fin 12} {regulates : Bool} {s : State} {t : State}
    (h : Kept s₀ s) (e : (execSinkSelfTestDone n sink regulates s) = .next t) : Kept s₀ t := by
  replace e := Host.Outcome.next.inj e
  subst e
  repeat' first
    | with_reducible assumption
    | with_reducible refine finish_kept ?_
    | with_reducible refine selfTestDone_kept ?_

/-! ## Machine/MotionCmds.lean. -/

theorem execAxisClrflt_kept {s₀ : State} {n : Fin 4} {a : Fin 4} {s : State} {t : State}
    (h : Kept s₀ s) (e : (execAxisClrflt n a s) = .next t) : Kept s₀ t := by
  replace e := Host.Outcome.next.inj e
  subst e
  repeat' first
    | with_reducible assumption
    | with_reducible refine finish_kept ?_
    | with_reducible refine axisShow_kept ?_
    | with_reducible refine axisClrFlt_kept ?_

theorem execAxisEstop_kept {s₀ : State} {n : Fin 4} {a : Fin 4} {s : State} {t : State}
    (h : Kept s₀ s) (e : (execAxisEstop n a s) = .next t) : Kept s₀ t := by
  replace e := Host.Outcome.next.inj e
  subst e
  repeat' first
    | with_reducible assumption
    | with_reducible refine finish_kept ?_
    | with_reducible refine axisShow_kept ?_
    | with_reducible refine axisEstop_kept ?_

theorem execAxisGo_kept {s₀ : State} {n : Fin 4} {a : Fin 4} {rel : Bool} {s : State} {t : State}
    (h : Kept s₀ s) (e : (execAxisGo n a rel s) = .next t) : Kept s₀ t := by
  replace e := Host.Outcome.next.inj e
  subst e
  repeat' first
    | with_reducible assumption
    | with_reducible refine finish_kept ?_
    | with_reducible refine axisGoNow_kept ?_
    | with_reducible refine fldWrite_kept ?_

theorem execAxisHalt_kept {s₀ : State} {n : Fin 4} {a : Fin 4} {s : State} {t : State}
    (h : Kept s₀ s) (e : (execAxisHalt n a s) = .next t) : Kept s₀ t := by
  replace e := Host.Outcome.next.inj e
  subst e
  repeat' first
    | with_reducible assumption
    | with_reducible refine finish_kept ?_
    | with_reducible refine axisShow_kept ?_
    | with_reducible refine axisHalt_kept ?_

theorem execAxisHome_kept {s₀ : State} {n : Fin 4} {a : Fin 4} {s : State} {t : State}
    (h : Kept s₀ s) (e : (execAxisHome n a s) = .next t) : Kept s₀ t := by
  replace e := Host.Outcome.next.inj e
  subst e
  repeat' first
    | with_reducible assumption
    | with_reducible refine finish_kept ?_
    | with_reducible refine axisShow_kept ?_
    | with_reducible refine axisHome_kept ?_

theorem execMotClrcnt_kept {s₀ : State} {n : Fin 4} {s : State} {t : State}
    (h : Kept s₀ s) (e : (execMotClrcnt n s) = .next t) : Kept s₀ t := by
  replace e := Host.Outcome.next.inj e
  subst e
  repeat' first
    | with_reducible assumption
    | with_reducible refine finish_kept ?_
    | with_reducible refine State.clear_kept ?_

theorem execMotEstopall_kept {s₀ : State} {n : Fin 4} {s : State} {t : State}
    (h : Kept s₀ s) (e : (execMotEstopall n s) = .next t) : Kept s₀ t := by
  replace e := Host.Outcome.next.inj e
  subst e
  repeat' first
    | with_reducible assumption
    | with_reducible refine finish_kept ?_
    | with_reducible refine motShow_kept ?_
    | with_reducible refine estopAll_kept ?_

theorem execMotGo_kept {s₀ : State} {n : Fin 4} {mask : BitVec 4} {s : State} {t : State}
    (h : Kept s₀ s) (e : (execMotGo n mask s) = .next t) : Kept s₀ t := by
  replace e := Host.Outcome.next.inj e
  subst e
  repeat' first
    | with_reducible assumption
    | with_reducible refine finish_kept ?_
    | with_reducible refine motShow_kept ?_
    | with_reducible refine groupGo_kept ?_
    | with_reducible refine fldWrite_kept ?_

theorem execMotHaltall_kept {s₀ : State} {n : Fin 4} {s : State} {t : State}
    (h : Kept s₀ s) (e : (execMotHaltall n s) = .next t) : Kept s₀ t := by
  replace e := Host.Outcome.next.inj e
  subst e
  repeat' first
    | with_reducible assumption
    | with_reducible refine finish_kept ?_
    | with_reducible refine motShow_kept ?_
    | with_reducible refine haltAll_kept ?_

theorem execMotionParamWrite_kept {s₀ : State} {n : Fin 4} {a : Fin 4} {param : Fin 8} {value : Word} {s : State} {t : State}
    (h : Kept s₀ s) (e : (execMotionParamWrite n a param value s) = .next t) : Kept s₀ t := by
  replace e := Host.Outcome.next.inj e
  subst e
  repeat' first
    | with_reducible assumption
    | with_reducible refine finish_kept ?_
    | with_reducible refine axisParamPut_kept ?_

theorem execPwmPeriod_kept {s₀ : State} {n : Fin 4} {a : Fin 4} {s : State} {t : State}
    (h : Kept s₀ s) (e : (execPwmPeriod n a s) = .next t) : Kept s₀ t := by
  replace e := Host.Outcome.next.inj e
  subst e
  repeat' first
    | with_reducible assumption
    | with_reducible refine finish_kept ?_
    | with_reducible refine monTriggerSrc_kept ?_
    | with_reducible refine pwmPeriod_kept ?_

theorem execRampTick_kept {s₀ : State} {n : Fin 4} {s : State} {t : State}
    (h : Kept s₀ s) (e : (execRampTick n s) = .next t) : Kept s₀ t := by
  replace e := Host.Outcome.next.inj e
  subst e
  repeat' first
    | with_reducible assumption
    | with_reducible refine finish_kept ?_
    | with_reducible refine motWatch_kept ?_
    | with_reducible refine rampTick_kept ?_

theorem execStepSumCheck_kept {s₀ : State} {errs : List (Fin 4 × Fin 4 × ℤ)} {s : State} {t : State}
    (h : Kept s₀ s) (e : (execStepSumCheck errs s) = .next t) : Kept s₀ t := by
  replace e := Host.Outcome.next.inj e
  subst e
  repeat' first
    | with_reducible assumption
    | with_reducible refine finish_kept ?_
    | with_reducible refine stepSums_kept ?_

/-! ## Machine/FifoCmds.lean. -/

theorem execDtResume_kept {s₀ : State} {n : Fin 4} {s : State} {t : State}
    (h : Kept s₀ s) (e : (execDtResume n s) = .next t) : Kept s₀ t := by
  replace e := Host.Outcome.next.inj e
  subst e
  repeat' first
    | with_reducible assumption
    | with_reducible refine finish_kept ?_
    | with_reducible refine motWatch_kept ?_
    | with_reducible refine dtResume_kept ?_

theorem execDtStop_kept {s₀ : State} {n : Fin 4} {s : State} {t : State}
    (h : Kept s₀ s) (e : (execDtStop n s) = .next t) : Kept s₀ t := by
  replace e := Host.Outcome.next.inj e
  subst e
  repeat' first
    | with_reducible assumption
    | with_reducible refine finish_kept ?_
    | with_reducible refine motWatch_kept ?_
    | with_reducible refine dtStop_kept ?_

theorem execFifoClrcnt_kept {s₀ : State} {n : Fin 4} {s : State} {t : State}
    (h : Kept s₀ s) (e : (execFifoClrcnt n s) = .next t) : Kept s₀ t := by
  replace e := Host.Outcome.next.inj e
  subst e
  repeat' first
    | with_reducible assumption
    | with_reducible refine finish_kept ?_
    | with_reducible refine State.clear_kept ?_

theorem execFifoFlush_kept {s₀ : State} {n : Fin 4} {s : State} {t : State}
    (h : Kept s₀ s) (e : (execFifoFlush n s) = .next t) : Kept s₀ t := by
  replace e := Host.Outcome.next.inj e
  subst e
  repeat' first
    | with_reducible assumption
    | with_reducible refine finish_kept ?_
    | with_reducible refine fifoFlush_kept ?_

theorem execFifoReadRequest_kept {s₀ : State} {n : Fin 4} {bad : SramBad} {s : State} {t : State}
    (h : Kept s₀ s) (e : (execFifoReadRequest n bad s) = .next t) : Kept s₀ t := by
  replace e := Host.Outcome.next.inj e
  subst e
  repeat' first
    | with_reducible assumption
    | with_reducible refine finish_kept ?_
    | with_reducible refine readRequest_kept ?_

theorem execJoinResult_kept {s₀ : State} {n : Fin 4} {s : State} {t : State}
    (h : Kept s₀ s) (e : (execJoinResult n s) = .next t) : Kept s₀ t := by
  replace e := Host.Outcome.next.inj e
  subst e
  repeat' first
    | with_reducible assumption
    | with_reducible refine finish_kept ?_
    | with_reducible refine joinDone_kept ?_

theorem execPaceUpdate_kept {s₀ : State} {n : Fin 4} {s : State} {t : State}
    (h : Kept s₀ s) (e : (execPaceUpdate n s) = .next t) : Kept s₀ t := by
  replace e := Host.Outcome.next.inj e
  subst e
  repeat' first
    | with_reducible assumption
    | with_reducible refine finish_kept ?_
    | with_reducible refine paceUpdate_kept ?_

theorem execSpillReadDone_kept {s₀ : State} {n : Fin 4} {bad : SpillBad} {s : State} {t : State}
    (h : Kept s₀ s) (e : (execSpillReadDone n bad s) = .next t) : Kept s₀ t := by
  replace e := Host.Outcome.next.inj e
  subst e
  repeat' first
    | with_reducible assumption
    | with_reducible refine finish_kept ?_
    | with_reducible refine spillRead_kept ?_

theorem execSpillWriteDone_kept {s₀ : State} {n : Fin 4} {s : State} {t : State}
    (h : Kept s₀ s) (e : (execSpillWriteDone n s) = .next t) : Kept s₀ t := by
  replace e := Host.Outcome.next.inj e
  subst e
  repeat' first
    | with_reducible assumption
    | with_reducible refine finish_kept ?_
    | with_reducible refine spillWrite_kept ?_

theorem execStopPadding_kept {s₀ : State} {n : Fin 4} {s : State} {t : State}
    (h : Kept s₀ s) (e : (execStopPadding n s) = .next t) : Kept s₀ t := by
  replace e := Host.Outcome.next.inj e
  subst e
  repeat' first
    | with_reducible assumption
    | with_reducible refine finish_kept ?_
    | with_reducible refine stopPadding_kept ?_

theorem execTailToHeadMove_kept {s₀ : State} {n : Fin 4} {s : State} {t : State}
    (h : Kept s₀ s) (e : (execTailToHeadMove n s) = .next t) : Kept s₀ t := by
  replace e := Host.Outcome.next.inj e
  subst e
  repeat' first
    | with_reducible assumption
    | with_reducible refine finish_kept ?_
    | with_reducible refine tailToHead_kept ?_

/-! ## Machine/CalibrationCmds.lean. -/

theorem execCalAbort_kept {s₀ : State} {n : Fin 4} {s : State} {t : State}
    (h : Kept s₀ s) (e : (execCalAbort n s) = .next t) : Kept s₀ t := by
  replace e := Host.Outcome.next.inj e
  subst e
  repeat' first
    | with_reducible assumption
    | with_reducible refine finish_kept ?_
    | with_reducible refine calAbortNow_kept ?_

theorem execCalAutoStart_kept {s₀ : State} {n : Fin 4} {s : State} {t : State}
    (h : Kept s₀ s) (e : (execCalAutoStart n s) = .next t) : Kept s₀ t := by
  replace e := Host.Outcome.next.inj e
  subst e
  repeat' first
    | with_reducible assumption
    | with_reducible refine finish_kept ?_
    | with_reducible refine seqStart_kept ?_
    | with_reducible refine Kept.ite ?_ ?_

theorem execCalClrcnt_kept {s₀ : State} {n : Fin 4} {s : State} {t : State}
    (h : Kept s₀ s) (e : (execCalClrcnt n s) = .next t) : Kept s₀ t := by
  replace e := Host.Outcome.next.inj e
  subst e
  repeat' first
    | with_reducible assumption
    | with_reducible refine finish_kept ?_
    | with_reducible refine State.clear_kept ?_

theorem execCalEval_kept {s₀ : State} {n : Fin 4} {s : State} {t : State}
    (h : Kept s₀ s) (e : (execCalEval n s) = .next t) : Kept s₀ t := by
  replace e := Host.Outcome.next.inj e
  subst e
  repeat' first
    | with_reducible assumption
    | with_reducible refine finish_kept ?_
    | with_reducible refine calEval_kept ?_

theorem execCalEvalDone_kept {s₀ : State} {n : Fin 4} {again : ℕ} {stop : Option ℕ} {s : State} {t : State}
    (h : Kept s₀ s) (e : (execCalEvalDone n again stop s) = .next t) : Kept s₀ t := by
  replace e := Host.Outcome.next.inj e
  subst e
  repeat' first
    | with_reducible assumption
    | with_reducible refine finish_kept ?_
    | with_reducible refine calEvalDone_kept ?_

theorem execCalGapClose_kept {s₀ : State} {n : Fin 4} {s : State} {t : State}
    (h : Kept s₀ s) (e : (execCalGapClose n s) = .next t) : Kept s₀ t := by
  replace e := Host.Outcome.next.inj e
  subst e
  repeat' first
    | with_reducible assumption
    | with_reducible refine finish_kept ?_
    | with_reducible refine calGapClose_kept ?_

theorem execCalLoad_kept {s₀ : State} {n : Fin 4} {slot : Fin 16} {s : State} {t : State}
    (h : Kept s₀ s) (e : (execCalLoad n slot s) = .next t) : Kept s₀ t := by
  replace e := Host.Outcome.next.inj e
  subst e
  repeat' first
    | with_reducible assumption
    | with_reducible refine finish_kept ?_
    | with_reducible refine calLoad_kept ?_
    | with_reducible refine fldWrite_kept ?_

theorem execCalStart_kept {s₀ : State} {n : Fin 4} {s : State} {t : State}
    (h : Kept s₀ s) (e : (execCalStart n s) = .next t) : Kept s₀ t := by
  replace e := Host.Outcome.next.inj e
  subst e
  repeat' first
    | with_reducible assumption
    | with_reducible refine finish_kept ?_
    | with_reducible refine calStartNow_kept ?_

theorem execCalStore_kept {s₀ : State} {n : Fin 4} {s : State} {t : State}
    (h : Kept s₀ s) (e : (execCalStore n s) = .next t) : Kept s₀ t := by
  replace e := Host.Outcome.next.inj e
  subst e
  repeat' first
    | with_reducible assumption
    | with_reducible refine finish_kept ?_
    | with_reducible refine calStore_kept ?_

theorem execCalTempRead_kept {s₀ : State} {n : Fin 4} {s : State} {t : State}
    (h : Kept s₀ s) (e : (execCalTempRead n s) = .next t) : Kept s₀ t := by
  replace e := Host.Outcome.next.inj e
  subst e
  repeat' first
    | with_reducible assumption
    | with_reducible refine finish_kept ?_
    | with_reducible refine calTemp_kept ?_

theorem execCaptureDone_kept {s₀ : State} {n : Fin 4} {s : State} {t : State}
    (h : Kept s₀ s) (e : (execCaptureDone n s) = .next t) : Kept s₀ t := by
  replace e := Host.Outcome.next.inj e
  subst e
  repeat' first
    | with_reducible assumption
    | with_reducible refine finish_kept ?_
    | with_reducible refine captureDone_kept ?_

theorem execCaptureInternalTrigger_kept {s₀ : State} {n : Fin 4} {s : State} {t : State}
    (h : Kept s₀ s) (e : (execCaptureInternalTrigger n s) = .next t) : Kept s₀ t := by
  replace e := Host.Outcome.next.inj e
  subst e
  repeat' first
    | with_reducible assumption
    | with_reducible refine finish_kept ?_
    | with_reducible refine captureTrigger_kept ?_

theorem execProfileCopyDone_kept {s₀ : State} {n : Fin 4} {s : State} {t : State}
    (h : Kept s₀ s) (e : (execProfileCopyDone n s) = .next t) : Kept s₀ t := by
  replace e := Host.Outcome.next.inj e
  subst e
  repeat' first
    | with_reducible assumption
    | with_reducible refine finish_kept ?_
    | with_reducible refine profileCopyDone_kept ?_

/-! ## Machine/DmaCmds.lean. -/

theorem execBarrierComplete_kept {s₀ : State} {q : Fin 16} {s : State} {t : State}
    (h : Kept s₀ s) (e : (execBarrierComplete q s) = .next t) : Kept s₀ t := by
  replace e := Host.Outcome.next.inj e
  subst e
  repeat' first
    | with_reducible assumption
    | with_reducible refine finish_kept ?_
    | with_reducible refine barrierDone_kept ?_
    | with_reducible refine retryCount_kept ?_

theorem execBusMasterEnableChange_kept {s₀ : State} {bme : Bool} {mse : Bool} {d3hot : Bool} {bars : CfgBars} {dev : CfgDev}
    {msix : CfgMsix} {s : State} {t : State} (h : Kept s₀ s) (e
    : (execBusMasterEnableChange bme mse d3hot bars dev msix s) = .next t) : Kept s₀ t := by
  replace e := Host.Outcome.next.inj e
  subst e
  repeat' first
    | with_reducible assumption
    | with_reducible refine finish_kept ?_
    | with_reducible refine configWrite_kept ?_

theorem execCoalTimer_kept {s₀ : State} {q : Fin 16} {s : State} {t : State}
    (h : Kept s₀ s) (e : (execCoalTimer q s) = .next t) : Kept s₀ t := by
  replace e := Host.Outcome.next.inj e
  subst e
  repeat' first
    | with_reducible assumption
    | with_reducible refine finish_kept ?_
    | with_reducible refine coalTimer_kept ?_

theorem execCrheadWrite_kept {s₀ : State} {q : Fin 16} {slot : BitVec 16} {s : State} {t : State}
    (h : Kept s₀ s) (e : (execCrheadWrite q slot s) = .next t) : Kept s₀ t := by
  replace e := Host.Outcome.next.inj e
  subst e
  repeat' first
    | with_reducible assumption
    | with_reducible refine finish_kept ?_
    | with_reducible refine crheadWrite_kept ?_

theorem execDescriptorFetchDone_kept {s₀ : State} {q : Fin 16} {bytes : List Byte} {s : State} {t : State}
    (h : Kept s₀ s) (e : (execDescriptorFetchDone q bytes s) = .next t) : Kept s₀ t := by
  replace e := Host.Outcome.next.inj e
  subst e
  repeat' first
    | with_reducible assumption
    | with_reducible refine finish_kept ?_
    | with_reducible refine descArrive_kept ?_
    | with_reducible refine retryCount_kept ?_

theorem execDmaAbort_kept {s₀ : State} {q : Fin 16} {s : State} {t : State}
    (h : Kept s₀ s) (e : (execDmaAbort q s) = .next t) : Kept s₀ t := by
  replace e := Host.Outcome.next.inj e
  subst e
  repeat' first
    | with_reducible assumption
    | with_reducible refine finish_kept ?_
    | with_reducible refine dmaAbort_kept ?_

theorem execDmaBeatArbitration_kept {s₀ : State} {s : State} {t : State}
    (h : Kept s₀ s) (e : (execDmaBeatArbitration s) = .next t) : Kept s₀ t := by
  replace e := Host.Outcome.next.inj e
  subst e
  repeat' first
    | with_reducible assumption
    | with_reducible refine finish_kept ?_
    | with_reducible refine beatArbitration_kept ?_

theorem execDmaBurst_kept {s₀ : State} {q : Fin 16} {s : State} {t : State}
    (h : Kept s₀ s) (e : (execDmaBurst q s) = .next t) : Kept s₀ t := by
  replace e := Host.Outcome.next.inj e
  subst e
  repeat' first
    | with_reducible assumption
    | with_reducible refine finish_kept ?_
    | with_reducible refine dmaBurst_kept ?_

theorem execDmaClrcnt_kept {s₀ : State} {q : Fin 16} {s : State} {t : State}
    (h : Kept s₀ s) (e : (execDmaClrcnt q s) = .next t) : Kept s₀ t := by
  replace e := Host.Outcome.next.inj e
  subst e
  repeat' first
    | with_reducible assumption
    | with_reducible refine finish_kept ?_
    | with_reducible refine State.clear_kept ?_

theorem execDmaDoorbell_kept {s₀ : State} {q : Fin 16} {s : State} {t : State}
    (h : Kept s₀ s) (e : (execDmaDoorbell q s) = .next t) : Kept s₀ t := by
  replace e := Host.Outcome.next.inj e
  subst e
  repeat' first
    | with_reducible assumption
    | with_reducible refine finish_kept ?_
    | with_reducible refine doorbell_kept ?_

theorem execDmaGo_kept {s₀ : State} {q : Fin 16} {s : State} {t : State} (h : Kept s₀ s) (e : (execDmaGo q s) = .next t) :
    Kept s₀ t := by
  replace e := Host.Outcome.next.inj e
  subst e
  repeat' first
    | with_reducible assumption
    | with_reducible refine finish_kept ?_
    | with_reducible refine dmaGo_kept ?_

theorem execDmaPause_kept {s₀ : State} {q : Fin 16} {s : State} {t : State}
    (h : Kept s₀ s) (e : (execDmaPause q s) = .next t) : Kept s₀ t := by
  replace e := Host.Outcome.next.inj e
  subst e
  repeat' first
    | with_reducible assumption
    | with_reducible refine finish_kept ?_
    | with_reducible refine dmaPause_kept ?_

theorem execDmaReadCompletion_kept {s₀ : State} {q : Fin 16} {bytes : List Byte} {s : State} {t : State}
    (h : Kept s₀ s) (e : (execDmaReadCompletion q bytes s) = .next t) : Kept s₀ t := by
  replace e := Host.Outcome.next.inj e
  subst e
  repeat' first
    | with_reducible assumption
    | with_reducible refine finish_kept ?_
    | with_reducible refine dataArrive_kept ?_
    | with_reducible refine retryCount_kept ?_

theorem execDmaReadFail_kept {s₀ : State} {q : Fin 16} {what : ReadWhat} {cause : Fin 4} {s : State} {t : State}
    (h : Kept s₀ s) (e : (execDmaReadFail q what cause s) = .next t) : Kept s₀ t := by
  replace e := Host.Outcome.next.inj e
  subst e
  repeat' first
    | with_reducible assumption
    | with_reducible refine finish_kept ?_
    | with_reducible refine readFail_kept ?_

theorem execDmaResume_kept {s₀ : State} {q : Fin 16} {s : State} {t : State}
    (h : Kept s₀ s) (e : (execDmaResume q s) = .next t) : Kept s₀ t := by
  replace e := Host.Outcome.next.inj e
  subst e
  repeat' first
    | with_reducible assumption
    | with_reducible refine finish_kept ?_
    | with_reducible refine dmaResume_kept ?_

theorem execDmaRetryBackoff_kept {s₀ : State} {q : Fin 16} {s : State} {t : State}
    (h : Kept s₀ s) (e : (execDmaRetryBackoff q s) = .next t) : Kept s₀ t := by
  replace e := Host.Outcome.next.inj e
  subst e
  repeat' first
    | with_reducible assumption
    | with_reducible refine finish_kept ?_
    | with_reducible refine retryNow_kept ?_

theorem execDmaStart_kept {s₀ : State} {q : Fin 16} {s : State} {t : State}
    (h : Kept s₀ s) (e : (execDmaStart q s) = .next t) : Kept s₀ t := by
  replace e := Host.Outcome.next.inj e
  subst e
  repeat' first
    | with_reducible assumption
    | with_reducible refine finish_kept ?_
    | with_reducible refine dmaStart_kept ?_

theorem execDmaUnpause_kept {s₀ : State} {q : Fin 16} {s : State} {t : State}
    (h : Kept s₀ s) (e : (execDmaUnpause q s) = .next t) : Kept s₀ t := by
  replace e := Host.Outcome.next.inj e
  subst e
  repeat' first
    | with_reducible assumption
    | with_reducible refine finish_kept ?_
    | with_reducible refine dmaPause_kept ?_

theorem execPcieAerError_kept {s₀ : State} {corr : Bool} {s : State} {t : State}
    (h : Kept s₀ s) (e : (execPcieAerError corr s) = .next t) : Kept s₀ t := by
  replace e := Host.Outcome.next.inj e
  subst e
  repeat' first
    | with_reducible assumption
    | with_reducible refine finish_kept ?_
    | with_reducible refine State.raise_kept ?_

theorem execPcieLinkChange_kept {s₀ : State} {up : Bool} {speed : Fin 7} {width : Fin 17} {flit : Bool} {s : State}
    {t : State} (h : Kept s₀ s) (e : (execPcieLinkChange up speed width flit s) = .next t) : Kept s₀ t := by
  replace e := Host.Outcome.next.inj e
  subst e
  repeat' first
    | with_reducible assumption
    | with_reducible refine finish_kept ?_
    | with_reducible refine linkChange_kept ?_

theorem execSglFetchDone_kept {s₀ : State} {q : Fin 16} {bytes : List Byte} {s : State} {t : State}
    (h : Kept s₀ s) (e : (execSglFetchDone q bytes s) = .next t) : Kept s₀ t := by
  replace e := Host.Outcome.next.inj e
  subst e
  repeat' first
    | with_reducible assumption
    | with_reducible refine finish_kept ?_
    | with_reducible refine sglArrive_kept ?_
    | with_reducible refine retryCount_kept ?_

/-! ## Machine/DramCmds.lean. -/

theorem execDramAgePromote_kept {s₀ : State} {k : Fin 4} {s : State} {t : State}
    (h : Kept s₀ s) (e : (execDramAgePromote k s) = .next t) : Kept s₀ t := by
  replace e := Host.Outcome.next.inj e
  subst e
  repeat' first
    | with_reducible assumption
    | with_reducible refine finish_kept ?_
    | with_reducible refine drcPromote_kept ?_

theorem execDramMr4Read_kept {s₀ : State} {k : Fin 4} {rank : Fin 2} {mr4 : BitVec 8} {double : Bool} {beyond : Bool}
    {s : State} {t : State} (h : Kept s₀ s) (e : (execDramMr4Read k rank mr4 double beyond s) = .next t) : Kept s₀ t := by
  replace e := Host.Outcome.next.inj e
  subst e
  repeat' first
    | with_reducible assumption
    | with_reducible refine finish_kept ?_
    | with_reducible refine drcMr4_kept ?_

theorem execDramPeriodicTrain_kept {s₀ : State} {k : Fin 4} {s : State} {t : State}
    (h : Kept s₀ s) (e : (execDramPeriodicTrain k s) = .next t) : Kept s₀ t := by
  replace e := Host.Outcome.next.inj e
  subst e
  repeat' first
    | with_reducible assumption
    | with_reducible refine finish_kept ?_
    | with_reducible refine drcTrain_kept ?_
    | with_reducible refine Kept.ite ?_ ?_

theorem execDramReadReturn_kept {s₀ : State} {k : Fin 4} {addr : ℕ} {reads : BurstReads} {s : State} {t : State}
    (h : Kept s₀ s) (e : (execDramReadReturn k addr reads s) = .next t) : Kept s₀ t := by
  replace e := Host.Outcome.next.inj e
  subst e
  repeat' first
    | with_reducible assumption
    | with_reducible refine finish_kept ?_
    | with_reducible refine drcReadReturn_kept ?_

theorem execDramRefresh_kept {s₀ : State} {k : Fin 4} {bank : Fin 128} {s : State} {t : State}
    (h : Kept s₀ s) (e : (execDramRefresh k bank s) = .next t) : Kept s₀ t := by
  replace e := Host.Outcome.next.inj e
  subst e
  repeat' first
    | with_reducible assumption
    | with_reducible refine finish_kept ?_
    | with_reducible refine drcRefresh_kept ?_

theorem execDramSchedule_kept {s₀ : State} {k : Fin 4} {asks : List DrcAsk} {busy : List ℕ} {s : State} {t : State}
    (h : Kept s₀ s) (e : (execDramSchedule k asks busy s) = .next t) : Kept s₀ t := by
  replace e := Host.Outcome.next.inj e
  subst e
  repeat' first
    | with_reducible assumption
    | with_reducible refine finish_kept ?_
    | with_reducible refine drcSchedule_kept ?_

theorem execDrcClrcnt_kept {s₀ : State} {k : Fin 4} {s : State} {t : State}
    (h : Kept s₀ s) (e : (execDrcClrcnt k s) = .next t) : Kept s₀ t := by
  replace e := Host.Outcome.next.inj e
  subst e
  repeat' first
    | with_reducible assumption
    | with_reducible refine finish_kept ?_
    | with_reducible refine State.clear_kept ?_

theorem execDrcPprnow_kept {s₀ : State} {k : Fin 4} {s : State} {t : State}
    (h : Kept s₀ s) (e : (execDrcPprnow k s) = .next t) : Kept s₀ t := by
  replace e := Host.Outcome.next.inj e
  subst e
  repeat' first
    | with_reducible assumption
    | with_reducible refine finish_kept ?_
    | with_reducible refine drcPprNow_kept ?_

theorem execDrcRetrain_kept {s₀ : State} {k : Fin 4} {s : State} {t : State}
    (h : Kept s₀ s) (e : (execDrcRetrain k s) = .next t) : Kept s₀ t := by
  replace e := Host.Outcome.next.inj e
  subst e
  repeat' first
    | with_reducible assumption
    | with_reducible refine finish_kept ?_
    | with_reducible refine drcTrain_kept ?_

theorem execPprWindowEnd_kept {s₀ : State} {k : Fin 4} {oks : List Bool} {s : State} {t : State}
    (h : Kept s₀ s) (e : (execPprWindowEnd k oks s) = .next t) : Kept s₀ t := by
  replace e := Host.Outcome.next.inj e
  subst e
  repeat' first
    | with_reducible assumption
    | with_reducible refine finish_kept ?_
    | with_reducible refine pprWindowEnd_kept ?_

theorem execRhWindowClear_kept {s₀ : State} {k : Fin 4} {s : State} {t : State}
    (h : Kept s₀ s) (e : (execRhWindowClear k s) = .next t) : Kept s₀ t := by
  replace e := Host.Outcome.next.inj e
  subst e
  repeat' first
    | with_reducible assumption
    | with_reducible refine finish_kept ?_
    | with_reducible refine rhClear_kept ?_

/-! ## Machine/MonitorCmds.lean. -/

theorem execMainsSyncEdge_kept {s₀ : State} {s : State} {t : State}
    (h : Kept s₀ s) (e : (execMainsSyncEdge s) = .next t) : Kept s₀ t := by
  replace e := Host.Outcome.next.inj e
  subst e
  repeat' first
    | with_reducible assumption
    | with_reducible refine finish_kept ?_
    | with_reducible refine mainsEdge_kept ?_

theorem execMainsTimeout_kept {s₀ : State} {s : State} {t : State} (h : Kept s₀ s) (e : (execMainsTimeout s) = .next t) :
    Kept s₀ t := by
  replace e := Host.Outcome.next.inj e
  subst e
  repeat' first
    | with_reducible assumption
    | with_reducible refine finish_kept ?_
    | with_reducible refine mainsTimeout_kept ?_

theorem execMonClrcnt_kept {s₀ : State} {s : State} {t : State} (h : Kept s₀ s) (e : (execMonClrcnt s) = .next t) :
    Kept s₀ t := by
  replace e := Host.Outcome.next.inj e
  subst e
  repeat' first
    | with_reducible assumption
    | with_reducible refine finish_kept ?_
    | with_reducible refine State.clear_kept ?_

theorem execMonConversionEnd_kept {s₀ : State} {c : Fin 2} {count : ConvCount} {s : State} {t : State}
    (h : Kept s₀ s) (e : (execMonConversionEnd c count s) = .next t) : Kept s₀ t := by
  replace e := Host.Outcome.next.inj e
  subst e
  repeat' first
    | with_reducible assumption
    | with_reducible refine finish_kept ?_
    | with_reducible refine monConversionEnd_kept ?_

theorem execMonDiagTimer_kept {s₀ : State} {s : State} {t : State} (h : Kept s₀ s) (e : (execMonDiagTimer s) = .next t) :
    Kept s₀ t := by
  replace e := Host.Outcome.next.inj e
  subst e
  repeat' first
    | with_reducible assumption
    | with_reducible refine finish_kept ?_
    | with_reducible refine monDiag_kept ?_
    | with_reducible refine Kept.ite ?_ ?_

theorem execMonDiagnow_kept {s₀ : State} {s : State} {t : State} (h : Kept s₀ s) (e : (execMonDiagnow s) = .next t) :
    Kept s₀ t := by
  replace e := Host.Outcome.next.inj e
  subst e
  repeat' first
    | with_reducible assumption
    | with_reducible refine finish_kept ?_
    | with_reducible refine monDiag_kept ?_

theorem execMonInjDue_kept {s₀ : State} {s : State} {t : State} (h : Kept s₀ s) (e : (execMonInjDue s) = .next t) :
    Kept s₀ t := by
  replace e := Host.Outcome.next.inj e
  subst e
  repeat' first
    | with_reducible assumption
    | with_reducible refine finish_kept ?_
    | with_reducible refine monInjDue_kept ?_

theorem execMonInjGo_kept {s₀ : State} {s : State} {t : State} (h : Kept s₀ s) (e : (execMonInjGo s) = .next t) :
    Kept s₀ t := by
  replace e := Host.Outcome.next.inj e
  subst e
  repeat' first
    | with_reducible assumption
    | with_reducible refine finish_kept ?_
    | with_reducible refine monTriggerSrc_kept ?_

theorem execMonInjTimer_kept {s₀ : State} {s : State} {t : State} (h : Kept s₀ s) (e : (execMonInjTimer s) = .next t) :
    Kept s₀ t := by
  replace e := Host.Outcome.next.inj e
  subst e
  repeat' first
    | with_reducible assumption
    | with_reducible refine finish_kept ?_
    | with_reducible refine monTriggerSrc_kept ?_

theorem execMonRunClear_kept {s₀ : State} {s : State} {t : State} (h : Kept s₀ s) (e : (execMonRunClear s) = .next t) :
    Kept s₀ t := by
  replace e := Host.Outcome.next.inj e
  subst e
  repeat' first
    | with_reducible assumption
    | with_reducible refine finish_kept ?_
    | with_reducible refine fldWrite_kept ?_

theorem execMonRunSet_kept {s₀ : State} {s : State} {t : State} (h : Kept s₀ s) (e : (execMonRunSet s) = .next t) :
    Kept s₀ t := by
  replace e := Host.Outcome.next.inj e
  subst e
  repeat' first
    | with_reducible assumption
    | with_reducible refine finish_kept ?_
    | with_reducible refine fldWrite_kept ?_

theorem execMonSnap_kept {s₀ : State} {rst : Bool} {s : State} {t : State}
    (h : Kept s₀ s) (e : (execMonSnap rst s) = .next t) : Kept s₀ t := by
  replace e := Host.Outcome.next.inj e
  subst e
  repeat' first
    | with_reducible assumption
    | with_reducible refine finish_kept ?_
    | with_reducible refine monSnap_kept ?_

theorem execMonStall_kept {s₀ : State} {c : Fin 2} {s : State} {t : State}
    (h : Kept s₀ s) (e : (execMonStall c s) = .next t) : Kept s₀ t := by
  replace e := Host.Outcome.next.inj e
  subst e
  repeat' first
    | with_reducible assumption
    | with_reducible refine finish_kept ?_
    | with_reducible refine monStall_kept ?_

theorem execMonSyscalFull_kept {s₀ : State} {input : Fin 32} {count : BitVec 16} {s : State} {t : State}
    (h : Kept s₀ s) (e : (execMonSyscalFull input count s) = .next t) : Kept s₀ t := by
  replace e := Host.Outcome.next.inj e
  subst e
  repeat' first
    | with_reducible assumption
    | with_reducible refine finish_kept ?_
    | with_reducible refine sysCalGo_kept ?_

theorem execMonSyscalZero_kept {s₀ : State} {input : Fin 32} {count : BitVec 16} {s : State} {t : State}
    (h : Kept s₀ s) (e : (execMonSyscalZero input count s) = .next t) : Kept s₀ t := by
  replace e := Host.Outcome.next.inj e
  subst e
  repeat' first
    | with_reducible assumption
    | with_reducible refine finish_kept ?_
    | with_reducible refine sysCalGo_kept ?_

/-! ## Machine/UmadeCmds.lean. -/

theorem execUmdCmd_kept {s₀ : State} {frame : List Byte} {s : State} {t : State}
    (h : Kept s₀ s) (e : (execUmdCmd frame s) = .next t) : Kept s₀ t := by
  replace e := Host.Outcome.next.inj e
  subst e
  repeat' first
    | with_reducible assumption
    | with_reducible refine finish_kept ?_
    | with_reducible refine cmdArrive_kept ?_

theorem execUmdCmdGo_kept {s₀ : State} {code : Fin 8} {group : Fin 4} {s : State} {t : State}
    (h : Kept s₀ s) (e : (execUmdCmdGo code group s) = .next t) : Kept s₀ t := by
  replace e := Host.Outcome.next.inj e
  subst e
  repeat' first
    | with_reducible assumption
    | with_reducible refine finish_kept ?_
    | with_reducible refine cmdGo_kept ?_
    | with_reducible refine fldWrite_kept ?_

theorem execUmdCntClear_kept {s₀ : State} {s : State} {t : State} (h : Kept s₀ s) (e : (execUmdCntClear s) = .next t) :
    Kept s₀ t := by
  replace e := Host.Outcome.next.inj e
  subst e
  repeat' first
    | with_reducible assumption
    | with_reducible refine finish_kept ?_
    | with_reducible refine umdClear_kept ?_

theorem execUmdEcho_kept {s₀ : State} {up : Bool} {frame : List Byte} {measured : ℕ} {s : State} {t : State}
    (h : Kept s₀ s) (e : (execUmdEcho up frame measured s) = .next t) : Kept s₀ t := by
  replace e := Host.Outcome.next.inj e
  subst e
  repeat' first
    | with_reducible assumption
    | with_reducible refine finish_kept ?_
    | with_reducible refine echoArrive_kept ?_

theorem execUmdEchoTimer_kept {s₀ : State} {s : State} {t : State} (h : Kept s₀ s) (e : (execUmdEchoTimer s) = .next t) :
    Kept s₀ t := by
  replace e := Host.Outcome.next.inj e
  subst e
  repeat' first
    | with_reducible assumption
    | with_reducible refine finish_kept ?_
    | with_reducible refine echoSend_kept ?_

theorem execUmdEvent_kept {s₀ : State} {frame : List Byte} {s : State} {t : State}
    (h : Kept s₀ s) (e : (execUmdEvent frame s) = .next t) : Kept s₀ t := by
  replace e := Host.Outcome.next.inj e
  subst e
  repeat' first
    | with_reducible assumption
    | with_reducible refine finish_kept ?_
    | with_reducible refine eventArrive_kept ?_

theorem execUmdKeepalive_kept {s₀ : State} {up : Bool} {s : State} {t : State}
    (h : Kept s₀ s) (e : (execUmdKeepalive up s) = .next t) : Kept s₀ t := by
  replace e := Host.Outcome.next.inj e
  subst e
  repeat' first
    | with_reducible assumption
    | with_reducible refine finish_kept ?_
    | with_reducible refine keepAlive_kept ?_

theorem execUmdNodeTimeout_kept {s₀ : State} {node : Fin 16} {s : State} {t : State}
    (h : Kept s₀ s) (e : (execUmdNodeTimeout node s) = .next t) : Kept s₀ t := by
  replace e := Host.Outcome.next.inj e
  subst e
  repeat' first
    | with_reducible assumption
    | with_reducible refine finish_kept ?_
    | with_reducible refine nodesLost_kept ?_
    | with_reducible refine Kept.ite ?_ ?_

theorem execUmdPortDown_kept {s₀ : State} {up : Bool} {s : State} {t : State}
    (h : Kept s₀ s) (e : (execUmdPortDown up s) = .next t) : Kept s₀ t := by
  replace e := Host.Outcome.next.inj e
  subst e
  repeat' first
    | with_reducible assumption
    | with_reducible refine finish_kept ?_
    | with_reducible refine portDown_kept ?_

theorem execUmdPortUp_kept {s₀ : State} {up : Bool} {above : Fin 16} {s : State} {t : State}
    (h : Kept s₀ s) (e : (execUmdPortUp up above s) = .next t) : Kept s₀ t := by
  replace e := Host.Outcome.next.inj e
  subst e
  repeat' first
    | with_reducible assumption
    | with_reducible refine finish_kept ?_
    | with_reducible refine portUp_kept ?_

theorem execUmdReply_kept {s₀ : State} {frame : List Byte} {s : State} {t : State}
    (h : Kept s₀ s) (e : (execUmdReply frame s) = .next t) : Kept s₀ t := by
  replace e := Host.Outcome.next.inj e
  subst e
  repeat' first
    | with_reducible assumption
    | with_reducible refine finish_kept ?_
    | with_reducible refine replyArrive_kept ?_

theorem execUmdReplyTimeout_kept {s₀ : State} {id : BitVec 8} {node : Fin 16} {s : State} {t : State}
    (h : Kept s₀ s) (e : (execUmdReplyTimeout id node s) = .next t) : Kept s₀ t := by
  replace e := Host.Outcome.next.inj e
  subst e
  repeat' first
    | with_reducible assumption
    | with_reducible refine finish_kept ?_
    | with_reducible refine replyTimeout_kept ?_

theorem execUmdStatus_kept {s₀ : State} {frame : List Byte} {s : State} {t : State}
    (h : Kept s₀ s) (e : (execUmdStatus frame s) = .next t) : Kept s₀ t := by
  replace e := Host.Outcome.next.inj e
  subst e
  repeat' first
    | with_reducible assumption
    | with_reducible refine finish_kept ?_
    | with_reducible refine statusArrive_kept ?_

theorem execUmdStatusSend_kept {s₀ : State} {s : State} {t : State}
    (h : Kept s₀ s) (e : (execUmdStatusSend s) = .next t) : Kept s₀ t := by
  replace e := Host.Outcome.next.inj e
  subst e
  repeat' first
    | with_reducible assumption
    | with_reducible refine finish_kept ?_
    | with_reducible refine statusSend_kept ?_

theorem execUmdTick_kept {s₀ : State} {frame : List Byte} {lag : ℕ} {s : State} {t : State}
    (h : Kept s₀ s) (e : (execUmdTick frame lag s) = .next t) : Kept s₀ t := by
  replace e := Host.Outcome.next.inj e
  subst e
  repeat' first
    | with_reducible assumption
    | with_reducible refine finish_kept ?_
    | with_reducible refine tickArrive_kept ?_

theorem execUmdTickT0_kept {s₀ : State} {s : State} {t : State} (h : Kept s₀ s) (e : (execUmdTickT0 s) = .next t) :
    Kept s₀ t := by
  replace e := Host.Outcome.next.inj e
  subst e
  repeat' first
    | with_reducible assumption
    | with_reducible refine finish_kept ?_
    | with_reducible refine tickT0_kept ?_

theorem execUmdTime_kept {s₀ : State} {frame : List Byte} {lag : ℕ} {s : State} {t : State}
    (h : Kept s₀ s) (e : (execUmdTime frame lag s) = .next t) : Kept s₀ t := by
  replace e := Host.Outcome.next.inj e
  subst e
  repeat' first
    | with_reducible assumption
    | with_reducible refine finish_kept ?_
    | with_reducible refine timeArrive_kept ?_

theorem execUmdTimeSend_kept {s₀ : State} {s : State} {t : State} (h : Kept s₀ s) (e : (execUmdTimeSend s) = .next t) :
    Kept s₀ t := by
  replace e := Host.Outcome.next.inj e
  subst e
  repeat' first
    | with_reducible assumption
    | with_reducible refine finish_kept ?_
    | with_reducible refine timeSend_kept ?_

/-! ## Machine/EventsCmds.lean. -/

theorem execDieTempRead_kept {s₀ : State} {temp : BitVec 16} {s : State} {t : State}
    (h : Kept s₀ s) (e : (execDieTempRead temp s) = .next t) : Kept s₀ t := by
  replace e := Host.Outcome.next.inj e
  subst e
  repeat' first
    | with_reducible assumption
    | with_reducible refine finish_kept ?_
    | with_reducible refine dieTemp_kept ?_

theorem execDroopDetect_kept {s₀ : State} {s : State} {t : State} (h : Kept s₀ s) (e : (execDroopDetect s) = .next t) :
    Kept s₀ t := by
  replace e := Host.Outcome.next.inj e
  subst e
  repeat' first
    | with_reducible assumption
    | with_reducible refine finish_kept ?_
    | with_reducible refine droop_kept ?_

theorem execEvtClrcnt_kept {s₀ : State} {s : State} {t : State} (h : Kept s₀ s) (e : (execEvtClrcnt s) = .next t) :
    Kept s₀ t := by
  replace e := Host.Outcome.next.inj e
  subst e
  repeat' first
    | with_reducible assumption
    | with_reducible refine finish_kept ?_
    | with_reducible refine evtClear_kept ?_

theorem execEvtForce_kept {s₀ : State} {event : Fin 1024} {s : State} {t : State}
    (h : Kept s₀ s) (e : (execEvtForce event s) = .next t) : Kept s₀ t := by
  replace e := Host.Outcome.next.inj e
  subst e
  repeat' first
    | with_reducible assumption
    | with_reducible refine finish_kept ?_
    | with_reducible refine evForce_kept ?_
    | with_reducible refine fldWrite_kept ?_

theorem execEvtLastClear_kept {s₀ : State} {w : Fin 32} {bits : Word} {s : State} {t : State}
    (h : Kept s₀ s) (e : (execEvtLastClear w bits s) = .next t) : Kept s₀ t := by
  replace e := Host.Outcome.next.inj e
  subst e
  repeat' first
    | with_reducible assumption
    | with_reducible refine finish_kept ?_
    | with_reducible refine evLastClear_kept ?_

theorem execEvtLogEnable_kept {s₀ : State} {s : State} {t : State} (h : Kept s₀ s) (e : (execEvtLogEnable s) = .next t) :
    Kept s₀ t := by
  replace e := Host.Outcome.next.inj e
  subst e
  repeat' first
    | with_reducible assumption
    | with_reducible refine finish_kept ?_
    | with_reducible refine logEnable_kept ?_

theorem execEvtLogheadWrite_kept {s₀ : State} {slot : BitVec 16} {s : State} {t : State}
    (h : Kept s₀ s) (e : (execEvtLogheadWrite slot s) = .next t) : Kept s₀ t := by
  replace e := Host.Outcome.next.inj e
  subst e
  repeat' first
    | with_reducible assumption
    | with_reducible refine finish_kept ?_
    | with_reducible refine fldWrite_kept ?_

theorem execEvtStatClear_kept {s₀ : State} {w : Fin 32} {bits : Word} {s : State} {t : State}
    (h : Kept s₀ s) (e : (execEvtStatClear w bits s) = .next t) : Kept s₀ t := by
  replace e := Host.Outcome.next.inj e
  subst e
  repeat' first
    | with_reducible assumption
    | with_reducible refine finish_kept ?_
    | with_reducible refine evStatClear_kept ?_

theorem execMsiHoldExpire_kept {s₀ : State} {vec : Fin 64} {s : State} {t : State}
    (h : Kept s₀ s) (e : (execMsiHoldExpire vec s) = .next t) : Kept s₀ t := by
  replace e := Host.Outcome.next.inj e
  subst e
  repeat' first
    | with_reducible assumption
    | with_reducible refine finish_kept ?_
    | with_reducible refine msiHoldExpire_kept ?_

theorem execPllLockLoss_kept {s₀ : State} {pll : Pll} {s : State} {t : State}
    (h : Kept s₀ s) (e : (execPllLockLoss pll s) = .next t) : Kept s₀ t := by
  replace e := Host.Outcome.next.inj e
  subst e
  repeat' first
    | with_reducible assumption
    | with_reducible refine finish_kept ?_
    | with_reducible refine pllLoss_kept ?_

theorem execRegisterScrub_kept {s₀ : State} {dw : BitVec 20} {fail : Bool} {s : State} {t : State}
    (h : Kept s₀ s) (e : (execRegisterScrub dw fail s) = .next t) : Kept s₀ t := by
  replace e := Host.Outcome.next.inj e
  subst e
  repeat' first
    | with_reducible assumption
    | with_reducible refine finish_kept ?_
    | with_reducible refine scrub_kept ?_

theorem execStretchEnd_kept {s₀ : State} {s : State} {t : State} (h : Kept s₀ s) (e : (execStretchEnd s) = .next t) :
    Kept s₀ t := by
  replace e := Host.Outcome.next.inj e
  subst e
  repeat' first
    | with_reducible assumption
    | with_reducible refine finish_kept ?_
    | with_reducible refine stretchEnd_kept ?_

theorem execSysclkLoss_kept {s₀ : State} {s : State} {t : State} (h : Kept s₀ s) (e : (execSysclkLoss s) = .next t) :
    Kept s₀ t := by
  replace e := Host.Outcome.next.inj e
  subst e
  repeat' first
    | with_reducible assumption
    | with_reducible refine finish_kept ?_
    | with_reducible refine sysclkLoss_kept ?_

theorem execTrackerWindowLapse_kept {s₀ : State} {s : State} {t : State}
    (h : Kept s₀ s) (e : (execTrackerWindowLapse s) = .next t) : Kept s₀ t := by
  replace e := Host.Outcome.next.inj e
  subst e
  repeat' first
    | with_reducible assumption
    | with_reducible refine finish_kept ?_
    | with_reducible refine trackersLapse_kept ?_

end Sys2Proof.Machine
end

