-- ==== Sys2Proof/Laws/Reads.lean ====
section
/-! SUPPORT. Laws/Reads.lean: what a register field, a channel and a DRAM read as after each update of the state. -/

namespace Sys2Proof.Machine

theorem State.ch_congr {s t : State} (h : t.chans = s.chans) (n : Nat) : t.ch n = s.ch n := by rw [State.ch, h, State.ch]

theorem State.dram_congr {s t : State} (h : t.drams = s.drams) (k : Nat) : t.dram k = s.dram k := by rw [State.dram, h, State.dram]

@[simp] theorem State.setWord_ch (s : State) (a : Nat) (w : Word) (x : Nat) : (s.setWord a w).ch x = s.ch x := State.ch_congr rfl x
@[simp] theorem State.setWord_dram (s : State) (a : Nat) (w : Word) (x : Nat) : (s.setWord a w).dram x = s.dram x := State.dram_congr rfl x

@[simp] theorem State.wr_ch (s : State) (f : Fld) (v : Nat) (x : Nat) : (s.wr f v).ch x = s.ch x := State.ch_congr rfl x
@[simp] theorem State.wr_dram (s : State) (f : Fld) (v : Nat) (x : Nat) : (s.wr f v).dram x = s.dram x := State.dram_congr rfl x

@[simp] theorem State.wb_ch (s : State) (f : Fld) (b : Bool) (x : Nat) : (s.wb f b).ch x = s.ch x := State.ch_congr rfl x
@[simp] theorem State.wb_dram (s : State) (f : Fld) (b : Bool) (x : Nat) : (s.wb f b).dram x = s.dram x := State.dram_congr rfl x

@[simp] theorem State.bump_ch (s : State) (f : Fld) (x : Nat) : (s.bump f).ch x = s.ch x := State.ch_congr rfl x
@[simp] theorem State.bump_dram (s : State) (f : Fld) (x : Nat) : (s.bump f).dram x = s.dram x := State.dram_congr rfl x

@[simp] theorem State.addSat_ch (s : State) (f : Fld) (k : Nat) (x : Nat) : (s.addSat f k).ch x = s.ch x := State.ch_congr rfl x
@[simp] theorem State.addSat_dram (s : State) (f : Fld) (k : Nat) (x : Nat) : (s.addSat f k).dram x = s.dram x := State.dram_congr rfl x

@[simp] theorem State.peak_ch (s : State) (f : Fld) (v : Nat) (x : Nat) : (s.peak f v).ch x = s.ch x := State.ch_congr rfl x
@[simp] theorem State.peak_dram (s : State) (f : Fld) (v : Nat) (x : Nat) : (s.peak f v).dram x = s.dram x := State.dram_congr rfl x

@[simp] theorem State.wr64_ch (s : State) (l h : Fld) (v : Nat) (x : Nat) : (s.wr64 l h v).ch x = s.ch x := State.ch_congr rfl x
@[simp] theorem State.wr64_dram (s : State) (l h : Fld) (v : Nat) (x : Nat) : (s.wr64 l h v).dram x = s.dram x := State.dram_congr rfl x

@[simp] theorem State.resetRange_ch (s : State) (a b : Nat) (x : Nat) : (s.resetRange a b).ch x = s.ch x := State.ch_congr rfl x
@[simp] theorem State.resetRange_dram (s : State) (a b : Nat) (x : Nat) : (s.resetRange a b).dram x = s.dram x := State.dram_congr rfl x

@[simp] theorem State.clearW1c_ch (s : State) (f : Fld) (m : Nat) (x : Nat) : (s.clearW1c f m).ch x = s.ch x := State.ch_congr rfl x
@[simp] theorem State.clearW1c_dram (s : State) (f : Fld) (m : Nat) (x : Nat) : (s.clearW1c f m).dram x = s.dram x := State.dram_congr rfl x

@[simp] theorem State.setW1c_ch (s : State) (f : Fld) (m : Nat) (x : Nat) : (s.setW1c f m).ch x = s.ch x := State.ch_congr rfl x
@[simp] theorem State.setW1c_dram (s : State) (f : Fld) (m : Nat) (x : Nat) : (s.setW1c f m).dram x = s.dram x := State.dram_congr rfl x

@[simp] theorem State.setCh_word (s : State) (n : Nat) (c : Chan) (x : Nat) : (s.setCh n c).word x = s.word x := State.word_congr rfl x
@[simp] theorem State.setCh_rd (s : State) (n : Nat) (c : Chan) (x : Fld) : (s.setCh n c).rd x = s.rd x := State.rd_congr x (State.word_congr rfl _)
@[simp] theorem State.setCh_rb (s : State) (n : Nat) (c : Chan) (x : Fld) : (s.setCh n c).rb x = s.rb x := by
  rw [State.rb, State.setCh_rd, State.rb]
theorem RegsWf.setCh {s : State} (h : RegsWf s) (n : Nat) (c : Chan) : RegsWf (s.setCh n c) := h
@[simp] theorem State.setCh_dram (s : State) (n : Nat) (c : Chan) (x : Nat) : (s.setCh n c).dram x = s.dram x := State.dram_congr rfl x

@[simp] theorem State.modCh_word (s : State) (n : Nat) (f : Chan → Chan) (x : Nat) : (s.modCh n f).word x = s.word x := State.word_congr rfl x
@[simp] theorem State.modCh_rd (s : State) (n : Nat) (f : Chan → Chan) (x : Fld) : (s.modCh n f).rd x = s.rd x := State.rd_congr x (State.word_congr rfl _)
@[simp] theorem State.modCh_rb (s : State) (n : Nat) (f : Chan → Chan) (x : Fld) : (s.modCh n f).rb x = s.rb x := by
  rw [State.rb, State.modCh_rd, State.rb]
theorem RegsWf.modCh {s : State} (h : RegsWf s) (n : Nat) (f : Chan → Chan) : RegsWf (s.modCh n f) := h
@[simp] theorem State.modCh_dram (s : State) (n : Nat) (f : Chan → Chan) (x : Nat) : (s.modCh n f).dram x = s.dram x := State.dram_congr rfl x

@[simp] theorem State.modSns_word (s : State) (n : Nat) (f : SnsSt → SnsSt) (x : Nat) : (s.modSns n f).word x = s.word x := State.word_congr rfl x
@[simp] theorem State.modSns_rd (s : State) (n : Nat) (f : SnsSt → SnsSt) (x : Fld) : (s.modSns n f).rd x = s.rd x := State.rd_congr x (State.word_congr rfl _)
@[simp] theorem State.modSns_rb (s : State) (n : Nat) (f : SnsSt → SnsSt) (x : Fld) : (s.modSns n f).rb x = s.rb x := by
  rw [State.rb, State.modSns_rd, State.rb]
theorem RegsWf.modSns {s : State} (h : RegsWf s) (n : Nat) (f : SnsSt → SnsSt) : RegsWf (s.modSns n f) := h
@[simp] theorem State.modSns_dram (s : State) (n : Nat) (f : SnsSt → SnsSt) (x : Nat) : (s.modSns n f).dram x = s.dram x := State.dram_congr rfl x

@[simp] theorem State.modPipe_word (s : State) (n : Nat) (f : PipeSt → PipeSt) (x : Nat) : (s.modPipe n f).word x = s.word x := State.word_congr rfl x
@[simp] theorem State.modPipe_rd (s : State) (n : Nat) (f : PipeSt → PipeSt) (x : Fld) : (s.modPipe n f).rd x = s.rd x := State.rd_congr x (State.word_congr rfl _)
@[simp] theorem State.modPipe_rb (s : State) (n : Nat) (f : PipeSt → PipeSt) (x : Fld) : (s.modPipe n f).rb x = s.rb x := by
  rw [State.rb, State.modPipe_rd, State.rb]
theorem RegsWf.modPipe {s : State} (h : RegsWf s) (n : Nat) (f : PipeSt → PipeSt) : RegsWf (s.modPipe n f) := h
@[simp] theorem State.modPipe_dram (s : State) (n : Nat) (f : PipeSt → PipeSt) (x : Nat) : (s.modPipe n f).dram x = s.dram x := State.dram_congr rfl x

@[simp] theorem State.modRsmp_word (s : State) (n : Nat) (f : RsmpSt → RsmpSt) (x : Nat) : (s.modRsmp n f).word x = s.word x := State.word_congr rfl x
@[simp] theorem State.modRsmp_rd (s : State) (n : Nat) (f : RsmpSt → RsmpSt) (x : Fld) : (s.modRsmp n f).rd x = s.rd x := State.rd_congr x (State.word_congr rfl _)
@[simp] theorem State.modRsmp_rb (s : State) (n : Nat) (f : RsmpSt → RsmpSt) (x : Fld) : (s.modRsmp n f).rb x = s.rb x := by
  rw [State.rb, State.modRsmp_rd, State.rb]
theorem RegsWf.modRsmp {s : State} (h : RegsWf s) (n : Nat) (f : RsmpSt → RsmpSt) : RegsWf (s.modRsmp n f) := h
@[simp] theorem State.modRsmp_dram (s : State) (n : Nat) (f : RsmpSt → RsmpSt) (x : Nat) : (s.modRsmp n f).dram x = s.dram x := State.dram_congr rfl x

@[simp] theorem State.modFifo_word (s : State) (n : Nat) (f : FifoSt → FifoSt) (x : Nat) : (s.modFifo n f).word x = s.word x := State.word_congr rfl x
@[simp] theorem State.modFifo_rd (s : State) (n : Nat) (f : FifoSt → FifoSt) (x : Fld) : (s.modFifo n f).rd x = s.rd x := State.rd_congr x (State.word_congr rfl _)
@[simp] theorem State.modFifo_rb (s : State) (n : Nat) (f : FifoSt → FifoSt) (x : Fld) : (s.modFifo n f).rb x = s.rb x := by
  rw [State.rb, State.modFifo_rd, State.rb]
theorem RegsWf.modFifo {s : State} (h : RegsWf s) (n : Nat) (f : FifoSt → FifoSt) : RegsWf (s.modFifo n f) := h
@[simp] theorem State.modFifo_dram (s : State) (n : Nat) (f : FifoSt → FifoSt) (x : Nat) : (s.modFifo n f).dram x = s.dram x := State.dram_congr rfl x

@[simp] theorem State.modLmp_word (s : State) (n : Nat) (f : LmpSt → LmpSt) (x : Nat) : (s.modLmp n f).word x = s.word x := State.word_congr rfl x
@[simp] theorem State.modLmp_rd (s : State) (n : Nat) (f : LmpSt → LmpSt) (x : Fld) : (s.modLmp n f).rd x = s.rd x := State.rd_congr x (State.word_congr rfl _)
@[simp] theorem State.modLmp_rb (s : State) (n : Nat) (f : LmpSt → LmpSt) (x : Fld) : (s.modLmp n f).rb x = s.rb x := by
  rw [State.rb, State.modLmp_rd, State.rb]
theorem RegsWf.modLmp {s : State} (h : RegsWf s) (n : Nat) (f : LmpSt → LmpSt) : RegsWf (s.modLmp n f) := h
@[simp] theorem State.modLmp_dram (s : State) (n : Nat) (f : LmpSt → LmpSt) (x : Nat) : (s.modLmp n f).dram x = s.dram x := State.dram_congr rfl x

@[simp] theorem State.modPos_word (s : State) (n : Nat) (f : PosSt → PosSt) (x : Nat) : (s.modPos n f).word x = s.word x := State.word_congr rfl x
@[simp] theorem State.modPos_rd (s : State) (n : Nat) (f : PosSt → PosSt) (x : Fld) : (s.modPos n f).rd x = s.rd x := State.rd_congr x (State.word_congr rfl _)
@[simp] theorem State.modPos_rb (s : State) (n : Nat) (f : PosSt → PosSt) (x : Fld) : (s.modPos n f).rb x = s.rb x := by
  rw [State.rb, State.modPos_rd, State.rb]
theorem RegsWf.modPos {s : State} (h : RegsWf s) (n : Nat) (f : PosSt → PosSt) : RegsWf (s.modPos n f) := h
@[simp] theorem State.modPos_dram (s : State) (n : Nat) (f : PosSt → PosSt) (x : Nat) : (s.modPos n f).dram x = s.dram x := State.dram_congr rfl x

@[simp] theorem State.modMot_word (s : State) (n : Nat) (f : MotSt → MotSt) (x : Nat) : (s.modMot n f).word x = s.word x := State.word_congr rfl x
@[simp] theorem State.modMot_rd (s : State) (n : Nat) (f : MotSt → MotSt) (x : Fld) : (s.modMot n f).rd x = s.rd x := State.rd_congr x (State.word_congr rfl _)
@[simp] theorem State.modMot_rb (s : State) (n : Nat) (f : MotSt → MotSt) (x : Fld) : (s.modMot n f).rb x = s.rb x := by
  rw [State.rb, State.modMot_rd, State.rb]
theorem RegsWf.modMot {s : State} (h : RegsWf s) (n : Nat) (f : MotSt → MotSt) : RegsWf (s.modMot n f) := h
@[simp] theorem State.modMot_dram (s : State) (n : Nat) (f : MotSt → MotSt) (x : Nat) : (s.modMot n f).dram x = s.dram x := State.dram_congr rfl x

@[simp] theorem State.modCal_word (s : State) (n : Nat) (f : CalSt → CalSt) (x : Nat) : (s.modCal n f).word x = s.word x := State.word_congr rfl x
@[simp] theorem State.modCal_rd (s : State) (n : Nat) (f : CalSt → CalSt) (x : Fld) : (s.modCal n f).rd x = s.rd x := State.rd_congr x (State.word_congr rfl _)
@[simp] theorem State.modCal_rb (s : State) (n : Nat) (f : CalSt → CalSt) (x : Fld) : (s.modCal n f).rb x = s.rb x := by
  rw [State.rb, State.modCal_rd, State.rb]
theorem RegsWf.modCal {s : State} (h : RegsWf s) (n : Nat) (f : CalSt → CalSt) : RegsWf (s.modCal n f) := h
@[simp] theorem State.modCal_dram (s : State) (n : Nat) (f : CalSt → CalSt) (x : Nat) : (s.modCal n f).dram x = s.dram x := State.dram_congr rfl x

@[simp] theorem State.modDram_word (s : State) (k : Nat) (f : List (Nat × Byte) → List (Nat × Byte)) (x : Nat) : (s.modDram k f).word x = s.word x := State.word_congr rfl x
@[simp] theorem State.modDram_rd (s : State) (k : Nat) (f : List (Nat × Byte) → List (Nat × Byte)) (x : Fld) : (s.modDram k f).rd x = s.rd x := State.rd_congr x (State.word_congr rfl _)
@[simp] theorem State.modDram_rb (s : State) (k : Nat) (f : List (Nat × Byte) → List (Nat × Byte)) (x : Fld) : (s.modDram k f).rb x = s.rb x := by
  rw [State.rb, State.modDram_rd, State.rb]
theorem RegsWf.modDram {s : State} (h : RegsWf s) (k : Nat) (f : List (Nat × Byte) → List (Nat × Byte)) : RegsWf (s.modDram k f) := h
@[simp] theorem State.modDram_ch (s : State) (k : Nat) (f : List (Nat × Byte) → List (Nat × Byte)) (x : Nat) : (s.modDram k f).ch x = s.ch x := State.ch_congr rfl x

@[simp] theorem State.raise_word (s : State) (r : Raise) (x : Nat) : (s.raise r).word x = s.word x := State.word_congr rfl x
@[simp] theorem State.raise_rd (s : State) (r : Raise) (x : Fld) : (s.raise r).rd x = s.rd x := State.rd_congr x (State.word_congr rfl _)
@[simp] theorem State.raise_rb (s : State) (r : Raise) (x : Fld) : (s.raise r).rb x = s.rb x := by
  rw [State.rb, State.raise_rd, State.rb]
theorem RegsWf.raise {s : State} (h : RegsWf s) (r : Raise) : RegsWf (s.raise r) := h
@[simp] theorem State.raise_ch (s : State) (r : Raise) (x : Nat) : (s.raise r).ch x = s.ch x := State.ch_congr rfl x
@[simp] theorem State.raise_dram (s : State) (r : Raise) (x : Nat) : (s.raise r).dram x = s.dram x := State.dram_congr rfl x

@[simp] theorem State.emit_word (s : State) (o : Out) (x : Nat) : (s.emit o).word x = s.word x := State.word_congr rfl x
@[simp] theorem State.emit_rd (s : State) (o : Out) (x : Fld) : (s.emit o).rd x = s.rd x := State.rd_congr x (State.word_congr rfl _)
@[simp] theorem State.emit_rb (s : State) (o : Out) (x : Fld) : (s.emit o).rb x = s.rb x := by
  rw [State.rb, State.emit_rd, State.rb]
theorem RegsWf.emit {s : State} (h : RegsWf s) (o : Out) : RegsWf (s.emit o) := h
@[simp] theorem State.emit_ch (s : State) (o : Out) (x : Nat) : (s.emit o).ch x = s.ch x := State.ch_congr rfl x
@[simp] theorem State.emit_dram (s : State) (o : Out) (x : Nat) : (s.emit o).dram x = s.dram x := State.dram_congr rfl x

@[simp] theorem State.modBoot_word (s : State) (f : BootSt → BootSt) (x : Nat) : (s.modBoot f).word x = s.word x := State.word_congr rfl x
@[simp] theorem State.modBoot_rd (s : State) (f : BootSt → BootSt) (x : Fld) : (s.modBoot f).rd x = s.rd x := State.rd_congr x (State.word_congr rfl _)
@[simp] theorem State.modBoot_rb (s : State) (f : BootSt → BootSt) (x : Fld) : (s.modBoot f).rb x = s.rb x := by
  rw [State.rb, State.modBoot_rd, State.rb]
theorem RegsWf.modBoot {s : State} (h : RegsWf s) (f : BootSt → BootSt) : RegsWf (s.modBoot f) := h
@[simp] theorem State.modBoot_ch (s : State) (f : BootSt → BootSt) (x : Nat) : (s.modBoot f).ch x = s.ch x := State.ch_congr rfl x
@[simp] theorem State.modBoot_dram (s : State) (f : BootSt → BootSt) (x : Nat) : (s.modBoot f).dram x = s.dram x := State.dram_congr rfl x

@[simp] theorem State.modUpd_word (s : State) (f : UpdSt → UpdSt) (x : Nat) : (s.modUpd f).word x = s.word x := State.word_congr rfl x
@[simp] theorem State.modUpd_rd (s : State) (f : UpdSt → UpdSt) (x : Fld) : (s.modUpd f).rd x = s.rd x := State.rd_congr x (State.word_congr rfl _)
@[simp] theorem State.modUpd_rb (s : State) (f : UpdSt → UpdSt) (x : Fld) : (s.modUpd f).rb x = s.rb x := by
  rw [State.rb, State.modUpd_rd, State.rb]
theorem RegsWf.modUpd {s : State} (h : RegsWf s) (f : UpdSt → UpdSt) : RegsWf (s.modUpd f) := h
@[simp] theorem State.modUpd_ch (s : State) (f : UpdSt → UpdSt) (x : Nat) : (s.modUpd f).ch x = s.ch x := State.ch_congr rfl x
@[simp] theorem State.modUpd_dram (s : State) (f : UpdSt → UpdSt) (x : Nat) : (s.modUpd f).dram x = s.dram x := State.dram_congr rfl x

@[simp] theorem State.modEvt_word (s : State) (f : EvtSt → EvtSt) (x : Nat) : (s.modEvt f).word x = s.word x := State.word_congr rfl x
@[simp] theorem State.modEvt_rd (s : State) (f : EvtSt → EvtSt) (x : Fld) : (s.modEvt f).rd x = s.rd x := State.rd_congr x (State.word_congr rfl _)
@[simp] theorem State.modEvt_rb (s : State) (f : EvtSt → EvtSt) (x : Fld) : (s.modEvt f).rb x = s.rb x := by
  rw [State.rb, State.modEvt_rd, State.rb]
theorem RegsWf.modEvt {s : State} (h : RegsWf s) (f : EvtSt → EvtSt) : RegsWf (s.modEvt f) := h
@[simp] theorem State.modEvt_ch (s : State) (f : EvtSt → EvtSt) (x : Nat) : (s.modEvt f).ch x = s.ch x := State.ch_congr rfl x
@[simp] theorem State.modEvt_dram (s : State) (f : EvtSt → EvtSt) (x : Nat) : (s.modEvt f).dram x = s.dram x := State.dram_congr rfl x

@[simp] theorem State.modDma_word (s : State) (f : DmaSt → DmaSt) (x : Nat) : (s.modDma f).word x = s.word x := State.word_congr rfl x
@[simp] theorem State.modDma_rd (s : State) (f : DmaSt → DmaSt) (x : Fld) : (s.modDma f).rd x = s.rd x := State.rd_congr x (State.word_congr rfl _)
@[simp] theorem State.modDma_rb (s : State) (f : DmaSt → DmaSt) (x : Fld) : (s.modDma f).rb x = s.rb x := by
  rw [State.rb, State.modDma_rd, State.rb]
theorem RegsWf.modDma {s : State} (h : RegsWf s) (f : DmaSt → DmaSt) : RegsWf (s.modDma f) := h
@[simp] theorem State.modDma_ch (s : State) (f : DmaSt → DmaSt) (x : Nat) : (s.modDma f).ch x = s.ch x := State.ch_congr rfl x
@[simp] theorem State.modDma_dram (s : State) (f : DmaSt → DmaSt) (x : Nat) : (s.modDma f).dram x = s.dram x := State.dram_congr rfl x

@[simp] theorem State.modMon_word (s : State) (f : MonSt → MonSt) (x : Nat) : (s.modMon f).word x = s.word x := State.word_congr rfl x
@[simp] theorem State.modMon_rd (s : State) (f : MonSt → MonSt) (x : Fld) : (s.modMon f).rd x = s.rd x := State.rd_congr x (State.word_congr rfl _)
@[simp] theorem State.modMon_rb (s : State) (f : MonSt → MonSt) (x : Fld) : (s.modMon f).rb x = s.rb x := by
  rw [State.rb, State.modMon_rd, State.rb]
theorem RegsWf.modMon {s : State} (h : RegsWf s) (f : MonSt → MonSt) : RegsWf (s.modMon f) := h
@[simp] theorem State.modMon_ch (s : State) (f : MonSt → MonSt) (x : Nat) : (s.modMon f).ch x = s.ch x := State.ch_congr rfl x
@[simp] theorem State.modMon_dram (s : State) (f : MonSt → MonSt) (x : Nat) : (s.modMon f).dram x = s.dram x := State.dram_congr rfl x

@[simp] theorem State.modDrv_word (s : State) (f : DrvSt → DrvSt) (x : Nat) : (s.modDrv f).word x = s.word x := State.word_congr rfl x
@[simp] theorem State.modDrv_rd (s : State) (f : DrvSt → DrvSt) (x : Fld) : (s.modDrv f).rd x = s.rd x := State.rd_congr x (State.word_congr rfl _)
@[simp] theorem State.modDrv_rb (s : State) (f : DrvSt → DrvSt) (x : Fld) : (s.modDrv f).rb x = s.rb x := by
  rw [State.rb, State.modDrv_rd, State.rb]
theorem RegsWf.modDrv {s : State} (h : RegsWf s) (f : DrvSt → DrvSt) : RegsWf (s.modDrv f) := h
@[simp] theorem State.modDrv_ch (s : State) (f : DrvSt → DrvSt) (x : Nat) : (s.modDrv f).ch x = s.ch x := State.ch_congr rfl x
@[simp] theorem State.modDrv_dram (s : State) (f : DrvSt → DrvSt) (x : Nat) : (s.modDrv f).dram x = s.dram x := State.dram_congr rfl x

@[simp] theorem State.modUmd_word (s : State) (f : UmdSt → UmdSt) (x : Nat) : (s.modUmd f).word x = s.word x := State.word_congr rfl x
@[simp] theorem State.modUmd_rd (s : State) (f : UmdSt → UmdSt) (x : Fld) : (s.modUmd f).rd x = s.rd x := State.rd_congr x (State.word_congr rfl _)
@[simp] theorem State.modUmd_rb (s : State) (f : UmdSt → UmdSt) (x : Fld) : (s.modUmd f).rb x = s.rb x := by
  rw [State.rb, State.modUmd_rd, State.rb]
theorem RegsWf.modUmd {s : State} (h : RegsWf s) (f : UmdSt → UmdSt) : RegsWf (s.modUmd f) := h
@[simp] theorem State.modUmd_ch (s : State) (f : UmdSt → UmdSt) (x : Nat) : (s.modUmd f).ch x = s.ch x := State.ch_congr rfl x
@[simp] theorem State.modUmd_dram (s : State) (f : UmdSt → UmdSt) (x : Nat) : (s.modUmd f).dram x = s.dram x := State.dram_congr rfl x

@[simp] theorem State.modDrc_word (s : State) (k : Nat) (f : DrcSt → DrcSt) (x : Nat) : (s.modDrc k f).word x = s.word x := State.word_congr rfl x
@[simp] theorem State.modDrc_rd (s : State) (k : Nat) (f : DrcSt → DrcSt) (x : Fld) : (s.modDrc k f).rd x = s.rd x := State.rd_congr x (State.word_congr rfl _)
@[simp] theorem State.modDrc_rb (s : State) (k : Nat) (f : DrcSt → DrcSt) (x : Fld) : (s.modDrc k f).rb x = s.rb x := by
  rw [State.rb, State.modDrc_rd, State.rb]
theorem RegsWf.modDrc {s : State} (h : RegsWf s) (k : Nat) (f : DrcSt → DrcSt) : RegsWf (s.modDrc k f) := h
@[simp] theorem State.modDrc_ch (s : State) (k : Nat) (f : DrcSt → DrcSt) (x : Nat) : (s.modDrc k f).ch x = s.ch x := State.ch_congr rfl x
@[simp] theorem State.modDrc_dram (s : State) (k : Nat) (f : DrcSt → DrcSt) (x : Nat) : (s.modDrc k f).dram x = s.dram x := State.dram_congr rfl x

theorem State.modSns_ch_same (s : State) (n : Nat) (f : SnsSt → SnsSt) :
    (s.modSns n f).ch n = { s.ch n with sns := f (s.ch n).sns } := Quad.get_set_same _ _ _
theorem State.modSns_ch_other (s : State) (n m : Fin 4) (f : SnsSt → SnsSt) (h : m ≠ n) : (s.modSns n f).ch m = s.ch m :=
  Quad.get_set_other _ _ _ _ h
theorem State.modPipe_ch_same (s : State) (n : Nat) (f : PipeSt → PipeSt) :
    (s.modPipe n f).ch n = { s.ch n with pipe := f (s.ch n).pipe } := Quad.get_set_same _ _ _
theorem State.modPipe_ch_other (s : State) (n m : Fin 4) (f : PipeSt → PipeSt) (h : m ≠ n) : (s.modPipe n f).ch m = s.ch m :=
  Quad.get_set_other _ _ _ _ h
theorem State.modRsmp_ch_same (s : State) (n : Nat) (f : RsmpSt → RsmpSt) :
    (s.modRsmp n f).ch n = { s.ch n with rsmp := f (s.ch n).rsmp } := Quad.get_set_same _ _ _
theorem State.modRsmp_ch_other (s : State) (n m : Fin 4) (f : RsmpSt → RsmpSt) (h : m ≠ n) : (s.modRsmp n f).ch m = s.ch m :=
  Quad.get_set_other _ _ _ _ h
theorem State.modFifo_ch_same (s : State) (n : Nat) (f : FifoSt → FifoSt) :
    (s.modFifo n f).ch n = { s.ch n with fifo := f (s.ch n).fifo } := Quad.get_set_same _ _ _
theorem State.modFifo_ch_other (s : State) (n m : Fin 4) (f : FifoSt → FifoSt) (h : m ≠ n) : (s.modFifo n f).ch m = s.ch m :=
  Quad.get_set_other _ _ _ _ h
theorem State.modLmp_ch_same (s : State) (n : Nat) (f : LmpSt → LmpSt) :
    (s.modLmp n f).ch n = { s.ch n with lmp := f (s.ch n).lmp } := Quad.get_set_same _ _ _
theorem State.modLmp_ch_other (s : State) (n m : Fin 4) (f : LmpSt → LmpSt) (h : m ≠ n) : (s.modLmp n f).ch m = s.ch m :=
  Quad.get_set_other _ _ _ _ h
theorem State.modPos_ch_same (s : State) (n : Nat) (f : PosSt → PosSt) :
    (s.modPos n f).ch n = { s.ch n with pos := f (s.ch n).pos } := Quad.get_set_same _ _ _
theorem State.modPos_ch_other (s : State) (n m : Fin 4) (f : PosSt → PosSt) (h : m ≠ n) : (s.modPos n f).ch m = s.ch m :=
  Quad.get_set_other _ _ _ _ h
theorem State.modMot_ch_same (s : State) (n : Nat) (f : MotSt → MotSt) :
    (s.modMot n f).ch n = { s.ch n with mot := f (s.ch n).mot } := Quad.get_set_same _ _ _
theorem State.modMot_ch_other (s : State) (n m : Fin 4) (f : MotSt → MotSt) (h : m ≠ n) : (s.modMot n f).ch m = s.ch m :=
  Quad.get_set_other _ _ _ _ h
theorem State.modCal_ch_same (s : State) (n : Nat) (f : CalSt → CalSt) :
    (s.modCal n f).ch n = { s.ch n with cal := f (s.ch n).cal } := Quad.get_set_same _ _ _
theorem State.modCal_ch_other (s : State) (n m : Fin 4) (f : CalSt → CalSt) (h : m ≠ n) : (s.modCal n f).ch m = s.ch m :=
  Quad.get_set_other _ _ _ _ h
theorem State.modCh_ch_same (s : State) (n : Nat) (f : Chan → Chan) : (s.modCh n f).ch n = f (s.ch n) := Quad.get_set_same _ _ _
theorem State.modCh_ch_other (s : State) (n m : Fin 4) (f : Chan → Chan) (h : m ≠ n) : (s.modCh n f).ch m = s.ch m :=
  Quad.get_set_other _ _ _ _ h

/-- A field that has been set. -/
theorem State.rd_wr_same {s : State} (h : RegsWf s) {f : Fld} (hf : f.Fits) (v : Nat) : (s.wr f v).rd f = v % 2 ^ f.width := by
  rw [State.rd, State.wr, State.word_setWord_same h, Fld.of_put_same f hf]

/-- A field of another register. -/
theorem State.rd_wr_far (s : State) {f g : Fld} (h : g.addr ≠ f.addr) (v : Nat) : (s.wr f v).rd g = s.rd g :=
  State.rd_congr g (State.word_setWord_other s _ h)

/-- A field that shares no bit with the one that has been set. -/
theorem State.rd_wr_apart {s : State} (h : RegsWf s) {f g : Fld} (hf : f.Fits) (hg : g.Fits) (ha : f.Apart g) (v : Nat) :
    (s.wr f v).rd g = s.rd g := by
  by_cases e : g.addr = f.addr
  · rw [State.rd, State.wr, e, State.word_setWord_same h, State.rd, e, Fld.of_put_apart f g hf hg]
    rcases ha with k | k
    · exact absurd e.symm k
    · exact k
  · exact State.rd_wr_far s e v

theorem RegsWf.wb {s : State} (h : RegsWf s) (f : Fld) (b : Bool) : RegsWf (s.wb f b) := h.wr _ _
theorem RegsWf.addSat {s : State} (h : RegsWf s) (f : Fld) (k : Nat) : RegsWf (s.addSat f k) := h.wr _ _
theorem RegsWf.bump {s : State} (h : RegsWf s) (f : Fld) : RegsWf (s.bump f) := h.wr _ _
theorem RegsWf.peak {s : State} (h : RegsWf s) (f : Fld) (v : Nat) : RegsWf (s.peak f v) := h.wr _ _
theorem RegsWf.wr64 {s : State} (h : RegsWf s) (f g : Fld) (v : Nat) : RegsWf (s.wr64 f g v) := (h.wr _ _).wr _ _

end Sys2Proof.Machine
end

