-- ==== Sys2Proof/WellFormed.lean ====
section
/-! DEFINITION. WellFormed.lean: the commands that the outside can send. A command outside this set has no counterpart at the device; the
model gives it a meaning all the same. -/

namespace Sys2Proof

/-- A BAR 2 request: at least one byte, at most a payload of 4,096, within the 64 MiB of the window (R48, R265). -/
def barSpan (addr len : Nat) : Bool := decide (1 ≤ len) && decide (len ≤ 4096) && decide (addr + len ≤ 0x4000000)

/-- The sizes and ranges that the spec gives what a command brings: BAR 2 requests (R265), the header of an update (R65), a profile word (R102),
alignment slots (R113), descriptors and scatter lists (R270, R274), reads (R267), link widths (DMA_LINK), bursts and banks (R302, R308), Umade
frames (R345). -/
def Instr.wf : Instr → Bool
  | .registerWrite _ _ _ => true
  | .driveDieWriteApply => true
  | .driveDieStatusRefresh _ _ => true
  | .driveDieReport _ => true
  | .dieLinkFrame _ => true
  | .dieLinkTimeout => true
  | .dieLinkReestablish => true
  | .timeBaseTick _ => true
  | .powerOnReset => true
  | .railDip => true
  | .driveUndervoltage => true
  | .driveUndervoltageEnd => true
  | .pinReset => true
  | .warmReset => true
  | .channelReset _ => true
  | .functionLevelReset => true
  | .perstNAssert => true
  | .perstNRelease => true
  | .bootRelease _ _ => true
  | .dramTrainingDone _ _ _ _ => true
  | .libraryStreamDone => true
  | .bootHomingDone _ => true
  | .marchTestDone _ _ => true
  | .jigVerify _ => true
  | .jigVerifyDone => true
  | .libctlBoot _ => true
  | .bar2Read addr len => barSpan addr.toNat len
  | .bar2Write addr bytes => barSpan addr.toNat bytes.length
  | .libUpdateStart _ => true
  | .libUpdateAbort => true
  | .libUpdateStepDone _ => true
  | .switchRequest _ _ _ => true
  | .switchCancel _ => true
  | .jobStb _ => true
  | .stagingDone _ _ => true
  | .runSet _ => true
  | .runClear _ => true
  | .runningEnd _ => true
  | .seqStart _ _ => true
  | .seqAbort _ => true
  | .seqEnd _ => true
  | .seqWrite _ => true
  | .seqWritem _ => true
  | .seqWaitev _ => true
  | .seqWaitevSatisfied _ => true
  | .seqWaitevTimeout _ => true
  | .seqWaitt _ => true
  | .seqWaittExpire _ => true
  | .seqMove _ => true
  | .seqMoveStandstill _ => true
  | .seqCapture _ => true
  | .seqCmp _ => true
  | .seqJump _ => true
  | .seqMark _ => true
  | .seqIllegal _ => true
  | .encoderCountChange _ _ _ _ _ => true
  | .comparePulseEnd _ _ _ => true
  | .divPulseEnd _ _ => true
  | .indexEdge _ _ => true
  | .driftCorrectionApply _ => true
  | .posPreset _ => true
  | .absRead _ => true
  | .absReadTimer _ => true
  | .absReadComplete _ _ => true
  | .absLoad _ => true
  | .posClrcnt _ => true
  | .speedUpdate _ => true
  | .deferredLineStart _ => true
  | .snsUp _ => true
  | .barDebounceEnd _ _ => true
  | .barPowerWaitEnd _ => true
  | .barInitWaitEnd _ => true
  | .laneTrainingEnd _ => true
  | .snsDown _ => true
  | .snsRetrain _ => true
  | .snsClrcnt _ => true
  | .barRemoved _ => true
  | .barPresent _ => true
  | .laneLhdr _ _ _ => true
  | .laneDataBlock _ _ _ => true
  | .laneLend _ _ _ => true
  | .laneTrainBlock _ _ _ _ => true
  | .laneIdleBlock _ _ => true
  | .laneLockGain _ _ => true
  | .laneLockLoss _ _ => true
  | .lhdrMissing _ _ => true
  | .snsSpareForce _ _ => true
  | .spiSlot _ => true
  | .spiGo _ _ _ => true
  | .spiTransactionDone _ _ => true
  | .tileVerdict _ _ _ _ _ _ => true
  | .tileRecomputeDone _ _ _ _ _ _ => true
  | .shadingReloadDone _ _ _ => true
  | .lineComplete _ faults => faults.align.all fun f => decide (f.1 ≤ 32)
  | .profileWindowWrite _ off _ => decide (off < 0x60000) && off % 4 == 0
  | .profileSwapReq _ _ => true
  | .profileSwapApply _ => true
  | .pipeClrcnt _ => true
  | .sliceSpareForce _ _ => true
  | .spareKatTimer _ => true
  | .spareKatDone _ _ => true
  | .lampLevelWrite _ _ _ _ => true
  | .lampFadestop _ => true
  | .lampOffWrite _ _ => true
  | .lmpClrcnt _ => true
  | .lampInternalMark _ => true
  | .lampTempSample _ _ => true
  | .colourHoldUpdate _ _ => true
  | .sinkSelfTestDone _ _ _ => true
  | .continuousSinkCheck _ _ _ => true
  | .lampFaultClear _ _ => true
  | .headroomUpdate _ => true
  | .ldSyncEdge => true
  | .ldSyncPulse _ => true
  | .ldSyncPulseEnd => true
  | .axisGo _ _ _ => true
  | .axisHalt _ _ => true
  | .axisEstop _ _ => true
  | .axisHome _ _ => true
  | .axisClrflt _ _ => true
  | .motGo _ _ => true
  | .motHaltall _ => true
  | .motEstopall _ => true
  | .motClrcnt _ => true
  | .motionParamWrite _ _ _ _ => true
  | .rampTick _ => true
  | .stepSumCheck _ => true
  | .pwmPeriod _ _ => true
  | .spillWriteDone _ => true
  | .spillReadDone _ _ => true
  | .tailToHeadMove _ => true
  | .fifoReadRequest _ _ => true
  | .fifoFlush _ => true
  | .fifoClrcnt _ => true
  | .stopPadding _ => true
  | .paceUpdate _ => true
  | .dtStop _ => true
  | .dtResume _ => true
  | .joinResult _ => true
  | .calStart _ => true
  | .calAbort _ => true
  | .calEval _ => true
  | .calEvalDone _ _ _ => true
  | .calStore _ => true
  | .calLoad _ _ => true
  | .profileCopyDone _ => true
  | .calClrcnt _ => true
  | .captureInternalTrigger _ => true
  | .captureDone _ => true
  | .calTempRead _ => true
  | .calAutoStart _ => true
  | .calGapClose _ => true
  | .dmaStart _ => true
  | .dmaGo _ => true
  | .dmaResume _ => true
  | .dmaAbort _ => true
  | .dmaPause _ => true
  | .dmaUnpause _ => true
  | .dmaClrcnt _ => true
  | .dmaDoorbell _ => true
  | .descriptorFetchDone _ bytes => bytes.length == 64
  | .sglFetchDone _ bytes => bytes.length == 64
  | .dmaBurst _ => true
  | .dmaBeatArbitration => true
  | .dmaReadCompletion _ bytes => decide (1 ≤ bytes.length) && decide (bytes.length ≤ 4096)
  | .dmaReadFail _ _ _ => true
  | .dmaRetryBackoff _ => true
  | .barrierComplete _ => true
  | .crheadWrite _ _ => true
  | .coalTimer _ => true
  | .pcieLinkChange up speed width _ => if up then decide (1 ≤ speed.val) && decide (speed.val ≤ 6) && [4, 8, 16].contains width.val else true
  | .pcieAerError _ => true
  | .busMasterEnableChange _ _ _ _ _ _ => true
  | .drcClrcnt _ => true
  | .drcPprnow _ => true
  | .pprWindowEnd _ _ => true
  | .drcRetrain _ => true
  | .dramPeriodicTrain _ => true
  | .dramSchedule _ asks busy => asks.all (fun a => a.addr % 64 == 0) && busy.all (fun b => decide (b < 128))
  | .dramAgePromote _ => true
  | .dramReadReturn _ addr _ => addr % 64 == 0
  | .dramRefresh _ _ => true
  | .dramMr4Read _ _ _ _ _ => true
  | .rhWindowClear _ => true
  | .monRunSet => true
  | .monRunClear => true
  | .monSnap _ => true
  | .monDiagnow => true
  | .monClrcnt => true
  | .monConversionEnd _ _ => true
  | .monStall _ => true
  | .monDiagTimer => true
  | .mainsSyncEdge => true
  | .mainsTimeout => true
  | .monInjGo => true
  | .monInjTimer => true
  | .monInjDue => true
  | .monSyscalZero _ _ => true
  | .monSyscalFull _ _ => true
  | .umdPortUp _ _ => true
  | .umdPortDown _ => true
  | .umdTick frame _ => frame.length == 31
  | .umdTickT0 => true
  | .umdTime frame _ => frame.length == 31
  | .umdCmd frame => frame.length == 31
  | .umdReply frame => frame.length == 31
  | .umdStatus frame => frame.length == 31
  | .umdEvent frame => frame.length == 31
  | .umdEcho _ frame _ => frame.length == 31
  | .umdEchoTimer => true
  | .umdKeepalive _ => true
  | .umdTimeSend => true
  | .umdStatusSend => true
  | .umdCmdGo _ _ => true
  | .umdReplyTimeout _ _ => true
  | .umdNodeTimeout _ => true
  | .umdCntClear => true
  | .trackerWindowLapse => true
  | .evtForce _ => true
  | .evtStatClear _ _ => true
  | .evtLastClear _ _ => true
  | .evtLogEnable => true
  | .evtClrcnt => true
  | .evtLogheadWrite _ => true
  | .msiHoldExpire _ => true
  | .registerScrub _ _ => true
  | .droopDetect => true
  | .stretchEnd => true
  | .pllLockLoss _ => true
  | .sysclkLoss => true
  | .dieTempRead _ => true

end Sys2Proof
end

