-- ==== Sys2Proof/Tests/Slice0.lean ====
section
/-! SUPPORT. Tests/Slice0.lean: ill-formed commands are refused, small steps go as the spec says, and the hypotheses of every statement are met
by some state. -/

namespace Sys2Proof.Tests

open Sys2Proof Sys2Proof.Machine

set_option Elab.async false

/-! ## States to test on. -/

/-- The state after reset with some register fields set. -/
def st (l : List (Fld × Nat)) : State := l.foldl (fun s p => s.wr p.1 p.2) State.reset

/-- The same with the boot over. -/
def up (l : List (Fld × Nat)) : State := (st l).modBoot fun b => { b with phase := .done }

/-- The same with memory requests of the host allowed. -/
def opened (s : State) : State := { s with dma := { s.dma with cfg := { s.dma.cfg with mse := true } } }

/-- What every statement may take of a state: canonical memories, complete lists, between two commands. -/
def ready (s : State) : Bool :=
  decide (SparseWf resetWord s.regs ∧ (∀ k : Fin 4, SparseWf zeroByte (s.dram k)) ∧ (∀ f ∈ s.flash, SparseWf erased f) ∧
    s.dma.qs.length = 16 ∧ s.mon.ins.length = 32 ∧ s.evq = [] ∧ s.umd.prep = none ∧ s.umd.sys = none ∧ s.umd.tx = [])

theorem ready_all {s : State} (h : ready s = true) : RegsWf s ∧ MemWf s ∧ FullLists s ∧ Quiet s := by
  obtain ⟨h1, h2, h3, h4, h5, h6⟩ := of_decide_eq_true h
  exact ⟨h1, ⟨h2, h3⟩, ⟨h4, h5⟩, h6⟩

/-- The state that a command leaves. -/
def run (c : Instr) (s : State) : State :=
  match exec c s with
  | .next t => t
  | _ => State.reset

/-- A schedule of 24 pixels on lane 25 by number 0, identified as lane 3. -/
def sched1 : Schedule :=
  { Schedule.none with
    pixels := 24, segs := 1, width := 12, pmin := 1000, slotStart := 100, slotEnd := 900, spares := 1,
    lanes := [⟨3, [⟨0, false, 0, 24, 0⟩]⟩] }

/-- A line of that schedule in flight, line number 5, its one lane not begun. -/
def line1 : LineRec :=
  { kind := .normal, trig := 0, slot := 0, info := ⟨5, 0, 0, 0⟩, start := 0, jig := 0, sched := sched1,
    gains := ⟨[0, 0, 0], [4096, 4096, 4096], [4096, 4096, 4096], 4096, 65535, [0x4000, 0x4000, 0x4000], false, 0⟩, spareFor := none, rough := 0, spoil := false,
    uncorr := false, derate := false, poison := false, recomp := false, recN := 0, poiN := 0, granted := false, kerf := none,
    gap := false, capUse := false, pipePoison := false, lineA := false, joinLine := false, lambda := [4096, 4096, 4096], edge := 7, hold := [],
    rx := [⟨0, false, false, [], 0xFFFF, false, false⟩], tiles := [] }

/-- A channel whose pipeline holds some lines, with that schedule active. -/
def withLines (s : State) (n : Nat) (ls : List LineRec) : State :=
  (s.modPipe n fun p => { p with lines := ls }).modSns n fun u => { u with sched := sched1, hasSched := true }

/-! ## Ill-formed commands, one for each check. -/

theorem test_wf_bar_length : (Instr.bar2Read 0 0).wf = false ∧ (Instr.bar2Read 0 4097).wf = false ∧ (Instr.bar2Read 0 4096).wf = true := by
  decide

theorem test_wf_bar_window : (Instr.bar2Read 0x3FFFFFF 2).wf = false ∧ (Instr.bar2Read 0x3FFFFFF 1).wf = true := by decide

theorem test_wf_bar_write : (Instr.bar2Write 0 []).wf = false ∧ (Instr.bar2Write 0 [(1, true)]).wf = true := by decide

theorem test_wf_profile_offset : (Instr.profileWindowWrite 0 0x60000 0).wf = false ∧ (Instr.profileWindowWrite 0 2 0).wf = false ∧
    (Instr.profileWindowWrite 0 0x5FFFC 0).wf = true := by decide

theorem test_wf_align_slot : (Instr.lineComplete 0 ⟨[(33, 0)], [], [], false, false, []⟩).wf = false ∧
    (Instr.lineComplete 0 ⟨[(32, 0)], [], [], false, false, []⟩).wf = true := by decide

theorem test_wf_descriptor : (Instr.descriptorFetchDone 0 []).wf = false ∧ (Instr.sglFetchDone 0 []).wf = false := by decide

theorem test_wf_completion : (Instr.dmaReadCompletion 0 []).wf = false ∧ (Instr.dmaReadCompletion 0 [0]).wf = true := by decide

theorem test_wf_link : (Instr.pcieLinkChange true 0 4 false).wf = false ∧ (Instr.pcieLinkChange true 6 5 false).wf = false ∧
    (Instr.pcieLinkChange true 6 16 true).wf = true := by decide

theorem test_wf_dram : (Instr.dramSchedule 0 [⟨0, .spill, 32, false⟩] []).wf = false ∧ (Instr.dramSchedule 0 [] [128]).wf = false ∧
    (Instr.dramSchedule 0 [⟨0, .spill, 64, false⟩] [127]).wf = true ∧ (Instr.dramReadReturn 0 32 ⟨⟨none, []⟩, ⟨none, []⟩, none⟩).wf = false := by decide

theorem test_wf_frames : (Instr.umdTick [] 0).wf = false ∧ (Instr.umdTime [] 0).wf = false ∧ (Instr.umdCmd []).wf = false ∧
    (Instr.umdReply []).wf = false ∧ (Instr.umdStatus []).wf = false ∧ (Instr.umdEvent []).wf = false ∧
    (Instr.umdEcho true [] 0).wf = false := by decide

/-! ## What the statements assume is met: the general ones, and the position unit. -/

theorem wit_StepRunsTheCommandInFront : State.reset.pending = [] := rfl

theorem wit_KeptHoldsAcrossEveryStep : step State.reset = .next State.reset := rfl

theorem wit_FieldWriteChangesThatFieldAlone :
    ready (st [(SNS_STAT_STATE 3, 5)]) ∧ (GLB_LIBGEN_GEN.lo ≤ GLB_LIBGEN_GEN.hi ∧ GLB_LIBGEN_GEN.hi < 32) ∧
    (GLB_BOOTSTAT_PHASE.lo ≤ GLB_BOOTSTAT_PHASE.hi ∧ GLB_BOOTSTAT_PHASE.hi = 31) ∧
    GLB_BOOTSTAT_DRAMOK.addr = GLB_BOOTSTAT_PHASE.addr ∧ GLB_BOOTSTAT_DRAMOK.hi < GLB_BOOTSTAT_PHASE.lo := by decide

theorem wit_CounterClearsClearTheirCountersAlone :
    ready (st [(POS_CNT_QERR 3, 5)]) ∧
    ∀ fs ∈ [posCounters 3, snsCounters 3, pipeCounters 3, lmpCounters 3, motCounters 3, fifoCounters 3, calCounters 3,
        dmaCounters 15, drcCounters 3, monCounters, evtCounters, umdCounters],
      fs ≠ [] ∧ ∀ f ∈ fs, GLB_LIBGEN_GEN.addr ≠ f.addr := by decide +kernel

theorem wit_EncoderLevelsMoveTheCount :
    ready (up []) ∧ (up []).rb (POS_GEN_LOOP 3) = false ∧ (up []).boot.phase ≠ .held ∧ (up []).runBit 3 = false ∧
    (up []).rd (POS_CFG_MODE 3) ≠ 2 ∧ (posOf (up []) 3).a ≠ true ∧ (posOf (up []) 3).b ≠ true ∧
    (let s := (up [(POS_GEN_LOOP 3, 1), (POS_CFG_MODE 3, 2)]).modPos 3 fun p => { p with gen := { p.gen with due := 2 } }
     ready s ∧ s.runBit 3 = false ∧ s.rb (POS_GEN_LOOP 3) = true ∧
     (genStep (posOf s 3).gen (s.rb (POS_GEN_DIR 3)) (s.rd (POS_GEN_TOOTH 3)) (s.rd (POS_GEN_TEETH 3))).isSome = true) := by
  decide +kernel

theorem wit_PulsesEndAndReferencesLatch :
    (let s := (st []).modPos 3 fun p => { p with cmpPulse := [none, none, none, some 5], divEnd := some 5, corr := some (-1) }
     ready s ∧ (posOf s 3).cmpPulse[3]? = some (some 5) ∧ 5 ≤ s.tick 5 ∧ (posOf s 3).divEnd = some 5 ∧ s.running 3 = false ∧
     (posOf s 3).corr = some (-1) ∧ s.rd (POS_CPR_CPR 3) = 0 ∧
     (let t := s.wr (POS_CPR_CPR 3) 4
      ready t ∧ t.rd (POS_CPR_CPR 3) ≠ 0 ∧ t.running 3 = false)) ∧
    (let s := (up [(POS_GEN_LOOP 3, 1)]).modPos 3 fun p => { p with gen := { p.gen with index := true } }
     ready s ∧ s.rb (POS_GEN_LOOP 3) = true ∧ (posOf s 3).gen.index = true ∧ s.boot.phase ≠ .held) ∧
    (ready (up []) ∧ (up []).rb (POS_GEN_LOOP 3) = false ∧ (up []).boot.phase ≠ .held ∧ (up []).rd (POS_CFG_REFSRC 3) = 0 ∧
     (up []).rd (POS_CFG_ZGATE 3) = 0) := by decide +kernel

theorem wit_PresetsAndAbsoluteReadsSetTheCount :
    (ready (st [(GLB_CHCTL_RUN, 8)]) ∧ (st [(GLB_CHCTL_RUN, 8)]).runBit 3 = true) ∧
    (ready (st []) ∧ (st []).runBit 3 = false ∧ (posOf (st []) 3).absGood = none) ∧
    (let s := (st []).modPos 3 fun p => { p with absGood := some (-7) }
     ready s ∧ (posOf s 3).absGood = some (-7) ∧ s.running 3 = false ∧
     (let t := s.wr GLB_CHSTAT_RUNNING 8
      ready t ∧ t.running 3 = true)) ∧
    (let s := st [(POS_ABSCFG_PROT 3, 1), (POS_ABSPER_PER 3, 1)]
     ready s ∧ s.rd (POS_ABSCFG_PROT 3) ≠ 0 ∧ s.rb (POS_STAT_ABSBUSY 3) = false ∧ s.rd (POS_ABSPER_PER 3) ≠ 0) ∧
    (ready (st [(POS_STAT_ABSBUSY 3, 1)]) ∧ (st [(POS_STAT_ABSBUSY 3, 1)]).rb (POS_STAT_ABSBUSY 3) = true) ∧
    (let s := (st []).modPos 3 fun p => { p with lastChange := some 0 }
     let t := { s with now := 4 * stoTicks s 3 }
     ready t ∧ (posOf t 3).lastChange = some 0 ∧ 0 + stoTicks t 3 ≤ t.tick 0) := by decide +kernel

/-! ## The sensor unit. -/

theorem wit_DeferredTriggerStartsItsLine :
    let s := (st []).modSns 3 fun u => { u with waiting := some ⟨⟨5, 0, 0, 0⟩, .normal, 0, 0, false, false⟩, lastStart := some 10, prevPmin := 10 }
    ready s ∧ ((s.ch 3).sns.waiting = some ⟨⟨5, 0, 0, 0⟩, .normal, 0, 0, false, false⟩ ∧ (s.ch 3).sns.lastStart = some 10) ∧
    s.now < 10 + spacing s 3 5 0 ∧ (s.ch 3).sns.behind = [] ∧
    (let t := { s with now := 10 + spacing s 3 5 0 }
     ready t ∧ 10 + spacing t 3 5 0 ≤ t.now ∧ (t.ch 3).sns.behind = []) := by decide +kernel

/-- The bar of channel 3 in training, its one lane locked, deskewed and rightly named. -/
def training1 : State :=
  (st [(SNS_STAT_STATE 3, 4)]).modSns 3 fun u => { u with
    sched := sched1, outputsOn := true, phys := u.phys.set 0 { LanePhy.idle with lock := true, skewOk := true, id := some 3, arrival := 0 } }

theorem wit_BarComesUpStepByStep :
    (ready (up []) ∧ (up []).rd (SNS_STAT_STATE 3) = 0 ∧ (up []).bootHoming 3 = false) ∧
    (ready (st [(SNS_STAT_STATE 3, 1)]) ∧ (st [(SNS_STAT_STATE 3, 1)]).rd (SNS_STAT_STATE 3) = 1) ∧
    (ready (st [(SNS_STAT_STATE 3, 2)]) ∧ (st [(SNS_STAT_STATE 3, 2)]).rd (SNS_STAT_STATE 3) = 2) ∧
    (let s := st [(SNS_STAT_STATE 3, 3)]
     ready s ∧ s.rd (SNS_STAT_STATE 3) = 3 ∧ (s.ch 3).sns.job = none) ∧
    (ready training1 ∧ training1.rd (SNS_STAT_STATE 3) = 4 ∧ lanesInUse sched1 = [0] ∧
     ∀ l ∈ lanesInUse sched1,
       let u := (training1.ch 3).sns
       let p := u.phys.getD (lanePhysFor u (training1.ch 3).pipe.trigCtr l) LanePhy.idle
       let ref := ((u.phys.find? (·.skewOk)).getD LanePhy.idle).arrival
       p.lock = true ∧ p.skewOk = true ∧ (∀ q ∈ u.phys, q.skewOk = true → arrivalLag ref q.arrival ≤ arrivalLag ref p.arrival + 100) ∧
       p.id = some 3 ∧
       ((u.sched.lanes[l]?).map (·.id)).getD 0 = 3) := by decide +kernel

theorem wit_BarGoesDownAndRetrains :
    (ready (st []) ∧ (st []).running 3 = false) ∧
    (ready (st [(GLB_CHSTAT_RUNNING, 8)]) ∧ (st [(GLB_CHSTAT_RUNNING, 8)]).running 3 = true) ∧
    (ready (st [(SNS_STAT_STATE 3, 5)]) ∧ (st [(SNS_STAT_STATE 3, 5)]).rd (SNS_STAT_STATE 3) = 5 ∧
     (st [(SNS_STAT_STATE 3, 5)]).running 3 = false) ∧
    (ready training1 ∧ training1.running 3 = false ∧ (training1.ch 3).sns.outputsOn = true) ∧
    (ready (st [(SNS_STAT_PEN 3, 1)]) ∧ (st [(SNS_STAT_PEN 3, 1)]).rb (SNS_STAT_PEN 3) = true) := by decide +kernel

/-- Channel 3 with one line in flight whose lane 0 is as given. -/
def receiving (r : LaneRx) : State := withLines (st []) 3 [{ line1 with rx := [r] }]

/-- The payload of a block: its marker byte and the rest. -/
def pay (marker rest : Nat) : BitVec 64 := BitVec.ofNat 64 (marker + 256 * rest)

theorem wit_LaneBlocksReceiveALine :
    (let r : LaneRx := ⟨0, false, false, [], 0xFFFF, false, false⟩
     let l := { line1 with rx := [r] }
     let s := receiving r
     let u := (s.ch 3).sns
     let v := (pay 0x78 (3 + 0x100 * 7 + 0x1000000)).toNat
     ready s ∧ bits v 7 0 = 0x78 ∧ bits v 63 34 = 0 ∧ bits v 15 13 = 0 ∧ rxTarget u (s.ch 3).pipe.lines 0 true = none ∧
     rxTarget u (s.ch 3).pipe.lines 0 false = some (l, r) ∧ bits v 12 8 = ((l.sched.lanes[0]?).map (·.id)).getD 0 ∧
     bits v 31 16 = (l.edge + (u.phys.getD 0 LanePhy.idle).tagOff) % 65536 ∧ bits v 33 32 = 1 ∧ l.sched.width = 12) ∧
    (let r : LaneRx := ⟨0, true, false, List.replicate 5 0, 0x1234, false, false⟩
     let l := { line1 with rx := [r] }
     let s := receiving r
     let v := (pay 0x87 (0x1234 + 0x10000 * 24)).toNat
     let m := (l.sched.lanes[0]?).getD { id := 0, runs := [] }
     ready s ∧ rxTarget (s.ch 3).sns (s.ch 3).pipe.lines 0 true = some (l, r) ∧ bits v 7 0 = 0x87 ∧ bits v 63 48 = 0 ∧
     r.words.length = laneBlocks m l.sched.width ∧ bits v 47 24 = laneSamples m ∧ r.framing = false ∧
     bits v 23 8 = r.crc.toNat ∧ bit (s.rd (SNS_LANEFLT_FLT 3)) 0 = false) := by decide +kernel

theorem wit_Crc16OfALaneIsThatOfItsBytes :
    let r : LaneRx := ⟨0, true, false, List.replicate 5 0, 0x1234, false, false⟩
    let l := { line1 with rx := [r] }
    let s := receiving r
    let v := (pay 0x87 (0x1235 + 0x10000 * 24)).toNat
    ready s ∧ rxTarget (s.ch 3).sns (s.ch 3).pipe.lines 0 true = some (l, r) ∧ bits v 7 0 = 0x87 ∧ bits v 63 48 = 0 ∧
    r.words.length = laneBlocks ((l.sched.lanes[0]?).getD { id := 0, runs := [] }) l.sched.width ∧
    bits v 47 24 = laneSamples ((l.sched.lanes[0]?).getD { id := 0, runs := [] }) ∧ r.framing = false ∧
    bits v 23 8 ≠ r.crc.toNat := by decide +kernel

theorem wit_LaneReceiversLockAndTrain :
    ready training1 ∧ rxTarget (training1.ch 3).sns (training1.ch 3).pipe.lines 25 true = none ∧
    training1.rd (SNS_STAT_STATE 3) = 4 ∧
    (let v := (pay 0x4B (31 + 0x100 * 9 + 0x1000000 * 0xA5C30F96)).toNat
     bits v 7 0 = 0x4B ∧ bits v 63 32 = 0xA5C30F96 ∧ bits v 15 13 = 0) := by decide +kernel

theorem wit_SensorSpiSendsItsTransactions :
    (let s := st [(SNS_STAT_STATE 3, 5)]
     ready s ∧ s.rb (SNS_SPICMD_BUSY 3) = false ∧ spiLenOk 32 = true ∧ spiLenOk 8 = true ∧ spiLenOk 33 = false ∧
     s.rd (SNS_STAT_STATE 3) = 5 ∧ s.running 3 = false ∧ (s.ch 3).sns.job = none) ∧
    (let tx : SpiTx := ⟨1, 0, 0, 32, false, false⟩
     let s := (st []).modSns 3 fun u => { u with job := some { tx := tx, src := .host, slotOf := none } }
     ready s ∧ (s.ch 3).sns.job = some { tx := tx, src := .host, slotOf := none }) ∧
    (let s := withLines (st [(GLB_CHSTAT_RUNNING, 8)]) 3 [line1]
     ready s ∧ s.running 3 = true ∧ (s.ch 3).pipe.lines.getLast? = some line1) ∧
    (ready (st []) ∧ freeSpare ((st []).wr (SNS_SPARE_LANE 3) 23) 3 = none) ∧
    (let s := (st []).modSns 3 fun u => { u with sched := sched1, phys := u.phys.set 24 { LanePhy.idle with lock := true } }
     ready s ∧ freeSpare (s.wr (SNS_SPARE_LANE 3) 23) 3 = some 0) := by decide +kernel

/-! ## The pipeline. -/

/-- Line 1 with every lane ended, which is what a tile verdict finds. -/
def lineEnded : LineRec := { line1 with rx := [⟨0, true, true, [], 0xFFFF, false, false⟩] }

/-- An error in the gain stage of the first sample. -/
def upset1 : Upset := ⟨0, 0, .gain, 1⟩

theorem wit_TilesPassOrAreRecomputed :
    (let s := withLines (st []) 3 [lineEnded]
     let p := (s.ch 3).pipe
     ready s ∧ verdictLine p 0 0 = some lineEnded ∧ (p.badShd.contains (0, 0, lineEnded.gains.bank) && lineEnded.gains.pvalid) = false ∧
     (tileCompute p lineEnded 0 0 []).2 = true ∧ (tileCompute p lineEnded 0 0 [upset1]).2 = false ∧
     lagNow p (physSlice lineEnded 0) s.now 192 + 192 ≤ 3072) ∧
    (let l := { lineEnded with tiles := [⟨0, 0, [], .recomputing, false⟩] }
     let s := withLines (st []) 3 [l]
     ready s ∧ recomputeLine (s.ch 3).pipe 0 0 = some l ∧ (tileCompute (s.ch 3).pipe l 0 0 []).2 = true) := by decide +kernel

theorem wit_CompleteLineLeavesThePipeline :
    (let s := withLines (st []) 3 [line1, line1]
     ready s ∧ (s.ch 3).pipe.lines = line1 :: [line1] ∧ lineReady s 3 line1 = false) ∧
    (let l := { lineEnded with tiles := [⟨0, 0, List.replicate 72 0, .done, false⟩] }
     let s := withLines (st []) 3 [l]
     ready s ∧ (s.ch 3).pipe.lines = l :: [] ∧ lineReady s 3 l = true) := by decide +kernel

theorem wit_ProfileWindowAndSwaps :
    (let s := st []
     let t := s.wr (PIPE_CTL_SWVALID 3) 1
     ready s ∧ shadowBusy s 3 (profStage s 3) = false ∧ shadowBusy t 3 (profStage t 3) = false ∧ s.rb (PIPE_STAT_SWPEND 3) = false) ∧
    (let s := st [(SEQ_STAT_STATE 3, 1), (SEQ_STAT_TYPE 3, 2)]
     let t := s.wr (PIPE_CTL_SWVALID 3) 1
     ready s ∧ shadowBusy s 3 (profStage s 3) = true ∧ shadowBusy t 3 (profStage t 3) = true) ∧
    (let s := (st [(PIPE_STAT_SWPEND 3, 1)]).modPipe 3 fun p => { p with swapPend := some (true, 0) }
     ready s ∧ s.running 3 = false ∧ (s.ch 3).pipe.swapPend = some (true, 0)) := by decide +kernel

theorem wit_SpareSliceIsTestedAndForced :
    (ready (st []) ∧ spareBusy (st []) 3 = false ∧ ((st []).ch 3).pipe.kat = none) ∧
    (ready (st [(PIPE_SPARE_KATOK 3, 1)]) ∧ spareReady ((st [(PIPE_SPARE_KATOK 3, 1)]).wr (PIPE_SPARE_SLICE 3) 7) 3 = true) ∧
    ∀ k ∈ [(KatUse.waiting, false), (.waiting, true), (.force 7, false)],
      let s := (st []).modPipe 3 fun p => { p with kat := some k }
      ready s ∧ (s.ch 3).pipe.kat = some k := by decide +kernel

/-! ## The lamps. -/

/-- Channel 3 with an enabled sink 0 of group 3 in its sink table. -/
def sinkOn : State := (st []).modCh 3 fun c => { c with tabs := writeBytes [] 0x61000 [255, 0, 0, 0, 16, 0, 0, 11] }

theorem wit_LampSettingsAreStaged :
    (ready (st []) ∧ levelRefused (st []) 3 3 0xFFFF = false) ∧
    (ready sinkOn ∧ levelRefused sinkOn 3 3 1 = true) ∧
    (let s := (st [(LMP_FAULT_SHORT 3, 0x800)]).modLmp 3 fun u => { u with sinks := u.sinks.set 11 { SinkSt.init with shortOff := true } }
     ready s ∧ bit ((LMP_FAULT_SHORT 3).of (0xFFFFFFFF : Word)) 11 = true ∧ bit (s.rd (LMP_FAULT_SHORT 3)) 11 = true ∧
     (sinkOf s 3 11).shortOff = true) ∧
    (let s := (st [(LMP_CTL_OFF 3, 1), (LMP_DERLIM_TOFF 3, 1600)]).modLmp 3 fun u => { u with theta := 1600 }
     ready s ∧ (!false && s.rb (LMP_CTL_OFF 3) &&
       decide (sext 16 (s.rd (LMP_DERLIM_TOFF 3)) - 80 < (s.ch 3).lmp.theta.toInt)) = true) := by decide +kernel

theorem wit_LampMeasurementsAdjustTheLight :
    (ready (st [(LMP_DERLIM_TOFF 3, 1600)]) ∧ sext 16 ((st [(LMP_DERLIM_TOFF 3, 1600)]).rd (LMP_DERLIM_TOFF 3)) < (1601 : BitVec 16).toInt) ∧
    (let s := (st []).modLmp 3 fun u => { u with vmin := some 0 }
     ready s ∧ (s.ch 3).lmp.vmin = some 0) ∧
    (ready (st [(LMP_HOLDCFG_SRC 3, 0)]) ∧ ((st []).ch 3).lmp.hold[3]? = some ⟨0, 0, 0, 0, false, none⟩ ∧ holdSrc (st [(LMP_HOLDCFG_SRC 3, 0)]) 3 3 = 0) ∧
    (let h : HoldSt := ⟨9, 1, 1, 1, true, none⟩
     let s := (st [(LMP_HOLDCFG_SRC 3, 0x40), (LMP_HOLDCFG_HPER 3, 1)]).modLmp 3 fun u => { u with hold := u.hold.set 3 h }
     ready s ∧ (s.ch 3).lmp.hold[3]? = some h ∧ holdSrc s 3 3 ≠ 0 ∧ max 1 (s.rd (LMP_HOLDCFG_HPER 3)) ≤ h.lines) ∧
    (let s := st [(GLB_SW_STAT_NOJIG 3, 0)]
     ready s ∧ s.running 3 = false ∧ s.rb (GLB_SW_STAT_NOJIG 3) = false) ∧
    (ready (st [(GLB_CHSTAT_RUNNING, 8)]) ∧ (st [(GLB_CHSTAT_RUNNING, 8)]).running 3 = true) := by decide +kernel

theorem wit_SinksAreCheckedAndLdSyncPulses :
    (let s := (st []).modLmp 3 fun u => { u with sinks := u.sinks.set 11 { SinkSt.init with testing := true } }
     ready s ∧ (sinkOf s 3 11).testing = true) ∧
    (let sn : SinkSense := ⟨5, none⟩
     let s := modSink ({ (sinkOn.wr (GLB_SW_STAT_NOJIG 3) 0).modBoot (fun b => { b with phase := .done }) with
       drv := { DrvSt.init with linkUp := true, image := [((LMP_CTL_OFF 3).addr, 0)] } }) 3 0 fun k => { k with mode := 3 }
     let u := modSink s 3 0 fun k => { k with sense := sn }
     ready s ∧ (sinkOf u 3 0).mode = 3 ∧ sinkLit u 3 0 = true) ∧
    (ready (st []) ∧ (st []).ldLow = false ∧ (st []).rb GLB_LDSYNC_OUT = false) ∧
    (ready (st [(GLB_LDSYNC_OUT, 1)]) ∧ (st [(GLB_LDSYNC_OUT, 1)]).rb GLB_LDSYNC_OUT = true) ∧
    (let x : LvStage := ⟨1, 0, 2, 0, 0, none⟩
     let s := (st [(GLB_CHSTAT_RUNNING, 8)]).modLmp 3 fun u => { u with staged := u.staged.set 3 (some x) }
     ready s ∧ s.rb GLB_LDSYNC_OUT = false ∧ s.running 3 = true ∧ (s.ch 3).lmp.staged[3]? = some (some x) ∧ x.when_ = 2 ∧
     x.edge = none) := by decide +kernel

/-! ## Motion. -/

/-- Channel 3 with axis 3 in a mode, and its registers as given. -/
def moving3 (l : List (Fld × Nat)) (x : AxisSt) : State := (st l).modMot 3 fun m => { m with axes := m.axes.set 3 x }

theorem wit_AxisStopsAndFaultClears :
    (ready (st []) ∧ (axis (st []) 3 (carrier (st []) 3 3)).mode = .still) ∧
    (let s := moving3 [] { AxisSt.init with mode := .ramp }
     ready s ∧ (axis s 3 (carrier s 3 3)).mode ≠ .still ∧ (axis s 3 (carrier s 3 3)).mode ≠ .estop) := by decide +kernel

/-- An axis that may start: enabled, with limits and a target. -/
def canMove : List (Fld × Nat) :=
  [(MOTA_CFG_EN 3 3, 1), (MOTA_MINPOS_LIM 3 3, 0), (MOTA_MAXPOS_LIM 3 3, 100), (MOTA_TGT_TGT 3 3, 5), (MOTA_HOMEV_HOMEV 3 3, 1)]

theorem wit_AxisStartsAreTakenOrRefused :
    (let u := fldWrite (st []) (MOTA_CTL_REL 3 3) (b2n true)
     ready (st []) ∧ moveCause u 3 3 (regTarget u 3 3) true = some 4) ∧
    (let s := up canMove
     let u := fldWrite s (MOTA_CTL_REL 3 3) (b2n false)
     ready s ∧ moveCause u 3 3 (regTarget u 3 3) true = none ∧ regTarget u 3 3 * uStep ≠ (axis u 3 3).p ∧ startCause s 3 3 false = none ∧
     s.rd (MOTA_HOMEV_HOMEV 3 3) ≠ 0 ∧ s.rd (MOTA_HOMEV_HOMEV 3 3) ≤ min (s.rd (MOTA_VSTART_V 3 3)) (s.rd (MOTA_VSTOP_V 3 3))) ∧
    (let s := up ((MOTA_TGT_TGT 3 3, 0) :: canMove.filter (·.1 ≠ MOTA_TGT_TGT 3 3))
     let u := fldWrite s (MOTA_CTL_REL 3 3) (b2n false)
     ready s ∧ moveCause u 3 3 (regTarget u 3 3) true = none ∧ regTarget u 3 3 * uStep = (axis u 3 3).p) ∧
    (let s := up canMove
     let u := fldWrite s (MOT_CTL_GMASK 3) 8
     ready s ∧ maskAxes 8 = [3] ∧ u.rd (MOT_CTL_GMASK 3) = 8 ∧ moveCause u 3 3 (regTarget u 3 3) false = none ∧
     regTarget u 3 3 * uStep ≠ (axis u 3 3).p) ∧
    (ready (st []) ∧ (axis (st []) 3 3).moving = false) ∧
    (let s := moving3 [] { AxisSt.init with mode := .ramp }
     ready s ∧ (axis s 3 3).moving = true ∧ ((axis s 3 3).own.put 0x18 0).ok = false) := by decide +kernel

theorem wit_MotionTicksAndDutiesFollow :
    (∀ x ∈ [AxisSt.init, { AxisSt.init with mode := .ramp, first := true },
        { AxisSt.init with mode := .ramp, tgt := 1000000, startP := 0, set := ⟨1, 1, 1, 10, 1, 1, 1, 1, 10⟩ }],
      let s := moving3 [] x
      ready s ∧ s.rd (MOT_STAT_GROUP 3) = 0 ∧ (∀ a : Fin 4, s.rb (MOTA_CFG_ENCCHK 3 a) = false) ∧ axis s 3 3 = x ∧ x.testDec = false ∧
      (rampStep { x with vPrev := x.v }).2 = decide (x.tgt = 0)) ∧
    (ready (st []) ∧ (st []).drv.linkUp = false ∧ bridgesOn (st []) 3 3 = false) ∧
    (let s := modAxis { up [] with drv := { DrvSt.init with linkUp := true, image := [((MOTA_CFG_EN 3 3).addr, 0x80000000)] } } 3 3
       fun x => { x with bridgesOff := false }
     ready s ∧ bridgesOn s 3 3 = true) ∧
    (let s := { st [] with drv := { DrvSt.init with linkUp := true } }
     ready s ∧ s.drv.linkUp = true ∧ (∀ n a : Fin 4, toBits 32 (axis s n a).dSum = toBits 32 (axis s n a).sumOwn) ∧
     ∀ n : Fin 4, motWatch s n = s) := by decide +kernel

/-! ## Jigs, lists and calibration. -/

/-- Jig j with one list of one word, of a kind, for channel 3. -/
def jig1 (j sub : Nat) : List Byte :=
  let sec := leBytes 8 0
  let dir := [(4 : Byte), 3, BitVec.ofNat 8 sub, 0] ++ leBytes 4 128 ++ leBytes 4 8 ++ leBytes 4 (crc32 sec)
  let h := leBytes 4 0x474A5853 ++ leBytes 2 1 ++ [BitVec.ofNat 8 j, 8, 1, 0xB0, 0, 0] ++ leBytes 4 192 ++ List.replicate 44 0
  h ++ leBytes 4 (crc32 (h ++ dir)) ++ dir ++ List.replicate 48 0 ++ sec ++ List.replicate 56 0

/-- A DRAM with that jig in slot j, controller 0 in service, training over. -/
def withJig (l : List (Fld × Nat)) (j sub : Nat) : State :=
  (st ([(GLB_BOOTSTAT_DRAMOK, 15), (GLB_BOOTSTAT_PHASE, 5)] ++ l)).modDram 0 fun m => writeBytes m (j * 0x100000) (jig1 j sub)

/-- The same with every controller holding it. -/
def withJigs (l : List (Fld × Nat)) (j sub : Nat) : State :=
  iterate 4 (withJig l j sub) fun s k => s.modDram k fun _ => writeBytes [] (j * 0x100000) (jig1 j sub)

/-- Runner 4 at the first word of a list, running. -/
def running4 (l : List (Fld × Nat)) (ws : List (BitVec 64)) : State :=
  { st ((SEQ_STAT_STATE 3, 1) :: l) with runners := (List.replicate 5 Runner.idle).set 4 { Runner.idle with words := ws } }

/-- The first word of a command: its code, and the rest. -/
def cmd (op rest : Nat) : BitVec 64 := BitVec.ofNat 64 (op * 2 ^ 60 + rest)

theorem wit_ListCommandsActAndMoveOn :
    (∀ b ∈ [0, 1], let s := running4 [] [cmd 0 b]
      ready s ∧ cmdNow s 4 0 = some (cmd 0 b, 0)) ∧
    (let s := running4 [] [cmd 8 1, cmd 0 0]
     ready s ∧ cmdNow s 4 8 = some (cmd 8 1, cmd 0 0)) ∧
    (let s := running4 [] [cmd 9 0xFFFF, cmd 0 0]
     ready s ∧ cmdNow s 4 9 = some (cmd 9 0xFFFF, cmd 0 0)) ∧
    (∀ p ∈ [(5, false), (0, true), (2 ^ 56 + 2 ^ 32 * 2, true), (2 ^ 57, true)],
      let w := cmd 7 (2 ^ 59 + 0x14000 * 2 ^ 32)
      let m := cmd 0 (p.1 / 2 ^ 32 * 2 ^ 32 + 0xFFFFFFFF)
      let m' := if p.2 then m else cmd 1 0xFFFFFFFF
      let s := running4 [] [w, m', cmd 0 0]
      ready s ∧ cmdNow s 4 7 = some (w, m') ∧ (seqTarget 4 w).isSome ∧
      (∀ a ∈ seqTarget 4 w, cmpHolds (bits m'.toNat 63 60) ((readWord s a).1 &&& m'.extractLsb' 0 32).toNat
        (w.extractLsb' 0 32 &&& m'.extractLsb' 0 32).toNat = p.2)) ∧
    (let s := running4 [] [cmd 1 (2 ^ 59 + 0x14000 * 2 ^ 32), cmd 0 0]
     ready s ∧ cmdNow s 4 1 = some (cmd 1 (2 ^ 59 + 0x14000 * 2 ^ 32), cmd 0 0) ∧
     (seqWritable 4 (cmd 1 (2 ^ 59 + 0x14000 * 2 ^ 32))).isSome ∧ portHolds s 4 = false ∧
     (let t := { s with port := [⟨5, 0, 0x14000, 0, 0xFFFFFFFF, 1⟩] }
      ready t ∧ portHolds t 4 = true)) ∧
    (let s := running4 [] [cmd 1 (0x40 * 2 ^ 32), cmd 0 0]
     ready s ∧ cmdNow s 4 1 = some (cmd 1 (0x40 * 2 ^ 32), cmd 0 0) ∧ seqWritable 4 (cmd 1 (0x40 * 2 ^ 32)) = none) ∧
    (∀ off ∈ [2 ^ 59 + 0x14000 * 2 ^ 32, 0x40 * 2 ^ 32],
      let s := running4 [] [cmd 2 off, cmd 0 1, cmd 0 0]
      ready s ∧ cmdNow s 4 2 = some (cmd 2 off, cmd 0 1) ∧ (seqWritable 4 (cmd 2 off)).isSome = decide (off ≠ 0x40 * 2 ^ 32)) ∧
    (ready (running4 [] []) ∧ cmdIllegal (running4 [] []) 4 = true) := by decide +kernel

theorem wit_ListWaitsHoldAndEnd :
    (∀ us ∈ [0, 0xFFFFFFFF], let w := cmd 3 (64 * 2 ^ 48 + us)
      let s := running4 [] [w, cmd 0 0]
      ready s ∧ cmdNow s 4 3 = some (w, cmd 0 0) ∧ evStat s 64 = false) ∧
    (let s := { running4 [(SEQ_STAT_STATE 3, 2), (EVT_STAT_STAT 2, 1)] [] with
       runners := (List.replicate 5 Runner.idle).set 4 { Runner.idle with ev := 64 } }
     ready s ∧ s.rd (seqState 4) = 2 ∧ evStat s (runnerOf s 4).ev = true) ∧
    (let s := { running4 [(SEQ_STAT_STATE 3, 2)] [] with
       runners := (List.replicate 5 Runner.idle).set 4 { Runner.idle with ev := 64, until_ := some 0 } }
     ready s ∧ s.rd (seqState 4) = 2 ∧ (runnerOf s 4).until_ = some 0 ∧ 0 ≤ s.now ∧ evStat s (runnerOf s 4).ev = false) ∧
    (let s := running4 [] [cmd 4 1, cmd 0 0]
     ready s ∧ cmdNow s 4 4 = some (cmd 4 1, cmd 0 0)) ∧
    (let s := { running4 [(SEQ_STAT_STATE 3, 3)] [] with
       runners := (List.replicate 5 Runner.idle).set 4 { Runner.idle with until_ := some 0 } }
     ready s ∧ s.rd (seqState 4) = 3 ∧ (runnerOf s 4).until_ = some 0 ∧ 0 ≤ s.now) := by decide +kernel

theorem wit_ListsStartMoveAndCapture :
    (ready (running4 [] []) ∧ (running4 [] []).listRuns 4 = true) ∧
    (∀ ty ∈ [3, 4], let s := withJigs [(GLB_SW_STAT_NOJIG 3, 0), (GLB_SW_STAT_ACTIVE 3, 63)] 63 ty
      let u := s.wr (SEQ_CTL_TYPE 3) ty
      ready s ∧ s.listRuns 4 = false ∧ s.rb (GLB_SW_STAT_NOJIG 3) = false ∧
      jigList (jigFor u (some 3) (jigOf s 3)) 3 ty = some [0]) ∧
    (let w := cmd 5 (3 * 2 ^ 56 + 2 ^ 55 + 1)
     let s := running4 [] [w, cmd 0 0]
     ready s ∧ cmdNow s 4 5 = some (w, cmd 0 0)) ∧
    (let s := running4 [(SEQ_STAT_STATE 3, 4)] []
     ready s ∧ s.rd (seqState 4) = 4 ∧ (axis s 3 (runnerOf s 4).axis).moving = false) ∧
    (∀ ty ∈ [1, 2], let s := running4 [(SEQ_STAT_TYPE 3, ty)] [cmd 6 (3 * 2 ^ 52 + 1), cmd 0 0]
      ready s ∧ cmdNow s 4 6 = some (cmd 6 (3 * 2 ^ 52 + 1), cmd 0 0) ∧ s.rd (seqType 4) = ty ∧ s.runners.length = 5) := by
  decide +kernel

theorem wit_CalibrationStartsAndAborts :
    (ready (running4 [] []) ∧ (running4 [] []).listRuns 4 = true) ∧
    (let s := (withJigs [(GLB_SW_STAT_NOJIG 3, 0), (GLB_SW_STAT_ACTIVE 3, 63), (CAL_STAT_TREQ 3, 1)] 63 2).modCal 3 fun c =>
       { c with reqFirst := true }
     ready s ∧ s.listRuns 4 = false ∧ s.switching 3 = false ∧ s.rb (GLB_SW_STAT_NOJIG 3) = false ∧ s.rough 3 = false ∧
     s.safe = false ∧ jigList (jigFor s (some 3) (jigOf s 3)) 3 2 = some [0] ∧ calMayStart s 3 = true) ∧
    (ready (st []) ∧ calMayStart (st []) 3 = false ∧ (st []).calList 3 = false) ∧
    (ready (running4 [(SEQ_STAT_TYPE 3, 2)] []) ∧ (running4 [(SEQ_STAT_TYPE 3, 2)] []).calList 3 = true) := by decide +kernel

theorem wit_EvaluationsAndProfileCopies :
    (let s := (running4 [(SEQ_STAT_TYPE 3, 2)] []).modCal 3 fun c => { c with evalBusy := true }
     ready s ∧ (calOf s 3).evalBusy = true ∧ copyRefused s 3 = true ∧ copyRefused (s.wr (CAL_CTL_SLOT 3) 15) 3 = true) ∧
    (ready (st []) ∧ copyRefused (st []) 3 = false ∧ copyRefused ((st []).wr (CAL_CTL_SLOT 3) 15) 3 = false) ∧
    ∀ k ∈ [(true, 15), (false, 15)], let s := (st [(CAL_STAT_BUSY 3, 1)]).modCal 3 fun c => { c with copying := some k }
      ready s ∧ (calOf s 3).copying = some k := by decide +kernel

theorem wit_CapturesAndTheGap :
    (ready (st []) ∧ captureWants (st []) 3 = false) ∧
    (let s := ({ st [(SNS_STAT_STATE 3, 5)] with now := 2000000 }.modCal 3 fun c =>
       { c with capture := some ⟨3, 1, 1, 0, 0, false, [], none, false⟩ }).modSns 3 fun u => { u with lastStart := some 0 }
     ready s ∧ captureWants s 3 = true ∧ s.rd (SNS_STAT_STATE 3) = 5 ∧ s.safe = false ∧ (s.ch 3).sns.waiting = none ∧
     (s.ch 3).sns.lastStart = some 0 ∧ 0 + max (s.rd (CAL_CAPPER_PER 3)) (s.ch 3).sns.sched.pmin ≤ s.now ∧
     0 + spacing s 3 0 s.now ≤ s.now) ∧
    (∀ w ∈ [false, true], let k : CaptureSt := ⟨3, 1, 1, 1, 0, false, [], none, w⟩
      let s := { (st []).modCal 3 fun c => { c with capture := some k } with
        runners := (List.replicate 5 Runner.idle).set 4 { Runner.idle with capturing := true } }
      ready s ∧ (calOf s 3).capture = some k ∧ k.store < 4 ∧ k.invalid = false ∧ (runnerOf s 4).capturing = true) ∧
    (ready (st []) ∧ monTemp (st []) ((st []).rd (CAL_CFG_TSRC 3)) = none) ∧
    (let s := { st [] with mon := { MonSt.init with ins := MonSt.init.ins.map fun m => { m with latest := some (400, 0) } } }
     ready s ∧ monTemp s (s.rd (CAL_CFG_TSRC 3)) = some 400) ∧
    ((st []).rb (CAL_STAT_GAP 3) && !(calOf (st []) 3).listOn && slideParked (st []) 3) = false ∧
    (let s := st [(CAL_STAT_GAP 3, 1), (GLB_CHSTAT_RUNNING, 8)]
     ready s ∧ (s.rb (CAL_STAT_GAP 3) && !(calOf s 3).listOn && slideParked s 3) = true ∧ s.running 3 = true) := by decide +kernel

/-! ## Events, clocks, resets, the host link and the drive die. -/

theorem wit_EventStatusAndLogCommands :
    (let s := { st [(EVT_LAST_LAST 31, 0x80000000)] with evt := { EvtSt.init with lasting := [⟨1023, 0, 0, 0⟩] } }
     ready s ∧ 1023 / 32 = 31 ∧ bit (0xFFFFFFFF : Word).toNat (1023 % 32) = true ∧ evLast s 1023 = true) ∧
    (ready (st [(DMA_LINK_BME, 1)]) ∧ canMaster (st [(DMA_LINK_BME, 1)]) = true) ∧
    (ready (st []) ∧ (st []).evt.msiMerge.contains 63 = false) ∧
    (let s := { st [(DMA_LINK_BME, 1)] with evt := { EvtSt.init with msiMerge := [63] } }
     ready s ∧ s.evt.msiMerge.contains 63 = true ∧ canMaster s = true) ∧
    evInUse 1023 = false ∧ evInUse EV_RUN_REFUSED = true := by decide +kernel

theorem wit_SilentHappeningSetsStatusAndCounts :
    let r := ev (EV_POS_CORR 3)
    let s := (st []).setWord (0xA004 + 8 * EV_POS_CORR 3) 0
    ready s ∧ r.ev < 1024 ∧ r.countOn = [r.ev] ∧ evClass s r.ev = 0 ∧ evLogEn s r.ev = false ∧ evMsiEn s r.ev = false ∧
    evUmd s r.ev = false := by decide +kernel

theorem wit_ClocksAndScrubberReport :
    (let s := { st [] with now := 999999, evt := { EvtSt.init with stretchAt := some 0, stretchOn := some 0 } }
     ready s ∧ s.rb CLK_STAT_STRETCH = false ∧ s.evt.stretchAt = some 0 ∧ s.now < 0 + 1000000 ∧ s.evt.stretchOn = some 0) ∧
    (ready (st []) ∧ (st []).evt.stretchAt = none) ∧
    isReg (4 * (0xFFFFF : BitVec 20).toNat) = false ∧ isReg 0x80000 = true ∧
    (let s := { st [] with evt := { EvtSt.init with scrub := [(0x80000, some 9)] } }
     ready s ∧ s.evt.scrub.find? (·.1 == 0x80000) = some (0x80000, some 9)) := by decide +kernel

theorem wit_HardResetsReturnTheDeviceToPowerOn : ready (st [(SNS_STAT_PRES 3, 1), (MOTA_STAT_REF 3 3, 1)]) := by decide +kernel

theorem wit_WarmAndChannelResetsClearTheirBlocks :
    (∀ p ∈ [BootPhase.held, .done, .failed, .maintenance, .training, .library, .hostWait, .devList, .channels],
      let s := (st []).modBoot fun b => { b with phase := p }
      ready s ∧ s.boot.phase = p) ∧ swIndex (st []) 3 = none := by decide +kernel

theorem wit_HostLinkResetsAndConfiguration :
    (ready { st [] with dma := { DmaSt.init with perst := true } }) ∧ (ready (st []) ∧ (st []).dma.perst = false) ∧
    flrKeeps 0x40 = true ∧ (∃ a, flrKeeps a = false) := by
  refine ⟨by decide +kernel, by decide +kernel, by decide +kernel, 0x18000, by decide +kernel⟩

theorem wit_DriveDieFollowsItsLink :
    (let s := { st [] with drv := { DrvSt.init with linkUp := true, fwd := [(0x98100, 1)], reports := [.limited 3 3, .thermal] } }
     ready s ∧ s.drv.fwd = (0x98100, 1) :: [] ∧ s.drv.linkUp = true ∧ s.drv.reports = .limited 3 3 :: [.thermal]) ∧
    (∀ r ∈ [DriveReport.thermal, .stepJump 3 3, .limited 3 3, .lampShort 3 11, .lampOpen 3 11, .sinkFault 3 11],
      let s := { st [] with drv := { DrvSt.init with linkUp := true, reports := [r] } }
      ready s ∧ s.drv.reports = r :: []) ∧
    (ready (st []) ∧ (st []).drv.linkUp = false ∧ (st []).drv.fwd = []) ∧
    (∃ b : FrameBad, b.crc = true) ∧ (∃ b : FrameBad, b.crc = false ∧ b.errs = []) := by
  exact ⟨by decide +kernel, by decide +kernel, by decide +kernel, ⟨⟨true, []⟩, rfl⟩, ⟨⟨false, []⟩, rfl, rfl⟩⟩

theorem wit_TimeBaseCountsControlClocks :
    (ready (st []) ∧ isManager (st []) = false ∧ (st []).umd.slew ≤ 0) ∧
    (let s := { st [(POS_GEN_RUN 3, 1), (POS_GENRATE_RATE 3, 9)] with port := [⟨0, 0, 0x14, 7, 0xFFFFFFFF, 0⟩] }
     ready s ∧ s.port = ⟨0, 0, 0x14, 7, 0xFFFFFFFF, 0⟩ :: [] ∧ s.rb (POS_GEN_RUN 3) = true ∧ s.rb (POS_GEN_RUN 0) = false ∧
     portUsed s = false ∧
     (let t := { s with port := [] }
      ready t ∧ t.port = []) ∧
     (let t := { s with portAt := s.clock + 1 }
      ready t ∧ portUsed t = true)) ∧
    (let s := { st [(UMD_STAT_TIMEOK, 1)] with umd := { UmdSt.init with slew := 1000 } }
     ready s ∧ 0 < s.umd.slew ∧ isManager s = false ∧ s.rb UMD_STAT_TIMEOK = true) := by decide +kernel

theorem wit_HostWritesReachOnlyOpenBits :
    (ready (st []) ∧ barOpen (st []) = false) ∧
    (let s := { opened (st []) with port := [⟨1, (st []).clock, 4, 0, 0, 1⟩] }
     ready s ∧ barOpen s = true ∧ s.frozen = [] ∧ portUsed s = false ∧ (∀ q ∈ s.port.head?, q.clock = s.clock ∧ 0 < q.src) ∧
     portUsed { s with portAt := s.clock + 1 } = true) ∧
    (let s := { opened (st []) with port := [⟨0, (st []).clock, 4, 0, 0, 1⟩] }
     ready s ∧ barOpen s = true ∧ ∃ q ∈ s.port.head?, ¬ (q.clock = s.clock ∧ 0 < q.src)) ∧
    (let a := 4 * (0x7FFFF : BitVec 20).toNat
     fieldsAt 0x1FFFFC = [] ∧ a = 0x1FFFFC ∧ isEvTable a = false ∧ ¬ (0x18000 ≤ a ∧ a < 0x18400) ∧ ¬ (0x200000 ≤ a ∧ a < 0x400000)) ∧
    isEvTable (4 * (0x2F14 : BitVec 20).toNat) = true ∧
    (∀ f ∈ fieldsAt 0x40, openBits (st []) f = 0 ∧ f.acc ≠ .w1c) ∧ fieldsAt 0x40 ≠ [] ∧
    (let s := st [(GLB_CHSTAT_RUNNING, 8)]
     (MOTA_DLIM_DLIM 3 3).acc = .rwl ∧ (MOTA_DLIM_DLIM 3 3).addr ≠ UMD_CFG_TICKSRC.addr ∧
     s.running (chanOf (MOTA_DLIM_DLIM 3 3).addr) = true) := by decide +kernel

/-! ## Boot, library, update and switches. -/

/-- The device in a phase of the boot. -/
def booting (p : BootPhase) (l : List (Fld × Nat)) : State := (st l).modBoot fun b => { b with phase := p }

/-- A library of one jig, number 63, with its directory; the header's CRC, which the verification does not look at again, is left 0. -/
def lib1 (bootJig : Nat) : List Byte :=
  let j := jig1 63 3
  let dir := List.replicate (16 * 63) 0 ++ leBytes 4 1088 ++ leBytes 4 192 ++ leBytes 4 (crc32 j) ++ leBytes 4 0
  leBytes 4 0x424C5853 ++ leBytes 2 1 ++ [0, BitVec.ofNat 8 bootJig] ++ leBytes 4 1 ++ leBytes 4 1280 ++ List.replicate 48 0 ++ dir ++ j

/-- Bytes from an address on. -/
def placed (a : Nat) (bs : List Byte) : List (Nat × Byte) := bs.zipIdx.map fun p => (a + p.2, p.1)

/-- The descriptor of a flash device of 32 MiB (R37). -/
def flashDesc : List (Nat × Byte) :=
  placed 0x0 [83, 88, 70, 68, 1, 0, 0, 0, 0, 0, 0, 2] ++
  placed 0x3C [152, 93, 62, 241]

/-- A library of one jig, number 0, in slot A, worked out byte by byte from R34 and R38 to R43; every other byte is erased. -/
def flashLib : List (Nat × Byte) :=
  placed 0x10000 [83, 88, 76, 66, 1, 0, 0, 0, 1, 0, 0, 0, 0, 5, 0, 0] ++
  placed 0x1003C [75, 11, 24, 147, 64, 4, 0, 0, 192, 0, 0, 0, 19, 174, 151, 162] ++
  placed 0x10440 [83, 88, 74, 71, 1, 0, 0, 8, 1, 176] ++
  placed 0x1044C [192, 0, 0, 0] ++
  placed 0x1047C [18, 172, 72, 59, 4, 3, 3, 0, 128, 0, 0, 0, 8, 0, 0, 0, 28, 223, 68, 33]

/-- The header of a library whose boot jig is 64. -/
def flashBad : List (Nat × Byte) :=
  placed 0x10000 [83, 88, 76, 66, 1, 0, 0, 64, 1, 0, 0, 0, 0, 5, 0, 0] ++
  placed 0x1003C [189, 109, 85, 144]

/-- The same library's header and directory, and its jig, as an image. -/
def libHead : List Byte :=
  [83, 88, 76, 66, 1, 0, 0, 0, 1, 0, 0, 0, 0, 5, 0, 0] ++ List.replicate 44 0xFF ++ [75, 11, 24, 147, 64, 4, 0, 0, 192, 0, 0, 0, 19, 174, 151, 162] ++ List.replicate 1012 0xFF

def libJig0 : List Byte :=
  [83, 88, 74, 71, 1, 0, 0, 8, 1, 176, 255, 255, 192, 0, 0, 0] ++ List.replicate 44 0xFF ++ [18, 172, 72, 59, 4, 3, 3, 0, 128, 0, 0, 0, 8, 0, 0, 0, 28, 223, 68, 33] ++ List.replicate 112 0xFF

/-- Library streaming from a flash device, with the given slots still to try. -/
def streaming (f : List (Nat × Byte)) (slots : List Nat) : State :=
  { (booting .library []).modBoot fun b => { b with slots := slots } with flash := [flashDesc ++ f, []] }

theorem flash_library : flashBytes (flashDesc ++ flashLib) 0x10000 1280 = libHead ++ libJig0 := by
  have h : flashBytes (flashDesc ++ flashLib) 0x1004C 1012 = List.replicate 1012 0xFF := flashBytes_erased (by decide +kernel)
  have a : flashBytes (flashDesc ++ flashLib) 0x10000 76 = libHead.take 76 := by decide +kernel
  have b : flashBytes (flashDesc ++ flashLib) 0x10440 192 = libJig0 := by decide +kernel
  have c : libHead = libHead.take 76 ++ List.replicate 1012 0xFF := by decide +kernel
  rw [show 1280 = 76 + (1012 + 192) from rfl, flashBytes_add, flashBytes_add, h, a, b, ← List.append_assoc, ← c]

theorem wit_BootRunsStepByStep_slot : slotImage (streaming flashLib [1]) 1 = libHead ++ libJig0 := by
  have h : flashUsed (streaming flashLib [1]) = some (0, 0x2000000) := by decide +kernel
  have k : libLen (slotRead (streaming flashLib [1]) 1 0 0x440) = 1280 := by decide +kernel
  rw [slotImage, k, slotRead, h]
  exact flash_library

set_option maxRecDepth 20000 in
theorem wit_BootRunsStepByStep_image : libOk [] (libHead ++ libJig0) (slotBytes 0x2000000) = true := by decide +kernel

theorem wit_BootRunsStepByStep_library :
    let s := streaming flashLib [1]
    ready s ∧ s.boot.phase = .library ∧ s.boot.slots = 1 :: [] ∧ flashUsed s = some (0, 0x2000000) ∧
    libOk s.keyHash (slotImage s 1) (slotBytes 0x2000000) = true := by
  refine ⟨by decide +kernel, rfl, rfl, by decide +kernel, ?_⟩
  rw [wit_BootRunsStepByStep_slot]
  exact wit_BootRunsStepByStep_image

set_option maxRecDepth 20000 in
theorem wit_BootRunsStepByStep_fallback :
    let s := streaming flashBad [1, 2]
    ready s ∧ s.boot.phase = .library ∧ s.boot.slots = 1 :: [2] ∧ flashUsed s = some (0, 0x2000000) ∧
    libOk s.keyHash (slotImage s 1) (slotBytes 0x2000000) = false := by decide +kernel

theorem wit_BootRunsStepByStep :
    (ready (st []) ∧ (st []).boot.phase = .held) ∧ (ready (up []) ∧ (up []).boot.phase ≠ .held ∧ (up []).boot.phase ≠ .training) ∧
    (let s := booting .training []
     ready s ∧ s.boot.phase = .training ∧ bit s.boot.trained 3 = false) ∧
    (∀ p ∈ [ChPhase.march, .homing [3], .off], let s := (st []).modBoot fun b => { b with chs := b.chs.set 3 { phase := p, jig := 0 } }
      ready s ∧ (chBoot s 3).phase = p) ∧
    (let s := (st []).modBoot fun b => { b with chs := b.chs.set 3 { phase := .homing [3], jig := 0 } }
     (∀ a ∈ [3], (axis s 3 a).moving = false) ∧ s.rb (MOTA_STAT_HOMED 3 3) = false ∧
     (s.wr (MOTA_STAT_HOMED 3 3) 1).rb (MOTA_STAT_HOMED 3 3) = true) ∧
    (let s := booting .hostWait [(GLB_LIBVALID_HI_VALID, 0x80000000)]
     ready s ∧ s.boot.phase = .hostWait ∧ jigBit s 63 = true ∧ jigBit s 0 = false) := by decide +kernel

theorem wit_LibraryIsReadWrittenAndVerified :
    (ready (st []) ∧ barOpen (st []) = false ∧ barOpen (opened (st [])) = true ∧ dramTrained (opened (st [])) = false ∧ (st []).boot.verify = none ∧ (st []).rb GLB_LIBCTL_BUSY = false) ∧
    (ready (opened (withJigs [] 63 3)) ∧ (∀ k : Fin 4, (drcOf (withJigs [] 63 3) k).dead = []) ∧ dramTrained (withJigs [] 63 3) = true ∧ libCtl (withJigs [] 63 3) = some 0 ∧
     (∀ k : Fin 4, inWindow (withJigs [] 63 3) k = false) ∧ libLocked (withJigs [] 63 3) 63 = false ∧
     (∀ i < 2, ((63 * 0x100000 + 0xFFFFE : BitVec 26).toNat + i) / 0x100000 = 63)) ∧
    (let s := withJigs [(DRC_STAT_STATE 3, 4)] 63 3
     ready s ∧ dramTrained s = true ∧ inWindow s 3 = true) ∧
    (let s := withJigs [(GLB_SW_STAT_NOJIG 3, 0), (GLB_SW_STAT_ACTIVE 3, 63)] 63 3
     ready s ∧ dramTrained s = true ∧ libLocked s 63 = true) ∧
    (let s := (withJigs [(GLB_LIBCTL_BUSY, 1)] 63 3).modBoot fun b => { b with verify := some 63 }
     ready s ∧ s.rb GLB_LIBCTL_BUSY = true ∧ s.boot.verify = some 63 ∧ jigCheck s.keyHash (jigFor s none 63) 63 none = 0 ∧
     jigCheck s.keyHash (jigFor s none 0) 0 none ≠ 0) := by decide +kernel

/-- An update in a state, of an image, in slot B. -/
def updating (k : Nat) (img : List Byte) : State :=
  { st [(GLB_UPDSTAT_STATE, k), (GLB_BOOTSTAT_SLOT, 1), (GLB_UPDADDR_LO_ADDR, 0x1000), (GLB_UPDLEN_LEN, 1280)] with
    flash := [flashDesc, []], upd := { image := img, list := 0x1000, addr := 0x1010000, len := img.length } }

/-- Host memory with a scatter list of one element at 0x1000, and the bytes that it describes at 0x2000. -/
def hostMem (bs : List Byte) : HostMem := [(0x1000, leBytes 8 0x2000 ++ leBytes 4 bs.length ++ leBytes 4 0x40000000), (0x2000, bs)]

theorem wit_LibraryUpdateRunsItsPhases :
    (∀ k ∈ [0, 2, 3, 4, 5, 6], ready (updating k []) ∧ (updating k []).rd GLB_UPDSTAT_STATE = k ∧
      flashUsed (updating k []) = some (0, 0x2000000)) ∧
    updBusy (updating 0 []) = false ∧ updBusy (updating 5 []) = true ∧
    updFetch [] 0x1000 0 1088 = none ∧ flashUsed { updating 0 [] with flash := [[], []] } = none ∧
    updHeaderCause (updating 0 []) [] 1280 (slotBytes 0x2000000) ≠ 0 := by decide +kernel

set_option maxRecDepth 20000 in
theorem wit_LibraryUpdateRunsItsPhases_header :
    updHeaderCause (updating 0 []) libHead 1280 (slotBytes 0x2000000) = 0 ∧ updList (updating 0 []) = 0x1000 ∧
    updFetch (hostMem (libHead ++ libJig0)) 0x1000 0 1088 = some libHead ∧
    updFetch (hostMem (libHead ++ libJig0)) (updating 3 libHead).upd.list 1088 192 = some libJig0 := by decide +kernel

set_option maxRecDepth 20000 in
theorem wit_LibraryUpdateRunsItsPhases_verify :
    updVerifyCause (updating 4 []) (lib1 63) = 0 ∧ updVerifyCause (updating 4 []) (lib1 0) ≠ 0 := by decide +kernel

/-- A switch of channel 3 to jig 63 at line 600, staging. -/
def sw1 : SwReq := ⟨0, 63, 8, 8, 600, 0, true, false, [], false, [0, 0, 0, 5]⟩

theorem wit_SwitchesAreRequestedStagedAndCancelled :
    (let s := withJigs [(GLB_BOOTSTAT_ROLE, 1), (GLB_LIBVALID_HI_VALID, 0x80000000), (GLB_SWLINE_LO_LINE, 600)] 63 3
     let u := ((s.wr GLB_SWREQ_JIG 63).wr GLB_SWREQ_MASK 8).wr GLB_SWREQ_NEXT 0
     ready s ∧ swReason u 0 63 8 (some 600) = 0 ∧ swReason u 0 63 0 (some 600) = 7 ∧ (umdOn u && isManager u) = false) ∧
    (let s := st [(UMD_CFG_EN, 1), (GLB_BOOTSTAT_ROLE, 1)]
     ready s ∧ (umdOn s && isManager s) = true) ∧
    (ready (st []) ∧ (st []).rb GLB_PINSW_EN = false ∧ (st []).umd.sys = none ∧ swIndex (st []) 3 = none) ∧
    (ready (st [(GLB_PINSW_EN, 1)]) ∧ (st [(GLB_PINSW_EN, 1)]).rb GLB_PINSW_EN = true) ∧
    ready { st [] with switches := [sw1], umd := { UmdSt.init with user := none } } ∧ swIndex { st [] with switches := [sw1] } 3 = some 0 ∧
    (let s := { (withJigs [(GLB_SW_STAT_STATE 3, 1)] 63 3).modSns 3 fun u => { u with hasSched := false } with switches := [sw1] }
     (stageCheck s 3 (jigFor s (some 3) sw1.jig)).1 = false) ∧
    (let s := { (withJigs [(GLB_SW_STAT_STATE 3, 1), (RSMP_XCFG_XBYPASS 3, 1), (FIFO_BACKOFF_DIST 3, 1), (FIFO_LOW_LEVEL 3, 1),
       (FIFO_HIGH_LEVEL 3, 2), (POS_PITCH_HI_INT 3, 1)] 63 3).modSns 3 fun u => { u with hasSched := true, sched := sched1 } with
       switches := [sw1] }
     ready s ∧ swIndex s 3 = some 0 ∧ s.switches[0]? = some sw1 ∧ sw1.committed = false ∧ bit sw1.armed 3 = false ∧
     (stageCheck s 3 (jigFor s (some 3) sw1.jig)).1 = true) := by decide +kernel

theorem wit_RunBitsAreTakenOrRefused :
    (ready (st []) ∧ (st []).runBit 3 = false ∧ (st []).rb (GLB_SW_STAT_NOJIG 3) = true ∧ (st []).running 3 = false) ∧
    (let s := st [(GLB_SW_STAT_NOJIG 3, 0), (GLB_BOOTSTAT_CHOK, 8), (GLB_BOOTSTAT_DRAMOK, 8), (EVT_ROUGH_ROUGH 3, 1)]
     ready s ∧ s.runBit 3 = false ∧ s.rb (GLB_SW_STAT_NOJIG 3) = false ∧ chOk s 3 = true ∧ dramOk s 3 = true ∧ s.stopped 3 = false ∧
     s.safe = false ∧ s.rough 3 = true) ∧
    (ready (st [(GLB_CHCTL_RUN, 8)]) ∧ (st [(GLB_CHCTL_RUN, 8)]).runBit 3 = true) ∧
    (let s := withLines (st [(GLB_CHSTAT_RUNNING, 8)]) 3 [line1]
     ready s ∧ s.running 3 = true ∧ linesOpen s 3 = true) ∧
    (let s := st [(GLB_CHSTAT_RUNNING, 8)]
     ready s ∧ s.runBit 3 = false ∧ s.running 3 = true ∧ linesOpen s 3 = false ∧ (s.ch 3).late = none) := by decide +kernel

/-! ## The FIFO, the pace and the dovetail. -/

/-- A packet of 128 bytes at a place, complete. -/
def pkt1 (at_ : PktPlace) (offered : Bool) : Pkt :=
  { padPkt with kind := 0, bytes := List.replicate 128 1, len := 128, place := at_, offered := offered }

/-- Channel 3 with its FIFO as given. -/
def fifo3 (l : List (Fld × Nat)) (f : FifoSt) : State := (st l).modFifo 3 fun _ => f

/-- A granted rough-cut line of 128 pixels that has arrived whole. -/
def line2 : LineRec :=
  { line1 with
    sched := { sched1 with pixels := 128, lanes := [⟨3, [⟨0, false, 0, 128, 0⟩]⟩] }
    rough := 1
    granted := true
    rx := [⟨0, true, true, [], 0xFFFF, false, false⟩] }

theorem wit_PacketsMoveThroughTheFifo :
    (ready (st []) ∧ oldestTail (fifoOf (st []) 3) = none ∧ (fifoOf (st []) 3).pkts = [] ∧ (fifoOf (st []) 3).stopPad = false) ∧
    (let s := fifo3 [] { FifoSt.init with pkts := [pkt1 .tail false] }
     ready s ∧ oldestTail (fifoOf s 3) = some (pkt1 .tail false) ∧ middleEmpty (fifoOf s 3) = true ∧ headRoom (fifoOf s 3) 128 = true) ∧
    (let f := { FifoSt.init with pkts := [pkt1 .spilled false, pkt1 .tail false] }
     ready (fifo3 [] f) ∧ (middleEmpty (fifoOf (fifo3 [] f) 3) && headRoom (fifoOf (fifo3 [] f) 3) 128) = false ∧
     oldestTail f = some (pkt1 .tail false) ∧ dataFree (fifo3 [(FIFO_SPILLCAP_MIB 3, 0)] f) 3 < 128 ∧
     128 ≤ dataFree (fifo3 [(FIFO_SPILLCAP_MIB 3, 1)] f) 3 ∧ 1 ≤ indexFree (fifo3 [(FIFO_SPILLCAP_MIB 3, 1)] f) 3 ∧
     f.dataWr + 128 ≤ dataRing (fifo3 [(FIFO_SPILLCAP_MIB 3, 1)] f) 3 ∧
     f.idxWr + (indexEntry (pkt1 .spilled false)).length ≤ indexRing (fifo3 [(FIFO_SPILLCAP_MIB 3, 1)] f) 3 ∧
     f.pkts.find? (fun p => p.place == .spilled) = some (pkt1 .spilled false) ∧ headRoom f 128 = true) ∧
    (let f := { FifoSt.init with pkts := [pkt1 .spilled false, { pkt1 .head false with len := 524288 }] }
     headRoom f 128 = false) ∧
    (let s := fifo3 [] { FifoSt.init with pkts := [pkt1 .head true] }
     ready s ∧ (fifoOf s 3).offer = none ∧ (fifoOf s 3).pkts = pkt1 .head true :: [] ∧ (pkt1 .head true).handed < 128 ∧
     wordFails [(0, 0)] 0 = true ∧ wordFails [(127, 7)] (128 / 64 - 1) = true ∧ wordFails [(0, 0)] 1 = false) ∧
    (let p := { pkt1 .tail false with kind := 1, complete := false }
     let s := withLines (fifo3 [(FIFO_CFG_CUT 3, 1), (PACK_PKTLEN_LEN 3, 480)] { FifoSt.init with pkts := [p] }) 3 [line2]
     ready s ∧ (fifoOf s 3).pkts = p :: [] ∧ p.place = .tail ∧ p.offered = false ∧ p.handed = 0 ∧
     (s.rd (FIFO_CFG_CUT 3) ≠ 0 ∧ middleEmpty (fifoOf s 3) = true ∧ 256 * s.rd (FIFO_CFG_CUT 3) ≤ (cutBytes s 3).length) ∧
     96 < s.rd (PACK_PKTLEN_LEN 3) ∧ (s.wr (FIFO_CFG_CUT 3) 0).rd (FIFO_CFG_CUT 3) = 0) ∧
    (let s := fifo3 [] { FifoSt.init with pkts := [pkt1 .head true], offer := some ⟨0, [1], false⟩ }
     ready s ∧ (fifoOf s 3).offer ≠ none) ∧
    (let s := fifo3 [] { FifoSt.init with stopPad := true }
     ready s ∧ (fifoOf s 3).stopPad = true ∧ (fifoOf s 3).pkts = [] ∧ s.runBit 3 = false) := by decide +kernel

/-- Channel 3 in driven mode with a two-entry pace table and a feed axis, its FIFO filled to some bytes. -/
def paced (l : List (Fld × Nat)) (fill : Nat) : State :=
  (st ([(FIFO_CFG_TMODE 3, 1), (MOTA_CFG_EN 3 3, 1), (MOTA_CFG_ROLE 3 3, 1)] ++ l)).modCh 3 fun c => { c with
    tabs := writeBytes [] 0x6C000 ([0, 0, 0, 0, 100, 0, 0, 128] ++ [2, 0, 0, 0, 50, 0, 0, 128])
    fifo := { FifoSt.init with pkts := [{ pkt1 .head false with len := fill, granted := true }] } }

theorem wit_PaceDovetailAndJoinFollowTheFill :
    (ready (st []) ∧ driven (st []) 3 = false ∧ (fifoOf (st []) 3).joinDue = false) ∧
    (let s := paced [] 131072
     ready s ∧ driven s 3 = true ∧ s.rough 3 = false ∧ paceReached (s.ch 3).tabs (fillOf (fifoOf s 3)) = some 1 ∧
     levelBytes (paceEntry (s.ch 3).tabs 0).1 < levelBytes (paceEntry (s.ch 3).tabs 1).1 ∧ s.rd (FIFO_PACESTAT_ENTRY 3) = 0) ∧
    (let s := paced [(FIFO_PACESTAT_ENTRY 3, 1), (FIFO_PACECFG_HYS 3, 1)] 65536
     ready s ∧ paceReached (s.ch 3).tabs (fillOf (fifoOf s 3)) = some 0 ∧ fillOf (fifoOf s 3) < 131072 ∧
     fillOf (fifoOf s 3) + levelBytes (s.rd (FIFO_PACECFG_HYS 3)) ≤ levelBytes (paceEntry (s.ch 3).tabs 1).1) ∧
    (let s := paced [(FIFO_PACESTAT_ENTRY 3, 1), (FIFO_PACECFG_HYS 3, 1)] 65537
     ready s ∧ paceReached (s.ch 3).tabs (fillOf (fifoOf s 3)) = some 0 ∧
     levelBytes (paceEntry (s.ch 3).tabs 1).1 < fillOf (fifoOf s 3) + levelBytes (s.rd (FIFO_PACECFG_HYS 3))) ∧
    (let s := (paced [] 0).modMot 3 fun m => { m with axes := m.axes.set 3 { AxisSt.init with mode := .ramp } }
     ready s ∧ driven s 3 = true ∧ dtState s 3 = 0 ∧ feedRunning s 3 = true ∧ feedAxis s 3 = some 3) ∧
    (ready (paced [(FIFO_DTSTAT_STATE 3, 1)] 0) ∧ dtState (paced [(FIFO_DTSTAT_STATE 3, 1)] 0) 3 = 1) ∧
    (let s := paced [(FIFO_DTSTAT_STATE 3, 2), (FIFO_LOW_LEVEL 3, 1)] 65537
     ready s ∧ dtState s 3 = 2 ∧ levelBytes (s.rd (FIFO_LOW_LEVEL 3)) < fillOf (fifoOf s 3)) ∧
    (let s := paced [(FIFO_DTSTAT_STATE 3, 2), (FIFO_LOW_LEVEL 3, 1)] 65536
     ready s ∧ dtState s 3 = 2 ∧ fillOf (fifoOf s 3) ≤ levelBytes (s.rd (FIFO_LOW_LEVEL 3))) ∧
    (let s := fifo3 [] { FifoSt.init with joinDue := true }
     ready s ∧ (fifoOf s 3).joinDue = true ∧ (fifoOf s 3).joinRes = none ∧ (fifoOf s 3).joinWait = false ∧ ∀ l ∈ (s.ch 3).pipe.lines, l.kind ≠ .overlap) := by
  decide +kernel

/-! ## The DMA queues. -/

/-- Queue 15 as given, mastering on. -/
def queue15 (l : List (Fld × Nat)) (x : DmaQ) : State :=
  { st ((DMA_LINK_BME, 1) :: l) with dma := { DmaSt.init with qs := DmaSt.init.qs.set 15 x } }

theorem wit_QueuesStartStopAndPause :
    (∀ m ∈ [QMode.idle, .run, .notReady, .end_, .halted, .reg, .abort], let s := queue15 [] { DmaQ.idle with mode := m }
      ready s ∧ (dmaQ s 15).mode = m ∧ (dmaQ s 15).halt = .desc) ∧
    (let s := queue15 [] { DmaQ.idle with mode := .run, fetching := true }
     ready s ∧ (dmaQ s 15).fetching = true) ∧
    (ready (queue15 [(DMAQ_CFG_SRC 15, 1)] DmaQ.idle) ∧ (queue15 [(DMAQ_CFG_SRC 15, 1)] DmaQ.idle).rd (DMAQ_CFG_SRC 15) ≠ 0) ∧
    (queue15 [] DmaQ.idle).rd (DMAQ_CFG_SRC 15) = 0 ∧
    descCause ⟨0, 0, 0, 64, 0, 0, 0, 0, false, false, 0, false, 3, 0, true⟩ false true = none ∧
    descCause ⟨0, 0, 0, 0, 0, 0, 0, 0, false, false, 0, false, 3, 0, true⟩ false true = some 8 := by decide +kernel

/-- A descriptor of a line packet with OWN, sequence number 0. -/
def descBytes (own : Nat) : List Byte := List.replicate 16 0 ++ leBytes 4 4096 ++ List.replicate 43 0 ++ [BitVec.ofNat 8 (128 * own)]

/-- A compare of 64 bytes. -/
def cmpDesc : Desc := ⟨0, 0, 0, 64, 0, 0, 0, 0, false, false, 0, false, 4, 0, true⟩

/-- A barrier that covers records, number 1, not completed. -/
def barrier1 (recs : List Rec) : Barrier := ⟨1, 0x40, recs, 0, 0, 0, none, false⟩

theorem wit_QueueReadsReturnOrFail :
    (∀ own ∈ [0, 1], let y := { DmaQ.idle with mode := .run, fetching := true, flying := [.desc] }
      let s := queue15 [(DMAQ_CFG_SRC 15, 4), (DMAQ_CHAINLIM_LIM 15, 1)] y
      let x := dmaQ s 15
      let d := parseDesc (descBytes own) x.refetch
      ready s ∧ x.flying.contains .desc = true ∧ x.mode = .run ∧ x.desc = none ∧ x.again = false ∧
      (bit (fieldAt (descBytes own) 0x3C 4) 31 = true ↔ own = 1) ∧ d.seq = s.rd (DMAQ_DSEQ_EXP 15) ∧
      x.chain < s.rd (DMAQ_CHAINLIM_LIM 15) ∧ (s.wr (DMAQ_CHAINLIM_LIM 15) 0).rd (DMAQ_CHAINLIM_LIM 15) ≤ x.chain ∧
      d.next < 2 ^ 64 ∧ x.cont = false ∧ x.bad = none ∧ descCause d (queueChan s 15).isSome (descRsvOk (descBytes own)) = none ∧
      descCause d false (descRsvOk (descBytes own)) ≠ none) ∧
    (let s := queue15 [] DmaQ.idle
     ready s ∧ ∀ w ∈ [ReadWhat.desc, .sgl, .data, .barrier], (dmaQ s 15).flying.contains w = false) ∧
    (let s := queue15 [(DMAQ_CHAINLIM_LIM 15, 1)] { DmaQ.idle with mode := .run, elFetch := true, desc := some cmpDesc, flying := [.sgl] }
     let x := dmaQ s 15
     let bs : List Byte := leBytes 8 0x1000 ++ leBytes 4 64 ++ List.replicate 52 0
     ready s ∧ x.flying.contains .sgl = true ∧ x.desc = some cmpDesc ∧ x.elEnd = false ∧ elTotal x < cmpDesc.len ∧
     x.elAddr % 64 = 0 ∧ bits (fieldAt bs 12 4) 29 0 = 0 ∧ bit (fieldAt bs 12 4) 31 = false ∧ fieldAt bs 8 4 ≠ 0 ∧
     x.elCount < s.rd (DMAQ_CHAINLIM_LIM 15)) ∧
    (let s := queue15 [] { DmaQ.idle with mode := .run, reading := some (1, 8), desc := some cmpDesc, flying := [.data] }
     let x := dmaQ s 15
     ready s ∧ x.flying.contains .data = true ∧ x.reading = some (1, 8) ∧ x.desc = some cmpDesc ∧ cmpDesc.kind = 4 ∧
     x.off + 8 < bufLen x cmpDesc ∧
     (∀ i < 8, (swapBytes (swapUnit cmpDesc.swap) (List.replicate 8 (0 : Byte))).getD i 0 = patternByte cmpDesc i) ∧
     (swapBytes (swapUnit cmpDesc.swap) (List.replicate 7 (0 : Byte) ++ [1])).getD 7 0 ≠ patternByte cmpDesc 7) ∧
    (∀ r ∈ [0, 1], let s := queue15 [(DMAQ_RETRY_COUNT 15, r)] { DmaQ.idle with mode := .run, fetching := true, flying := [.desc] }
      ready s ∧ (dmaQ s 15).flying.contains .desc = true ∧ (dmaQ s 15).retry = [] ∧ (dmaQ s 15).mode ≠ .abort ∧
      s.rd (DMAQ_RETRY_COUNT 15) = r) ∧
    (let u := queue15 [(DMAQ_RETRY_COUNT 15, 1)] { DmaQ.idle with mode := .run, barriers := [barrier1 []], flying := [.barrier] }
     let s := { u with dma := { u.dma with flight := [(1, 3)] } }
     ready s ∧ (dmaQ s 15).flying.contains .barrier = true ∧ barrierFlying s 15 = some 1 ∧ (dmaQ s 15).retry = [] ∧
     0 < s.rd (DMAQ_RETRY_COUNT 15)) ∧
    (∀ w ∈ [ReadWhat.desc, .sgl, .data, .barrier],
     let r : ReadSt := ⟨w, 1, 1, 1, true⟩
     let s := queue15 [] { DmaQ.idle with mode := .run, retry := [r], barriers := [barrier1 []] }
     ready s ∧ (dmaQ s 15).retry.find? (·.backoff) = some r ∧
     (dmaQ s 15).barriers.find? (fun b => b.id == r.id && !b.done) = some (barrier1 [])) := by decide +kernel

theorem wit_BurstsBarriersAndRecordsLeaveInOrder :
    (let u := queue15 [(DMAQ_CFG_SRC 15, 4)] { DmaQ.idle with mode := .run, desc := some cmpDesc }
     let s := u.modFifo 3 fun f => { f with pkts := [pkt1 .head true], offer := some ⟨0, [1], false⟩ }
     let x := dmaQ s 15
     ready s ∧ x.mode = .run ∧ queueHeld s 15 = false ∧ crFull s 15 = false ∧ x.closeDue = false ∧ x.staged = [] ∧
     queueChan s 15 = some 3 ∧ x.desc = some cmpDesc ∧ (fifoOf s 3).offer = some ⟨0, [1], false⟩ ∧
     (fifoOf s 3).pkts = pkt1 .head true :: [] ∧ x.pkt = none ∧ canMaster s = true ∧ x.off = 0 ∧
     (∀ e ∈ [true, false], let y := { x with elEnd := e, els := [(0, 64)] }
       let d := { cmpDesc with len := if e then 64 else 128 }
       covered { y with els := if e then y.els else [(0, 128)] } d 128 = true ∧
       decide (bufLen y d < 128) = e)) ∧
    (let s := queue15 [] { DmaQ.idle with mode := .run, desc := some cmpDesc, pkt := some ⟨0, 128, 0, 0, 0⟩ }
     ready s ∧ (dmaQ s 15).pkt = some ⟨0, 128, 0, 0, 0⟩) ∧
    (ready (st []) ∧ canMaster (st []) = false ∧ (dmaQ (st []) 15).mode ≠ .run ∧ (dmaQ (st []) 15).coalAt = none ∧
     (dmaQ (st []) 15).flying.contains .barrier = false) ∧
    (let u := queue15 [] DmaQ.idle
     let s := { u with dma := { u.dma with ctl := [.fetch 0 64, .barrier 0 1 64, .write 64 []] } }
     ready s ∧ canMaster s = true ∧ (∀ c ∈ s.dma.ctl, ctlHeld s c = false) ∧ tagsUsed s + s.dma.ctl.length ≤ tagLimit s) ∧
    (let r : Rec := ⟨0, 0, 0, 0, 0, 0, 0, 0, false⟩
     let b := barrier1 [r]
     let u := queue15 [] { DmaQ.idle with barriers := [b], flying := [.barrier] }
     let s := { u with dma := { u.dma with flight := [(1, 3)] } }
     let x := dmaQ s 15
     ready s ∧ x.flying.contains .barrier = true ∧ x.barriers = b :: [] ∧ b.done = false ∧ b.id ≠ 0 ∧
     s.dma.flight.any (·.1 == b.id) = true ∧ s.dma.flight = (b.id, 3) :: [] ∧ b.recs = [r] ∧ x.recs = [] ∧ b.rm = none ∧
     crFull s 15 = false) ∧
    (let s := { queue15 [(DMAQ_COAL_TIME 15, 1)] { DmaQ.idle with coalAt := some 0 } with now := 999 }
     let t := { s with now := 1000 }
     ready s ∧ (dmaQ s 15).coalAt = some 0 ∧ s.rd (DMAQ_COAL_TIME 15) ≠ 0 ∧ s.now < 0 + 1000 * s.rd (DMAQ_COAL_TIME 15) ∧
     ready t ∧ 0 + 1000 * t.rd (DMAQ_COAL_TIME 15) ≤ t.now) := by decide +kernel

/-! ## The DRAM controllers. -/

theorem wit_RepairsTrainingAndBurstsOfTheDram :
    (ready (st []) ∧ ((st []).running 3 || (st []).switching 3 || (st []).calList 3 || (st []).rb (FIFO_STAT_SPILL 3) ||
       (st []).rd (DRC_STAT_STATE 3) != 2) = true ∧ inWindow (st []) 3 = false ∧ (st []).rd (DRC_STAT_STATE 3) ≠ 2) ∧
    (let s := st [(DRC_STAT_STATE 3, 2), (GLB_BOOTSTAT_DRAMOK, 15)]
     ready s ∧ (s.running 3 || s.switching 3 || s.calList 3 || s.rb (FIFO_STAT_SPILL 3) || s.rd (DRC_STAT_STATE 3) != 2) = false ∧
     trainHolds s 3 = none ∧ 0x03FFFFC0 < 0x04000000 ∧ libServes s 0 = true ∧ (0 : Fin 4).val = (3 + 1) % 4) ∧
    (let s := (st [(GLB_BOOTSTAT_DRAMOK, 15), (DRC_STAT_STATE 3, 2), (DRC_PTRAIN_PER 3, 1)]).modDrc 0 fun d => { d with dead := [0x3FFFFC0] }
     ready s ∧ libServes s 0 = true ∧ (drcOf s 0).dead.contains 0x3FFFFC0 = true ∧ (drcOf s 3).dead.contains 0x3FFFFC0 = false ∧
     s.rd (DRC_PTRAIN_PER 3) ≠ 0 ∧ (s.wr (DRC_PTRAIN_PER 3) 0).rd (DRC_PTRAIN_PER 3) = 0 ∧
     burstGood 0x3FFFFC0 (burstReturned (s.dram 3) 0x3FFFFC0 ⟨none, [(0, 0)]⟩) = false ∧
     burstGood 0x3FFFFC0 (burstReturned (s.dram 3) 0x3FFFFC0 ⟨some 0x40, []⟩) = false) ∧
    (let s := st [(DRC_STAT_STATE 3, 4), (DRC_PPR_V 3 7, 1), (GLB_BOOTSTAT_DRAMOK, 15)]
     ready s ∧ inWindow s 3 = true ∧ s.rb (DRC_PPR_V 3 7) = true ∧ s.rb (DRC_PPR_V 3 0) = false ∧ libCtl s = some 0) ∧
    (let s := { (st [(DRC_STAT_STATE 3, 2)]).modDrc 3 fun d => { d with trainAt := some 0 } with now := 799 }
     ready s ∧ (trainHolds s 3).isSome = true) := by decide +kernel

theorem wit_DramRequestsAreScheduledAndRowsGuarded :
    (ready (st []) ∧ (st []).rd (DRC_STAT_STATE 3) ≠ 2 ∧ (∀ r ∈ (drcOf (st []) 3).queue, tooOld (st []) 3 r = false)) ∧
    (let r : DrcReq := ⟨0, 0, .spill, 64, false, 0, 0, false⟩
     let s := (st [(DRC_STAT_STATE 3, 2)]).modDrc 3 fun d => { d with queue := [r] }
     ready s ∧ s.rd (DRC_STAT_STATE 3) = 2 ∧ (drcOf s 3).waiting = [] ∧ (drcOf s 3).throttles = [] ∧
     drcPick s 3 [] 0 = some r ∧ drcPick s 3 [(drcPlace s 3 64).bank] 0 = none ∧ bankTakes s 3 [] r = true) ∧
    (let r : DrcReq := ⟨1, 1, .spill, 64, false, 0, 0, false⟩
     let s := { (st [(DRC_AGE_A1 3, 1)]).modDrc 3 fun d => { d with queue := [r] } with now := 101 }
     ready s ∧ tooOld s 3 r = true ∧ tooOld { s with now := 100 } 3 r = false) := by decide +kernel

/-! ## The monitoring converter. -/

theorem wit_SnapCopiesAndResetsAccumulators :
    let s := { st [(MON_SNAPMASK_MASK, 0x80000000)] with mon := { MonSt.init with ins := MonSt.init.ins.set 31 { MonIn.init with sum := -1, count := 1 } } }
    ready s ∧ bit (s.rd MON_SNAPMASK_MASK) 31 = true ∧ bit (s.rd MON_SNAPMASK_MASK) 0 = false := by decide +kernel

theorem wit_LimitsOfAnInputRaiseOnce :
    (let s := st [(MON_IN_CFG_LIMEN 31, 1), (MON_IN_LIMLO_V 31, 5), (MON_IN_LIMHI_V 31, 10)]
     ready s ∧ s.rb (MON_IN_CFG_LIMEN 31) = true ∧ (4 : Int) < word32 s (MON_IN_LIMLO_V 31) ∧ ¬ ((5 : Int) < word32 s (MON_IN_LIMLO_V 31)) ∧
     word32 s (MON_IN_LIMHI_V 31) < 11 ∧ ¬ (word32 s (MON_IN_LIMHI_V 31) < 10) ∧ (monIn s 31).limArmed = true) ∧
    (let j : ConvJob := ⟨23, .regular, false, 1000, 0⟩
     let s := { st [(MON_FULL_F 1, 0x800000)] with mon := { MonSt.init with c1 := { MonConv.init with job := some j } } }
     let z := word32 s (MON_ZERO_Z 1)
     let f := word32 s (MON_FULL_F 1)
     ready s ∧ (conv s 1).job = some j ∧ s.mon.sys = none ∧ f ≠ z ∧ (convX s (convU 700 1000) z f).1.natAbs ≤ 2 ^ 23 ∧
     (convY s 23 (convX s (convU 700 1000) z f).1).isSome) := by decide +kernel

theorem wit_ConvertersRunTestAndInject :
    (ready (st []) ∧ (st []).rb MON_CTL_RUN = false ∧ (∀ c : Fin 2, convOut (st []) c = false ∧ (conv (st []) c).job = none) ∧
     (st []).mon.inj = []) ∧
    (let s := st [(MON_CTL_RUN, 1), (MON_DIAGCFG_PER, 1), (MON_INJCFG_EN, 1)]
     ready s ∧ s.rb MON_CTL_RUN = true ∧ s.rb MON_STAT_DIAGBUSY = false ∧ convOut s 0 = false ∧ s.rd MON_DIAGCFG_PER ≠ 0 ∧
     injSrc s = 0 ∧ s.rb MON_INJCFG_EN = true ∧ s.mon.inj = [] ∧ injSrc s ≠ 1) ∧
    (let s := st [(MON_CTL_RUN, 1), (MON_STAT_CFLT, 1)]
     ready s ∧ s.rb MON_CTL_RUN = true ∧ s.rb MON_STAT_DIAGBUSY = false ∧ convOut s 0 = true ∧ convOut s 1 = false) ∧
    (let s := st [(MON_CTL_RUN, 1), (MON_STAT_CFLT, 3)]
     ready s ∧ convOut s 0 = true ∧ convOut s 1 = true) ∧
    (ready (st [(MON_DIAGCFG_PER, 0), (MON_INJCFG_SRC, 1)]) ∧ (st [(MON_DIAGCFG_PER, 0)]).rd MON_DIAGCFG_PER = 0 ∧
     injSrc (st [(MON_INJCFG_SRC, 1)]) = 1) ∧
    (ready (st [(MON_STAT_DIAGBUSY, 1)]) ∧ (st [(MON_STAT_DIAGBUSY, 1)]).rb MON_STAT_DIAGBUSY = true) ∧
    (let j : ConvJob := ⟨31, .regular, true, 1000, 0⟩
     let s := { st [(MON_CTL_RUN, 1)] with mon := { MonSt.init with c1 := { MonConv.init with job := some j } } }
     ready s ∧ (conv s 1).job = some j ∧ s.rb MON_CTL_RUN = true ∧ j.settle = true ∧ j.kind ≠ .test) ∧
    (let s := { st [(MON_CTL_RUN, 1), (MON_INJCFG_PREEMPT, 0)] with mon := { MonSt.init with inj := [31] } }
     ready s ∧ s.mon.inj = 31 :: [] ∧ s.mon.injDue = false ∧ s.rb MON_CTL_RUN = true ∧ convOut s 0 = false ∧ (conv s 0).job = none ∧
     (conv s 0).test = none ∧ (conv s 0).testDue = none ∧ s.mon.startUp = false ∧ s.rb MON_INJCFG_PREEMPT = false) := by
  decide +kernel

theorem wit_MainsAndSystemCalibration :
    (ready (st []) ∧ injSrc (st []) ≠ 4 ∧ (st [(MON_CFG_MSYNC, 0)]).rb MON_CFG_MSYNC = false ∧ (st []).rb MON_STAT_BUSY = false ∧
     (st []).mon.edge = none ∧ (st []).mon.sync = none) ∧
    (∀ k ∈ [9999, 10000], let s := { st [(MON_INJCFG_SRC, 4), (MON_INJCFG_EN, 1), (MON_CTL_RUN, 1)] with
        now := k, mon := { MonSt.init with sync := some 0 } }
      ready s ∧ s.mon.sync = some 0 ∧ decide (s.now < 0 + 10000) = decide (k = 9999) ∧ s.rb MON_CFG_MSYNC = false ∧ injSrc s = 4 ∧
      s.rb MON_INJCFG_EN = true ∧ s.rb MON_CTL_RUN = true ∧ s.mon.inj = []) ∧
    (∀ k ∈ [164999, 165000, 225000, 225001],
      let s := { st [(MON_CFG_MSYNC, 1)] with now := 100 * k, mon := { MonSt.init with edge := some 0, period := some k } }
      ready s ∧ s.rb MON_CFG_MSYNC = true ∧ s.mon.edge = some 0 ∧ s.mon.period = some k ∧ (s.now - 0) / 100 = k ∧
      100 * (((s.now - 0) / 100 : Nat) - (k : Int)).natAbs ≤ k) ∧
    (ready (st [(MON_STAT_BUSY, 1)]) ∧ (st [(MON_STAT_BUSY, 1)]).rb MON_STAT_BUSY = true) := by decide +kernel

/-! ## The Umade link. -/

/-- A manager, or worker 1, with both ports up. -/
def node (manager : Bool) (u : UmdSt) : State :=
  { st [(UMD_CFG_EN, 1), (GLB_BOOTSTAT_ROLE, b2n manager), (UMD_STAT_UPUP, 1), (UMD_STAT_DNUP, 1), (UMD_STAT_NODE, if manager then 0 else 1),
      (UMD_STAT_PRESENT, 0xFFFF)] with umd := u }

/-- A frame as its bytes. -/
def frame (ty src : Nat) (body : List Byte) : List Byte := UmdFrame.bytes ⟨ty, src, false, 0, 0, body⟩

/-- Its body as it is received. -/
def body25 (body : List Byte) : List Byte := body ++ List.replicate (25 - body.length) 0

theorem wit_UmadePortsTimeAndEchoes :
    (ready (st []) ∧ umdOn (st []) = false ∧ (st []).rb UMD_STAT_UPUP = false) ∧
    (let s := node true UmdSt.init
     ready s ∧ umdOn s = true ∧ isManager s = true ∧ s.rb UMD_STAT_DNUP = true ∧ nodePresent s 15 = true) ∧
    (let s := node false { UmdSt.init with numbered := true, echo := some 0x01020304 }
     ready s ∧ umdOn s = true ∧ isManager s = false ∧ s.rb UMD_STAT_UPUP = true ∧ s.umd.numbered = true ∧
     s.umd.echo = some (fieldAt (body25 [4, 3, 2, 1]) 0 4)) ∧
    parseFrame [] = none ∧ parseFrame (frame 7 0 [4, 3, 2, 1]) = some ⟨7, 0, false, 0, 0, body25 [4, 3, 2, 1]⟩ ∧
    parseFrame (frame 2 0 [8]) = some ⟨2, 0, false, 0, 0, body25 [8]⟩ ∧
    (∀ p ∈ [(1000, true), (1001, false)], let s := { node false { UmdSt.init with numbered := true } with timeBase := BitVec.ofNat 64 p.1 }
      anyRunning s = false ∧ s.rb UMD_STAT_TIMEOK = false ∧
      decide (((s.timeBase.toNat : Int) - (fieldAt (body25 [0]) 0 8 + unitsToNs 0 : Nat)).natAbs ≤ 1000) = p.2) ∧
    (ready (st [(UMD_STAT_TIMEOK, 1)]) ∧ (st [(UMD_STAT_TIMEOK, 1)]).rb UMD_STAT_TIMEOK = true) ∧
    (ready (node false UmdSt.init) ∧ umdOn (node false UmdSt.init) = true ∧ umdLive (node false UmdSt.init) = false ∧
     (node false UmdSt.init).rb UMD_STAT_DNUP = true) := by decide +kernel

theorem wit_UmadeFramesAndCommands :
    (∀ ty ∈ [1, 3, 4, 5, 6], parseFrame (frame ty 15 [1]) = some ⟨ty, 15, false, 0, 0, body25 [1]⟩) ∧
    (let s := { node false { UmdSt.init with numbered := true } with umd := { UmdSt.init with numbered := true, ids := [(9, [1])] } }
     ready s ∧ isManager s = false ∧ s.rd UMD_CFG_TICKSRC = 0 ∧ s.umd.ticks = [] ∧ nodeMask (fieldAt (body25 [1]) 8 8) (umdNode s) = 0 ∧
     nodeMask (fieldAt (body25 [5, 9, 0, 0, 0, 0, 0, 0, 240]) 8 8) (umdNode s) = 15 ∧
     s.umd.ids.find? (·.1 == 8) = none ∧ s.umd.ids.find? (·.1 == 9) = some (9, [1]) ∧
     umdMine s ⟨3, 0, false, 1, 0, []⟩ = true ∧ umdMine s ⟨3, 0, true, 1, 0, []⟩ = false) ∧
    (let s := (node false { UmdSt.init with numbered := true }).wr UMD_CFG_TICKSRC 8 |>.wr UMD_TICKDLY_D 30
     ready s ∧ s.rd UMD_CFG_TICKSRC ≠ 0 ∧ 0 + 0 + 30 ≤ s.rd UMD_TICKDLY_D ∧ s.rd UMD_TICKDLY_D < 0 + 1 + 30) ∧
    (let w : TickWait := ⟨5, 0, 0, 1⟩
     let s := node false { UmdSt.init with numbered := true, ticks := [w] }
     ready s ∧ s.umd.ticks = w :: [] ∧ s.now < w.due ∧ w.due ≤ ({ s with now := 1 } : State).now) ∧
    (∀ c ∈ [1, 5], let o : UmdOut := ⟨7, c, 15, 3, []⟩
      let s := node true { UmdSt.init with outs := [o], user := some 7 }
      ready s ∧ isManager s = true ∧ s.umd.outs.find? (fun o => o.id == 7 && o.node == 15) = some o ∧
      s.umd.outs.find? (fun o => o.id == 8 && o.node == 15) = none ∧ s.umd.user = some 7 ∧ 3 ≤ o.tries) ∧
    (let s := (node true UmdSt.init).wr UMD_CMDMASK_HI_MASK 0xF0000000
     let m := s.rd64 UMD_CMDMASK_LO_MASK UMD_CMDMASK_HI_MASK
     ready s ∧ umdOn s = true ∧ isManager s = true ∧ nodeMask m 0 = 0 ∧ namedNodes m = [15] ∧ s.umd.latest = none) := by
  decide +kernel

/-! ## Small steps with the results that the spec gives. -/

/-- R386: the identification registers. -/
theorem test_identification : (State.reset.rd GLB_ID_DEVICE, State.reset.rd GLB_ID_VENDOR, State.reset.rd GLB_CAP_QUEUES) = (0x4096, 0x1E9D, 16) := by
  decide +kernel

/-- R5: a read-only register keeps its word under a write. -/
theorem test_write_read_only : (run (.registerWrite 0 0xFFFFFFFF .whole) (opened (st []))).word 0 = (st []).word 0 := by decide +kernel

/-- R33, R403: a write of the scratch register is applied at once, and a second one in the same control clock waits for the next. -/
theorem test_write_scratch :
    let s := run (.registerWrite 5 7 .whole) (run (.registerWrite 5 0x12345678 .whole) (opened (st [])))
    s.rd GLB_SCRATCH_DATA = 0x12345678 ∧ (run (.timeBaseTick 2) s).rd GLB_SCRATCH_DATA = 7 := by decide +kernel

/-- R264, R386: a read of one DW gives its four bytes; one across a 64-byte boundary is counted. -/
theorem test_read : (run (.registerWrite 0 0 (.read 0)) (opened (st []))).outbox = [.completion [0x9D, 0x1E, 0x96, 0x40] false] ∧
    (run (.registerWrite 15 0 (.read 1)) (opened (st []))).rd DMA_HOSTERR_POISONRX = 1 := by decide +kernel

/-- R264: a write with byte enables missing is counted. -/
theorem test_write_part : (run (.registerWrite 5 1 .part) (opened (st []))).rd DMA_HOSTERR_BADACC = 1 ∧
    (run (.registerWrite 5 1 .part) (opened (st []))).rd GLB_SCRATCH_DATA = 0 := by decide +kernel

/-- R171: a rising edge of A with B low counts one up; the next rising edge of B one more. -/
theorem test_encoder_counts :
    (posOf (run (.encoderCountChange 3 true true false 1) (run (.encoderCountChange 3 true false false 0) (up []))) 3).count = 2 := by
  decide +kernel

/-- R171: both levels at once are an error, not a count. -/
theorem test_encoder_error :
    let t := run (.encoderCountChange 3 true true false 0) (up [])
    (posOf t 3).count = 0 ∧ t.rd (POS_CNT_QERR 3) = 1 ∧ t.rb (POS_STAT_SUSPECT 3) = true := by decide +kernel

/-- R92: a bar comes up from OFF to TRAINING with no init list. -/
theorem test_bar_up :
    (run (.barInitWaitEnd 3) (run (.barPowerWaitEnd 3) (run (.barDebounceEnd 3 true) (run (.snsUp 3) (up []))))).rd (SNS_STAT_STATE 3) = 4 := by
  decide +kernel

/-- R51: END ends a list well, and a MARK raises its event. -/
theorem test_list_end : (run (.seqEnd 4) (running4 [] [cmd 0 0])).rd (SEQ_STAT_STATE 3) = 5 ∧
    evStat (run (.seqMark 4) (running4 [] [cmd 9 7, cmd 0 0])) EV_SEQ_MARK = true := by decide +kernel

/-- R69: a RUN without a jig is refused, and the event's status bit is set. -/
theorem test_run_refused : (run (.runSet 3) (st [])).runBit 3 = false ∧ evStat (run (.runSet 3) (st [])) EV_RUN_REFUSED = true := by
  decide +kernel

/-- R47, R48: a byte written to the library is in every copy in service, one that is not enabled stays (the jig number), and the jig is no longer valid. -/
theorem test_library_write :
    let t := run (.bar2Write (63 * 0x100000 + 5) [(7, true), (8, false)]) (opened (withJigs [(GLB_LIBVALID_HI_VALID, 0x80000000)] 63 3))
    jigBit t 63 = false ∧ sget zeroByte (t.dram 3) (63 * 0x100000 + 5) = 7 ∧ sget zeroByte (t.dram 0) (63 * 0x100000 + 6) = 63 := by
  decide +kernel

/-- R23: ten control clocks are 40 ns. -/
theorem test_time_base : (run (.timeBaseTick 10) (st [])).timeBase = 40 := by decide +kernel

/-- R271: a START fetches the descriptor at NEXT. -/
theorem test_dma_start : (run (.dmaStart 15) (queue15 [(DMAQ_NEXT_LO_ADDR 15, 3)] DmaQ.idle)).dma.ctl = [.fetch 15 192] := by decide +kernel

/-- R345, R347: a worker answers an ECHO from above with its count. -/
theorem test_echo :
    (run (.umdEcho true (frame 7 0 [4, 3, 2, 1]) 0x0605) (node false { UmdSt.init with numbered := true })).outbox =
      [.frame true (frame 7 1 [4, 3, 2, 1, 5, 6])] := by decide +kernel

/-- R330, R331: a snapshot shows the sum and resets the accumulator. -/
theorem test_snap :
    let t := run (.monSnap true) { st [(MON_SNAPMASK_MASK, 0x80000000)] with
      mon := { MonSt.init with ins := MonSt.init.ins.set 31 { MonIn.init with sum := -1, count := 1 } } }
    t.rd (MON_R_SUM_LO_V 31) = 0xFFFFFFFF ∧ t.rd (MON_R_COUNT_V 31) = 1 ∧ (monIn t 31).sum = 0 := by decide +kernel

/-- No word spells a command: the rows have no bits. -/
theorem test_no_words : decodeTableWord 8 0xFF = none := by decide

end Sys2Proof.Tests
end

section
/-! PROOFS. Architecture: the commands of reset, the register port, the drive die and the time base, and the end of a line. -/

namespace Sys2Proof.Machine


/-! ## Between two commands. -/

/-- What raises nothing and leaves the Umade unit alone is the whole of a command. -/
theorem finish_same {s t : State} (h : Quiet s) (he : t.evq = s.evq) (hu : t.umd = s.umd) : finish t = t :=
  finish_quiet (h.congr he (by rw [hu]) (by rw [hu]) (by rw [hu]))

/-! ## One step. -/

/-- Settles O1: the command in front is taken off the queue, and what is left is the state it was pushed on. -/
theorem stepRunsTheCommandInFront : Obligations.StepRunsTheCommandInFront := by
  intro s c
  refine ⟨rfl, fun h => ?_⟩
  rw [step, h]

/-! ## Steps over a range of indices. -/

/-- What holds before the first index, and that every index keeps for the next, holds after the last. -/
theorem iterate_induct {P : Nat → State → Prop} {k : Nat} {s : State} {f : State → Nat → State} (h0 : P 0 s)
    (hs : ∀ i < k, ∀ t, P i t → P (i + 1) (f t i)) : P k (iterate k s f) := by
  induction k with
  | zero => exact h0
  | succ k ih =>
    rw [iterate, List.range_succ, List.foldl_append]
    exact hs k (Nat.lt_succ_self k) _ (ih fun i hi => hs i (Nat.lt_succ_of_lt hi))

/-- What no index changes, all of them leave as it is. -/
theorem iterate_same {α : Type} (g : State → α) {k : Nat} {s : State} {f : State → Nat → State} (h : ∀ t i, g (f t i) = g t) :
    g (iterate k s f) = g s :=
  iterate_induct (P := fun _ t => g t = g s) rfl fun i _ t ht => (h t i).trans ht

/-- Where every index changes its own part alone, and keeps what the others need, each part becomes what its index makes of it. -/
theorem iterate_parts {α : Type} {k : Nat} {s : State} {f : State → Nat → State} (part : State → Nat → α) (new : Nat → α)
    (R : State → Prop)
    (h0 : R s) (hs : ∀ (i : Fin k) (t : State), R t → part t i = part s i →
      R (f t i) ∧ part (f t i) i = new i ∧ ∀ m : Fin k, m ≠ i → part (f t i) m = part t m) :
    R (iterate k s f) ∧ ∀ n : Fin k, part (iterate k s f) n = new n := by
  have h := iterate_induct (k := k) (s := s) (f := f)
    (P := fun i t => R t ∧ ∀ n : Fin k, part t n = if n.val < i then new n else part s n)
    ⟨h0, fun n => by simp⟩ fun i hi t ⟨hr, ht⟩ => by
      obtain ⟨hr', hown, hothers⟩ := hs ⟨i, hi⟩ t hr (by simpa using ht ⟨i, hi⟩)
      refine ⟨hr', fun n => ?_⟩
      by_cases hn : n = ⟨i, hi⟩
      · simpa [hn] using hown
      · have hne : n.val ≠ i := fun e => hn (Fin.ext e)
        simp only [hothers n hn, ht n, show n.val < i + 1 ↔ n.val < i by omega]
  exact ⟨h.1, fun n => by simpa using h.2 n⟩

/-! ## Reads of the register port. -/

theorem length_leBytes (n v : Nat) : (leBytes n v).length = n := by
  induction n generalizing v with
  | zero => rfl
  | succ n ih => simp [leBytes, ih]

/-- Every upper half that a read has frozen is the word its register still has. -/
def FrozenLive (s : State) : Prop := ∀ p ∈ s.frozen, p.2 = liveWord s p.1

/-- What is frozen is no part of a register's word. -/
theorem liveWord_frozen (s : State) (fr : List (Nat × Word)) (a : Nat) : liveWord { s with frozen := fr } a = liveWord s a := rfl

/-- A read changes nothing but what is frozen. -/
theorem readWord_frame (s : State) (a : Nat) : (readWord s a).2 = { s with frozen := (readWord s a).2.frozen } := by
  unfold readWord
  split
  · rfl
  · split <;> rfl

/-- With nothing frozen that has changed since, a read answers the register's word, and freezes words as they are. -/
theorem readWord_live {s : State} (h : FrozenLive s) (a : Nat) :
    (readWord s a).1 = liveWord s a ∧ FrozenLive (readWord s a).2 := by
  unfold readWord
  split
  · next x w hf =>
    have hx : x = a := by simpa using List.find?_some hf
    refine ⟨hx ▸ h _ (List.mem_of_find?_eq_some hf), fun p hp => h p (List.mem_filter.1 hp).1⟩
  · refine ⟨rfl, ?_⟩
    split
    · intro p hp
      rcases List.mem_cons.1 hp with rfl | hp
      · rfl
      · exact h p (List.mem_filter.1 hp).1
    · exact h

/-- A read of several DWs returns four bytes to each, and changes nothing but what is frozen. -/
theorem readDws_frame (s : State) (a k : Nat) :
    (readDws s a k).1.length = 4 * k ∧ (readDws s a k).2 = { s with frozen := (readDws s a k).2.frozen } := by
  induction k with
  | zero => exact ⟨rfl, rfl⟩
  | succ k ih =>
    obtain ⟨hl, hs⟩ := ih
    refine ⟨by simp only [readDws, List.length_append, hl, length_leBytes]; omega, ?_⟩
    simp only [readDws]
    rw [readWord_frame, hs]

/-- A read of several DWs returns the word of each as it stands. -/
theorem readDws_live {s : State} (h : FrozenLive s) (a k : Nat) :
    (readDws s a k).1 = ((List.range k).flatMap fun i => leBytes 4 (liveWord s (a + 4 * i)).toNat) ∧
      FrozenLive (readDws s a k).2 := by
  induction k with
  | zero => exact ⟨rfl, h⟩
  | succ k ih =>
    obtain ⟨hb, hf⟩ := ih
    obtain ⟨hw, hg⟩ := readWord_live hf (a + 4 * k)
    refine ⟨?_, hg⟩
    simp only [readDws]
    rw [hb, hw, (readDws_frame s a k).2, liveWord_frozen, List.range_succ, List.flatMap_append, List.flatMap_singleton]

/-! ## The place of a write at the port. -/

/-- A write waits behind what does not have to let it pass, and before a write of lower priority of its own control clock. -/
theorem portInsert_split (q : PortReq) (l : List PortReq) : ∃ before after, l = before ++ after ∧
    portInsert q l = before ++ q :: after ∧ (∀ x ∈ before, ¬ (x.clock = q.clock ∧ q.src < x.src)) ∧
    (∀ x ∈ after.head?, x.clock = q.clock ∧ q.src < x.src) := by
  induction l with
  | nil => exact ⟨[], [], rfl, rfl, by simp, by simp⟩
  | cons x t ih =>
    by_cases hx : x.clock = q.clock ∧ q.src < x.src
    · exact ⟨[], x :: t, rfl, by simp [portInsert, hx], by simp, by simpa using hx⟩
    · obtain ⟨before, after, rfl, hi, hb, ha⟩ := ih
      refine ⟨x :: before, after, rfl, by simp [portInsert, hx, hi], ?_, ha⟩
      intro y hy
      rcases List.mem_cons.1 hy with rfl | hy
      · exact hx
      · exact hb y hy

theorem portFree_iff (s : State) :
    portFree s = true ↔ portUsed s = false ∧ ∀ q ∈ s.port.head?, q.clock = s.clock ∧ 0 < q.src := by
  simp [portFree, Option.all_eq_true, Nat.pos_iff_ne_zero]

/-! ## What the port's write changes. -/

/-- Where every part of a fold is 0, so is the whole. -/
theorem foldl_or_zero {α : Type} (l : List α) (g : α → Word) (h : ∀ f ∈ l, g f = 0) : l.foldl (fun m f => m ||| g f) 0 = 0 := by
  induction l with
  | nil => rfl
  | cons f t ih => simpa [h f (by simp)] using ih fun x hx => h x (by simp [hx])

/-- No bit of a register is cleared by ones where no field is. -/
theorem clearMask_zero {a : Nat} (h : ∀ f ∈ fieldsAt a, f.acc ≠ .w1c) : clearMask a = 0 := by
  have hg : clearMask a = (fieldsAt a).foldl (fun m f => m ||| if f.acc = .w1c then f.mask else 0) 0 := by
    unfold clearMask
    congr 1
    funext m f
    split <;> simp
  rw [hg]
  exact foldl_or_zero _ _ fun f hf => by simp [h f hf]

/-- A register with no field open to a write and none cleared by ones keeps its word. -/
theorem portWord_closed {s : State} {a : Nat} (w : Word) (h : isEvTable a = false)
    (hf : ∀ f ∈ fieldsAt a, openBits s f = 0 ∧ f.acc ≠ .w1c) : portWord s a w = s.word a := by
  have ho : openMask s a = 0 := by
    rw [openMask, h]
    exact foldl_or_zero _ _ fun f k => (hf f k).1
  simp [portWord, ho, clearMask_zero fun f k => (hf f k).2, -BitVec.reduceNot, -BitVec.reduceAllOnes]

/-- An address of the event table. -/
theorem isEvTable_range {a : Nat} (h : isEvTable a = true) : 0xA000 ≤ a ∧ a < 0xC000 := by
  simp only [isEvTable, Bool.and_eq_true, decide_eq_true_eq] at h
  exact ⟨h.1.1.1, h.1.1.2⟩

/-- The event table has no fields of its own: its entries are whole words (R361). -/
theorem fieldsAt_evTable {a : Nat} (h : 0xA000 ≤ a ∧ a < 0xC000) : fieldsAt a = [] := by
  obtain ⟨h1, h2⟩ := h
  have hd : devFieldsAt a = [] := by
    have h3 : ¬ a < 0x4000 := by omega
    have h4 : ¬ a < 0x8000 := by omega
    rw [devFieldsAt, if_neg h3, if_neg h4, if_pos h2]
    have h5 : 0x2000 ≤ a - 0x8000 := by omega
    have hn (k : Nat) (hk : k < 0x2000) : ¬ a - 0x8000 = k := by omega
    have hr (k : Nat) (hk : k ≤ 0x200) : ¬ a - 0x8000 < k := by omega
    simp [fieldsEVT, fieldsEVT_1, hn, hr]
  rw [fieldsAt, hd]
  split <;> [rfl; rw [if_pos (by omega)]]

/-- An entry of the event table takes the bits that its mask opens. -/
theorem portWord_evTable {s : State} {a : Nat} (w : Word) (h : isEvTable a = true) :
    portWord s a w = (s.word a &&& ~~~ evTableMask a) ||| (w &&& evTableMask a) := by
  have hc : clearMask a = 0 := clearMask_zero (by simp [fieldsAt_evTable (isEvTable_range h)])
  rw [portWord, openMask, if_pos h, hc]
  simp [-BitVec.reduceNot, -BitVec.reduceAllOnes]



/-- A write of an entry of the event table. -/
theorem hostWrite_evTable {s : State} {a : Nat} (w : Word) (h : isEvTable a = true) :
    hostWrite s a w = s.setWord a ((s.word a &&& ~~~ evTableMask a) ||| (w &&& evTableMask a)) := by
  obtain ⟨h1, h2⟩ := isEvTable_range h
  have hn (k : Nat) (hk : k < 0xA000) : ¬ a = k := by omega
  have hp (k : Nat) (hk : 0xC000 ≤ k) : ¬ a = k := by omega
  have hd : driveReg a = false := by
    simp only [driveReg, Bool.or_eq_false_iff, Bool.and_eq_false_iff, decide_eq_false_iff_not]
    omega
  have hput : portPut s a w = s.setWord a (portWord s a w) := by
    rw [portPut, regPut, if_pos (by omega), devPut]
    simp [hn, hp, MON_CTL_RUN, MON_CFG_TPER, MON_SEQLEN_LEN, EVT_CTL_LOGEN, driveForward, hd, show ¬ 0x30020 ≤ a by omega,
      show ¬ 0x11000 ≤ a by omega]
  rw [hostWrite, if_neg (by omega), if_neg (by omega), portWrite, if_neg (by omega), if_neg (by simp [h]), if_pos (by omega), devWrite,
    if_pos h2, if_neg (by omega), if_neg (by omega), if_neg (by omega), if_neg (by omega), hput, portWord_evTable w h]

/-- A write at an address with no register. -/
theorem hostWrite_reserved {s : State} {a : Nat} (w : Word) (hf : fieldsAt a = []) (he : isEvTable a = false)
    (hm : ¬ (0x18000 ≤ a ∧ a < 0x18400)) (hw : ¬ (0x200000 ≤ a ∧ a < 0x400000)) : hostWrite s a w = s := by
  rw [hostWrite, if_neg hm, portWrite]
  split
  · simp [hf]
  · split
    · rw [if_neg (by omega)]
    · simp [hf, he]

/-- A bit of a number that a word spells. -/
theorem bit_toNat (w : Word) (i : Nat) : bit w.toNat i = w.getLsbD i := by
  rw [BitVec.getLsbD, Nat.testBit_eq_decide_div_mod_eq, bit]
  rfl

/-- A write of the RUN bits (R68, R69). -/
theorem hostWrite_chctl (s : State) (w : Word) : hostWrite s GLB_CHCTL_RUN.addr w = iterate 4 s fun s n =>
    if w.getLsbD n && !s.runBit n then runSet s n else if !w.getLsbD n && s.runBit n then runClear s n else s := by
  have hc : hostWrite s GLB_CHCTL_RUN.addr w = chCtl s w := rfl
  simp only [hc, chCtl, bit_toNat]

/-- A field that is locked while its channel runs. -/
theorem openBits_locked {s : State} {f : Fld} (hf : f.acc = .rwl) (hu : f.addr ≠ UMD_CFG_TICKSRC.addr)
    (hr : s.running (chanOf f.addr) = true) : openBits s f = 0 := by
  simp [openBits, hf, hu, hr]

/-! ## REGISTER_WRITE. -/

/-- A host read of DWs of one block: one completion of four bytes to a DW leaves, and nothing else changes but what is frozen. -/
theorem barRequest_read {s : State} {a : Nat} (w : Word) (more : Fin 16) (h : a % 64 + 4 * (more.val + 1) ≤ 64) :
    barRequest s a w (.read more) =
      { s with frozen := (readDws s a (more.val + 1)).2.frozen,
               outbox := s.outbox ++ [.completion (readDws s a (more.val + 1)).1 false] } := by
  rw [barRequest, if_neg (by omega)]
  show State.emit _ _ = _
  rw [(readDws_frame s a (more.val + 1)).2]
  rfl

/-- A request that reaches BAR 0. -/
theorem exec_registerWrite_open {s : State} (h : barOpen s = true) (dw : BitVec 20) (w : Word) (how : BarReq) :
    exec (.registerWrite dw w how) s = .next (finish (barRequest s (4 * dw.toNat) w how)) := by
  show Host.Outcome.next _ = _
  rw [h, if_pos rfl]

/-- Settles O40: request by request, then what the port makes of a write. -/
theorem hostWritesReachOnlyOpenBits : Obligations.HostWritesReachOnlyOpenBits := by
  intro s dw w a
  refine ⟨fun hb hq how => ?_, fun hb => ⟨fun hu hh => ?_, fun hq hh => ?_, ?_, fun hq => ?_,
    fun more hq => ⟨fun hx => ?_, fun hx => ?_⟩⟩,
    hostWrite_reserved w, hostWrite_evTable w, portWord_closed w, fun f => openBits_locked, fun ha => ?_⟩
  · show Host.Outcome.next (finish (if barOpen s then _ else s)) = _
    rw [hb, if_neg (by simp), finish_quiet hq]
  · rw [exec_registerWrite_open hb, barRequest, portHost, if_pos ((portFree_iff s).2 ⟨hu, hh⟩)]
  · have hf : portFree s = false := by
      rw [← Bool.not_eq_true, portFree_iff]
      rintro ⟨hu, hp⟩
      rcases hh with hu' | ⟨q, hq, hn⟩
      · simp [hu] at hu'
      · exact hn (hp q hq)
    obtain ⟨before, after, hs, hi, hbefore, hafter⟩ :=
      portInsert_split { src := 0, clock := s.clock, addr := a, value := w, mask := 0xFFFFFFFF, words := 0 } s.port
    refine ⟨portAsk s 0 a w 0xFFFFFFFF 0, before, after, ?_, rfl, hs, hi, hbefore, hafter⟩
    rw [exec_registerWrite_open hb, barRequest, portHost, hf, if_neg (by simp)]
    exact congrArg _ (finish_same hq rfl rfl)
  · rw [exec_registerWrite_open hb, barRequest]
  · rw [exec_registerWrite_open hb, barRequest]
    exact congrArg _ (finish_same hq rfl rfl)
  · rw [exec_registerWrite_open hb, barRequest, if_pos hx]
    exact congrArg _ (finish_same hq rfl rfl)
  · refine ⟨barRequest s a w (.read more), _, ?_, ?_, (readDws_frame s a (more.val + 1)).1, fun hz => ?_⟩
    · rw [exec_registerWrite_open hb, barRequest_read w more hx]
      exact congrArg _ (finish_same hq rfl rfl)
    · rw [barRequest_read w more hx]
    · exact (readDws_live (s := s) (by simp [FrozenLive, hz]) a (more.val + 1)).1
  · rw [ha, hostWrite_chctl]

/-! ## The test generators. -/

/-- A test generator after control clocks at a rate (R181). -/
def PosGen.after (g : PosGen) (clocks rate : Nat) : PosGen :=
  { g with acc := (g.acc + 6 * clocks * rate) % 2 ^ 31, due := g.due + (g.acc + 6 * clocks * rate) / 2 ^ 31 }

/-- Channel n of a state after control clocks. -/
def genChan (s : State) (clocks n : Nat) : Chan :=
  if s.rb (POS_GEN_RUN n) then
    { s.ch n with pos := { posOf s n with gen := (posOf s n).gen.after clocks (s.rd (POS_GENRATE_RATE n)) } }
  else s.ch n

/-- A generator loses nothing of what it counts. -/
theorem PosGen.after_total (g : PosGen) (clocks rate : Nat) :
    2 ^ 31 * (g.after clocks rate).due + (g.after clocks rate).acc = 2 ^ 31 * g.due + g.acc + 6 * clocks * rate := by
  simp only [PosGen.after]
  have h := Nat.div_add_mod (g.acc + 6 * clocks * rate) (2 ^ 31)
  omega

/-- Control clocks move on the test generators that run, and nothing else. -/
theorem genAdvance_chans (s : State) (k : Nat) :
    genAdvance s k = { s with chans := (genAdvance s k).chans } ∧ ∀ n : Fin 4, (genAdvance s k).ch n = genChan s k n := by
  refine iterate_parts State.ch (genChan s k) (fun t => t = { s with chans := t.chans }) rfl fun i t hs hi => ?_
  have hw (x : Fld) : t.rd x = s.rd x := State.rd_congr x (by rw [hs]; rfl)
  have hb (x : Fld) : t.rb x = s.rb x := by rw [State.rb, hw, State.rb]
  cases hr : s.rb (POS_GEN_RUN i) with
  | false =>
    simp only [hb, hr, genChan]
    exact ⟨hs, hi, fun _ _ => rfl⟩
  | true =>
    simp only [hb, hw, hr, genChan, Bool.not_true, Bool.false_eq_true, if_false, if_true]
    refine ⟨by rw [hs]; rfl, ?_, fun m hm => State.modPos_ch_other _ _ _ _ hm⟩
    rw [State.modPos_ch_same, hi]
    rfl

/-! ## The time base. -/

/-- Corrections of 4 ns that a number of control clocks makes (R352). -/
def slewSteps (s : State) (clocks : Nat) : Nat :=
  let now := s.now + 4 * clocks
  let first := max (s.umd.slewAt + 1000) (s.now + 4)
  let slots := if now < first then 0 else 1 + (now - first) / 1000
  if isManager s || !s.rb UMD_STAT_TIMEOK then 0 else min slots (min clocks (s.umd.slew.natAbs / 4))

/-- At most one correction a µs, none of them more than is left, and none on the manager or before the time is set. -/
theorem slewSteps_le (s : State) (k : Nat) : slewSteps s k ≤ k ∧ 250 * (slewSteps s k - 1) ≤ k ∧
    4 * slewSteps s k ≤ s.umd.slew.natAbs ∧
    (isManager s = true ∨ s.rb UMD_STAT_TIMEOK = false ∨ s.umd.slew.natAbs < 4 → slewSteps s k = 0) := by
  unfold slewSteps
  dsimp only
  split
  · simp
  · next h =>
    simp only [Bool.or_eq_true, Bool.not_eq_true', not_or, Bool.not_eq_true, Bool.not_eq_false] at h
    obtain ⟨hm, ht⟩ := h
    simp only [hm, ht, Bool.false_eq_true, Bool.true_eq_false, false_or]
    split <;> omega

/-- Time after control clocks: the time base, and the correction that is left. -/
theorem timeTick_eq (s : State) (k : Nat) : timeTick s k = { s with
    now := s.now + 4 * k,
    timeBase := s.timeBase + BitVec.ofNat 64
      (if 0 < s.umd.slew then 4 * (k - slewSteps s k) else 4 * (k + slewSteps s k)),
    umd := { s.umd with
      slew := if 0 < s.umd.slew then s.umd.slew - 4 * slewSteps s k else s.umd.slew + 4 * slewSteps s k,
      slewAt := (timeTick s k).umd.slewAt } } := by
  simp only [Nat.mul_sub, Nat.mul_add]
  rfl

/-- Control clocks in which the port has nothing to apply: time moves on (R23, R33). -/
theorem clockTick_empty {s : State} (h : s.port = []) (k : Nat) : clockTick s k = if k = 0 then s else clockStep s k := by
  simp [clockTick, h, portClocks]

/-- Control clocks with writes at the port: what it makes of the first clock, and the clocks that follow (R33). -/
theorem clockTick_waiting {s : State} {q : PortReq} {rest : List PortReq} (h : s.port = q :: rest) {k : Nat} (hk : 0 < k) :
    clockTick s k = portClocks (rest.length + 1) (clockStep (finish (portApply s)) 1) (k - 1) := by
  rw [clockTick, h, List.length_cons, portClocks, if_neg (by omega), h, if_neg (by simp)]

/-- What the time base counts of k control clocks. -/
structure Counted (s t : State) (k j : Nat) : Prop where
  now : t.now = s.now + 4 * k
  clocks : j ≤ k
  pace : 250 * (j - 1) ≤ k
  left : 4 * j ≤ s.umd.slew.natAbs
  none : isManager s = true ∨ s.rb UMD_STAT_TIMEOK = false ∨ s.umd.slew.natAbs < 4 → j = 0
  ahead : 0 < s.umd.slew → t.timeBase = s.timeBase + BitVec.ofNat 64 (4 * (k - j)) ∧ t.umd.slew = s.umd.slew - 4 * j
  behind : s.umd.slew ≤ 0 → t.timeBase = s.timeBase + BitVec.ofNat 64 (4 * (k + j)) ∧ t.umd.slew = s.umd.slew + 4 * j
  rest : t = { s with now := t.now, timeBase := t.timeBase, chans := t.chans,
                      umd := { s.umd with slew := t.umd.slew, slewAt := t.umd.slewAt } }
  gens : ∀ n : Fin 4, t.ch n = { s.ch n with pos := { posOf s n with gen := (posOf t n).gen } } ∧
    (s.rb (POS_GEN_RUN n) = false → t.ch n = s.ch n) ∧
    (s.rb (POS_GEN_RUN n) = true → 2 ^ 31 * (posOf t n).gen.due + (posOf t n).gen.acc =
      2 ^ 31 * (posOf s n).gen.due + (posOf s n).gen.acc + 6 * k * s.rd (POS_GENRATE_RATE n))

/-- What control clocks make of a channel: its generator moves on if it runs, by what its rate gives. -/
theorem genChan_gen (s : State) (k n : Nat) (c : Chan) (h : c = genChan s k n) :
    c = { s.ch n with pos := { posOf s n with gen := c.pos.gen } } ∧ (s.rb (POS_GEN_RUN n) = false → c = s.ch n) ∧
    (s.rb (POS_GEN_RUN n) = true → 2 ^ 31 * c.pos.gen.due + c.pos.gen.acc =
      2 ^ 31 * (posOf s n).gen.due + (posOf s n).gen.acc + 6 * k * s.rd (POS_GENRATE_RATE n)) := by
  subst h
  cases hr : s.rb (POS_GEN_RUN n) with
  | false => simp [genChan, hr, posOf]
  | true => simpa [genChan, hr] using PosGen.after_total _ k _

/-- Clocks that pass at once. -/
theorem clockStep_counted (s : State) (k : Nat) : Counted s (clockStep s k) k (slewSteps s k) := by
  obtain ⟨hs, hc⟩ := genAdvance_chans s k
  obtain ⟨h1, h2, h3, h4⟩ := slewSteps_le s k
  have he : clockStep s k = { timeTick s k with chans := (genAdvance s k).chans } := by
    rw [clockStep, hs]
    rfl
  rw [he, timeTick_eq]
  exact ⟨rfl, h1, h2, h3, h4, fun h => by simp [h], fun h => by simp [not_lt.2 h], rfl, fun n => genChan_gen s k n _ (hc n)⟩

/-- No clock passes. -/
theorem counted_zero (s : State) : Counted s s 0 0 where
  now := rfl
  clocks := Nat.le_refl _
  pace := Nat.le_refl _
  left := Nat.zero_le _
  none := fun _ => rfl
  ahead := fun _ => by simp
  behind := fun _ => by simp
  rest := rfl
  gens := fun n => ⟨rfl, fun _ => rfl, fun _ => by simp⟩

/-- Settles O39: time moves on in one go while nothing waits at the port, and clock by clock while something does. -/
theorem timeBaseCountsControlClocks : Obligations.TimeBaseCountsControlClocks := by
  intro s k hq
  have hexec : exec (.timeBaseTick k) s = .next (finish (clockTick s k)) := rfl
  refine ⟨fun hp => ?_, fun q rest hp hk => ⟨fun hu => ?_, fun hu => ?_⟩⟩
  · obtain ⟨t, j, ht, hc⟩ : ∃ t j, clockTick s k = t ∧ Counted s t k j := by
      rw [clockTick_empty hp]
      split
      · next h => exact ⟨s, 0, rfl, h ▸ counted_zero s⟩
      · exact ⟨_, _, rfl, clockStep_counted s k⟩
    have hfin : finish t = t := by
      rw [hc.rest]
      exact finish_quiet (hq.congr rfl rfl rfl rfl)
    refine ⟨t, j, by rw [hexec, ht, hfin], hc.now, hc.clocks, hc.pace, hc.left, hc.none, hc.ahead, hc.behind, hc.rest, hc.gens⟩
  · have ha : portApply s = portTake { s with port := rest, portAt := s.clock + 1 } q := by
      rw [portApply, hu, if_neg (by simp), hp]
    rw [hexec, clockTick_waiting hp hk, ha]
  · have ha : portApply s = s := by rw [portApply, hu, if_pos rfl]
    rw [hexec, clockTick_waiting hp hk, ha, finish_quiet hq]

/-! ## Channels that are set one at a time. -/

/-- What a new element has in common with the old one, every element of the four keeps. -/
theorem Quad.get_set_keep {α β : Type} (g : α → β) {q : Quad α} {n : Nat} {x : α} (h : g x = g (q.get n)) (m : Nat) :
    g ((q.set n x).get m) = g (q.get m) := by
  rcases n with _ | _ | _ | n <;> rcases m with _ | _ | _ | m <;> simp [Quad.set, Quad.get, h]

/-- What an update of a channel keeps of it, it keeps of every channel. -/
theorem State.modCh_keep {β : Type} (g : Chan → β) {s : State} {n : Nat} {f : Chan → Chan}
    (h : g (f (s.ch n)) = g (s.ch n)) (m : Nat) :
    g ((s.modCh n f).ch m) = g (s.ch m) := Quad.get_set_keep g h m

/-! ## The outputs of a sensor bar. -/

/-- A state without its channels and what has left it. -/
def State.besides (s : State) : State := { s with chans := Quad.all Chan.init, outbox := [] }

@[simp] theorem State.besides_emit (s : State) (o : Out) : (s.emit o).besides = s.besides := rfl

@[simp] theorem State.besides_modSns (s : State) (n : Nat) (f : SnsSt → SnsSt) : (s.modSns n f).besides = s.besides := rfl

theorem ctlLevels_besides (s : State) (n l : Nat) : (ctlLevels s n l).besides = s.besides :=
  iterate_same State.besides fun t p => by split <;> simp [ctlDrive]

/-- The sensor outputs go low: nothing changes but the sensor units and what has left the device. -/
theorem snsOutputsOff_besides (s : State) (n : Nat) : (snsOutputsOff s n).besides = s.besides := by
  unfold snsOutputsOff
  split
  · rfl
  · simp [ctlLevels_besides]

theorem State.modSns_fresh (s : State) (n m : Nat) (f : SnsSt → SnsSt) : ((s.modSns n f).ch m).fresh = (s.ch m).fresh :=
  State.modCh_keep Chan.fresh rfl m

theorem ctlLevels_fresh (s : State) (n l m : Nat) : ((ctlLevels s n l).ch m).fresh = (s.ch m).fresh :=
  iterate_same (fun t => (t.ch m).fresh) fun t p => by split <;> simp [ctlDrive, State.modSns_fresh]

/-- The sensor outputs go low: what a reset keeps of a channel stays as it is. -/
theorem snsOutputsOff_fresh (s : State) (n m : Nat) : ((snsOutputsOff s n).ch m).fresh = (s.ch m).fresh := by
  unfold snsOutputsOff
  split
  · rfl
  · simp [ctlLevels_fresh, State.modSns_fresh]

/-! ## Registers that show the levels of input pins. -/

/-- A field set in a register file in canonical form. -/
theorem State.word_wr_same {s : State} (h : RegsWf s) (f : Fld) (v : Nat) : (s.wr f v).word f.addr = f.put (s.word f.addr) v :=
  State.word_setWord_same h _ _

/-- Addresses of channel n's registers that show its input pins. -/
def pinAddr (n : Fin 4) (a : Nat) : Prop := a = (SNS_STAT_PRES n).addr ∨ ∃ x : Fin 4, a = (MOTA_STAT_REF n x).addr

/-- Addresses of status registers of different axes or channels differ. -/
theorem refAddr_inj {n m x y : Fin 4} (h : (MOTA_STAT_REF n x).addr = (MOTA_STAT_REF m y).addr) : n = m ∧ x = y := by
  simp only [MOTA_STAT_REF, chBase] at h
  omega

theorem presAddr_inj {n m : Fin 4} (h : (SNS_STAT_PRES n).addr = (SNS_STAT_PRES m).addr) : n = m := by
  simp only [SNS_STAT_PRES, chBase] at h
  omega

theorem presAddr_ne_refAddr (n m x : Fin 4) : (SNS_STAT_PRES n).addr ≠ (MOTA_STAT_REF m x).addr := by
  simp only [SNS_STAT_PRES, MOTA_STAT_REF, chBase]
  omega

/-- The polarity of a reference input is no status bit. -/
theorem polAddr_not_pin (n x m : Fin 4) : ¬ pinAddr m (MOTA_CFG_REFPOL n x).addr := by
  simp only [pinAddr, SNS_STAT_PRES, MOTA_STAT_REF, MOTA_CFG_REFPOL, chBase]
  omega

/-- The status bits of one channel's input pins. -/
theorem showPins_words {s : State} (h : RegsWf s) (n : Fin 4) (p : Bool) :
    OnlyWords s (showPins s n p) (pinAddr n) ∧ RegsWf (showPins s n p) ∧
    (showPins s n p).word (SNS_STAT_PRES n).addr = (SNS_STAT_PRES n).put (s.word (SNS_STAT_PRES n).addr) (b2n p) ∧
    ∀ x : Fin 4, (showPins s n p).word (MOTA_STAT_REF n x).addr =
      (MOTA_STAT_REF n x).put (s.word (MOTA_STAT_REF n x).addr) (b2n ((axis s n x).refIn == s.rb (MOTA_CFG_REFPOL n x))) := by
  have hw := h.wb (SNS_STAT_PRES n) p
  have hk : SameWords s (s.wb (SNS_STAT_PRES n) p) (pinAddr n) := SameWords.wr s _ _ (.inl rfl)
  have hr (x : Fin 4) : (s.wb (SNS_STAT_PRES n) p).word (MOTA_STAT_REF n x).addr = s.word (MOTA_STAT_REF n x).addr :=
    State.word_setWord_other s _ (presAddr_ne_refAddr n n x).symm
  obtain ⟨⟨ho, hs, hp, hwf⟩, hall⟩ := iterate_parts (k := 4) (s := s.wb (SNS_STAT_PRES n) p) (f := fun t a => showRef t n a)
    (fun t x => t.word (MOTA_STAT_REF n x).addr)
    (fun x => (MOTA_STAT_REF n x).put (s.word (MOTA_STAT_REF n x).addr) (b2n ((axis s n x).refIn == s.rb (MOTA_CFG_REFPOL n x))))
    (fun t => t = { s with regs := t.regs } ∧ SameWords s t (pinAddr n) ∧
      t.word (SNS_STAT_PRES n).addr = (SNS_STAT_PRES n).put (s.word (SNS_STAT_PRES n).addr) (b2n p) ∧ RegsWf t)
    ⟨rfl, hk, State.word_wr_same h _ _, hw⟩ fun x t ⟨ho, hs, hp, hwf⟩ hx => by
      have hpol : t.rb (MOTA_CFG_REFPOL n x) = s.rb (MOTA_CFG_REFPOL n x) := by
        rw [State.rb, State.rd_congr _ (hs _ (polAddr_not_pin n x n)), State.rb]
      have hax : axis t n x = axis s n x := by rw [ho]; rfl
      refine ⟨⟨by rw [ho]; rfl, hs.trans (SameWords.wr t _ _ (.inr ⟨x, rfl⟩)), ?_, hwf.wb _ _⟩, ?_, fun m hm => ?_⟩
      · exact (State.word_setWord_other t _ (presAddr_ne_refAddr n n x)).trans hp
      · rw [showRef, State.wb, State.word_wr_same hwf, hx, hr, hax, hpol]
      · exact State.word_setWord_other t _ fun e => hm (refAddr_inj e).2
  exact ⟨⟨ho, hs⟩, hwf, hp, hall⟩

/-! ## Reset of the whole device. -/

/-- The device after a hard reset, before the status bits of input pins show their levels. -/
def powerOn (s : State) : State :=
  { State.reset with
    pending := s.pending, now := s.now, freeCtr := s.freeCtr, outbox := (iterate 4 s snsOutputsOff).outbox, flash := s.flash,
    keyHash := s.keyHash, drv := { DrvSt.init with under := s.drv.under }, dma := { DmaSt.init with perst := s.dma.perst } }

/-- The device after power-on reset (R382, R410). -/
def powerOnPins (s : State) : State :=
  iterate 4 (powerOn s) fun t n => showPins (t.setCh n (s.ch n).fresh) n (s.rb (SNS_STAT_PRES n))

/-- The repair entries of the DRAM controllers (R316). -/
def repairAddr (a : Nat) : Bool :=
  (List.range 4).any fun k => decide (0x20080 + 0x4000 * k ≤ a ∧ a < 0x200A0 + 0x4000 * k)

theorem repairAddr_iff (a : Nat) :
    repairAddr a = true ↔ ∃ k : Fin 4, 0x20080 + 0x4000 * k.val ≤ a ∧ a < 0x200A0 + 0x4000 * k.val := by
  simp only [repairAddr, List.any_eq_true, List.mem_range, decide_eq_true_eq]
  exact ⟨fun ⟨k, hk, h⟩ => ⟨⟨k, hk⟩, h⟩, fun ⟨k, h⟩ => ⟨k, k.isLt, h⟩⟩

theorem State.eq_of_besides {s t : State} (h : t.besides = s.besides) : t = { s with chans := t.chans, outbox := t.outbox } := by
  cases s
  cases t
  simpa [State.besides] using h

/-- The repair entries of one state written into another. -/
def restoreRepairs (s t : State) : State := (s.regs.filter fun p => repairAddr p.1).foldl (fun s p => s.setWord p.1 p.2) t

/-- What a hard reset makes of the device: pin reset writes the repair entries back. -/
theorem hardReset_eq (s : State) (pin : Bool) : hardReset s pin =
    if pin then restoreRepairs s (powerOnPins s) else powerOnPins s := by
  have hf (n : Nat) : ((iterate 4 s snsOutputsOff).ch n).fresh = (s.ch n).fresh :=
    iterate_same (fun t => (t.ch n).fresh) fun t i => snsOutputsOff_fresh t i n
  have hb : (iterate 4 s snsOutputsOff).besides = s.besides := iterate_same State.besides snsOutputsOff_besides
  have ho := State.eq_of_besides hb
  simp only [hardReset, hf, restoreRepairs, powerOnPins, powerOn]
  generalize (iterate 4 s snsOutputsOff) = old at ho
  rw [ho]
  rfl

/-- What channel n's status register of its bar holds after a hard reset: its reset value and the level of the pin. -/
def presWord (s : State) (n : Nat) : Word :=
  (SNS_STAT_PRES n).put (resetWord (SNS_STAT_PRES n).addr) (b2n (s.rb (SNS_STAT_PRES n)))

/-- What an axis's status register holds after a hard reset: its reset value and the level of its reference input. -/
def refWord (s : State) (n x : Nat) : Word :=
  (MOTA_STAT_REF n x).put (resetWord (MOTA_STAT_REF n x).addr)
    (b2n ((axis s n x).refIn == ((MOTA_CFG_REFPOL n x).of (resetWord (MOTA_CFG_REFPOL n x).addr) != 0)))

/-- The reference inputs keep their levels. -/
theorem Chan.fresh_refIn (c : Chan) (x : Fin 4) : (c.fresh.mot.axes.get x).refIn = (c.mot.axes.get x).refIn := by
  match x with
  | 0 | 1 | 2 | 3 => rfl

/-- Channels and registers after power-on reset. -/
theorem powerOnPins_spec (s : State) :
    (powerOnPins s = { powerOn s with regs := (powerOnPins s).regs, chans := (powerOnPins s).chans } ∧ RegsWf (powerOnPins s) ∧
      ∀ a, (∀ n, ¬ pinAddr n a) → (powerOnPins s).word a = resetWord a) ∧
    ∀ n : Fin 4, ((powerOnPins s).ch n, (powerOnPins s).word (SNS_STAT_PRES n).addr,
      fun x : Fin 4 => (powerOnPins s).word (MOTA_STAT_REF n x).addr) =
      ((s.ch n).fresh, presWord s n, fun x : Fin 4 => refWord s n x) := by
  refine iterate_parts (fun t n => (t.ch n, t.word (SNS_STAT_PRES n).addr, fun x : Fin 4 => t.word (MOTA_STAT_REF n x).addr))
    (fun n => ((s.ch n).fresh, presWord s n, fun x : Fin 4 => refWord s n x))
    (fun t => t = { powerOn s with regs := t.regs, chans := t.chans } ∧ RegsWf t ∧
      ∀ a, (∀ n, ¬ pinAddr n a) → t.word a = resetWord a)
    ⟨rfl, nil_wf, fun _ _ => rfl⟩ fun n t ⟨ho, hwf, hrest⟩ hn => ?_
  obtain ⟨⟨hu, hsame⟩, hwf', hpres, href⟩ := showPins_words (s := t.setCh n (s.ch n).fresh) hwf n (s.rb (SNS_STAT_PRES n))
  simp only [Prod.mk.injEq, funext_iff] at hn
  obtain ⟨-, hnp, hnr⟩ := hn
  have hch (m : Fin 4) : (showPins (t.setCh n (s.ch n).fresh) n (s.rb (SNS_STAT_PRES n))).ch m = (t.setCh n (s.ch n).fresh).ch m := by
    rw [hu]; rfl
  refine ⟨⟨by rw [hu, ho]; rfl, hwf', fun a ha => (hsame a (ha n)).trans (hrest a ha)⟩, ?_, fun m hm => ?_⟩
  · refine Prod.ext ((hch n).trans (State.ch_setCh_same _ _ _)) (Prod.ext ?_ (funext fun x => ?_))
    · rw [hpres, State.setCh_word, hnp]; rfl
    · have hax : (axis (t.setCh n (s.ch n).fresh) n x).refIn = (axis s n x).refIn := by
        rw [axis, State.ch_setCh_same, Chan.fresh_refIn, axis]
      have hpol : (t.setCh n (s.ch n).fresh).rb (MOTA_CFG_REFPOL n x) =
          ((MOTA_CFG_REFPOL n x).of (resetWord (MOTA_CFG_REFPOL n x).addr) != 0) := by
        rw [State.setCh_rb, State.rb, State.rd, hrest _ fun m => polAddr_not_pin n x m]
      dsimp only
      rw [href, State.setCh_word, hnr, hax, hpol]; rfl
  · refine Prod.ext ((hch m).trans (State.ch_setCh_other _ _ _ _ hm)) (Prod.ext ?_ (funext fun x => ?_))
    · exact (hsame _ fun h => h.elim (fun e => hm (presAddr_inj e)) fun ⟨y, e⟩ => presAddr_ne_refAddr m n y e).trans
        (State.setCh_word _ _ _ _)
    · exact (hsame _ fun h => h.elim (fun e => presAddr_ne_refAddr n m x e.symm) fun ⟨y, e⟩ => hm (refAddr_inj e).1).trans
        (State.setCh_word _ _ _ _)

/-! ## Pin reset: the repair entries are written back. -/

/-- Words set one after another. -/
theorem foldl_setWord (l : List (Nat × Word)) (s : State) : l.foldl (fun s p => s.setWord p.1 p.2) s =
    { s with regs := l.foldl (fun m p => sput resetWord m p.1 p.2) s.regs } := by
  induction l generalizing s with
  | nil => rfl
  | cons p t ih => rw [List.foldl_cons, ih]; rfl

/-- Entries of a canonical memory, written one after another, are read back. -/
theorem sget_foldl_sput_mem {β : Type} [DecidableEq β] {d : Nat → β} {l m : List (Nat × β)} (hm : SparseWf d m)
    (hl : l.Pairwise fun x y => x.1 < y.1) {p : Nat × β} (hp : p ∈ l) :
    sget d (l.foldl (fun m q => sput d m q.1 q.2) m) p.1 = p.2 := by
  induction l generalizing m with
  | nil => simp at hp
  | cons q t ih =>
    rw [List.pairwise_cons] at hl
    rw [List.foldl_cons]
    rcases List.mem_cons.1 hp with rfl | hp
    · rw [sget_foldl_sput_other t _ _ _ _ fun x hx => Nat.ne_of_gt (hl.1 x hx), sget_sput_same hm]
    · exact ih (sput_wf hm _ _) hl.2 hp

/-- Pin reset differs from power-on reset in the repair entries alone, which keep their words. -/
theorem pinReset_words {s t : State} (hs : RegsWf s) (ht : RegsWf t) (hr : ∀ a, repairAddr a = true → t.word a = resetWord a) :
    OnlyWords t (restoreRepairs s t) (fun a => repairAddr a = true) ∧
    ∀ a, repairAddr a = true → (restoreRepairs s t).word a = s.word a := by
  rw [restoreRepairs, foldl_setWord]
  refine ⟨⟨rfl, fun a ha => sget_foldl_sput_other _ _ _ _ _ fun p hp e => ha ?_⟩, fun a ha => ?_⟩
  · simpa [e] using (List.mem_filter.1 hp).2
  · by_cases hl : ∃ p ∈ s.regs, p.1 = a
    · obtain ⟨p, hp, rfl⟩ := hl
      rw [State.word, State.word, sget_listed hs hp]
      exact sget_foldl_sput_mem ht (hs.1.filter _) (List.mem_filter.2 ⟨hp, ha⟩)
    · have hn : ∀ p ∈ s.regs, p.1 ≠ a := fun p hp e => hl ⟨p, hp, e⟩
      rw [State.word, State.word, sget_unlisted _ _ hn, ← hr a ha]
      exact sget_foldl_sput_other _ _ _ _ _ fun p hp => hn p (List.mem_filter.1 hp).1

/-! ## The status fields after a hard reset. -/

theorem State.rb_of_word {s : State} {f : Fld} {w : Word} (h : s.word f.addr = w) : s.rb f = (f.of w != 0) := by
  rw [State.rb, State.rd, h]

/-- A one-bit field holds the bit it was set to. -/
theorem Fld.of_put_b2n {f : Fld} (hf : f.Fits) (h1 : f.width = 1) (w : Word) (b : Bool) : (f.of (f.put w (b2n b)) != 0) = b := by
  rw [Fld.of_put_same f hf, h1]
  cases b <;> rfl

/-- The bits of an input pin's status word beside the one that shows the pin are those of the reset value. -/
theorem presWord_fields (s : State) (n : Fin 4) :
    ((SNS_STAT_PRES n).of (presWord s n) != 0) = s.rb (SNS_STAT_PRES n) ∧ (SNS_STAT_STATE n).of (presWord s n) = 0 := by
  have hf : (SNS_STAT_PRES n).Fits := by simp [Fld.Fits, SNS_STAT_PRES]
  have hg : (SNS_STAT_STATE n).Fits := by simp [Fld.Fits, SNS_STAT_STATE]
  refine ⟨Fld.of_put_b2n hf rfl _ _, ?_⟩
  rw [presWord, Fld.of_put_apart _ _ hf hg (.inl (by simp [SNS_STAT_PRES, SNS_STAT_STATE]))]
  clear hf hg
  revert n
  decide

theorem refWord_fields (s : State) (n x : Fin 4) :
    ((MOTA_STAT_REF n x).of (refWord s n x) != 0) =
      ((axis s n x).refIn == ((MOTA_CFG_REFPOL n x).of (resetWord (MOTA_CFG_REFPOL n x).addr) != 0)) ∧
    (MOTA_STAT_HOMED n x).of (refWord s n x) = 0 := by
  have hf : (MOTA_STAT_REF n x).Fits := by simp [Fld.Fits, MOTA_STAT_REF]
  have hg : (MOTA_STAT_HOMED n x).Fits := by simp [Fld.Fits, MOTA_STAT_HOMED]
  refine ⟨Fld.of_put_b2n hf rfl _ _, ?_⟩
  rw [refWord, Fld.of_put_apart _ _ hf hg (.inl (by simp [MOTA_STAT_REF, MOTA_STAT_HOMED]))]
  clear hf hg
  revert n x
  decide

/-- A repair entry is no status register. -/
theorem repairAddr_not_pin {a : Nat} (h : repairAddr a = true) (n : Fin 4) : ¬ pinAddr n a := by
  obtain ⟨k, h1, h2⟩ := (repairAddr_iff a).1 h
  simp only [pinAddr, SNS_STAT_PRES, MOTA_STAT_REF, chBase]
  omega

/-- Every axis of a fresh channel stands still. -/
theorem Chan.fresh_still (c : Chan) (x : Fin 4) : (c.fresh.mot.axes.get x).moving = false := by
  match x with
  | 0 | 1 | 2 | 3 => rfl

/-- Settles O35: what the resets leave is written out by `powerOn`; registers and channels follow channel by channel, and the repair
entries by what pin reset writes back. -/
theorem hardResetsReturnTheDeviceToPowerOn : Obligations.HardResetsReturnTheDeviceToPowerOn := by
  intro s hs
  obtain ⟨⟨ho, hwf, hrest⟩, hparts⟩ := powerOnPins_spec s
  have hrepair : ∀ a, repairAddr a = true → (powerOnPins s).word a = resetWord a := fun a ha => hrest a (repairAddr_not_pin ha)
  obtain ⟨⟨hu, hsame⟩, hkept⟩ := pinReset_words hs hwf hrepair
  have hquiet : Quiet (powerOnPins s) := by rw [ho]; exact ⟨rfl, rfl, rfl, rfl⟩
  have hcold : Host.Outcome.next (finish (hardReset s false)) = (.next (powerOnPins s) : Host.Outcome State Fault Refusal) := by
    rw [hardReset_eq, if_neg (by simp), finish_quiet hquiet]
  have hpin : Host.Outcome.next (finish (hardReset s true)) =
      (.next (restoreRepairs s (powerOnPins s)) : Host.Outcome State Fault Refusal) := by
    rw [hardReset_eq, if_pos rfl, finish_same hquiet (by rw [hu]) (by rw [hu])]
  refine ⟨powerOnPins s, _, hcold, hcold, hpin, fun a ha => ?_, fun n => ?_, ho,
    ⟨hu, fun a ha => hsame a fun h => ha ((repairAddr_iff a).1 h)⟩, fun k a h1 h2 => hkept a ((repairAddr_iff a).2 ⟨k, h1, h2⟩)⟩
  · exact hrest a fun n h => h.elim (fun e => (ha n 0).1 e) fun ⟨x, e⟩ => (ha n x).2 e
  · obtain ⟨hch, hpres, href⟩ : _ ∧ _ ∧ _ := by simpa only [Prod.mk.injEq, funext_iff] using hparts n
    obtain ⟨hp, hstate⟩ := presWord_fields s n
    refine ⟨hch, (State.rb_of_word hpres).trans hp, ?_, fun x => ⟨?_, ?_, ?_⟩, ?_, ?_⟩
    · rw [State.rd, show (SNS_STAT_STATE n).addr = (SNS_STAT_PRES n).addr from rfl, hpres, hstate]
    · rw [State.rb_of_word (href x), (refWord_fields s n x).1, State.rb_of_word (hrest _ fun m => polAddr_not_pin n x m)]
    · rw [State.rb_of_word (f := MOTA_STAT_HOMED n x) (href x), (refWord_fields s n x).2]
      rfl
    · rw [axis, hch, Chan.fresh_still]
    · rw [posOf, hch]; rfl
    · rw [posOf, hch]; rfl

/-! ## The end of a command where the Umade unit has nothing to tell anyone.

A node that is no manager and has its link switched off sends nothing, and a switch that is committed while every channel runs waits for
its line: whatever the Umade unit follows, its look at the outcome of a command leaves the channels as they are. -/

/-- Nothing differs but the Umade unit, the switches and registers other than the one that shows which channels run. -/
def UmdOnly (s t : State) : Prop :=
  t = { s with regs := t.regs, switches := t.switches, umd := t.umd } ∧
  t.word GLB_CHSTAT_RUNNING.addr = s.word GLB_CHSTAT_RUNNING.addr

theorem UmdOnly.refl (s : State) : UmdOnly s s := ⟨rfl, rfl⟩

theorem UmdOnly.trans {s t u : State} (h : UmdOnly s t) (k : UmdOnly t u) : UmdOnly s u :=
  ⟨by rw [k.1, h.1], k.2.trans h.2⟩

theorem UmdOnly.modUmd {s t : State} (h : UmdOnly s t) (f : UmdSt → UmdSt) : UmdOnly s (t.modUmd f) := h.trans ⟨rfl, rfl⟩

theorem UmdOnly.wr {s t : State} (h : UmdOnly s t) {f : Fld} (hf : GLB_CHSTAT_RUNNING.addr ≠ f.addr) (v : Nat) : UmdOnly s (t.wr f v) :=
  h.trans ⟨rfl, State.word_setWord_other t _ hf⟩

theorem UmdOnly.modSw {s t : State} (h : UmdOnly s t) (i : Nat) (f : SwReq → SwReq) : UmdOnly s (modSw t i f) := h.trans ⟨rfl, rfl⟩

theorem UmdOnly.running {s t : State} (h : UmdOnly s t) (n : Nat) : t.running n = s.running n := by
  rw [State.running, State.rd_congr _ h.2, State.running]

theorem UmdOnly.foldl {α : Type} {s t : State} {l : List α} {f : State → α → State} (h : UmdOnly s t)
    (hf : ∀ x ∈ l, ∀ u, UmdOnly s u → UmdOnly s (f u x)) : UmdOnly s (l.foldl f t) := by
  induction l generalizing t with
  | nil => exact h
  | cons x l ih => exact ih (hf x (by simp) t h) fun y hy => hf y (by simp [hy])

/-- A node whose link is switched off sends no frame. -/
theorem umdSend_off {s : State} (h : umdOn s = false) (up : Bool) (f : UmdFrame) : umdSend s up f = s := by
  simp [umdSend, umdLive, h]

theorem lt_four_of_mem_maskChans {m n : Nat} (h : n ∈ maskChans m) : n < 4 := List.mem_range.1 (List.mem_filter.1 h).1

/-- The manager's commit message, while every channel runs: the switches wait for their lines. -/
theorem swGo_umdOnly {s : State} (h : ∀ n < 4, s.running n = true) (i : Nat) : UmdOnly s (swGo s i) := by
  have hst (n : Nat) (hn : n < 4) : GLB_CHSTAT_RUNNING.addr ≠ (GLB_SW_STAT_STATE n).addr := by
    simp only [GLB_CHSTAT_RUNNING, GLB_SW_STAT_STATE]; omega
  have hwarm (n : Nat) : GLB_CHSTAT_RUNNING.addr ≠ (warmFlds n).1.addr ∧ GLB_CHSTAT_RUNNING.addr ≠ (warmFlds n).2.addr := by
    unfold warmFlds
    split <;> decide
  have hgo : UmdOnly s (modSw s i fun r => { r with go := true }) := (UmdOnly.refl s).modSw i _
  unfold swGo swArmed
  split
  · exact hgo
  · split
    · exact hgo
    · split
      · unfold swCommit
        split
        · exact hgo
        · refine UmdOnly.foldl (UmdOnly.foldl (hgo.modSw i _) fun n hn u hu => ?_) fun n hn u hu => ?_
          · exact ((hu.wr (hst n (lt_four_of_mem_maskChans hn)) _).wr (hwarm n).1 _).wr (hwarm n).2 _
          · rw [swIdle, hu.running, h n (lt_four_of_mem_maskChans hn), if_pos rfl]
            exact hu
      · exact UmdOnly.foldl hgo fun n hn u hu => hu.wr (hst n (lt_four_of_mem_maskChans hn)) _

/-- A reply that such a node cannot send. -/
theorem cmdReply_off {s : State} (hon : umdOn s = false) (id code result : Nat) (reasons : List Nat) :
    ∃ u, cmdReply s id code result reasons = { s with umd := u } := by
  simp only [cmdReply, umdSend_off hon]
  exact ⟨_, rfl⟩

/-- A PREPARE in staging, on a node that is no manager and has its link switched off. -/
theorem prepWatch_off {s : State} (hon : umdOn s = false) (hm : isManager s = false) : ∃ u, prepWatch s = { s with umd := u } := by
  have hm' (f : UmdSt → UmdSt) : ¬ isManager (s.modUmd f) = true := Bool.eq_false_iff.1 hm
  have hon' (f : UmdSt → UmdSt) : umdOn (s.modUmd f) = false := hon
  unfold prepWatch
  split
  · exact ⟨_, rfl⟩
  · split
    · split
      · exact ⟨_, rfl⟩
      · dsimp only
        rw [if_neg (hm' _)]
        exact cmdReply_off (hon' _) _ _ _ _
    · dsimp only
      rw [if_neg (hm' _)]
      exact cmdReply_off (hon' _) _ _ _ _

/-- A system switch, with every node present, every channel running and the link switched off. -/
theorem sysWatch_umdOnly {s : State} (hon : umdOn s = false) (hp : ∀ j < 16, nodePresent s j = true)
    (hr : ∀ n < 4, s.running n = true) : UmdOnly s (sysWatch s) := by
  have hsend (code line mask : Nat) (args : List Byte) : UmdOnly s (cmdSend s code line mask args).2 := by
    simp only [cmdSend, umdSend_off hon]
    exact (UmdOnly.refl s).modUmd _
  unfold sysWatch
  split
  · exact UmdOnly.refl s
  · split
    · split
      · exact (UmdOnly.refl s).modUmd _
      · exact UmdOnly.refl s
    · split
      · next j hj =>
        have hmem : j < 16 := List.mem_range.1 (List.mem_filter.1 (List.mem_of_find?_eq_some hj)).1
        have hnone := List.find?_some hj
        simp [hp j hmem] at hnone
      · split
        · unfold sysCommit
          have hshow (q : UmdSys) (code line mask : Nat) (args : List Byte) (st reason node : Nat) :
              UmdOnly s (sysShow ((cmdSend s code line mask args).2.modUmd fun u => { u with sys := some q }) st reason node) :=
            ((((hsend _ _ _ _).modUmd _).wr (by decide) _).wr (by decide) _).wr (by decide) _
          dsimp only
          split
          · exact (hshow _ _ _ _ _ _ _ _).trans (swGo_umdOnly (fun n hn => ((hshow _ _ _ _ _ _ _ _).running n).trans (hr n hn)) _)
          · exact hshow _ _ _ _ _ _ _ _
        · exact UmdOnly.refl s

/-- The end of a command that raised nothing, on such a node, leaves the channels as they are. -/
theorem finish_chans {s : State} (he : s.evq = []) (hon : umdOn s = false) (hm : isManager s = false)
    (hp : ∀ j < 16, nodePresent s j = true) (hr : ∀ n < 4, s.running n = true) : (finish s).chans = s.chans := by
  have hflush (t : State) : (umdFlush t).chans = t.chans := by unfold umdFlush; split <;> rfl
  rw [finish, settle_empty he, hflush]
  split
  · rfl
  · obtain ⟨u, hu⟩ := prepWatch_off hon hm
    have ho : UmdOnly { s with umd := u } (sysWatch { s with umd := u }) := sysWatch_umdOnly hon hp hr
    have he' : (sysWatch { s with umd := u }).evq = [] := by rw [ho.1]; exact he
    rw [umdWatch, hu, settle_empty he', ho.1]

/-! ## A state with no entry for a sink. -/

/-- A node with its link switched off, every channel running, every node shown present, its drive die's link up, and no entry in its
channels' lists of sinks. -/
def sinkless : State :=
  (({ State.reset with
      chans := Quad.all { Chan.init with lmp := { LmpSt.init with sinks := [] } }, drv := { DrvSt.init with linkUp := true } }).wr
    GLB_CHSTAT_RUNNING 15).wr UMD_STAT_PRESENT 0xFFFF

/-- Settles O38 (refuted): the list of sinks is a plain list, and nothing that is taken of the state says that it has an entry for sink 0;
where it has none, a status refresh that brings a measurement of sink 0 leaves nothing that holds it. -/
theorem not_driveDieFollowsItsLink : ¬ Obligations.DriveDieFollowsItsLink := by
  intro h
  have hwf : RegsWf sinkless := by
    refine RegsWf.wr (RegsWf.wr ?_ _ _) _ _
    exact nil_wf
  obtain ⟨-, -, -, -, -, -, -, -, -, hrefresh, -⟩ := h sinkless hwf
  obtain ⟨t, ht, -, hsinks, -, hevq, -, hwords⟩ := (hrefresh 0 [(0, 0, ⟨1, none⟩)]).1 rfl
  have hword (a : Nat) (ha : a < 0x80000) : t.word a = sinkless.word a := hwords a fun ⟨n, hn⟩ => by
    simp only [inChan, chBase] at hn
    omega
  have hrd (f : Fld) (hf : f.addr < 0x80000) : t.rd f = sinkless.rd f := State.rd_congr f (hword _ hf)
  obtain ⟨hu, hev, hnone⟩ : (statusRefresh sinkless 0 [(0, 0, ⟨1, none⟩)]).umd = UmdSt.init ∧
      (statusRefresh sinkless 0 [(0, 0, ⟨1, none⟩)]).evq = [] ∧
      ((statusRefresh sinkless 0 [(0, 0, ⟨1, none⟩)]).ch 0).lmp.sinks = [] := by decide +kernel
  have hfin : finish t = statusRefresh sinkless 0 [(0, 0, ⟨1, none⟩)] := by
    have hq : Quiet (statusRefresh sinkless 0 [(0, 0, ⟨1, none⟩)]) := ⟨hev, by rw [hu]; rfl, by rw [hu]; rfl, by rw [hu]; rfl⟩
    rw [← finish_quiet hq]
    exact (Host.Outcome.next.inj ht).symm
  have hch : (finish t).chans = t.chans := finish_chans hevq
    (by rw [umdOn, State.rb, hrd _ (by decide)]; decide +kernel) (by rw [isManager, State.rb, hrd _ (by decide)]; decide +kernel)
    (by simp only [nodePresent, hrd UMD_STAT_PRESENT (by decide)]; decide +kernel)
    (by simp only [State.running, hrd GLB_CHSTAT_RUNNING (by decide)]; decide +kernel)
  have hsink := (hsinks 0 0).2.2 [] _ rfl
  have hempty : ((t.ch 0).lmp.sinks : List SinkSt) = [] := by rw [← State.ch_congr hch, hfin, hnone]
  rw [sinkOf, show ((0 : Fin 4) : Nat) = 0 from rfl, hempty] at hsink
  exact absurd hsink (by decide)

/-! ## Lines in flight.

What a line in flight is known by is its trigger. Every operation below leaves the list of these triggers as it is, whatever it marks on
the lines: one lemma to an operation, in the order of the model, each from those of the operations that it calls. -/

/-- Triggers of the lines in flight of a channel, oldest first. -/
def Chan.trigs (c : Chan) : List Nat := c.pipe.lines.map (·.trig)

/-- Triggers of the lines in flight of each channel. -/
def State.trigs (s : State) (n : Nat) : List Nat := (s.ch n).trigs

theorem State.trigs_congr {s t : State} (h : t.chans = s.chans) : t.trigs = s.trigs := by
  funext n
  rw [State.trigs, State.ch, h, State.trigs, State.ch]

/-- An update of a channel that keeps the triggers of its lines. -/
theorem State.modCh_trigs {s : State} {n : Nat} {f : Chan → Chan}
    (h : (f (s.ch n)).trigs = (s.ch n).trigs) : (s.modCh n f).trigs = s.trigs :=
  funext fun m => State.modCh_keep Chan.trigs h m

@[simp] theorem iterate_trigs {k : Nat} {s : State} {f : State → Nat → State} (h : ∀ t i, (f t i).trigs = t.trigs) :
    (iterate k s f).trigs = s.trigs := iterate_same State.trigs h

@[simp] theorem foldl_trigs {α : Type} {l : List α} {s : State} {f : State → α → State} (h : ∀ t x, (f t x).trigs = t.trigs) :
    (l.foldl f s).trigs = s.trigs := by
  induction l generalizing s with
  | nil => rfl
  | cons x l ih => exact ih.trans (h s x)

@[simp] theorem State.ite_trigs {c : Prop} [Decidable c] (a b : State) :
    (if c then a else b).trigs = if c then a.trigs else b.trigs := apply_ite State.trigs c a b

/-- A fold whose second part is the state. -/
@[simp] theorem foldl_snd_trigs {α β : Type} {l : List α} {a : β × State} {f : β × State → α → β × State}
    (h : ∀ b x, (f b x).2.trigs = b.2.trigs) : (l.foldl f a).2.trigs = a.2.trigs := by
  induction l generalizing a with
  | nil => rfl
  | cons x l ih => exact ih.trans (h a x)

/-- An update of a channel that leaves its pipeline alone. -/
@[simp] theorem State.modCh_trigs_of_pipe {s : State} {n : Nat} {f : Chan → Chan} (h : ∀ c, (f c).pipe = c.pipe) :
    (s.modCh n f).trigs = s.trigs := State.modCh_trigs (by rw [Chan.trigs, h, Chan.trigs])

/-- The lines of a channel are marked, and their triggers stay. -/
theorem State.modCh_trigs_of_map {s : State} {n : Nat} {f : Chan → Chan} {g : LineRec → LineRec}
    (h : ∀ c, (f c).pipe.lines = c.pipe.lines.map g) (hg : ∀ l, (g l).trig = l.trig) : (s.modCh n f).trigs = s.trigs :=
  State.modCh_trigs (by simp [Chan.trigs, h, hg])

@[simp] theorem State.switches_trigs (s : State) (w : List SwReq) : { s with switches := w }.trigs = s.trigs := State.trigs_congr rfl

@[simp] theorem State.setWord_trigs (s : State) (a : Nat) (w : Word) : (s.setWord a w).trigs = s.trigs := State.trigs_congr rfl
@[simp] theorem State.wr_trigs (s : State) (f : Fld) (v : Nat) : (s.wr f v).trigs = s.trigs := State.trigs_congr rfl
@[simp] theorem State.wb_trigs (s : State) (f : Fld) (b : Bool) : (s.wb f b).trigs = s.trigs := State.trigs_congr rfl
@[simp] theorem State.addSat_trigs (s : State) (f : Fld) (k : Nat) : (s.addSat f k).trigs = s.trigs := State.trigs_congr rfl
@[simp] theorem State.bump_trigs (s : State) (f : Fld) : (s.bump f).trigs = s.trigs := State.trigs_congr rfl
@[simp] theorem State.peak_trigs (s : State) (f : Fld) (v : Nat) : (s.peak f v).trigs = s.trigs := State.trigs_congr rfl
@[simp] theorem State.wr64_trigs (s : State) (f g : Fld) (v : Nat) : (s.wr64 f g v).trigs = s.trigs := State.trigs_congr rfl
@[simp] theorem State.setW1c_trigs (s : State) (f : Fld) (m : Nat) : (s.setW1c f m).trigs = s.trigs := State.trigs_congr rfl
@[simp] theorem State.addWrap_trigs (s : State) (f : Fld) (k : Nat) : (s.addWrap f k).1.trigs = s.trigs := State.trigs_congr rfl
@[simp] theorem State.raise_trigs (s : State) (r : Raise) : (s.raise r).trigs = s.trigs := State.trigs_congr rfl
@[simp] theorem State.emit_trigs (s : State) (o : Out) : (s.emit o).trigs = s.trigs := State.trigs_congr rfl
@[simp] theorem State.free_trigs (s : State) (tag m : Nat) : (s.free tag m).2.trigs = s.trigs := State.trigs_congr rfl
@[simp] theorem State.modDram_trigs (s : State) (k : Nat) (f : List (Nat × Byte) → List (Nat × Byte)) :
    (s.modDram k f).trigs = s.trigs :=
  State.trigs_congr rfl
@[simp] theorem State.modDrv_trigs (s : State) (f : DrvSt → DrvSt) : (s.modDrv f).trigs = s.trigs := State.trigs_congr rfl
@[simp] theorem State.modMon_trigs (s : State) (f : MonSt → MonSt) : (s.modMon f).trigs = s.trigs := State.trigs_congr rfl
@[simp] theorem State.modDma_trigs (s : State) (f : DmaSt → DmaSt) : (s.modDma f).trigs = s.trigs := State.trigs_congr rfl
@[simp] theorem State.modEvt_trigs (s : State) (f : EvtSt → EvtSt) : (s.modEvt f).trigs = s.trigs := State.trigs_congr rfl
@[simp] theorem State.modCal_trigs (s : State) (n : Nat) (f : CalSt → CalSt) : (s.modCal n f).trigs = s.trigs := State.modCh_trigs rfl
@[simp] theorem State.modSns_trigs (s : State) (n : Nat) (f : SnsSt → SnsSt) : (s.modSns n f).trigs = s.trigs := State.modCh_trigs rfl
@[simp] theorem State.modRsmp_trigs (s : State) (n : Nat) (f : RsmpSt → RsmpSt) : (s.modRsmp n f).trigs = s.trigs := State.modCh_trigs rfl
@[simp] theorem State.modFifo_trigs (s : State) (n : Nat) (f : FifoSt → FifoSt) : (s.modFifo n f).trigs = s.trigs := State.modCh_trigs rfl
@[simp] theorem State.modLmp_trigs (s : State) (n : Nat) (f : LmpSt → LmpSt) : (s.modLmp n f).trigs = s.trigs := State.modCh_trigs rfl
@[simp] theorem State.modPos_trigs (s : State) (n : Nat) (f : PosSt → PosSt) : (s.modPos n f).trigs = s.trigs := State.modCh_trigs rfl
@[simp] theorem State.modMot_trigs (s : State) (n : Nat) (f : MotSt → MotSt) : (s.modMot n f).trigs = s.trigs := State.modCh_trigs rfl

/-- A line in flight is marked. -/
@[simp] theorem modLine_trigs {s : State} {n trig : Nat} {f : LineRec → LineRec} (h : ∀ l, (f l).trig = l.trig) :
    (modLine s n trig f).trigs = s.trigs := by
  refine State.modCh_trigs_of_map (fun _ => rfl) fun l => ?_
  split
  · exact h l
  · rfl

/-- An update of a pipeline that keeps its lines. -/
@[simp] theorem State.modPipe_trigs {s : State} {n : Nat} {f : PipeSt → PipeSt} (h : ∀ p, (f p).lines = p.lines) :
    (s.modPipe n f).trigs = s.trigs := State.modCh_trigs (by simp [Chan.trigs, h])

@[simp] theorem setBank_lines (p : PipeSt) (k : Nat) (m : List (Nat × Byte)) : (setBank p k m).lines = p.lines := by
  unfold setBank
  split <;> rfl

/-! ### Operations of one register (Machine/Ops.lean) -/

@[simp] theorem driveForward_trigs (s : State) (a : Nat) : (driveForward s a).trigs = s.trigs := by simp [driveForward]
@[simp] theorem driveSet_trigs (s : State) (a : Nat) : (driveSet s a).trigs = s.trigs := by simp [driveSet]
@[simp] theorem State.raiseIf_trigs (s : State) (c : Bool) (r : Raise) : (State.raiseIf s c r).trigs = s.trigs := by simp [State.raiseIf]

/-! ### Sensors (Machine/SnsOps.lean) -/

@[simp] theorem ctlDrive_trigs (s : State) (n p : Nat) (level : Bool) : (ctlDrive s n p level).trigs = s.trigs := by simp [ctlDrive]
@[simp] theorem ctlLevels_trigs (s : State) (n levels : Nat) : (ctlLevels s n levels).trigs = s.trigs := by simp [ctlLevels]
@[simp] theorem ctlIdle_trigs (s : State) (n : Nat) : (ctlIdle s n).trigs = s.trigs := by simp [ctlIdle]
@[simp] theorem snsSetSchedule_trigs (s : State) (n : Nat) (bs : List Byte) : (snsSetSchedule s n bs).trigs = s.trigs := by
  simp [snsSetSchedule]
@[simp] theorem spiStart_trigs (s : State) (n : Nat) (j : SpiJob) : (spiStart s n j).trigs = s.trigs := by simp [spiStart]
@[simp] theorem spiIdleNext_trigs (s : State) (n : Nat) : (spiIdleNext s n).trigs = s.trigs := by
  unfold spiIdleNext
  dsimp only
  repeat' split
  all_goals simp

/-! ### The pipeline (Machine/PipeOps.lean) -/

@[simp] theorem profileSwap_trigs (s : State) (n : Nat) (valid : Bool) : (profileSwap s n valid).trigs = s.trigs := by simp [profileSwap]
@[simp] theorem setLag_trigs (s : State) (n ph v ns : Nat) : (setLag s n ph v ns).trigs = s.trigs := by simp [setLag]
@[simp] theorem linePoison_trigs (s : State) (n : Nat) (l : LineRec) : (linePoison s n l).trigs = s.trigs := by simp [linePoison]
@[simp] theorem pipePoison_trigs (s : State) (n : Nat) (l : LineRec) : (pipePoison s n l).trigs = s.trigs := by simp [pipePoison]
@[simp] theorem residueRaise_trigs (s : State) (n : Nat) (l : LineRec) (m t : Nat) : (residueRaise s n l m t).trigs = s.trigs := by
  simp [residueRaise]
@[simp] theorem pushSlot_trigs (s : State) (n : Nat) (sl : AlignSlot) : (pushSlot s n sl).trigs = s.trigs := by simp [pushSlot]
@[simp] theorem showFill_trigs (s : State) (n : Nat) : (showFill s n).trigs = s.trigs := by simp [showFill]

/-! ### The resampler (Machine/RsmpOps.lean) -/

@[simp] theorem rsmpFault_trigs (s : State) (n : Nat) (info : TrigInfo) (again : Bool) : (rsmpFault s n info again).1.trigs = s.trigs := by
  unfold rsmpFault
  dsimp only
  split <;> simp
@[simp] theorem rsmpLagDecay_trigs (s : State) (n Q : Nat) : (rsmpLagDecay s n Q).trigs = s.trigs := by simp [rsmpLagDecay]
@[simp] theorem noEdgeCheck_trigs (s : State) (n : Nat) (info : TrigInfo) (found : Bool) :
    (noEdgeCheck s n info found).trigs = s.trigs := by
  simp [noEdgeCheck]
@[simp] theorem wanderStep_trigs (s : State) (n : Nat) (info : TrigInfo) (el er : Int) : (wanderStep s n info el er).trigs = s.trigs := by
  simp [wanderStep]
@[simp] theorem showPktLen_trigs (s : State) (n : Nat) : (showPktLen s n).trigs = s.trigs := by simp [showPktLen]

/-! ### The edge unit (Machine/EdgeOps.lean) -/

@[simp] theorem sheetClose_trigs (s : State) (n : Nat) (sh : SheetSt) (trunc : Bool) : (sheetClose s n sh trunc).2.trigs = s.trigs := by
  simp [sheetClose]
@[simp] theorem sheetOpen_trigs (s : State) (n : Nat) (e : SpanEnd) (lost : Nat) : (sheetOpen s n e lost).2.trigs = s.trigs := by
  simp [sheetOpen]
@[simp] theorem sheetStep_trigs (s : State) (n : Nat) (rows : List (List Nat)) (e : SpanEnd) (dropped : Bool) (bad : List (Fin 16)) :
    (sheetStep s n rows e dropped bad).2.trigs = s.trigs := by
  unfold sheetStep
  dsimp only
  repeat' split
  all_goals simp
@[simp] theorem edgeLine_trigs (s : State) (n : Nat) (rows : List (List Nat)) (P : Nat) (info : TrigInfo) (badL badR : Bool) :
    (edgeLine s n rows P info badL badR).2.2.trigs = s.trigs := by
  unfold edgeLine
  dsimp only
  repeat' split
  all_goals simp
@[simp] theorem edgeErrs_trigs (s : State) (n k line : Nat) : (edgeErrs s n k line).trigs = s.trigs := by simp [edgeErrs]

/-! ### Motion (Machine/MotOps.lean) -/

@[simp] theorem setAxis_trigs (s : State) (n a : Nat) (x : AxisSt) : (setAxis s n a x).trigs = s.trigs := by simp [setAxis]
@[simp] theorem modAxis_trigs (s : State) (n a : Nat) (f : AxisSt → AxisSt) : (modAxis s n a f).trigs = s.trigs := by simp [modAxis]
@[simp] theorem showRef_trigs (s : State) (n a : Nat) : (showRef s n a).trigs = s.trigs := by simp [showRef]
@[simp] theorem showAxis_trigs (s : State) (n a : Nat) : (showAxis s n a).trigs = s.trigs := by simp [showAxis]
@[simp] theorem axisRefuse_trigs (s : State) (n a cause : Nat) : (axisRefuse s n a cause).trigs = s.trigs := by simp [axisRefuse]
@[simp] theorem endMove_trigs (s : State) (n a code : Nat) : (endMove s n a code).trigs = s.trigs := by simp [endMove]
@[simp] theorem beginMove_trigs (s : State) (n a : Nat) (tgt : Int) (set : RampSet) (by_ : MoveBy) (mode : MoveMode) :
    (beginMove s n a tgt set by_ mode).trigs = s.trigs := by simp [beginMove]
@[simp] theorem axisMove_trigs (s : State) (n a : Nat) (tgt : Int) (by_ : MoveBy) : (axisMove s n a tgt by_).1.trigs = s.trigs := by
  unfold axisMove
  split <;> simp
@[simp] theorem axisHalt_trigs (s : State) (n a : Nat) : (axisHalt s n a).trigs = s.trigs := by
  unfold axisHalt
  dsimp only
  split <;> simp
@[simp] theorem paramWrite_trigs (s : State) (n a off v : Nat) : (paramWrite s n a off v).1.trigs = s.trigs := by
  unfold paramWrite
  dsimp only
  repeat' split
  all_goals simp
@[simp] theorem slipBegin_trigs (s : State) (n a : Nat) : (slipBegin s n a).trigs = s.trigs := by simp [slipBegin]
@[simp] theorem csupPut_trigs (s : State) (n v : Nat) : (csupPut s n v).trigs = s.trigs := by simp [csupPut]

/-! ### Position feedback (Machine/PosOps.lean) -/

@[simp] theorem showPos_trigs (s : State) (n : Nat) : (showPos s n).trigs = s.trigs := by
  unfold showPos
  dsimp only
  split <;> simp
@[simp] theorem setCmp_trigs (s : State) (n c : Nat) (l : Bool) : (setCmp s n c l).trigs = s.trigs := by simp [setCmp]
@[simp] theorem cmpRest_trigs (s : State) (n : Nat) : (cmpRest s n).trigs = s.trigs := by simp [cmpRest]
@[simp] theorem cmpEnable_trigs (s : State) (n en : Nat) : (cmpEnable s n en).trigs = s.trigs := by simp [cmpEnable]
@[simp] theorem genSelect_trigs (s : State) (n : Nat) : (genSelect s n).trigs = s.trigs := by simp [genSelect]
@[simp] theorem divSelect_trigs (s : State) (n : Nat) : (divSelect s n).trigs = s.trigs := by simp [divSelect]
@[simp] theorem armOverlap_trigs (s : State) (n K last : Nat) : (armOverlap s n K last).trigs = s.trigs := by simp [armOverlap]
@[simp] theorem disarmOverlap_trigs (s : State) (n : Nat) : (disarmOverlap s n).trigs = s.trigs := by simp [disarmOverlap]

/-! ### The FIFO, pacing and the dovetail (Machine/FifoOps.lean) -/

@[simp] theorem showFifo_trigs (s : State) (n : Nat) : (showFifo s n).trigs = s.trigs := by simp [showFifo]
@[simp] theorem paceApply_trigs (s : State) (n e : Nat) : (paceApply s n e).trigs = s.trigs := by
  unfold paceApply
  split
  · simp
  · split <;> simp
@[simp] theorem dtStop_trigs (s : State) (n : Nat) : (dtStop s n).trigs = s.trigs := by
  unfold dtStop
  split
  · simp
  · split <;> simp
@[simp] theorem dtMove_trigs (s : State) (n : Nat) (tgt : Int) : (dtMove s n tgt).1.trigs = s.trigs := by
  unfold dtMove
  split <;> simp
@[simp] theorem dtBackoff_trigs (s : State) (n : Nat) : (dtBackoff s n).trigs = s.trigs := by
  unfold dtBackoff
  split <;> simp
@[simp] theorem dtHold_trigs (s : State) (n : Nat) (newN lost : Bool) : (dtHold s n newN lost).trigs = s.trigs := by
  unfold dtHold
  dsimp only
  split <;> simp
@[simp] theorem dtTryResume_trigs (s : State) (n : Nat) : (dtTryResume s n).trigs = s.trigs := by simp [dtTryResume]
@[simp] theorem dtWatch_trigs (s : State) (n : Nat) : (dtWatch s n).trigs = s.trigs := by
  unfold dtWatch
  split
  · simp
  · split <;> simp
@[simp] theorem fifoWatch_trigs (s : State) (n : Nat) : (fifoWatch s n).trigs = s.trigs := by simp [fifoWatch]
@[simp] theorem countMarker_trigs (s : State) (n : Nat) (bs : List Byte) : (countMarker s n bs).trigs = s.trigs := by simp [countMarker]
@[simp] theorem nextMarker_trigs (s : State) (n : Nat) : (nextMarker s n).2.trigs = s.trigs := by simp [nextMarker]
@[simp] theorem reserveAppend_trigs (s : State) (n : Nat) (ps : List Pkt) : (reserveAppend s n ps).trigs = s.trigs := by
  simp [reserveAppend]
@[simp] theorem finishReserve_trigs (s : State) (n : Nat) : (finishReserve s n).trigs = s.trigs := by simp [finishReserve]
@[simp] theorem spanMarker_trigs (s : State) (n jig : Nat) (sp : Span) (e : SpanEnd) (sheet index : Nat) (granted : Bool) :
    (spanMarker s n jig sp e sheet index granted).2.trigs = s.trigs := by simp [spanMarker]
@[simp] theorem sheetSpans_trigs (s : State) (n line at_ after : Nat) : (sheetSpans s n line at_ after).trigs = s.trigs :=
  State.modCh_trigs_of_map (fun _ => rfl) fun _ => rfl
@[simp] theorem joinCount_trigs (s : State) (n : Nat) (r : JoinRes) (line : Nat) : (joinCount s n r line).trigs = s.trigs := by
  simp [joinCount]

/-! ### The event log and its messages (Machine/EvtOps.lean) -/

@[simp] theorem ctlPush_trigs (s : State) (c : CtlReq) : (ctlPush s c).trigs = s.trigs := by simp [ctlPush]
@[simp] theorem setPba_trigs (s : State) (v : Nat) (b : Bool) : (setPba s v b).trigs = s.trigs := by simp [setPba]
@[simp] theorem msiIssue_trigs (s : State) (v : Nat) : (msiIssue s v).trigs = s.trigs := by simp [msiIssue]
@[simp] theorem msiSend_trigs (s : State) (v : Nat) : (msiSend s v).trigs = s.trigs := by simp [msiSend]
@[simp] theorem logWrite_trigs (s : State) (entry : List Byte) : (logWrite s entry).trigs = s.trigs := by simp [logWrite]
@[simp] theorem logOut_trigs (s : State) (w : LogWait) : (logOut s w).trigs = s.trigs := by
  unfold logOut
  dsimp only
  repeat' split
  all_goals simp
@[simp] theorem logRelease_trigs (s : State) : (logRelease s).trigs = s.trigs := by simp [logRelease]
@[simp] theorem logEnable_trigs (s : State) (on : Bool) : (logEnable s on).trigs = s.trigs := by simp [logEnable]

/-! ### The DMA engine and the log (Machine/DmaOps.lean) -/

@[simp] theorem modQ_trigs (s : State) (q : Nat) (f : DmaQ → DmaQ) : (modQ s q f).trigs = s.trigs := by simp [modQ]
@[simp] theorem showQ_trigs (s : State) (q : Nat) : (showQ s q).trigs = s.trigs := by simp [showQ]
@[simp] theorem dmaCmpl_trigs (s : State) (q : Nat) : (dmaCmpl s q).trigs = s.trigs := by simp [dmaCmpl]
@[simp] theorem recWrite_trigs (s : State) (q : Nat) (r : Rec) : (recWrite s q r).trigs = s.trigs := by simp [recWrite]
@[simp] theorem recDrain_trigs (k : Nat) (s : State) (q : Nat) : (recDrain k s q).trigs = s.trigs := by
  induction k generalizing s with
  | zero => simp [recDrain]
  | succ k ih =>
    unfold recDrain
    split <;> simp [ih]
@[simp] theorem dmaPause_trigs (s : State) (q : Nat) (on : Bool) : (dmaPause s q on).trigs = s.trigs := by simp [dmaPause]
@[simp] theorem crheadWrite_trigs (s : State) (q v : Nat) : (crheadWrite s q v).trigs = s.trigs := by simp [crheadWrite]

/-! ### Lamps (Machine/LmpOps.lean) -/

@[simp] theorem modSink_trigs (s : State) (n i : Nat) (f : SinkSt → SinkSt) : (modSink s n i f).trigs = s.trigs := by simp [modSink]
@[simp] theorem showLamp_trigs (s : State) (n : Nat) : (showLamp s n).trigs = s.trigs := by simp [showLamp]
@[simp] theorem sinkUpdate_trigs (s : State) (n : Nat) : (sinkUpdate s n).trigs = s.trigs := by simp [sinkUpdate]
@[simp] theorem lampFaultEv_trigs (s : State) (n e i code : Nat) : (lampFaultEv s n e i code).trigs = s.trigs := by simp [lampFaultEv]
@[simp] theorem fadeStop_trigs (s : State) (n : Nat) : (fadeStop s n).trigs = s.trigs := by simp [fadeStop]
@[simp] theorem offWrite_trigs (s : State) (n : Nat) (off : Bool) : (offWrite s n off).trigs = s.trigs := by simp [offWrite]
@[simp] theorem stripLine_trigs (s : State) (n : Nat) (l : LineRec) (cal : Bool) : (stripLine s n l cal).trigs = s.trigs := by
  simp [stripLine]

/-! ### Calibration (Machine/CalOps.lean) -/

@[simp] theorem slideWatch_trigs (s : State) (n : Nat) : (slideWatch s n).trigs = s.trigs := by
  unfold slideWatch
  dsimp only
  split <;> simp
@[simp] theorem storeSlot_trigs (s : State) (n slot : Nat) (valid : Bool) : (storeSlot s n slot valid).trigs = s.trigs := by
  simp [storeSlot]
@[simp] theorem calActivate_trigs (s : State) (n line ts : Nat) : (calActivate s n line ts).trigs = s.trigs := by
  unfold calActivate
  dsimp only
  split <;> simp
@[simp] theorem calActivateIdle_trigs (s : State) (n : Nat) (ts : BitVec 64) : (calActivateIdle s n ts).trigs = s.trigs := by
  simp [calActivateIdle]
@[simp] theorem calRunningEnd_trigs (s : State) (n : Nat) : (calRunningEnd s n).trigs = s.trigs := by simp [calRunningEnd]
@[simp] theorem sumsToShadow_trigs (s : State) (n : Nat) (sums : List Nat) : (sumsToShadow s n sums).trigs = s.trigs := by
  simp [sumsToShadow]
@[simp] theorem captureLine_trigs (s : State) (n : Nat) (l : LineRec) : (captureLine s n l).trigs = s.trigs := by
  unfold captureLine
  split <;> simp

/-! ### The converter (Machine/MonOps.lean) -/

@[simp] theorem State.modConv_trigs (s : State) (c : Nat) (f : MonConv → MonConv) : (State.modConv s c f).trigs = s.trigs := by
  simp [State.modConv]
@[simp] theorem showPeriod_trigs (s : State) : (showPeriod s).trigs = s.trigs := by simp [showPeriod]
@[simp] theorem showMon_trigs (s : State) : (showMon s).trigs = s.trigs := by simp [showMon]
@[simp] theorem convStart_trigs (s : State) (c i : Nat) (kind : ConvKind) (at_ : Nat) : (convStart s c i kind at_).trigs = s.trigs := by
  simp [convStart]
@[simp] theorem convNext_trigs (s : State) (c at_ : Nat) : (convNext s c at_).trigs = s.trigs := by
  unfold convNext
  dsimp only
  repeat' split
  all_goals simp
@[simp] theorem convBoth_trigs (s : State) (half : Bool) : (convBoth s half).trigs = s.trigs := by simp [convBoth]
@[simp] theorem convGoOn_trigs (s : State) : (convGoOn s).trigs = s.trigs := by simp [convGoOn]
@[simp] theorem monRun_trigs (s : State) (on : Bool) : (monRun s on).trigs = s.trigs := by simp [monRun]
@[simp] theorem monSeqWritten_trigs (s : State) : (monSeqWritten s).trigs = s.trigs := by simp [monSeqWritten]
@[simp] theorem mainsOk_trigs (s : State) (ok : Bool) : (mainsOk s ok).trigs = s.trigs := by simp [mainsOk]
@[simp] theorem mainsTimeout_trigs (s : State) : (mainsTimeout s).trigs = s.trigs := by simp [mainsTimeout]
@[simp] theorem monCfgWritten_trigs (s : State) : (monCfgWritten s).trigs = s.trigs := by simp [monCfgWritten]

/-! ### The drive die (Machine/DrvOps.lean) -/

@[simp] theorem driveTake_trigs (s : State) (a : Nat) (w : Word) : (driveTake s a w).trigs = s.trigs := by simp [driveTake]
@[simp] theorem driveNow_trigs (s : State) (a : Nat) : (driveNow s a).trigs = s.trigs := by simp [driveNow]
@[simp] theorem motLateApply_trigs (s : State) (n : Nat) : (motLateApply s n).trigs = s.trigs := by simp [motLateApply]
@[simp] theorem motWatch_trigs (s : State) (n : Nat) : (motWatch s n).trigs = s.trigs := by simp [motWatch]

/-! ### Lists (Machine/SeqOps.lean) -/

@[simp] theorem modRunner_trigs (s : State) (r : Nat) (f : Runner → Runner) : (modRunner s r f).trigs = s.trigs := State.trigs_congr rfl
@[simp] theorem seqBegin_trigs (s : State) (r ty jig : Nat) (words : List (BitVec 64)) (boot : Bool) :
    (seqBegin s r ty jig words boot).trigs = s.trigs := State.trigs_congr rfl

/-! ### Registers that take a word (Machine/RegOps.lean) -/

@[simp] theorem devPut_trigs (s : State) (a : Nat) (w : Word) : (devPut s a w).trigs = s.trigs := by simp [devPut]
@[simp] theorem chanPut_trigs (s : State) (a : Nat) (w : Word) : (chanPut s a w).trigs = s.trigs := by simp [chanPut]
@[simp] theorem regPut_trigs (s : State) (a : Nat) (w : Word) : (regPut s a w).trigs = s.trigs := by simp [regPut]

/-! ### Jigs and switches (Machine/JigOps.lean) -/

@[simp] theorem jigReg_trigs (s : State) (e : Nat × Nat) : (jigReg s e).trigs = s.trigs := by
  unfold jigReg
  split <;> simp
@[simp] theorem sineWait_trigs (s : State) (n : Nat) (new : List (Nat × Byte)) : (sineWait s n new).trigs = s.trigs := by simp [sineWait]
@[simp] theorem jigShow_trigs (s : State) (n : Nat) : (jigShow s n).trigs = s.trigs := by simp [jigShow]
@[simp] theorem jigTake_trigs (s : State) (n : Nat) (bs : List Byte) (run : Option (Nat × Nat)) :
    (jigTake s n bs run).trigs = s.trigs := by
  unfold jigTake
  dsimp only
  split <;> split <;> simp
@[simp] theorem umdTake_trigs (s : State) (b : List Byte) : (umdTake s b).trigs = s.trigs := by simp [umdTake]
@[simp] theorem arbTake_trigs (s : State) (b : List Byte) : (arbTake s b).trigs = s.trigs := by simp [arbTake]
@[simp] theorem devReg_trigs (s : State) (e : Nat × Nat) : (devReg s e).trigs = s.trigs := by simp [devReg]
@[simp] theorem devSecTake_trigs (boot : Bool) (bs : List Byte) (s : State) (c : JigSec) : (devSecTake boot bs s c).trigs = s.trigs := by
  simp [devSecTake]
@[simp] theorem devTake_trigs (s : State) (bs : List Byte) (boot : Bool) : (devTake s bs boot).trigs = s.trigs := by simp [devTake]
@[simp] theorem lateTake_trigs (s : State) (n : Nat) : (lateTake s n).trigs = s.trigs := by
  unfold lateTake
  split <;> simp
@[simp] theorem lateDue_trigs (s : State) (n trig : Nat) : (lateDue s n trig).trigs = s.trigs := by
  unfold lateDue
  split <;> simp
@[simp] theorem modSw_trigs (s : State) (i : Nat) (f : SwReq → SwReq) : (modSw s i f).trigs = s.trigs := by simp [modSw]
@[simp] theorem setTgt_trigs (s : State) (n line : Nat) : (setTgt s n line).trigs = s.trigs := by simp [setTgt]
@[simp] theorem jigActive_trigs (s : State) (n jig : Nat) : (jigActive s n jig).trigs = s.trigs := by simp [jigActive]
@[simp] theorem activateStart_trigs (s : State) (n jig : Nat) (bs : List Byte) : (activateStart s n jig bs).trigs = s.trigs := by
  unfold activateStart
  split <;> simp
@[simp] theorem swApply_trigs (s : State) (n i : Nat) (run : Option (Nat × Nat)) : (swApply s n i run).trigs = s.trigs := by
  unfold swApply
  dsimp only
  repeat' split
  all_goals simp
@[simp] theorem swIdle_trigs (s : State) (n : Nat) : (swIdle s n).trigs = s.trigs := by
  unfold swIdle
  split
  · rfl
  · split <;> simp

/-! ### Running channels (Machine/RunOps.lean) -/

@[simp] theorem setRunning_trigs (s : State) (n : Nat) (b : Bool) : (setRunning s n b).trigs = s.trigs := by simp [setRunning]
@[simp] theorem runEnd_trigs (s : State) (n : Nat) : (runEnd s n).trigs = s.trigs := by simp [runEnd]

/-! ### Triggers (Machine/TrigOps.lean) -/

@[simp] theorem gapToReserve_trigs (s : State) (n : Nat) (e : SpanEnd) : (gapToReserve s n e).trigs = s.trigs := by
  unfold gapToReserve
  split <;> simp

/-! ### A line on its way out (Machine/LineOps.lean) -/

@[simp] theorem freeRow_trigs (s : State) (P : Nat) : (freeRow s P).2.trigs = s.trigs := State.trigs_congr rfl
@[simp] theorem dropRow_trigs (s : State) (n slot c : Nat) : (dropRow s n slot c).trigs = s.trigs := by simp [dropRow]
@[simp] theorem alignFail_trigs (n : Nat) (l : LineRec) (a : Aligned × State) (f : Nat × Fin 3) :
    (alignFail n l a f).2.trigs = a.2.trigs := by
  unfold alignFail
  split <;> simp
@[simp] theorem interpFail_trigs (n : Nat) (l : LineRec) (p : PipeSt) (a : Aligned × State) (u : LineUpset) :
    (interpFail n l p a u).2.trigs = a.2.trigs := by
  unfold interpFail
  dsimp only
  repeat' split
  all_goals simp
@[simp] theorem alignStage_trigs (s : State) (n : Nat) (l : LineRec) (f : LineFaults) : (alignStage s n l f).2.trigs = s.trigs := by
  simp [alignStage]
@[simp] theorem edgeStage_trigs (s : State) (n : Nat) (l : LineRec) (rows : List (List Nat)) (f : LineFaults) :
    (edgeStage s n l rows f).2.2.2.trigs = s.trigs := by
  unfold edgeStage
  dsimp only
  split <;> split <;> simp
@[simp] theorem startY_trigs (s : State) (n line : Nat) : (startY s n line).trigs = s.trigs := by
  unfold startY
  split <;> simp
@[simp] theorem rsmpJudge_trigs (n : Nat) (l : LineRec) (passes : RsmpUpset → Bool) (a : RsmpErrs × State) (u : RsmpUpset) :
    (rsmpJudge n l passes a u).2.trigs = a.2.trigs := by
  unfold rsmpJudge
  split <;> simp
@[simp] theorem rsmpStage_trigs (s : State) (n : Nat) (l : LineRec) (al : Aligned) (f : LineFaults) :
    (rsmpStage s n l al f).2.trigs = s.trigs := by
  unfold rsmpStage
  split <;> simp
@[simp] theorem grantedMarker_trigs (s : State) (n : Nat) (l : LineRec) (im : Image) (granted : Bool) :
    (grantedMarker s n l im granted).2.trigs = s.trigs := by
  unfold grantedMarker
  split <;> simp
@[simp] theorem joinTake_trigs (s : State) (n : Nat) (l : LineRec) (im : Image) (place : PktPlace) (granted : Bool) :
    (joinTake s n l im place granted).2.2.trigs = s.trigs := by
  unfold joinTake
  dsimp only
  split
  · split <;> simp
  · simp
@[simp] theorem gapTake_trigs (s : State) (n : Nat) (l : LineRec) (im : Image) (place : PktPlace) (granted : Bool) :
    (gapTake s n l im place granted).2.trigs = s.trigs := by
  unfold gapTake
  split
  · split <;> simp
  · rfl
@[simp] theorem packLine_trigs (s : State) (n : Nat) (l : LineRec) (im : Image) (o : OutLine) : (packLine s n l im o).trigs = s.trigs := by
  simp [packLine]
@[simp] theorem packNothing_trigs (s : State) (n : Nat) (l : LineRec) (im : Image) : (packNothing s n l im).trigs = s.trigs := by
  simp [packNothing]
@[simp] theorem droppedSheet_trigs (s : State) (n : Nat) (l : LineRec) (bs : List Byte) :
    (droppedSheet s n l bs).trigs = s.trigs := by
  unfold droppedSheet
  dsimp only
  split
  · exact State.modCh_trigs_of_map (fun _ => rfl) fun _ => rfl
  · simp
@[simp] theorem packDropped_trigs (s : State) (n : Nat) (l : LineRec) (im : Image) : (packDropped s n l im).trigs = s.trigs := by
  unfold packDropped
  dsimp only
  repeat' split
  all_goals simp

/-! ## A line leaves. -/

/-- A line that is done with is gone, and no other. -/
theorem lineGone_trigs (s : State) (n : Nat) (l : LineRec) :
    (lineGone s n l).trigs n = (s.trigs n).filter fun t => t != l.trig := by
  rw [lineGone, runEnd_trigs, State.trigs, State.modPipe_ch_same, Chan.trigs, State.trigs, Chan.trigs, List.filter_map]
  rfl

/-- A line in flight as it stands now is the line of its trigger. -/
theorem lineNow_trig (s : State) (n : Nat) (l : LineRec) : (lineNow s n l).trig = l.trig := by
  unfold lineNow
  cases h : (s.ch n).pipe.lines.find? (·.trig == l.trig) with
  | none => rfl
  | some x => simpa using List.find?_some h

/-- A normal line is packed or dropped, and gone. -/
theorem normalLine_trigs (s : State) (n : Nat) (l : LineRec) (f : LineFaults) :
    (normalLine s n l f).trigs n = (s.trigs n).filter fun t => t != l.trig := by
  unfold normalLine
  dsimp only
  rw [lineGone_trigs, lineNow_trig]
  split <;> simp

/-- LINE_COMPLETE takes the oldest line, once it is ready, out of the lines in flight. -/
theorem lineComplete_trigs {s : State} {n : Nat} {f : LineFaults} {l : LineRec} {ls : List LineRec} (hl : (s.ch n).pipe.lines = l :: ls)
    (hr : lineReady s n l = true) : (lineComplete s n f).trigs n = (s.trigs n).filter fun t => t != l.trig := by
  rw [lineComplete, hl]
  dsimp only
  rw [hr, if_neg (by simp)]
  split
  · rw [lineGone_trigs]
    simp
  · rw [lineGone_trigs]
    simp
  · split
    · rw [lineGone_trigs]
      simp
    · exact normalLine_trigs s n l f

/-- Settles O17: a line that is not ready stays; one that is ready is gone, however it leaves, and nothing on the way adds or drops
another line. -/
theorem completeLineLeavesThePipeline : Obligations.CompleteLineLeavesThePipeline := by
  intro s n f l ls _ hl
  have hexec : exec (.lineComplete n f) s = .next (finish (lineComplete s n f)) := rfl
  refine ⟨fun hq hr => ?_, fun hr => ⟨_, hexec, ?_⟩⟩
  · have hs : lineComplete s n f = s := by
      rw [lineComplete, hl]
      dsimp only
      rw [hr, if_pos (by simp)]
    rw [hexec, hs, finish_quiet hq]
  · have h := lineComplete_trigs (f := f) hl hr
    simp only [State.trigs, Chan.trigs, hl] at h
    rw [h, List.map_cons, List.filter_cons_of_neg (by simp), List.filter_map]
    rfl

end Sys2Proof.Machine
end

section
/-! PROOFS. Sensor timing: what a line start and the record of lost lines leave as it was, and deferred triggers. -/

namespace Sys2Proof.Machine

/-! ## What goes on while a line starts -/

/-- Nothing that has been raised is taken back, and every channel has the last line start and the waiting trigger that it had. -/
structure Onward (s t : State) : Prop where
  raised : s.evq ⊆ t.evq
  start : ∀ m, (t.ch m).sns.lastStart = (s.ch m).sns.lastStart
  waiting : ∀ m, (t.ch m).sns.waiting = (s.ch m).sns.waiting

section
variable {s₀ s t : State} {n a b c d i k q v : Nat}

theorem Onward.refl (s : State) : Onward s s := ⟨List.Subset.refl _, fun _ => rfl, fun _ => rfl⟩

/-! ### The named operations (Machine/Ops.lean) -/

/-- Neither the event queue nor the channels change. -/
theorem Onward.congr (h : Onward s₀ s) (he : t.evq = s.evq) (hc : t.chans = s.chans) : Onward s₀ t := by
  have hch := State.ch_congr hc
  exact ⟨he ▸ h.raised, fun m => hch m ▸ h.start m, fun m => hch m ▸ h.waiting m⟩

theorem Onward.ite {p : Prop} [Decidable p] (hs : Onward s₀ s) (ht : Onward s₀ t) : Onward s₀ (if p then s else t) := by
  split <;> assumption

theorem Onward.foldl {α : Type} {l : List α} {f : State → α → State} (h : Onward s₀ s)
    (hf : ∀ t x, Onward s₀ t → Onward s₀ (f t x)) : Onward s₀ (l.foldl f s) :=
  List.foldlRecOn l f h fun _ ht _ _ => hf _ _ ht

theorem Onward.iterate {f : State → Nat → State} (h : Onward s₀ s) (hf : ∀ t i, Onward s₀ t → Onward s₀ (f t i)) :
    Onward s₀ (iterate k s f) := h.foldl hf

/-- A channel's update that keeps its last line start and its waiting trigger. -/
theorem Onward.modCh {f : Chan → Chan} (h : Onward s₀ s)
    (hf : ∀ c, ((f c).sns.lastStart, (f c).sns.waiting) = (c.sns.lastStart, c.sns.waiting)) : Onward s₀ (s.modCh n f) := by
  have hk (m : Nat) := Prod.mk.inj (State.modCh_keep (fun c => (c.sns.lastStart, c.sns.waiting)) (hf (s.ch n)) m)
  exact ⟨h.raised, fun m => (hk m).1.trans (h.start m), fun m => (hk m).2.trans (h.waiting m)⟩

theorem Onward.setWord {w : Word} (h : Onward s₀ s) : Onward s₀ (s.setWord a w) := h.congr rfl rfl
theorem Onward.wr {f : Fld} (h : Onward s₀ s) : Onward s₀ (s.wr f v) := h.congr rfl rfl
theorem Onward.wb {f : Fld} {x : Bool} (h : Onward s₀ s) : Onward s₀ (s.wb f x) := h.congr rfl rfl
theorem Onward.bump {f : Fld} (h : Onward s₀ s) : Onward s₀ (s.bump f) := h.congr rfl rfl
theorem Onward.peak {f : Fld} (h : Onward s₀ s) : Onward s₀ (s.peak f v) := h.congr rfl rfl
theorem Onward.wr64 {f g : Fld} (h : Onward s₀ s) : Onward s₀ (s.wr64 f g v) := h.congr rfl rfl
theorem Onward.addWrap {f : Fld} (h : Onward s₀ s) : Onward s₀ (s.addWrap f k).1 := h.congr rfl rfl
theorem Onward.setW1c {f : Fld} (h : Onward s₀ s) : Onward s₀ (s.setW1c f k) := h.congr rfl rfl
theorem Onward.emit {o : Out} (h : Onward s₀ s) : Onward s₀ (s.emit o) := h.congr rfl rfl
theorem Onward.modDrv {f : DrvSt → DrvSt} (h : Onward s₀ s) : Onward s₀ (s.modDrv f) := h.congr rfl rfl
theorem Onward.modDma {f : DmaSt → DmaSt} (h : Onward s₀ s) : Onward s₀ (s.modDma f) := h.congr rfl rfl
theorem Onward.modEvt {f : EvtSt → EvtSt} (h : Onward s₀ s) : Onward s₀ (s.modEvt f) := h.congr rfl rfl
theorem Onward.modMon {f : MonSt → MonSt} (h : Onward s₀ s) : Onward s₀ (s.modMon f) := h.congr rfl rfl
theorem Onward.modFifo {f : FifoSt → FifoSt} (h : Onward s₀ s) : Onward s₀ (s.modFifo n f) := h.modCh fun _ => rfl
theorem Onward.modPipe {f : PipeSt → PipeSt} (h : Onward s₀ s) : Onward s₀ (s.modPipe n f) := h.modCh fun _ => rfl
theorem Onward.modRsmp {f : RsmpSt → RsmpSt} (h : Onward s₀ s) : Onward s₀ (s.modRsmp n f) := h.modCh fun _ => rfl
theorem Onward.modLmp {f : LmpSt → LmpSt} (h : Onward s₀ s) : Onward s₀ (s.modLmp n f) := h.modCh fun _ => rfl
theorem Onward.modPos {f : PosSt → PosSt} (h : Onward s₀ s) : Onward s₀ (s.modPos n f) := h.modCh fun _ => rfl
theorem Onward.modMot {f : MotSt → MotSt} (h : Onward s₀ s) : Onward s₀ (s.modMot n f) := h.modCh fun _ => rfl
theorem Onward.modCal {f : CalSt → CalSt} (h : Onward s₀ s) : Onward s₀ (s.modCal n f) := h.modCh fun _ => rfl
theorem Onward.modSns {f : SnsSt → SnsSt} (h : Onward s₀ s)
    (hf : ∀ u, ((f u).lastStart, (f u).waiting) = (u.lastStart, u.waiting) := by intro; rfl) : Onward s₀ (s.modSns n f) :=
  h.modCh fun c => hf c.sns

theorem Onward.raise {r : Raise} (h : Onward s₀ s) : Onward s₀ (s.raise r) :=
  ⟨fun _ hx => List.mem_append_left _ (h.raised hx), h.start, h.waiting⟩

theorem Onward.raiseIf {x : Bool} {r : Raise} (h : Onward s₀ s) : Onward s₀ (s.raiseIf x r) := h.raise.ite h

/-! ### The bar's pins (Machine/SnsOps.lean) -/

protected theorem Onward.ctlDrive {l : Bool} (h : Onward s₀ s) : Onward s₀ (ctlDrive s n a l) := h.modSns.emit
protected theorem Onward.ctlLevels (h : Onward s₀ s) : Onward s₀ (ctlLevels s n a) := h.iterate fun _ _ h => h.ite h.ctlDrive
protected theorem Onward.ctlIdle (h : Onward s₀ s) : Onward s₀ (ctlIdle s n) := h.ctlLevels.ite h
protected theorem Onward.ctlEdges (h : Onward s₀ s) : Onward s₀ (ctlEdges s n) :=
  h.ite (h.foldl fun _ _ h => h.ctlDrive).ctlIdle
protected theorem Onward.snsSetSchedule {bs : List Byte} (h : Onward s₀ s) : Onward s₀ (snsSetSchedule s n bs) :=
  Onward.ctlIdle (.ite h.modSns.wr.emit h.modSns.wr)

/-! ### Axes (Machine/MotOps.lean) -/

protected theorem Onward.modAxis {f : AxisSt → AxisSt} (h : Onward s₀ s) : Onward s₀ (modAxis s n a f) := by
  unfold modAxis setAxis
  exact h.modMot
protected theorem Onward.showRef (h : Onward s₀ s) : Onward s₀ (showRef s n a) := h.wb
protected theorem Onward.showAxis (h : Onward s₀ s) : Onward s₀ (showAxis s n a) := h.congr rfl rfl
protected theorem Onward.axisRefuse (h : Onward s₀ s) : Onward s₀ (axisRefuse s n a c) := h.wr.bump.raise
protected theorem Onward.endMove (h : Onward s₀ s) : Onward s₀ (endMove s n a c) := h.modAxis.wr.raise.showAxis
protected theorem Onward.beginMove {x : Int} {r : RampSet} {y : MoveBy} {m : MoveMode} (h : Onward s₀ s) :
    Onward s₀ (beginMove s n a x r y m) := h.modAxis.showAxis
protected theorem Onward.axisMove {x : Int} {y : MoveBy} (h : Onward s₀ s) : Onward s₀ (axisMove s n a x y).1 := by
  unfold axisMove
  split
  · exact h.axisRefuse
  · exact h.beginMove.endMove.ite h.beginMove
protected theorem Onward.axisHalt (h : Onward s₀ s) : Onward s₀ (axisHalt s n a) := by
  unfold axisHalt
  dsimp only
  split
  exacts [h, h, h.modAxis]
protected theorem Onward.paramWrite (h : Onward s₀ s) : Onward s₀ (paramWrite s n a k v).1 := by
  unfold paramWrite
  extract_lets
  split
  · exact h.wr
  · split
    · exact h.axisRefuse
    · split
      · dsimp only
        exact h.wr.modAxis.modAxis
      · exact h.wr
protected theorem Onward.slipBegin (h : Onward s₀ s) : Onward s₀ (slipBegin s n a) := h.modAxis

/-! ### Position feedback (Machine/PosOps.lean) -/

protected theorem Onward.showPos (h : Onward s₀ s) : Onward s₀ (showPos s n) := by
  unfold showPos
  dsimp only
  split
  exacts [h.wr64.wr64.wb.wb.wr64.wb, h.wr64.wr64.wb.wb.wb]
protected theorem Onward.armOverlap (h : Onward s₀ s) : Onward s₀ (armOverlap s n k a) := h.modPos.showPos
protected theorem Onward.disarmOverlap (h : Onward s₀ s) : Onward s₀ (disarmOverlap s n) := h.modPos.showPos
protected theorem Onward.genSelect (h : Onward s₀ s) : Onward s₀ (genSelect s n) := by
  unfold genSelect
  exact h.modPos
protected theorem Onward.divSelect (h : Onward s₀ s) : Onward s₀ (divSelect s n) := by
  unfold divSelect
  exact h.modPos
protected theorem Onward.cmpRest (h : Onward s₀ s) : Onward s₀ (cmpRest s n) := h.iterate fun _ _ h => h.ite h.wr.modPos
protected theorem Onward.cmpEnable (h : Onward s₀ s) : Onward s₀ (cmpEnable s n k) := h.wr.cmpRest

/-! ### The FIFO, pacing and the dovetail (Machine/FifoOps.lean) -/

protected theorem Onward.showFifo (h : Onward s₀ s) : Onward s₀ (showFifo s n) := h.congr rfl rfl
protected theorem Onward.paceApply (h : Onward s₀ s) : Onward s₀ (paceApply s n k) := by
  unfold paceApply
  dsimp only
  repeat' split
  exacts [h, h, h.paramWrite.wr, h.paramWrite.bump]
protected theorem Onward.dtMove {x : Int} (h : Onward s₀ s) : Onward s₀ (dtMove s n x).1 := by
  unfold dtMove
  split
  exacts [h, h.paceApply.axisMove]
protected theorem Onward.dtStop (h : Onward s₀ s) : Onward s₀ (dtStop s n) := by
  unfold dtStop
  dsimp only
  repeat' split
  exacts [h, h, h.modFifo.axisHalt.wr.raise]
protected theorem Onward.dtBackoff (h : Onward s₀ s) : Onward s₀ (dtBackoff s n) := by
  unfold dtBackoff
  dsimp only
  repeat' split
  exacts [h, h.modFifo.dtMove.wr.modFifo, h.modFifo.dtMove]
protected theorem Onward.dtHold {x y : Bool} (h : Onward s₀ s) : Onward s₀ (dtHold s n x y) := by
  unfold dtHold
  dsimp only
  split
  exacts [h.modFifo.wr64.wr.wb.raiseIf, h.modFifo.wr.wb.raiseIf]
protected theorem Onward.dtTryResume (h : Onward s₀ s) : Onward s₀ (dtTryResume s n) := h.dtBackoff.ite h
protected theorem Onward.dtWatch (h : Onward s₀ s) : Onward s₀ (dtWatch s n) := by
  unfold dtWatch
  dsimp only
  repeat' split
  exacts [h, h, h.modFifo, h.wr.modFifo.modFifo, h.dtHold.modFifo.modFifo.dtTryResume, h.modFifo,
    h.armOverlap.modFifo.dtMove.wr.modFifo, h.armOverlap.modFifo.dtMove.disarmOverlap.dtHold.modFifo,
    h.disarmOverlap.dtHold.modFifo, h.disarmOverlap.modFifo.dtHold.modFifo, h.modFifo, h.wr.modFifo.modFifo, h.modFifo,
    h.modFifo.dtHold.modFifo, h.modFifo]
protected theorem Onward.fifoWatch (h : Onward s₀ s) : Onward s₀ (fifoWatch s n) := by
  unfold fifoWatch
  extract_lets _ _ _ _ _ _ _ _ shown stopped
  have hs : Onward s₀ shown := h.showFifo.modFifo.raiseIf.raiseIf.showFifo
  have ht : Onward s₀ stopped := hs.dtStop.ite hs
  exact .ite (.ite ht.modFifo (.ite ht.modFifo.dtTryResume ht)) ht.dtTryResume
protected theorem Onward.countMarker {bs : List Byte} (h : Onward s₀ s) : Onward s₀ (countMarker s n bs) := by
  unfold countMarker
  exact Onward.raise (.ite (.setW1c (.addWrap (.ite h.addWrap.setW1c h.addWrap))) (.addWrap (.ite h.addWrap.setW1c h.addWrap)))
protected theorem Onward.reserveAppend {ps : List Pkt} (h : Onward s₀ s) : Onward s₀ (reserveAppend s n ps) :=
  .ite (h.modFifo.foldl fun _ _ h => h.countMarker.ite h) h.modFifo
protected theorem Onward.writeSpan {sp : Span} (h : Onward s₀ s) : Onward s₀ (writeSpan s n sp) := by
  unfold writeSpan spanMarker nextMarker
  exact h.modFifo.reserveAppend
protected theorem Onward.dropLine {e : SpanEnd} (h : Onward s₀ s) : Onward s₀ (dropLine s n c e k) := by
  unfold dropLine
  dsimp only
  repeat' split
  exacts [h.modFifo.showFifo, h.modFifo.showFifo, h.writeSpan.modFifo.showFifo, h.modFifo.showFifo]
protected theorem Onward.closeSpanRun (h : Onward s₀ s) : Onward s₀ (closeSpanRun s n) := by
  unfold closeSpanRun
  split
  exacts [h, h.writeSpan.modFifo.showFifo]
protected theorem Onward.grantLine {e : SpanEnd} {x y : Bool} (h : Onward s₀ s) : Onward s₀ (grantLine s n e x y).2.2 := by
  unfold grantLine
  extract_lets
  split
  · exact h.modFifo.fifoWatch
  · exact Onward.dropLine (.ite h.modFifo.raise h)

/-! ### Lamps (Machine/LmpOps.lean) -/

protected theorem Onward.modSink {f : SinkSt → SinkSt} (h : Onward s₀ s) : Onward s₀ (modSink s n i f) := h.modLmp
protected theorem Onward.showLamp (h : Onward s₀ s) : Onward s₀ (showLamp s n) := h.congr rfl rfl
protected theorem Onward.fadeStop (h : Onward s₀ s) : Onward s₀ (fadeStop s n) := h.modLmp
protected theorem Onward.offWrite {x : Bool} (h : Onward s₀ s) : Onward s₀ (offWrite s n x) := h.bump.ite h.wb.showLamp
protected theorem Onward.sinkUpdate (h : Onward s₀ s) : Onward s₀ (sinkUpdate s n) :=
  h.iterate fun _ _ h => h.modSink.wr.raiseIf.wr
protected theorem Onward.lampReport {r : Fin 4 → Fin 12 → DriveReport} (h : Onward s₀ s) : Onward s₀ (lampReport s n i r) := by
  unfold lampReport
  split
  exacts [h.modDrv, h]
protected theorem Onward.declareShort (h : Onward s₀ s) : Onward s₀ (declareShort s n i) := h.modSink.lampReport
protected theorem Onward.selfTest (h : Onward s₀ s) : Onward s₀ (selfTest s n i) := h.modSink
protected theorem Onward.recordCheck {x y : Bool} (h : Onward s₀ s) : Onward s₀ (recordCheck s n i v c x y) :=
  .ite h.modSink.modLmp h.modSink
protected theorem Onward.pulseCheck {x : Bool} (h : Onward s₀ s) : Onward s₀ (pulseCheck s n i a k x) :=
  h.ite (h.recordCheck.modSink.declareShort.ite (h.recordCheck.modSink.selfTest.ite h.recordCheck.modSink))
protected theorem Onward.lineChecks (h : Onward s₀ s) : Onward s₀ (lineChecks s n) :=
  h.iterate fun _ _ h => h.ite (.ite (h.iterate fun _ _ h => h.pulseCheck) (.ite h.pulseCheck h))
protected theorem Onward.applyStage {x : LvStage} (h : Onward s₀ s) : Onward s₀ (applyStage s n i x) := .ite h.modLmp.wr h.modLmp
protected theorem Onward.fadeStep (h : Onward s₀ s) : Onward s₀ (fadeStep s n i) := by
  unfold fadeStep
  dsimp only
  repeat' split
  exacts [h, h, h.wr.modLmp.raise, h.wr.modLmp]
protected theorem Onward.derStep (h : Onward s₀ s) : Onward s₀ (derStep s n) := h.ite h.wr.raiseIf
protected theorem Onward.holdStep (h : Onward s₀ s) : Onward s₀ (holdStep s n a) :=
  h.ite (h.iterate fun _ _ h => by
    split
    exacts [h, h.wr.modLmp.ite h])
protected theorem Onward.relightStep (h : Onward s₀ s) : Onward s₀ (relightStep s n a) :=
  h.iterate fun _ _ h => by
    split
    exacts [h.modSink.ite h, h]
protected theorem Onward.lampsPulse (h : Onward s₀ s) : Onward s₀ (lampsPulse s n a) := h.congr rfl rfl
protected theorem Onward.lmpLineStart {l : Option Nat} {x : Bool} (h : Onward s₀ s) : Onward s₀ (lmpLineStart s n a l x) := by
  unfold lmpLineStart
  extract_lets staged faded
  have hs : Onward s₀ staged := h.iterate fun _ _ h => by
    split
    exacts [h, .ite (Onward.applyStage (.ite h.bump h)) h]
  have hf : Onward s₀ faded := hs.iterate fun _ _ h => h.fadeStep
  exact hf.relightStep.holdStep.derStep.sinkUpdate.lampsPulse.lineChecks.modLmp.showLamp
protected theorem Onward.follow (h : Onward s₀ s) : Onward s₀ (follow s n).2 := h.iterate fun _ _ h => h.wr

/-! ### The drive die (Machine/DrvOps.lean) and the calibration slide (Machine/CalOps.lean) -/

protected theorem Onward.driveForward (h : Onward s₀ s) : Onward s₀ (driveForward s a) := h.modDrv.ite h
protected theorem Onward.driveSet (h : Onward s₀ s) : Onward s₀ (driveSet s a) := h.modDrv.ite h
protected theorem Onward.driveTake {w : Word} (h : Onward s₀ s) : Onward s₀ (driveTake s a w) := .ite h.modDrv.sinkUpdate h.modDrv
protected theorem Onward.driveNow (h : Onward s₀ s) : Onward s₀ (driveNow s a) := h.driveSet.driveTake.ite h
protected theorem Onward.motLateApply (h : Onward s₀ s) : Onward s₀ (motLateApply s n) :=
  h.iterate fun _ _ h => h.ite (h.ite (Onward.modAxis ((h.foldl fun _ _ h => h.setWord.driveNow).modCh fun _ => rfl)))
protected theorem Onward.slideWatch (h : Onward s₀ s) : Onward s₀ (slideWatch s n) := by
  unfold slideWatch
  dsimp only
  split
  exacts [h.wb, .ite h.wb.modCal.raiseIf h.wb]
protected theorem Onward.motWatch (h : Onward s₀ s) : Onward s₀ (motWatch s n) := h.motLateApply.slideWatch.dtWatch

/-! ### Registers of a channel that take a word (Machine/RegOps.lean) -/

protected theorem Onward.showPktLen (h : Onward s₀ s) : Onward s₀ (showPktLen s n) := h.wr
protected theorem Onward.csupPut (h : Onward s₀ s) : Onward s₀ (csupPut s n v) := h.wr.driveForward
protected theorem Onward.chanPut {w : Word} (h : Onward s₀ s) : Onward s₀ (chanPut s a w) := by
  unfold chanPut
  extract_lets _ _ _ plain
  have hp : Onward s₀ plain := h.setWord.driveForward
  exact .ite (Onward.driveForward (.ite h.setWord h.setWord.offWrite)) <| .ite (hp.ite hp.genSelect) <|
    .ite (hp.ite hp.divSelect) <| hp.cmpEnable.ite <| hp.showPktLen.ite <| hp.fifoWatch.ite <| hp.showLamp.ite <|
    .ite (hp.csupPut.ite hp) <| .ite (Onward.motWatch (.showAxis (.showRef (hp.slipBegin.ite hp)))) <| hp.slideWatch.ite hp

/-! ### Completion records (Machine/DmaOps.lean) -/

protected theorem Onward.modQ {f : DmaQ → DmaQ} (h : Onward s₀ s) : Onward s₀ (modQ s q f) := h.modDma
protected theorem Onward.ctlPush {x : CtlReq} (h : Onward s₀ s) : Onward s₀ (ctlPush s x) := h.modDma
protected theorem Onward.dmaCmpl (h : Onward s₀ s) : Onward s₀ (dmaCmpl s q) := h.modQ.raise
protected theorem Onward.recWrite {r : Rec} (h : Onward s₀ s) : Onward s₀ (recWrite s q r) := by
  unfold recWrite
  extract_lets _ _ _ _ _ _ pushed _ counted
  have hc : Onward s₀ counted := h.ctlPush.ctlPush.wr.wb.modQ
  exact hc.dmaCmpl.ite hc
protected theorem Onward.showQ (h : Onward s₀ s) : Onward s₀ (showQ s q) := .ite h.wr.wr64.wr h.wr
protected theorem Onward.recDrain (h : Onward s₀ s) : Onward s₀ (recDrain k s q) := by
  induction k generalizing s with
  | zero => exact h.showQ
  | succ k ih =>
    unfold recDrain
    split
    exacts [h.showQ.ite (ih h.modQ.recWrite), h.showQ]
protected theorem Onward.crheadWrite (h : Onward s₀ s) : Onward s₀ (crheadWrite s q v) := h.wr.recDrain
protected theorem Onward.dmaPause {x : Bool} (h : Onward s₀ s) : Onward s₀ (dmaPause s q x) := h.wb.showQ

/-! ### The event log (Machine/EvtOps.lean) -/

protected theorem Onward.logWrite {bs : List Byte} (h : Onward s₀ s) : Onward s₀ (logWrite s bs) :=
  .ite h.bump.raise h.ctlPush.ctlPush.modEvt.wr.wb
protected theorem Onward.setPba {x : Bool} (h : Onward s₀ s) : Onward s₀ (setPba s v x) := h.setWord
protected theorem Onward.msiIssue (h : Onward s₀ s) : Onward s₀ (msiIssue s v) := h.ite (h.setPba.ite h.setPba.ctlPush)
protected theorem Onward.msiSend (h : Onward s₀ s) : Onward s₀ (msiSend s v) := .ite h.modEvt h.modEvt.msiIssue
protected theorem Onward.logOut {w : LogWait} (h : Onward s₀ s) : Onward s₀ (logOut s w) := by
  unfold logOut
  dsimp only
  repeat' split
  exacts [h.logWrite.msiSend, h.msiSend, h.logWrite, h, h.modEvt]
protected theorem Onward.logEnable {x : Bool} (h : Onward s₀ s) : Onward s₀ (logEnable s x) :=
  .ite (h.wb.modEvt.foldl fun _ _ h => h.logOut) h.wb

/-! ### The converter (Machine/MonOps.lean) -/

protected theorem Onward.modConv {f : MonConv → MonConv} (h : Onward s₀ s) : Onward s₀ (s.modConv c f) := h.modMon
protected theorem Onward.showMon (h : Onward s₀ s) : Onward s₀ (showMon s) := h.congr rfl rfl
protected theorem Onward.mainsTimeout (h : Onward s₀ s) : Onward s₀ (mainsTimeout s) := h.modMon.wb.wr.raiseIf
protected theorem Onward.monCfgWritten (h : Onward s₀ s) : Onward s₀ (monCfgWritten s) := .ite h.wr h.mainsTimeout
protected theorem Onward.convStart {x : ConvKind} (h : Onward s₀ s) : Onward s₀ (convStart s c i x a) := by
  unfold convStart
  exact h.modConv
protected theorem Onward.convNext (h : Onward s₀ s) : Onward s₀ (convNext s c a) := by
  unfold convNext
  dsimp only
  repeat' split
  exacts [h, h.convStart, h.modConv.convStart, h, h.modMon.convStart, h, h.convStart]
protected theorem Onward.convBoth {x : Bool} (h : Onward s₀ s) : Onward s₀ (convBoth s x) := h.convNext.convNext.showMon
protected theorem Onward.convGoOn (h : Onward s₀ s) : Onward s₀ (convGoOn s) := h.modMon.convBoth.ite h.convBoth
protected theorem Onward.monRun {x : Bool} (h : Onward s₀ s) : Onward s₀ (monRun s x) := by
  have hdue {t : State} {c : Nat} {f : MonConv → MonConv} (h : Onward s₀ t) :
      Onward s₀ (if convOut t c then t else t.modConv c f) := h.ite h.modConv
  exact .ite (Onward.convGoOn (.wr (hdue (hdue h.wb.modMon)))) (.ite h.wb.modMon.modConv.modConv.showMon h.wb)
protected theorem Onward.monSeqWritten (h : Onward s₀ s) : Onward s₀ (monSeqWritten s) := h.modConv.modConv.convGoOn

/-! ### Every register that takes a word (Machine/RegOps.lean) -/

protected theorem Onward.devPut {w : Word} (h : Onward s₀ s) : Onward s₀ (devPut s a w) := by
  unfold devPut
  extract_lets _ plain
  have hp : Onward s₀ plain := h.setWord.driveForward
  exact .ite (Onward.driveForward (.ite h.setWord h.setWord.monRun)) <| hp.monCfgWritten.ite <| hp.monSeqWritten.ite <|
    h.logEnable.ite <| .ite (.ite (.ite h.setWord h.setWord.dmaPause) <| h.crheadWrite.ite <| hp.showQ.ite hp) hp
protected theorem Onward.regPut {w : Word} (h : Onward s₀ s) : Onward s₀ (regPut s a w) := h.devPut.ite h.chanPut

/-! ### Jigs and switches (Machine/JigOps.lean) -/

protected theorem Onward.jigReg {e : Nat × Nat} (h : Onward s₀ s) : Onward s₀ (jigReg s e) := by
  have hg {p : Prop} [Decidable p] {n : Nat} {f : PipeSt → PipeSt} {w : Word} :
      Onward s₀ (if p then (driveNow (regPut s e.1 w) e.1).modPipe n f else driveNow (regPut s e.1 w) e.1) :=
    h.regPut.driveNow.modPipe.ite h.regPut.driveNow
  unfold jigReg
  dsimp only
  split
  · exact .ite (h.modCh fun _ => rfl) h.regPut.driveNow
  · exact hg.ite hg.wr.modLmp
protected theorem Onward.sineWait {m : List (Nat × Byte)} (h : Onward s₀ s) : Onward s₀ (sineWait s n m) :=
  h.ite (h.foldl fun _ _ h => h.ite h.modMot.modAxis)
protected theorem Onward.jigShow (h : Onward s₀ s) : Onward s₀ (jigShow s n) := h.showPktLen.sinkUpdate.showLamp.fifoWatch.motWatch
protected theorem Onward.jigTake {bs : List Byte} {r : Option (Nat × Nat)} (h : Onward s₀ s) : Onward s₀ (jigTake s n bs r) := by
  unfold jigTake
  extract_lets _ _ _ _ _ _ waits scheduled
  have hs : Onward s₀ scheduled := by
    unfold scheduled
    split
    exacts [h.sineWait.snsSetSchedule, h.sineWait]
  split
  · exact Onward.jigShow (.foldl (.cmpRest (hs.modCh fun _ => rfl)) fun _ _ h => h.jigReg)
  · exact .motWatch (.showLamp (.sinkUpdate (.wr (.modSns
      (.foldl (.cmpRest (hs.modCh fun _ => rfl)) fun _ _ h => h.jigReg)))))
protected theorem Onward.umdTake {bs : List Byte} (h : Onward s₀ s) : Onward s₀ (umdTake s bs) := h.ite (h.congr rfl rfl)
protected theorem Onward.devTake {bs : List Byte} {x : Bool} (h : Onward s₀ s) : Onward s₀ (devTake s bs x) :=
  h.foldl fun _ _ h => .ite (h.foldl fun _ _ h => h.regPut) (.ite (h.iterate fun _ _ h => h.regPut) (h.umdTake.ite h))
protected theorem Onward.profileSwap {x : Bool} (h : Onward s₀ s) : Onward s₀ (profileSwap s n x) := h.modPipe.wb
protected theorem Onward.activateStart {bs : List Byte} (h : Onward s₀ s) : Onward s₀ (activateStart s n k bs) := by
  unfold activateStart
  split
  exacts [h, h.raise.ite (h.congr rfl rfl)]
protected theorem Onward.swApply {r : Option (Nat × Nat)} (h : Onward s₀ s) : Onward s₀ (swApply s n i r) := by
  unfold swApply
  split
  · exact h
  · extract_lets _ _ faded taken swapped dev
    have hs : Onward s₀ swapped := by
      unfold swapped
      split
      exacts [h.fadeStop.jigTake.profileSwap, h.fadeStop.jigTake]
    have hd : Onward s₀ dev := by
      unfold dev
      split
      · split
        exacts [hs.devTake, hs.modCh fun _ => rfl]
      · exact hs
    exact Onward.raise (.activateStart (hd.congr rfl rfl))
protected theorem Onward.swAtLine (h : Onward s₀ s) : Onward s₀ (swAtLine s n a k) := by
  unfold swAtLine
  repeat' split
  exacts [h, h.swApply, h, h]

/-! ### Triggers (Machine/TrigOps.lean) -/

protected theorem Onward.gapToReserve {e : SpanEnd} (h : Onward s₀ s) : Onward s₀ (gapToReserve s n e) := by
  unfold gapToReserve
  split
  exacts [h, h.reserveAppend.modCal]
protected theorem Onward.recordLost {x : LostTrig} (h : Onward s₀ s) : Onward s₀ (recordLost s n x) :=
  .ite h.dropLine.modFifo.gapToReserve.showFifo h.dropLine.modFifo
protected theorem Onward.recordBehind (h : Onward s₀ s) : Onward s₀ (recordBehind s n) := h.modSns.foldl fun _ _ h => h.recordLost
protected theorem Onward.swapAtTrigger (h : Onward s₀ s) : Onward s₀ (swapAtTrigger s n a) := by
  unfold swapAtTrigger
  split
  exacts [h.profileSwap.modPipe.wr.ite h, h]
protected theorem Onward.spareAtTrigger (h : Onward s₀ s) : Onward s₀ (spareAtTrigger s n a) := by
  unfold spareAtTrigger
  split
  exacts [h.ite h.modPipe.wr.wr.wr.raise, h]
protected theorem Onward.gainsShow (h : Onward s₀ s) : Onward s₀ (gainsShow s n) := h.foldl fun _ _ h => h.setWord
protected theorem Onward.lineGrant {w : WaitTrig} (h : Onward s₀ s) : Onward s₀ (lineGrant s n w).2.2.2 := by
  unfold lineGrant
  dsimp only
  split
  exacts [h, h.grantLine]

end

/-! ## A deferred line start -/

/-- A line start raises what it raises after what was raised before, becomes the channel's last one, and leaves no trigger waiting. -/
theorem lineStart_started (s : State) (n : Nat) (w : WaitTrig) (start : Nat) :
    s.evq ⊆ (lineStart s n w start).evq ∧ ((lineStart s n w start).ch n).sns.lastStart = some start ∧
      ((lineStart s n w start).ch n).sns.waiting = none := by
  unfold lineStart
  extract_lets normal L gains switched shown spared swapped lit fl gs limited geff u spoil cap rough g granted l added counted
  have hs : Onward s switched := .ite (Onward.refl s).modPipe.swAtLine (Onward.refl s).modPipe
  have hl : Onward s lit := hs.modPipe.gainsShow.spareAtTrigger.swapAtTrigger.lmpLineStart
  have hf : Onward s limited := hl.follow.bump.raise.ite hl.follow
  have hg : Onward s geff := hf.congr rfl rfl
  have hc : Onward s counted := .ite hg.lineGrant.modPipe.modFifo hg.lineGrant.modPipe
  have he (f : SnsSt → SnsSt) := (Onward.refl (counted.modSns n f)).ctlEdges (n := n)
  refine ⟨fun _ hr => (he _).raised (hc.raised hr), ?_, ?_⟩
  · rw [(he _).start, State.modSns_ch_same]
  · rw [(he _).waiting, State.modSns_ch_same]

/-- The state in which the line of a deferred trigger starts at a time: the deferral is counted and raised (R77). -/
def deferCounted (s : State) (n : Nat) (w : WaitTrig) (due : Nat) : State :=
  ((s.bump (SNS_DEFER_COUNT n)).peak (SNS_DEFER_MAX n) (due - w.info.t0)).raise ((ev (EV_SNS_DEFER n)).line_ w.info.line)

/-- Settles O10: the line starts with the deferral raised, and what follows its start keeps what it left. -/
theorem deferredTriggerStartsItsLine : Obligations.DeferredTriggerStartsItsLine := by
  intro s n w last _ hw hl due
  have hexec : exec (.deferredLineStart n) s = .next (finish (deferredStart s n)) := rfl
  have hdef : deferredStart s n = if s.now < due then s else
      let t := recordBehind (lineStart (deferCounted s n w due) n w due) n
      if t.runBit n then t else closeSpanRun t n := by
    rw [deferredStart, hw, hl]
    rfl
  refine ⟨fun hq hd => ?_, fun hd _ => ⟨_, hexec, ?_⟩⟩
  · rw [hexec, hdef, if_pos hd, finish_quiet hq]
  · obtain ⟨hraised, hlast, hwait⟩ := lineStart_started (deferCounted s n w due) n w due
    have hb := (Onward.refl (lineStart (deferCounted s n w due) n w due)).recordBehind (n := n)
    have ho : Onward (lineStart (deferCounted s n w due) n w due) (deferredStart s n) := by
      rw [hdef, if_neg (Nat.not_lt.2 hd)]
      exact hb.ite hb.closeSpanRun
    exact ⟨(ho.start n).trans hlast, (ho.waiting n).trans hwait, ho.raised (hraised (by simp [deferCounted]))⟩

end Sys2Proof.Machine
end

section
/-! PROOFS. Sensor lanes: the CRC-16 of a lane, the blocks of a line, and block lock and training. -/

namespace Sys2Proof.Machine

/-- A command that raises nothing and leaves the Umade unit alone ends in the state that its operation makes of a quiet one. -/
theorem next_finish {s t u : State} (h : Quiet s) (e : u = t) (he : t.evq = s.evq) (hu : t.umd = s.umd) :
    (.next (finish u) : Host.Outcome State Fault Refusal) = .next t := by
  rw [e, finish_same h he hu]

/-! ## CRC-16 (R86) -/

/-- Bit i of the number that a bit vector spells. -/
theorem bit_toNat_getLsbD {w : Nat} (v : BitVec w) (i : Nat) : bit v.toNat i = v.getLsbD i := by
  rw [BitVec.getLsbD, Nat.testBit_eq_decide_div_mod_eq, bit]
  rfl

/-- One bit into the CRC-16 register (R86). -/
def crc16Bit (r : BitVec 16) (b : Bool) : BitVec 16 := if r.getMsbD 0 != b then (r <<< 1) ^^^ 0x1021#16 else r <<< 1

/-- One byte into the CRC-16 register, most significant bit first (R86). -/
def crc16Byte (r : BitVec 16) (b : Byte) : BitVec 16 := (List.range 8).foldl (fun r i => crc16Bit r (b.getMsbD i)) r

theorem crcBitL_toNat (r : BitVec 16) (b : Bool) : crcBitL 0x1021 16 r.toNat b = (crc16Bit r b).toNat := by
  have hshift : r.toNat * 2 % 2 ^ 16 = (r <<< 1).toNat := by rw [BitVec.toNat_shiftLeft, Nat.shiftLeft_eq]
  have htop : bit r.toNat (16 - 1) = r.getMsbD 0 := by simp [bit_toNat_getLsbD, BitVec.getMsbD]
  rw [crcBitL, htop, hshift, crc16Bit]
  split
  · rw [BitVec.toNat_xor]
    rfl
  · rfl

theorem msbBits_byte (b : Byte) : msbBits 8 b.toNat = (List.range 8).map fun i => b.getMsbD i := by
  simp [msbBits, List.range_succ, bit_toNat_getLsbD, BitVec.getMsbD]

theorem crcBytesL_toNat (r : BitVec 16) (bs : List Byte) : crcBytesL 0x1021 16 r.toNat bs = (bs.foldl crc16Byte r).toNat :=
  List.foldl_hom BitVec.toNat fun r b => by
    rw [msbBits_byte, List.foldl_map]
    exact List.foldl_hom BitVec.toNat fun r i => crcBitL_toNat r (b.getMsbD i)

/-- The CRC-16 over bytes is the register with the bytes shifted in one after another. -/
theorem crc16_eq_foldl (r : BitVec 16) (bs : List Byte) : crc16 r bs = bs.foldl crc16Byte r := by
  rw [crc16, crcBytesL_toNat, BitVec.ofNat_toNat, BitVec.setWidth_eq]

theorem crc16_append (r : BitVec 16) (as bs : List Byte) : crc16 r (as ++ bs) = crc16 (crc16 r as) bs := by
  simp only [crc16_eq_foldl, List.foldl_append]

/-! ## The blocks of a line (R83 to R86, R90) -/

theorem modRx_rd (s : State) (n trig lane : Nat) (f : LaneRx → LaneRx) (x : Fld) : (modRx s n trig lane f).rd x = s.rd x :=
  State.modPipe_rd _ _ _ _

section
variable {s : State} {n phys : Nat} {p : BitVec 64} {l : LineRec} {r : LaneRx}

/-- An LHDR of the right form, lane ID, tag and width on a lane that awaits a line starts the line there. -/
theorem laneLhdr_begins (hty : bits p.toNat 7 0 = 0x78) (hz : bits p.toNat 63 34 = 0) (hz' : bits p.toNat 15 13 = 0)
    (hnone : rxTarget (s.ch n).sns (s.ch n).pipe.lines phys true = none)
    (hsome : rxTarget (s.ch n).sns (s.ch n).pipe.lines phys false = some (l, r))
    (hid : bits p.toNat 12 8 = ((l.sched.lanes[r.lane]?).map (·.id)).getD 0)
    (htag : bits p.toNat 31 16 = (l.edge + ((s.ch n).sns.phys.getD r.lane LanePhy.idle).tagOff) % 65536)
    (hw : (bits p.toNat 33 32 = 0 ∧ l.sched.width = 10) ∨ (bits p.toNat 33 32 = 1 ∧ l.sched.width = 12)) :
    laneLhdr s n phys p = modRx s n l.trig r.lane fun x =>
      { x with started := true, crc := crc16 0xFFFF ((List.range 7).map fun j => payByte p (j + 1)) } := by
  unfold laneLhdr
  dsimp only
  rw [if_neg (by simp [hty, hz, hz']), hnone, hsome]
  dsimp only
  rw [if_pos hw, if_pos htag, if_neg (not_not.2 hid)]

/-- A data block of a line is kept, and its bytes enter the CRC. -/
theorem laneData_takes (h : rxTarget (s.ch n).sns (s.ch n).pipe.lines phys true = some (l, r)) :
    laneData s n phys p = modRx s n l.trig r.lane fun x =>
      { x with words := p :: x.words, crc := crc16 x.crc ((List.range 8).map fun j => payByte p j) } := by
  rw [laneData, h]

/-- A control block that does not belong within a line is a framing error. -/
theorem laneFraming_within (h : rxTarget (s.ch n).sns (s.ch n).pipe.lines phys true = some (l, r)) :
    laneFraming s n phys = modRx s n l.trig r.lane fun x => { x with framing := true } := by
  rw [laneFraming, h]

/-- An LEND with the right block and sample counts, and no framing error before it, is judged by its CRC. -/
theorem laneLend_counted (h : rxTarget (s.ch n).sns (s.ch n).pipe.lines phys true = some (l, r)) (hty : bits p.toNat 7 0 = 0x87)
    (hz : bits p.toNat 63 48 = 0)
    (hblocks : r.words.length = laneBlocks ((l.sched.lanes[r.lane]?).getD { id := 0, runs := [] }) l.sched.width)
    (hsamples : bits p.toNat 47 24 = laneSamples ((l.sched.lanes[r.lane]?).getD { id := 0, runs := [] }))
    (hfr : r.framing = false) :
    laneLend s n phys p =
      let t := modRx s n l.trig r.lane fun x => { x with ended := true }
      let t := if bits p.toNat 23 8 ≠ r.crc.toNat then
        laneFail t n l phys r.lane (EV_SNS_CRC n) (SNS_LANE_CRCERR n phys) false else t
      if bit (t.rd (SNS_LANEFLT_FLT n)) phys then poisonLine t n l.trig else t := by
  unfold laneLend
  dsimp only
  rw [if_neg (by simp [hty, hz]), h]
  simp only [hblocks, hsamples, hfr, ne_eq, not_true_eq_false, or_self, if_false, Bool.false_eq_true, false_or]

end

/-- A counter that saturates, after one more count. -/
theorem State.rd_bump_same {s : State} (h : RegsWf s) {f : Fld} (hf : f.Fits) :
    (s.bump f).rd f = min (s.rd f + 1) (2 ^ f.width - 1) := by
  rw [State.bump, State.addSat, State.rd_wr_same h hf, Nat.mod_eq_of_lt]
  have := Nat.two_pow_pos f.width
  omega

/-- A failure on a lane is counted. -/
theorem laneFail_counts {s : State} (h : RegsWf s) (n : Nat) (l : LineRec) (phys lane e : Nat) {count : Fld} (hf : count.Fits)
    (alsoFlt : Bool) :
    (laneFail s n l phys lane e count alsoFlt).rd count = min (s.rd count + 1) (2 ^ count.width - 1) := by
  rw [laneFail, State.raise_rd, State.rd_bump_same (s := poisonLine s n l.trig) h hf, poisonLine, State.modPipe_rd]

/-- Settles O13: each block changes the reception of its lane as the lemmas above say; a missing LHDR fails as every failure does. -/
theorem laneBlocksReceiveALine : Obligations.LaneBlocksReceiveALine := by
  intro s n lane p l r _ u v
  refine ⟨fun hq hty hz hz' hnone hsome hid htag hw => ?_, fun hq hin => ⟨?_, ?_, fun hty hz hb hs hfr hcrc hflt => ?_⟩,
    fun hmiss => ?_⟩
  · exact next_finish hq (laneLhdr_begins hty hz hz' hnone hsome hid htag hw) rfl rfl
  · exact next_finish hq (laneData_takes hin) rfl rfl
  · exact next_finish hq (laneFraming_within hin) rfl rfl
  · refine next_finish hq ((laneLend_counted hin hty hz hb hs hfr).trans ?_) rfl rfl
    dsimp only
    rw [if_neg (not_not.2 hcrc), modRx_rd, hflt, if_neg Bool.false_ne_true]
  · show Host.Outcome.next (finish (lhdrMissing s n lane)) = _
    rw [lhdrMissing, hmiss]
    rfl

/-- Settles O59: the register takes the bytes one after another, and the blocks bring in theirs. -/
theorem crc16OfALaneIsThatOfItsBytes : Obligations.Crc16OfALaneIsThatOfItsBytes := by
  refine ⟨fun r b => crc16_eq_foldl r [b], crc16_append, by decide +kernel, ?_⟩
  intro s n lane p l r hwf u pay
  refine ⟨fun hq hty hz hz' hnone hsome hid htag hw => ?_, fun hq hin => ?_, fun hin hty hz hb hs hfr hcrc => ?_⟩
  · exact next_finish hq (laneLhdr_begins hty hz hz' hnone hsome hid htag hw) rfl rfl
  · exact next_finish hq (laneData_takes hin) rfl rfl
  · refine ⟨laneLend s n lane p, rfl, ?_⟩
    have hc : (laneFail (modRx s n l.trig r.lane fun x => { x with ended := true }) n l lane r.lane (EV_SNS_CRC n)
        (SNS_LANE_CRCERR n lane) false).rd (SNS_LANE_CRCERR n lane) =
        min (s.rd (SNS_LANE_CRCERR n lane) + 1) (2 ^ (SNS_LANE_CRCERR n lane).width - 1) := by
      rw [laneFail_counts (s := modRx ..) hwf _ _ _ _ _ (by simp [Fld.Fits, SNS_LANE_CRCERR]), modRx_rd]
    rw [laneLend_counted hin hty hz hb hs hfr]
    dsimp only
    rw [if_pos hcrc]
    split
    · rw [poisonLine, State.modPipe_rd, hc]
    · exact hc

/-! ## Block lock and training (R87) -/

/-- Which lane a line awaits does not depend on what the receivers hold. -/
theorem rxTarget_phys (u : SnsSt) (ps : List LanePhy) (ls : List LineRec) (phys : Nat) (started : Bool) :
    rxTarget { u with phys := ps } ls phys started = rxTarget u ls phys started := rfl

/-- A receiver that loses lock between lines. -/
theorem laneLockLoss_between {s : State} {n phys : Nat} (h : rxTarget (s.ch n).sns (s.ch n).pipe.lines phys true = none) :
    laneLockLoss s n phys =
      let t := s.modSns n fun u => { u with phys := u.phys.modify phys fun q => { q with lock := false } }
      (t.wr (SNS_LANELOCK_LOCK n) (withBit (t.rd (SNS_LANELOCK_LOCK n)) phys false)).wr (SNS_LANE_LOCK n phys) 0 := by
  unfold laneLockLoss
  simp only [State.wr_ch, State.modSns_ch_same, rxTarget_phys, h]

/-- A TRAIN block of the right form in TRAINING. -/
theorem laneTrain_takes {s : State} {n phys at_ : Nat} {p : BitVec 64} (hst : s.rd (SNS_STAT_STATE n) = 4)
    (hty : bits p.toNat 7 0 = 0x4B) (hpat : bits p.toNat 63 32 = 0xA5C30F96) (hz : bits p.toNat 15 13 = 0) :
    laneTrain s n phys p at_ = s.modSns n fun u => { u with phys := u.phys.modify phys fun q =>
      { q with id := some (bits p.toNat 12 8), ctr := bits p.toNat 31 16,
               arrival := (at_ + trainWrap - 66 * bits p.toNat 31 16) % trainWrap, skewOk := true } } := by
  unfold laneTrain snsState
  dsimp only
  rw [if_neg (not_not.2 hst), if_neg (by simp [hty, hpat, hz])]

/-- Settles O14: the receivers change as R87 says. -/
theorem laneReceiversLockAndTrain : Obligations.LaneReceiversLockAndTrain := by
  intro s n lane p at_ _ hq
  refine ⟨?_, fun hnone => ?_, fun hst hty hpat hz => ?_⟩
  · exact next_finish hq rfl rfl rfl
  · exact next_finish hq (laneLockLoss_between hnone) rfl rfl
  · exact next_finish hq (laneTrain_takes hst hty hpat hz) rfl rfl

end Sys2Proof.Machine
end

section
/-! PROOFS. Sensor bars: the levels of the bar's pins, bring-up, power-down and retraining. -/

namespace Sys2Proof.Machine

/-! ## Bits of a number -/

theorem bit_eq_testBit (v i : Nat) : bit v i = v.testBit i := by
  rw [Nat.testBit_eq_decide_div_mod_eq, bit]
  rfl

/-- Setting or clearing a bit replaces the lowest bit of what stands above the bits below it. -/
theorem withBit_eq (v i : Nat) (b : Bool) : withBit v i b = 2 ^ i * (2 * (v / 2 ^ i / 2) + b2n b) + v % 2 ^ i := by
  have hv := Nat.div_add_mod v (2 ^ i)
  have hd := Nat.div_add_mod (v / 2 ^ i) 2
  rw [withBit, bit]
  generalize v / 2 ^ i = d at *
  generalize v % 2 ^ i = r at *
  generalize hq : d / 2 = q at *
  rcases Nat.mod_two_eq_zero_or_one d with h | h <;> rw [h] at hd ⊢ <;> subst hd hv
  · cases b
    · simp [b2n]
    · simp [b2n, Nat.mul_add]
      omega
  · cases b
    · simp [b2n, Nat.mul_add]
      omega
    · simp [b2n]

/-- Bits after one of them has been set or cleared. -/
theorem bit_withBit (v i j : Nat) (b : Bool) : bit (withBit v i b) j = if j = i then b else bit v j := by
  have hr : v % 2 ^ i < 2 ^ i := Nat.mod_lt _ (Nat.two_pow_pos i)
  rw [bit_eq_testBit, withBit_eq, Nat.testBit_two_pow_mul_add _ hr, bit_eq_testBit]
  rcases Nat.lt_trichotomy j i with h | rfl | h
  · simp [h, Nat.ne_of_lt h]
  · cases b <;> simp [b2n]
  · obtain ⟨k, rfl⟩ := Nat.exists_eq_add_of_lt h
    have hk : i + k + 1 - i = k + 1 := by omega
    have hb : (2 * (v / 2 ^ i / 2) + b2n b) / 2 = v / 2 ^ i / 2 := by rw [Nat.mul_add_div (by decide)]; cases b <;> simp [b2n]
    rw [if_neg (by omega), if_neg (by omega), hk, Nat.testBit_succ, hb, ← Nat.testBit_succ, Nat.testBit_div_two_pow]
    congr 1
    omega

/-! ## Updates one after another -/

theorem Quad.set_set {α : Type} (q : Quad α) (n : Nat) (x y : α) : (q.set n x).set n y = q.set n y := by
  match n with
  | 0 => rfl
  | 1 => rfl
  | 2 => rfl
  | _ + 3 => rfl

theorem State.modSns_modSns (s : State) (n : Nat) (f g : SnsSt → SnsSt) :
    (s.modSns n f).modSns n g = s.modSns n fun u => g (f u) := by
  rw [State.modSns, State.modCh, State.modSns_ch_same, State.modSns, State.modCh, State.setCh, State.setCh, State.modSns,
    State.modCh, State.setCh, Quad.set_set]

/-! ## The bar's pins (R70 to R72) -/

/-- The pins of channel n below k that a state has at another level than a pattern, as they are driven to it. -/
def ctlDriven (s : State) (n levels k : Nat) : List Out :=
  ((List.range k).filter fun p => bit (s.ch n).sns.ctl p != bit levels p).map fun p => .pin "SN_CTL" (8 * n + p) (bit levels p)

/-- After the pins below k have taken the levels of a pattern: those have them, the others are as they were, and nothing of the
sensor unit differs but the pins. -/
structure Levelled (s : State) (n levels k : Nat) (t : State) : Prop where
  low : ∀ p < k, bit (t.ch n).sns.ctl p = bit levels p
  high : ∀ p, k ≤ p → bit (t.ch n).sns.ctl p = bit (s.ch n).sns.ctl p
  out : t.outbox = s.outbox ++ ctlDriven s n levels k
  same : (t.ch n).sns = { (s.ch n).sns with ctl := (t.ch n).sns.ctl }

theorem ctlDriven_succ (s : State) (n levels k : Nat) : ctlDriven s n levels (k + 1) = ctlDriven s n levels k ++
    if bit (s.ch n).sns.ctl k = bit levels k then [] else [.pin "SN_CTL" (8 * n + k) (bit levels k)] := by
  rw [ctlDriven, List.range_succ, List.filter_append, List.map_append, ctlDriven]
  split <;> simp [*]

/-- Every pin takes the level of a pattern: those that had another are driven, in order. -/
theorem ctlLevels_levelled (s : State) (n levels : Nat) : Levelled s n levels 8 (ctlLevels s n levels) := by
  refine iterate_induct (P := Levelled s n levels)
    ⟨fun _ h => absurd h (Nat.not_lt_zero _), fun _ _ => rfl, by simp [ctlDriven], rfl⟩ fun k _ t ht => ?_
  have hk : bit (t.ch n).sns.ctl k = bit (s.ch n).sns.ctl k := ht.high k (Nat.le_refl k)
  split
  · next h =>
    refine ⟨fun p hp => ?_, fun p hp => ht.high p (by omega), ?_, ht.same⟩
    · rcases Nat.lt_succ_iff_lt_or_eq.1 hp with hp | rfl
      exacts [ht.low p hp, h]
    · rw [ctlDriven_succ, if_pos (hk ▸ h), List.append_nil, ht.out]
  · next h =>
    have hch : ((ctlDrive t n k (bit levels k)).ch n).sns =
        { (t.ch n).sns with ctl := withBit (t.ch n).sns.ctl k (bit levels k) } := by
      rw [ctlDrive, State.emit_ch, State.modSns_ch_same]
    refine ⟨fun p hp => ?_, fun p hp => ?_, ?_, ?_⟩
    · rw [hch, bit_withBit]
      split
      · next h => rw [h]
      · exact ht.low p (by omega)
    · rw [hch, bit_withBit, if_neg (by omega), ht.high p (by omega)]
    · rw [ctlDriven_succ, if_neg (hk ▸ h), ctlDrive, State.emit_outbox, State.modSns_outbox, ht.out, List.append_assoc]
    · rw [hch, ht.same]

theorem ctlIdle_besides (s : State) (n : Nat) : (ctlIdle s n).besides = s.besides := by
  unfold ctlIdle
  split
  exacts [ctlLevels_besides .., rfl]

/-- A bar's outputs are on, its clock runs and its SPI port rests; its pins have still the levels that they had (R71, R78, R92). -/
def outputsStarted (s : State) (n : Nat) : State :=
  let t := ((s.modSns n fun u => { u with outputsOn := true }).emit (.mclk n (s.ch n).sns.sched.mclk)).emit (.pin "SN_CS_N" n true)
  if s.rd (SNS_CFG_SPIMODE n) = 3 then t.emit (.pin "SN_SCK" n true) else t

theorem outputsStarted_besides (s : State) (n : Nat) : (outputsStarted s n).besides = s.besides := by
  unfold outputsStarted
  split <;> rfl

theorem outputsStarted_sns (s : State) (n : Nat) : ((outputsStarted s n).ch n).sns = { (s.ch n).sns with outputsOn := true } := by
  unfold outputsStarted
  split <;> simp only [State.emit_ch, State.modSns_ch_same]

theorem outputsStarted_outbox (s : State) (n : Nat) : (outputsStarted s n).outbox =
    s.outbox ++ [.mclk n (s.ch n).sns.sched.mclk, .pin "SN_CS_N" n true] ++
      if s.rd (SNS_CFG_SPIMODE n) = 3 then [.pin "SN_SCK" n true] else [] := by
  unfold outputsStarted
  split <;> simp

/-- The outputs of a bar are turned on, and its pins take their idle levels. -/
theorem snsOutputsOn_eq (s : State) (n : Nat) :
    snsOutputsOn s n = ctlLevels (outputsStarted s n) n (s.ch n).sns.sched.idle := by
  have h : snsOutputsOn s n = ctlIdle (outputsStarted s n) n := by
    unfold snsOutputsOn outputsStarted
    simp only [beq_iff_eq]
  rw [h, ctlIdle, outputsStarted_sns, if_pos rfl]

/-- The outputs of a bar are off afterwards, and where they were on its pins are low (R70, R94). -/
theorem snsOutputsOff_sns (s : State) (n : Nat) : ((snsOutputsOff s n).ch n).sns.outputsOn = false ∧
    ((s.ch n).sns.outputsOn = true → ∀ p < 8, bit ((snsOutputsOff s n).ch n).sns.ctl p = false) := by
  unfold snsOutputsOff
  split
  · next h =>
    have hoff : (s.ch n).sns.outputsOn = false := by simpa using h
    exact ⟨hoff, fun hon => absurd hon (by simp [hoff])⟩
  · have hl := ctlLevels_levelled (s.modSns n fun u => { u with outputsOn := false }) n 0
    simp only [State.emit_ch]
    refine ⟨?_, fun _ p hp => by simpa [bit] using hl.low p hp⟩
    rw [hl.same, State.modSns_ch_same]

end Sys2Proof.Machine
end

section
/-! PROOFS. Sensor bars come up: bring-up and lane training. -/

namespace Sys2Proof.Machine

/-! ## What an operation writes -/

/-- No register apart from some addresses differs, and the register file is in canonical form. -/
structure Wrote (s t : State) (may : Nat → Prop) : Prop where
  wf : RegsWf t
  words : SameWords s t may

section
variable {s t u : State} {may : Nat → Prop}

theorem Wrote.refl (h : RegsWf s) : Wrote s s may := ⟨h, SameWords.refl s may⟩

theorem Wrote.congr (h : Wrote s t may) (e : u.regs = t.regs) : Wrote s u may :=
  ⟨h.wf.congr e, fun a ha => (State.word_congr e a).trans (h.words a ha)⟩

theorem Wrote.modSns {n : Nat} {f : SnsSt → SnsSt} (h : Wrote s t may) : Wrote s (t.modSns n f) may :=
  h.congr (State.modSns_regs ..)

theorem Wrote.wr (h : Wrote s t may) {f : Fld} (v : Nat) (ha : may f.addr) : Wrote s (t.wr f v) may :=
  ⟨h.wf.wr f v, h.words.trans (SameWords.wr t f v ha)⟩

theorem Wrote.clear {fs : List Fld} (h : Wrote s t may) (ha : ∀ f ∈ fs, may f.addr) : Wrote s (t.clear fs) may :=
  List.foldlRecOn (motive := fun u => Wrote s u may) fs _ h fun _ hu f hf => hu.wr 0 (ha f hf)

theorem Wrote.iterate {k : Nat} {f : State → Nat → State} (h : Wrote s t may)
    (hf : ∀ u, Wrote s u may → ∀ i < k, Wrote s (f u i) may) : Wrote s (iterate k t f) may :=
  iterate_induct (P := fun _ u => Wrote s u may) h fun i hi u hu => hf u hu i hi

end

/-! ## Bring-up (R87, R92, R93) -/

/-- What differs in the channels and in what has left the device alone has the registers of the other state. -/
theorem State.regs_of_besides {s t : State} (h : t.besides = s.besides) : t.regs = s.regs :=
  show t.besides.regs = s.besides.regs by rw [h]
theorem State.evq_of_besides {s t : State} (h : t.besides = s.besides) : t.evq = s.evq :=
  show t.besides.evq = s.besides.evq by rw [h]
theorem State.umd_of_besides {s t : State} (h : t.besides = s.besides) : t.umd = s.umd :=
  show t.besides.umd = s.besides.umd by rw [h]

theorem snsOutputsOn_besides (s : State) (n : Nat) : (snsOutputsOn s n).besides = s.besides := by
  rw [snsOutputsOn_eq, ctlLevels_besides, outputsStarted_besides]

/-- Lane training starts (R87). -/
theorem snsTrain_eq (s : State) (n : Nat) : snsTrain s n =
    ((s.wr (SNS_STAT_STATE n) 4).modSns n fun u =>
      { u with phys := u.phys.map fun p => { p with id := none, skewOk := false },
               ctl := withBit u.ctl u.sched.lsPin u.sched.lsActive }).emit
      (.pin "SN_CTL" (8 * n + (s.ch n).sns.sched.lsPin) (s.ch n).sns.sched.lsActive) := by
  rw [snsTrain]
  simp only [ctlDrive, State.modSns_modSns, State.modSns_ch_same, State.wr_ch]
  simp only [State.modSns, State.modCh, State.wr_ch]

theorem arrivalLag_self (a : Nat) : arrivalLag a a = 0 := by
  unfold arrivalLag trainWrap
  omega

theorem foldl_max_le {l : List Int} {a b : Int} (ha : a ≤ b) (h : ∀ x ∈ l, x ≤ b) : l.foldl max a ≤ b :=
  List.foldlRecOn (motive := (· ≤ b)) l max ha fun _ hc x hx => max_le hc (h x hx)

/-- The arrival that the receivers' lags count from: that of the first which is deskewed. -/
def refArrival (u : SnsSt) : Nat := ((u.phys.find? (·.skewOk)).getD LanePhy.idle).arrival

/-- The receiver that serves a data lane for a trigger. -/
def servingPhy (u : SnsSt) (trig l : Nat) : LanePhy := u.phys.getD (lanePhysFor u trig l) LanePhy.idle

/-- A data lane has locked, is deskewed within 100 unit intervals of the latest receiver, and has its own lane ID (R87). -/
structure LaneTrained (u : SnsSt) (trig l : Nat) : Prop where
  lock : (servingPhy u trig l).lock = true
  skewOk : (servingPhy u trig l).skewOk = true
  near : ∀ p ∈ u.phys, p.skewOk = true →
    arrivalLag (refArrival u) p.arrival ≤ arrivalLag (refArrival u) (servingPhy u trig l).arrival + 100
  own : ∀ i, (servingPhy u trig l).id = some i → i = ((u.sched.lanes[l]?).map (·.id)).getD 0

/-- No receiver lags a trained lane by more than 100 unit intervals; the first deskewed one, whose lag is 0, is among them. -/
theorem LaneTrained.late_le {u : SnsSt} {trig l : Nat} (h : LaneTrained u trig l) :
    ((u.phys.filter (·.skewOk)).map fun p => arrivalLag (refArrival u) p.arrival).foldl max 0 ≤
      arrivalLag (refArrival u) (servingPhy u trig l).arrival + 100 := by
  refine foldl_max_le ?_ fun x hx => ?_
  · cases hf : u.phys.find? (·.skewOk) with
    | some p =>
      have := h.near p (List.mem_of_find?_eq_some hf) (List.find?_some hf)
      rwa [show p.arrival = refArrival u by rw [refArrival, hf]; rfl, arrivalLag_self] at this
    | none =>
      have hs := h.skewOk
      rw [servingPhy, List.getD_eq_getElem?_getD] at hs
      cases hg : u.phys[lanePhysFor u trig l]? with
      | none => simp [hg, LanePhy.idle] at hs
      | some p =>
        rw [hg] at hs
        exact absurd hs (List.find?_eq_none.1 hf p (List.mem_of_getElem? hg))
  · obtain ⟨p, hp, rfl⟩ := List.mem_map.1 hx
    exact h.near p (List.mem_filter.1 hp).1 (List.mem_filter.1 hp).2

/-- The skews of the deskewed receivers among the 26 of a channel are shown. -/
def skewsShown (s : State) (n : Nat) (deskewed : Nat → Bool) (skew : Nat → Nat) : State :=
  iterate 26 s fun t l => if deskewed l then t.wr (SNS_LANE_SKEW n l) (skew l) else t

theorem skewsShown_wrote {s : State} (h : RegsWf s) (n : Nat) (deskewed : Nat → Bool) (skew : Nat → Nat) :
    Wrote s (skewsShown s n deskewed skew) (inChan n 0 0x2000) :=
  (Wrote.refl h).iterate fun u hu l hl => by
    split
    · exact hu.wr _ ⟨by simp only [SNS_LANE_SKEW]; omega, by simp only [SNS_LANE_SKEW]; omega⟩
    · exact hu

theorem skewsShown_chans (s : State) (n : Nat) (deskewed : Nat → Bool) (skew : Nat → Nat) :
    (skewsShown s n deskewed skew).chans = s.chans :=
  iterate_same State.chans fun t l => by split <;> rfl

theorem skewsShown_evq (s : State) (n : Nat) (deskewed : Nat → Bool) (skew : Nat → Nat) :
    (skewsShown s n deskewed skew).evq = s.evq :=
  iterate_same State.evq fun t l => by split <;> rfl

/-- Training with every lane in use trained ends in READY, with the skew of each deskewed receiver shown. -/
theorem snsTrainEnd_ready {s : State} {n : Nat}
    (h : ∀ l ∈ lanesInUse (s.ch n).sns.sched, LaneTrained (s.ch n).sns (s.ch n).pipe.trigCtr l) :
    ∃ (deskewed : Nat → Bool) (skew : Nat → Nat),
      snsTrainEnd s n = snsBecomeReady (skewsShown (ctlIdle s n) n deskewed skew) n := by
  unfold snsTrainEnd
  extract_lets u used phy idBad locked ref late skew range idle
  have hid : idBad = false := by
    refine List.any_eq_false.2 fun p hp => ?_
    obtain ⟨l, hl, rfl⟩ := List.mem_map.1 hp
    by_cases hsame : l = lanePhysFor u (s.ch n).pipe.trigCtr l
    · have hown := (h l hl).own
      rw [servingPhy, ← hsame] at hown
      cases hi : (phy l).id with
      | none => simp
      | some i => simp [← hown i hi, u]
    · simp [hsame]
  have hlock : locked = true := List.all_eq_true.2 fun p hp => by
    obtain ⟨l, hl, rfl⟩ := List.mem_map.1 hp
    exact Bool.and_eq_true_iff.2 ⟨(h l hl).lock, (h l hl).skewOk⟩
  have hrange : range = true := List.all_eq_true.2 fun p hp => by
    obtain ⟨l, hl, rfl⟩ := List.mem_map.1 hp
    have hlate := (h l hl).late_le
    exact decide_eq_true (Int.toNat_le.2 (Int.sub_left_le_of_le_add hlate))
  rw [hid, hlock, hrange]
  exact ⟨fun l => (phy l).skewOk, fun l => min (skew l) 100, rfl⟩

/-! ## READY (R93) -/

/-- After a bar has come up to READY: two spoil lines are to come, and EV_SNS_READY has been raised. -/
structure BecameReady (s : State) (n : Nat) (t : State) : Prop where
  state : t.rd (SNS_STAT_STATE n) = 5
  cause : t.rd (SNS_STAT_CAUSE n) = 0
  spoil : (t.ch n).sns.spoilNext = 2
  evq : t.evq = s.evq ++ [ev (EV_SNS_READY n)]
  ctl : (t.ch n).sns.ctl = (s.ch n).sns.ctl
  words : SameWords s t fun a => inChan n 0 0x2000 a ∨ a = (PIPE_ALIGN_FILL n).addr

/-- A register of the sensor unit lies among those of its channel's bar. -/
theorem inBar (n k : Nat) (h : k < 0x2000) : inChan n 0 0x2000 (k + chBase n) :=
  ⟨Nat.le_add_left .., by rw [Nat.add_comm]; exact Nat.add_lt_add_left h _⟩

/-- The repairs of a bar are forgotten within its own registers. -/
theorem Wrote.snsClearSpares {s t : State} {n : Nat} {may : Nat → Prop} (h : Wrote s t may)
    (ha : ∀ a, inChan n 0 0x2000 a → may a) : Wrote s (snsClearSpares t n) may := by
  refine Wrote.congr (h.clear fun f hf => ha _ ?_) (State.modSns_regs ..)
  simp only [List.mem_cons, List.not_mem_nil, or_false] at hf
  rcases hf with rfl | rfl | rfl | rfl | rfl
  exacts [inBar n 0x14 (by decide), inBar n 0x14 (by decide), inBar n 0x14 (by decide), inBar n 0x14 (by decide),
    inBar n 0x4 (by decide)]

theorem State.clear_ch (s : State) (fs : List Fld) (n : Nat) : (s.clear fs).ch n = s.ch n :=
  List.foldlRecOn (motive := fun t => State.ch t n = s.ch n) fs _ rfl fun _ ht _ _ => ht

theorem State.clear_evq (s : State) (fs : List Fld) : (s.clear fs).evq = s.evq :=
  List.foldlRecOn (motive := fun t => State.evq t = s.evq) fs _ rfl fun _ ht _ _ => ht

/-- What is forgotten before a bar becomes READY, where it came up from OFF: its lane faults and repairs. -/
def readyFrom (s : State) (n : Nat) : State :=
  if !(s.ch n).sns.retraining then snsClearSpares (s.wr (SNS_LANEFLT_FLT n) 0) n else s

theorem readyFrom_wrote {s : State} (h : RegsWf s) (n : Nat) : Wrote s (readyFrom s n) (inChan n 0 0x2000) := by
  unfold readyFrom
  split
  · exact ((Wrote.refl h).wr 0 (inBar n 0x10 (by decide))).snsClearSpares fun _ => id
  · exact .refl h

theorem readyFrom_evq (s : State) (n : Nat) : (readyFrom s n).evq = s.evq := by
  unfold readyFrom
  split
  · rw [snsClearSpares, State.modSns_evq, State.clear_evq, State.wr_evq]
  · rfl

theorem readyFrom_ctl (s : State) (n : Nat) : ((readyFrom s n).ch n).sns.ctl = (s.ch n).sns.ctl := by
  unfold readyFrom
  split
  · rw [snsClearSpares, State.modSns_ch_same, State.clear_ch, State.wr_ch]
  · rfl

theorem snsBecomeReady_eq (s : State) (n : Nat) : snsBecomeReady s n =
    ((((((readyFrom s n).wr (SNS_STAT_STATE n) 5).wr (SNS_STAT_CAUSE n) 0).modSns n fun u =>
      { u with spoilNext := 2, retraining := false, edges := 0, phys := u.phys.map fun p => { p with tagOff := 0 } }).modPipe n
        fun p => { p with validFrom := p.slotCtr }).wr (PIPE_ALIGN_FILL n) 0).raise (ev (EV_SNS_READY n)) := rfl

theorem snsBecomeReady_becameReady {s : State} (h : RegsWf s) (n : Nat) : BecameReady s n (snsBecomeReady s n) := by
  have hw := readyFrom_wrote h n
  have hs : (SNS_STAT_STATE n).Fits := by simp [Fld.Fits, SNS_STAT_STATE]
  have hc : (SNS_STAT_CAUSE n).Fits := by simp [Fld.Fits, SNS_STAT_CAUSE]
  have hsc : (SNS_STAT_CAUSE n).Apart (SNS_STAT_STATE n) := by simp [Fld.Apart, SNS_STAT_CAUSE, SNS_STAT_STATE]
  rw [snsBecomeReady_eq]
  refine ⟨?_, ?_, ?_, ?_, ?_, ?_⟩
  · rw [State.raise_rd, State.rd_wr_far _ (by simp [SNS_STAT_STATE, PIPE_ALIGN_FILL]), State.modPipe_rd, State.modSns_rd,
      State.rd_wr_apart (hw.wf.wr _ _) hc hs hsc, State.rd_wr_same hw.wf hs]
    simp [Fld.width, SNS_STAT_STATE]
  · rw [State.raise_rd, State.rd_wr_far _ (by simp [SNS_STAT_CAUSE, PIPE_ALIGN_FILL]), State.modPipe_rd, State.modSns_rd,
      State.rd_wr_same (hw.wf.wr _ _) hc, Nat.zero_mod]
  · simp only [State.raise_ch, State.wr_ch, State.modPipe_ch_same, State.modSns_ch_same]
  · simp only [State.raise_evq, State.wr_evq, State.modPipe_evq, State.modSns_evq, readyFrom_evq]
  · simp only [State.raise_ch, State.wr_ch, State.modPipe_ch_same, State.modSns_ch_same, readyFrom_ctl]
  · have hw' : Wrote s (readyFrom s n) fun a => inChan n 0 0x2000 a ∨ a = (PIPE_ALIGN_FILL n).addr :=
      ⟨hw.wf, hw.words.mono fun _ => Or.inl⟩
    have hst : Wrote s (((readyFrom s n).wr (SNS_STAT_STATE n) 5).wr (SNS_STAT_CAUSE n) 0) _ :=
      (hw'.wr 5 (.inl (inBar n 0x4 (by decide)))).wr 0 (.inl (inBar n 0x4 (by decide)))
    exact Wrote.words (.congr (.wr (.congr hst rfl) 0 (.inr rfl)) rfl)

/-! ## The obligation -/

/-- The power-up wait of a bar ends: its outputs come on, and its pins take their idle levels. -/
theorem powerWaitEnd_outputsOn {s : State} {n : Nat} (h : s.rd (SNS_STAT_STATE n) = 2) :
    powerWaitEnd s n = ctlLevels (outputsStarted (s.wr (SNS_STAT_STATE n) 3) n) n (s.ch n).sns.sched.idle := by
  rw [powerWaitEnd, snsState, if_neg (not_not_intro h), snsOutputsOn_eq, State.wr_ch]

/-- Settles O11, from the levels that the pins take, what starts the training, and what ends it in READY. -/
theorem barComesUpStepByStep : Obligations.BarComesUpStepByStep := by
  unfold Obligations.BarComesUpStepByStep
  intro s n hwf
  have hs : (SNS_STAT_STATE n).Fits := by simp [Fld.Fits, SNS_STAT_STATE]
  refine ⟨fun hq h0 hb => ?_, fun h1 => ⟨fun hq => ?_, ?_⟩, fun hq h2 => ?_, fun hq h3 hj => ?_, fun h4 hl => ?_⟩
  · exact next_finish hq (if_neg (by simp [snsState, h0, hb])) rfl rfl
  · exact next_finish hq ((if_neg (not_not_intro h1)).trans (if_pos rfl)) rfl rfl
  · exact congrArg (fun u => Host.Outcome.next (finish u)) ((if_neg (not_not_intro h1)).trans (if_neg Bool.false_ne_true))
  · have hb := (ctlLevels_besides (outputsStarted (s.wr (SNS_STAT_STATE n) 3) n) n (s.ch n).sns.sched.idle).trans
      (outputsStarted_besides ..)
    have hlv := ctlLevels_levelled (outputsStarted (s.wr (SNS_STAT_STATE n) 3) n) n (s.ch n).sns.sched.idle
    have hr := State.word_congr (State.regs_of_besides hb)
    refine ⟨_, next_finish hq  (powerWaitEnd_outputsOn h2)
      (State.evq_of_besides (s := s.wr (SNS_STAT_STATE n) 3) hb) (State.umd_of_besides (s := s.wr (SNS_STAT_STATE n) 3) hb),
      ?_, ?_, hlv.low, ?_, ?_⟩
    · rw [State.rd_congr _ (hr _), State.rd_wr_same hwf hs]
      simp [Fld.width, SNS_STAT_STATE]
    · rw [hlv.same, outputsStarted_sns]
    · rw [hlv.out, outputsStarted_outbox, ctlDriven, outputsStarted_sns,
        State.rd_wr_far _ (by simp [SNS_STAT_STATE, SNS_CFG_SPIMODE])]
      rfl
    · exact fun a ha => (hr a).trans (SameWords.wr s _ 3 (may := (· = (SNS_STAT_STATE n).addr)) rfl a ha)
  · have hi : initWaitEnd s n = snsInitStep s n 0 := if_neg (by simp [snsState, h3, hj])
    cases hx : (s.ch n).sns.sched.inits[0]? with
    | some tx => exact next_finish hq (hi.trans (by rw [snsInitStep, hx]; rfl)) rfl rfl
    | none => exact next_finish hq (hi.trans (by rw [snsInitStep, hx, snsTrain_eq])) rfl rfl
  · obtain ⟨deskewed, skew, ht⟩ := snsTrainEnd_ready fun l hin =>
      have ⟨hlock, hskew, hnear, hown⟩ := hl l hin
      ⟨hlock, hskew, hnear, hown⟩
    have he : trainEnd s n = _ := (if_pos h4).trans ht
    have hi := ctlIdle_besides s n
    have hwf' := hwf.congr (State.regs_of_besides hi)
    have hsh := skewsShown_wrote hwf' n deskewed skew
    have hr := snsBecomeReady_becameReady hsh.wf n
    have hch := State.ch_congr (skewsShown_chans (ctlIdle s n) n deskewed skew) n
    refine ⟨_, congrArg (fun u => Host.Outcome.next (finish u)) he, hr.state, hr.cause, hr.spoil, ?_, fun hon p hp => ?_,
      fun a ha => ?_⟩
    · rw [hr.evq, skewsShown_evq, State.evq_of_besides hi]
    · rw [hr.ctl, hch, ctlIdle, if_pos hon]
      exact (ctlLevels_levelled s n _).low p hp
    · rw [hr.words a ha, hsh.words a fun h => ha (.inl h), State.word_congr (State.regs_of_besides hi)]

end Sys2Proof.Machine
end

section
/-! PROOFS. Sensor bars go down: power-down, removal and retraining. -/

namespace Sys2Proof.Machine

/-! ## Power-off (R94) -/

/-- After a bar has been powered off: power, outputs and lane locks are off, no transaction is left, the pins that were driven are
low, and nothing was written but registers of the bar. -/
structure PoweredOff (s : State) (n : Nat) (t : State) : Prop where
  wrote : Wrote s t (inChan n 0 0x2000)
  pen : t.rd (SNS_STAT_PEN n) = 0
  locks : t.rd (SNS_LANELOCK_LOCK n) = 0
  spi : t.rd (SNS_SPICMD_BUSY n) = 0
  off : (t.ch n).sns.outputsOn = false
  job : (t.ch n).sns.job = none
  hostWait : (t.ch n).sns.hostWait = none
  low : (s.ch n).sns.outputsOn = true → ∀ p < 8, bit (t.ch n).sns.ctl p = false

section
variable {s t u : State} {n : Nat}

theorem PoweredOff.congr (h : PoweredOff s n t) (e : u.regs = t.regs) (k : (u.ch n).sns = (t.ch n).sns) : PoweredOff s n u := by
  have hr (f : Fld) : u.rd f = t.rd f := State.rd_congr f (State.word_congr e _)
  obtain ⟨hw, hp, hl, hb, hoff, hj, hh, hlow⟩ := h
  exact ⟨hw.congr e, hr _ ▸ hp, hr _ ▸ hl, hr _ ▸ hb, k ▸ hoff, k ▸ hj, k ▸ hh, k ▸ hlow⟩

/-- The other fields of the bar's registers may be written. -/
theorem PoweredOff.wr (h : PoweredOff s n t) {f : Fld} (v : Nat) (hf : f.Fits) (ha : inChan n 0 0x2000 f.addr)
    (hp : f.Apart (SNS_STAT_PEN n)) (hl : f.Apart (SNS_LANELOCK_LOCK n)) (hb : f.Apart (SNS_SPICMD_BUSY n)) :
    PoweredOff s n (t.wr f v) where
  wrote := h.wrote.wr v ha
  pen := (State.rd_wr_apart h.wrote.wf hf (by simp [Fld.Fits, SNS_STAT_PEN]) hp v).trans h.pen
  locks := (State.rd_wr_apart h.wrote.wf hf (by simp [Fld.Fits, SNS_LANELOCK_LOCK]) hl v).trans h.locks
  spi := (State.rd_wr_apart h.wrote.wf hf (by simp [Fld.Fits, SNS_SPICMD_BUSY]) hb v).trans h.spi
  off := h.off
  job := h.job
  hostWait := h.hostWait
  low := h.low

theorem PoweredOff.laneLock (h : PoweredOff s n t) {l : Nat} (hl : l < 26) : PoweredOff s n (t.wr (SNS_LANE_LOCK n l) 0) :=
  h.wr 0 (by simp [Fld.Fits, SNS_LANE_LOCK]) ⟨by simp only [SNS_LANE_LOCK]; omega, by simp only [SNS_LANE_LOCK]; omega⟩
    (.inl (by simp only [SNS_LANE_LOCK, SNS_STAT_PEN]; omega)) (.inl (by simp only [SNS_LANE_LOCK, SNS_LANELOCK_LOCK]; omega))
    (.inl (by simp only [SNS_LANE_LOCK, SNS_SPICMD_BUSY]; omega))

theorem PoweredOff.spiError (h : PoweredOff s n t) : PoweredOff s n (spiError t n) :=
  (h.wr (f := SNS_SPICMD_ERR n) 1 (by simp [Fld.Fits, SNS_SPICMD_ERR]) (inBar n 0x20 (by decide))
    (.inl (by simp [SNS_SPICMD_ERR, SNS_STAT_PEN])) (.inl (by simp [SNS_SPICMD_ERR, SNS_LANELOCK_LOCK]))
    (.inr (by simp [SNS_SPICMD_ERR, SNS_SPICMD_BUSY]))).congr rfl rfl

theorem PoweredOff.state (h : PoweredOff s n t) (v : Nat) : PoweredOff s n (t.wr (SNS_STAT_STATE n) v) :=
  h.wr v (by simp [Fld.Fits, SNS_STAT_STATE]) (inBar n 0x4 (by decide)) (.inr (by simp [SNS_STAT_STATE, SNS_STAT_PEN]))
    (.inl (by simp [SNS_STAT_STATE, SNS_LANELOCK_LOCK])) (.inl (by simp [SNS_STAT_STATE, SNS_SPICMD_BUSY]))

theorem PoweredOff.cause (h : PoweredOff s n t) (v : Nat) : PoweredOff s n (t.wr (SNS_STAT_CAUSE n) v) :=
  h.wr v (by simp [Fld.Fits, SNS_STAT_CAUSE]) (inBar n 0x4 (by decide)) (.inr (by simp [SNS_STAT_CAUSE, SNS_STAT_PEN]))
    (.inl (by simp [SNS_STAT_CAUSE, SNS_LANELOCK_LOCK])) (.inl (by simp [SNS_STAT_CAUSE, SNS_SPICMD_BUSY]))

end

/-- A bar's power, outputs and port are off, its transactions and its lane locks forgotten. -/
def barOff (s : State) (n : Nat) : State :=
  (((snsOutputsOff (s.wr (SNS_STAT_PEN n) 0) n).modSns n fun u =>
    { u with job := none, hostWait := none, switchWait := [], steerWait := [], retraining := false,
             phys := u.phys.map fun p => { p with lock := false } }).wr (SNS_SPICMD_BUSY n) 0).wr (SNS_LANELOCK_LOCK n) 0

theorem barOff_poweredOff {s : State} (h : RegsWf s) (n : Nat) : PoweredOff s n (barOff s n) := by
  have hoff : (snsOutputsOff (s.wr (SNS_STAT_PEN n) 0) n).regs = (s.wr (SNS_STAT_PEN n) 0).regs :=
    State.regs_of_besides (snsOutputsOff_besides ..)
  have hw : Wrote s (snsOutputsOff (s.wr (SNS_STAT_PEN n) 0) n) (inChan n 0 0x2000) :=
    ((Wrote.refl h).wr 0 (inBar n 0x4 (by decide))).congr hoff
  obtain ⟨hon, hlow⟩ := snsOutputsOff_sns (s.wr (SNS_STAT_PEN n) 0) n
  unfold barOff
  refine ⟨?_, ?_, ?_, ?_, ?_, ?_, ?_, ?_⟩
  · exact Wrote.wr (f := SNS_LANELOCK_LOCK n) (.wr (f := SNS_SPICMD_BUSY n) hw.modSns 0 (inBar n 0x20 (by decide))) 0
      (inBar n 0xC (by decide))
  · rw [State.rd_wr_far _ (by simp [SNS_STAT_PEN, SNS_LANELOCK_LOCK]), State.rd_wr_far _ (by simp [SNS_STAT_PEN, SNS_SPICMD_BUSY]),
      State.modSns_rd, State.rd_congr _ (State.word_congr hoff _), State.rd_wr_same h (by simp [Fld.Fits, SNS_STAT_PEN]),
      Nat.zero_mod]
  · rw [State.rd_wr_same ((hw.wf.modSns ..).wr ..) (by simp [Fld.Fits, SNS_LANELOCK_LOCK]), Nat.zero_mod]
  · rw [State.rd_wr_far _ (by simp [SNS_LANELOCK_LOCK, SNS_SPICMD_BUSY]), State.rd_wr_same (hw.wf.modSns ..)
      (by simp [Fld.Fits, SNS_SPICMD_BUSY]), Nat.zero_mod]
  all_goals simp only [State.wr_ch, State.modSns_ch_same] at *
  exacts [hon, hlow]

theorem snsPowerOff_eq (s : State) (n : Nat) : snsPowerOff s n =
    if (s.ch n).sns.job.isSome || (s.ch n).sns.hostWait.isSome then
      spiError (iterate 26 (barOff s n) fun t l => t.wr (SNS_LANE_LOCK n l) 0) n
    else iterate 26 (barOff s n) fun t l => t.wr (SNS_LANE_LOCK n l) 0 := rfl

theorem snsPowerOff_poweredOff {s : State} (h : RegsWf s) (n : Nat) : PoweredOff s n (snsPowerOff s n) := by
  have hl : PoweredOff s n (iterate 26 (barOff s n) fun t l => t.wr (SNS_LANE_LOCK n l) 0) :=
    iterate_induct (P := fun _ t => PoweredOff s n t) (barOff_poweredOff h n) fun l hl t ht => ht.laneLock hl
  rw [snsPowerOff_eq]
  split
  exacts [hl.spiError, hl]

/-! ## Retraining (R92) -/

theorem State.modSns_wr (s : State) (n : Nat) (g : SnsSt → SnsSt) (f : Fld) (v : Nat) :
    (s.modSns n g).wr f v = (s.wr f v).modSns n g := rfl

/-- Training starts anew on a bar that is READY, while its channel does not run. -/
theorem snsRetrain_eq {s : State} {n : Nat} (h5 : s.rd (SNS_STAT_STATE n) = 5) (hrun : s.running n = false) : snsRetrain s n =
    ((s.wr (SNS_STAT_STATE n) 4).modSns n fun u =>
      { u with retraining := true, phys := u.phys.map fun p => { p with id := none, skewOk := false },
               ctl := withBit u.ctl u.sched.lsPin u.sched.lsActive }).emit
      (.pin "SN_CTL" (8 * n + (s.ch n).sns.sched.lsPin) (s.ch n).sns.sched.lsActive) := by
  rw [snsRetrain, if_neg (by simp [snsReady, snsState, h5, hrun]), snsTrain_eq, State.modSns_ch_same, State.modSns_wr,
    State.modSns_modSns]

/-! ## The obligation -/

/-- Settles O12, from what a power-off leaves and what starts a training. -/
theorem barGoesDownAndRetrains : Obligations.BarGoesDownAndRetrains := by
  unfold Obligations.BarGoesDownAndRetrains
  intro s n hwf
  have hs : (SNS_STAT_STATE n).Fits := by simp [Fld.Fits, SNS_STAT_STATE]
  have hc : (SNS_STAT_CAUSE n).Fits := by simp [Fld.Fits, SNS_STAT_CAUSE]
  have hsc : (SNS_STAT_CAUSE n).Apart (SNS_STAT_STATE n) := by simp [Fld.Apart, SNS_STAT_CAUSE, SNS_STAT_STATE]
  refine ⟨fun hrun => ?_, fun hq hrun => ?_, fun hq h5 hrun => ?_, fun hpen => ?_, rfl⟩
  · have hp : PoweredOff s n (readoutLost (snsPowerOff s n) n) :=
      (snsPowerOff_poweredOff hwf n).congr rfl (by rw [readoutLost, State.modPipe_ch_same])
    have ht := (hp.state 0).cause 0
    have he : snsDown s n = _ := if_neg (by simp [hrun])
    refine ⟨_, congrArg (fun u => Host.Outcome.next (finish u)) he, ?_, ?_, ht.pen, ht.locks, ht.spi, ht.off, ht.job, ht.hostWait,
      ht.low, ht.wrote.words⟩
    · rw [State.rd_wr_apart (hp.state 0).wrote.wf hc hs hsc, State.rd_wr_same hp.wrote.wf hs, Nat.zero_mod]
    · rw [State.rd_wr_same (hp.state 0).wrote.wf hc, Nat.zero_mod]
  · exact next_finish hq (if_pos hrun) rfl rfl
  · refine ⟨_, next_finish hq (snsRetrain_eq h5 hrun) rfl rfl, ?_, ?_, ?_, ?_⟩
    · rw [State.emit_rd, State.modSns_rd, State.rd_wr_same hwf hs]
      simp [Fld.width, SNS_STAT_STATE]
    · rw [State.emit_ch, State.modSns_ch_same]
    · rw [State.emit_ch, State.modSns_ch_same, State.wr_ch]
    · refine ⟨?_, fun a ha => SameWords.wr s (SNS_STAT_STATE n) 4 (may := (· = (SNS_STAT_STATE n).addr)) rfl a ha⟩
      rw [State.emit_ch, State.modSns_ch_same, State.wr_ch]
      rfl
  · have hp : (s.wr (SNS_STAT_PRES n) 0).rb (SNS_STAT_PEN n) = true := by
      rw [State.rb, State.rd_wr_apart hwf (by simp [Fld.Fits, SNS_STAT_PRES]) (by simp [Fld.Fits, SNS_STAT_PEN])
        (.inr (by simp [SNS_STAT_PRES, SNS_STAT_PEN]))]
      exact hpen
    have he : barRemoved s n = _ := if_neg (by rw [hp]; exact Bool.false_ne_true)
    exact congrArg (fun u => Host.Outcome.next (finish u)) he

end Sys2Proof.Machine
end

section
/-! PROOFS. The sensors' SPI ports: fields that a command writes, host transactions, slots and steers. -/

namespace Sys2Proof.Machine

/-! ## A write of one field (R385, R402) -/

/-- A bit of a join of masks: that of one of them. -/
theorem foldl_or_bit {α : Type} (l : List α) (g : α → Word) (m : Word) (i : Nat) :
    (l.foldl (fun m f => m ||| g f) m).getLsbD i = (m.getLsbD i || l.any fun f => (g f).getLsbD i) := by
  induction l generalizing m with
  | nil => simp
  | cons f l ih => rw [List.foldl_cons, ih, BitVec.getLsbD_or, List.any_cons, Bool.or_assoc]

/-- Every bit of a field that a write may change is open. -/
theorem openMask_bit {s : State} {f : Fld} (hev : isEvTable f.addr = false) (hm : f ∈ fieldsAt f.addr)
    (hacc : f.acc = .rw) (hf : f.Fits)
    {i : Nat} (hi : f.lo ≤ i ∧ i ≤ f.hi) : (openMask s f.addr).getLsbD i = true := by
  have ho : (openBits s f).getLsbD i = true := by simp [openBits, hacc, f.mask_bit hf, hi]
  rw [openMask, hev, if_neg Bool.false_ne_true, foldl_or_bit, List.any_eq_true.2 ⟨f, hm, ho⟩, Bool.or_true]

/-- A write of one open field, the other fields of whose register keep their values, arrives as it is. -/
theorem portWord_put {s : State} {f : Fld} (hev : isEvTable f.addr = false) (hm : f ∈ fieldsAt f.addr)
    (hacc : f.acc = .rw) (hf : f.Fits)
    (hc : ∀ g ∈ fieldsAt f.addr, g.acc ≠ .w1c) (v : Nat) :
    portWord s f.addr (f.put (s.word f.addr) v) = f.put (s.word f.addr) v := by
  have ho {i : Nat} := openMask_bit (s := s) hev hm hacc hf (i := i)
  rw [portWord, clearMask_zero hc]
  generalize openMask s f.addr = o at ho ⊢
  refine BitVec.eq_of_getLsbD_eq fun i hi => ?_
  have hp := f.put_bit hf (s.word f.addr) v i
  by_cases hin : f.lo ≤ i ∧ i ≤ f.hi
  · simp only [BitVec.getLsbD_and, BitVec.getLsbD_or, BitVec.getLsbD_not, ho hin]
    simp [hi]
  · rw [if_neg hin] at hp
    simp only [BitVec.getLsbD_and, BitVec.getLsbD_or, BitVec.getLsbD_not, hp]
    cases o.getLsbD i <;> simp [hi]

/-! ### Registers of a bar -/

/-- Where the registers of a bar lie. -/
structure BarAddr (n k a : Nat) : Prop where
  low : 0x80000 ≤ a
  high : a < 0x180000
  chan : (a - 0x80000) / 0x40000 = n
  off : (a - 0x80000) % 0x40000 = k
  chanOf : chanOf a = n
  chanOff : chanOff a = k
  word : a % 4 = k % 4

theorem barAddr (n : Fin 4) {k : Nat} (hk : k < 0x2000) : BarAddr n k (k + chBase n) := by
  have hn := n.isLt
  constructor <;> simp only [chanOf, chanOff, chBase] <;> omega

/-- The fields of a bar's register. -/
theorem fieldsAt_bar (n : Fin 4) {k : Nat} (hk : k < 0x2000) (h4 : k % 4 = 0) : fieldsAt (k + chBase n) = fieldsSNS n k := by
  have hb := barAddr n hk
  rw [fieldsAt, if_neg (not_not_intro (hb.word.trans h4)), if_neg (Nat.not_lt.2 hb.low), if_pos hb.high, hb.chan, hb.off,
    chFieldsAt, if_pos (Nat.lt_trans hk (by decide))]

/-- A write of a bar's register has no effect but on its word. -/
theorem regPut_bar (s : State) (n : Fin 4) {k : Nat} (hk : k < 0x2000) (w : Word) :
    regPut s (k + chBase n) w = s.setWord (k + chBase n) w := by
  have hb := barAddr n hk
  have hle (j : Nat) (hj : 0x2000 ≤ j) : ¬ j ≤ k := by omega
  have hne (j : Nat) (hj : 0x2000 ≤ j) : ¬ k = j := by omega
  have hd : driveReg (k + chBase n) = false := by
    have hlow : ¬ k + chBase n < 0x34000 := by have := hb.low; omega
    simp [driveReg, hb.chanOff, hle, hlow]
  rw [regPut, if_neg (Nat.not_lt.2 hb.low), chanPut, hb.chanOf, hb.chanOff]
  simp [LMP_CTL_OFF, POS_GEN_LOOP, POS_DIVCFG_SRC, POS_CMPCTL_EN, MOT_VSUP_EN, driveForward, hd, hle, hne]

/-- A write of one open field of a bar's register. -/
theorem fldWrite_bar (s : State) (n : Fin 4) {f : Fld} {k : Nat} (hk : k < 0x2000) (h4 : k % 4 = 0) (ha : f.addr = k + chBase n)
    (hm : f ∈ fieldsSNS n k) (hacc : f.acc = .rw) (hf : f.Fits) (hc : ∀ g ∈ fieldsSNS n k, g.acc ≠ .w1c) (v : Nat) :
    fldWrite s f v = s.wr f v := by
  have hev : isEvTable f.addr = false := by
    have hlow : ¬ k + chBase n < 0xC000 := by have := (barAddr n hk).low; omega
    simp [isEvTable, ha, hlow]
  have hfs : fieldsAt f.addr = fieldsSNS n k := ha ▸ fieldsAt_bar n hk h4
  rw [fldWrite, portPut, portWord_put hev (hfs ▸ hm) hacc hf (hfs ▸ hc), State.wr]
  rw [ha]
  exact regPut_bar s n hk _

/-- The length of a transaction and its spoiling, as the commands write them. -/
theorem fldWrite_spicmd (s : State) (n : Fin 4) (x len : Nat) :
    fldWrite (fldWrite s (SNS_SPICMD_NOSPOIL n) x) (SNS_SPICMD_LEN n) len =
      (s.wr (SNS_SPICMD_NOSPOIL n) x).wr (SNS_SPICMD_LEN n) len := by
  have hfs : fieldsSNS n 0x20 =
      [SNS_SPICMD_GO n, SNS_SPICMD_BUSY n, SNS_SPICMD_NOSPOIL n, SNS_SPICMD_ERR n, SNS_SPICMD_LEN n] := rfl
  have hc : ∀ g ∈ fieldsSNS n 0x20, g.acc ≠ .w1c := by
    simp [hfs, SNS_SPICMD_GO, SNS_SPICMD_BUSY, SNS_SPICMD_NOSPOIL, SNS_SPICMD_ERR, SNS_SPICMD_LEN]
  rw [fldWrite_bar s n (k := 0x20) (by decide) rfl rfl (by simp [hfs]) rfl (by simp [Fld.Fits, SNS_SPICMD_NOSPOIL]) hc,
    fldWrite_bar _ n (k := 0x20) (by decide) rfl rfl (by simp [hfs]) rfl (by simp [Fld.Fits, SNS_SPICMD_LEN]) hc]

/-- The lane of a spare, as the command writes it. -/
theorem fldWrite_spareLane (s : State) (n : Fin 4) (lane : Nat) :
    fldWrite s (SNS_SPARE_LANE n) lane = s.wr (SNS_SPARE_LANE n) lane := by
  have hfs : fieldsSNS n 0x14 =
      [SNS_SPARE_FORCE n, SNS_SPARE_LANE n, SNS_SPARE_V1 n, SNS_SPARE_FOR1 n, SNS_SPARE_V0 n, SNS_SPARE_FOR0 n] := rfl
  have hc : ∀ g ∈ fieldsSNS n 0x14, g.acc ≠ .w1c := by
    simp [hfs, SNS_SPARE_FORCE, SNS_SPARE_LANE, SNS_SPARE_V1, SNS_SPARE_FOR1, SNS_SPARE_V0, SNS_SPARE_FOR0]
  exact fldWrite_bar s n (k := 0x14) (by decide) rfl rfl (by simp [hfs]) rfl (by simp [Fld.Fits, SNS_SPARE_LANE]) hc _

/-! ## The port goes on (R78, R79) -/

/-- A transaction that starts shows in its channel and at the pins alone. -/
theorem spiStart_besides (s : State) (n : Nat) (f : SnsSt → SnsSt) (j : SpiJob) :
    (spiStart (s.modSns n f) n j).besides = s.besides := rfl

/-- So does what is sent next while the channel is not running. -/
theorem spiIdleNext_besides (s : State) (n : Nat) : (spiIdleNext s n).besides = s.besides := by
  unfold spiIdleNext
  extract_lets u
  split
  · rfl
  · split
    · exact spiStart_besides ..
    · split
      exacts [spiStart_besides .., rfl]

/-- So does what is sent next in a slot. -/
theorem spiSlotNext_besides (s : State) (n : Nat) : (spiSlotNext s n).besides = s.besides := by
  unfold spiSlotNext
  extract_lets u dv
  split
  · rfl
  · split
    · split
      exacts [spiStart_besides .., rfl]
    · split
      · extract_lets t
        split
        exacts [spiStart_besides .., rfl]
      · split
        · split
          exacts [spiStart_besides .., rfl]
        · rfl

/-- A write of a bar's register does not tell which channels run. -/
theorem State.running_wr_bar (s : State) {f : Fld} {k m : Nat} (hf : f.addr = k + chBase m) (v n : Nat) :
    (s.wr f v).running n = s.running n := by
  have hne : GLB_CHSTAT_RUNNING.addr ≠ f.addr := by
    rw [hf]
    simp only [GLB_CHSTAT_RUNNING, chBase]
    omega
  rw [State.running, State.rd_wr_far s hne, State.running]

/-- A host transaction that was sent at once ends. -/
theorem spiDone_host {s : State} {n : Nat} {tx : SpiTx} (miso : Nat)
    (hj : (s.ch n).sns.job = some { tx := tx, src := .host, slotOf := none }) : spiDone s n miso = spiIdleNext
      (((s.wr (SNS_SPIRD_DATA n) (miso % 2 ^ tx.len)).modSns n fun u => { u with job := none }).wr (SNS_SPICMD_BUSY n) 0) n := by
  rw [spiDone, hj]
  rfl

/-- A transaction of a wrong length fails. -/
theorem spiGo_badLength {s : State} {n len : Nat} (nospoil : Bool) (hbusy : s.rb (SNS_SPICMD_BUSY n) = false)
    (hlen : spiLenOk len = false) : spiGo s n nospoil len = spiError s n := by
  simp [spiGo, hbusy, hlen]

/-- The transaction that the host asks for. -/
def hostTx (s : State) (n : Nat) (nospoil : Bool) (len : Nat) : SpiTx :=
  { data := s.rd (SNS_SPIWD_DATA n), expect := 0, mask := 0, len := len, compare := false, nospoil := nospoil }

/-- A transaction goes out at once on an idle port of a bar that is READY, while its channel does not run. -/
theorem spiGo_sent {s : State} {n len : Nat} (nospoil : Bool) (hbusy : s.rb (SNS_SPICMD_BUSY n) = false)
    (hlen : spiLenOk len = true) (h5 : s.rd (SNS_STAT_STATE n) = 5) (hrun : s.running n = false) (hjob : (s.ch n).sns.job = none) : spiGo s n nospoil len =
      spiStart ((s.wr (SNS_SPICMD_BUSY n) 1).wr (SNS_SPICMD_ERR n) 0) n
        { tx := hostTx s n nospoil len, src := .host, slotOf := none } := by
  have hr : ((s.wr (SNS_SPICMD_BUSY n) 1).wr (SNS_SPICMD_ERR n) 0).running n = false := by
    rw [State.running_wr_bar _ (k := 0x20) rfl, State.running_wr_bar _ (k := 0x20) rfl, hrun]
  rw [spiGo, if_neg (by simp [hbusy])]
  extract_lets ok t u
  rw [if_neg (by simp [ok, snsReady, snsState, h5, hlen]), if_neg (by simp [u, hr]), if_neg (by simp [u, hjob])]
  rfl

/-- The slot of the newest line opens while the channel runs. -/
theorem spiSlot_newest {s : State} {n : Nat} {l : LineRec} (hrun : s.running n = true)
    (hl : (s.ch n).pipe.lines.getLast? = some l) :
    spiSlot s n = spiSlotNext (s.modSns n fun u =>
      { u with slotTrig := some l.trig, slotLeft := l.sched.slotEnd - l.sched.slotStart, slotSteers := u.steerWait.length }) n := by
  rw [spiSlot, if_neg (by simp [hrun]), hl]

/-- A steer for a lane joins those that wait where a spare is free. -/
theorem spareForLane_free {s : State} {n lane k : Nat} {lasting : Bool} (hk : freeSpare s n = some k) :
    spareForLane s n lane lasting = spiIdleNext (s.modSns n fun u => { u with steerWait := u.steerWait ++ [(lane, k)] }) n := by
  rw [spareForLane, hk]

/-- A command after which a transaction may be sent. -/
theorem next_sent {s t u v : State} (h : Quiet s) (e : u = t) (hb : t.besides = v.besides) (he : v.evq = s.evq)
    (hu : v.umd = s.umd) :
    Host.Outcome.next (finish u) = (.next t : Host.Outcome State Fault Refusal) :=
  next_finish h e ((State.evq_of_besides hb).trans he) ((State.umd_of_besides hb).trans hu)

/-! ## The obligation -/

/-- Settles O15, from what the commands write of their registers and what the port sends next. -/
theorem sensorSpiSendsItsTransactions : Obligations.SensorSpiSendsItsTransactions := by
  unfold Obligations.SensorSpiSendsItsTransactions
  intro s n hwf
  refine ⟨fun nospoil len hbusy => ?_, fun miso tx hq hj => ?_, fun l hq hrun hl => ?_,
    fun lane hq => ⟨fun hk => ?_, fun k hk => ?_⟩⟩
  · intro t
    have hfld : fldWrite (fldWrite s (SNS_SPICMD_NOSPOIL n) (b2n nospoil)) (SNS_SPICMD_LEN n) len = t := fldWrite_spicmd ..
    have hfar {g : Fld} (hg : g.addr ≠ 0x20 + chBase n) : t.rd g = s.rd g :=
      (State.rd_wr_far _ hg _).trans (State.rd_wr_far _ hg _)
    have hbusy' : t.rb (SNS_SPICMD_BUSY n) = false := by
      have hb : (SNS_SPICMD_BUSY n).Fits := by simp [Fld.Fits, SNS_SPICMD_BUSY]
      rw [State.rb, State.rd_wr_apart (hwf.wr ..) (by simp [Fld.Fits, SNS_SPICMD_LEN]) hb
        (.inr (by simp [SNS_SPICMD_LEN, SNS_SPICMD_BUSY])), State.rd_wr_apart hwf (by simp [Fld.Fits, SNS_SPICMD_NOSPOIL]) hb
        (.inr (by simp [SNS_SPICMD_NOSPOIL, SNS_SPICMD_BUSY]))]
      exact hbusy
    refine ⟨fun hq hlen h5 hrun hjob => ?_, fun hlen => ?_⟩
    · have hrun' : t.running n = false :=
        ((State.running_wr_bar _ (k := 0x20) rfl ..).trans (State.running_wr_bar _ (k := 0x20) rfl ..)).trans hrun
      have hsent := spiGo_sent nospoil hbusy' hlen ((hfar (by simp [SNS_STAT_STATE])).trans h5) hrun' hjob
      have hport {g : Fld} (hg : g.addr ≠ 0x20 + chBase n) :
          ((t.wr (SNS_SPICMD_BUSY n) 1).wr (SNS_SPICMD_ERR n) 0).rd g = s.rd g :=
        ((State.rd_wr_far _ hg _).trans (State.rd_wr_far _ hg _)).trans (hfar hg)
      rw [spiStart, hostTx, hfar (by simp [SNS_SPIWD_DATA]), hport (by simp [SNS_CFG_SPIMODE]),
        hport (by simp [SNS_CFG_SPIDIV])] at hsent
      exact next_finish hq ((congrArg (spiGo · n nospoil len) hfld).trans hsent) rfl rfl
    · exact congrArg (fun u => Host.Outcome.next (finish u)) ((congrArg (spiGo · n nospoil len) hfld).trans
        (spiGo_badLength nospoil hbusy' hlen))
  · exact next_sent hq (spiDone_host _ hj) (spiIdleNext_besides ..) rfl rfl
  · exact next_sent hq (spiSlot_newest hrun hl) (spiSlotNext_besides ..) rfl rfl
  · have he : spareForLane (s.wr (SNS_SPARE_LANE n) lane) n lane false = s.wr (SNS_SPARE_LANE n) lane := by
      rw [spareForLane, hk]
      rfl
    exact next_finish hq ((congrArg (spareForLane · n lane false) (fldWrite_spareLane ..)).trans he) rfl rfl
  · exact next_sent hq ((congrArg (spareForLane · n lane false) (fldWrite_spareLane ..)).trans (spareForLane_free hk))
      (spiIdleNext_besides ..) rfl rfl

end Sys2Proof.Machine
end

section
/-! PROOFS. The pixel pipeline: tiles that pass or are recomputed, the profile window and its swaps, and tests of the spare slice. -/

namespace Sys2Proof.Machine

/-- The end of a command follows what its operation makes. -/
theorem next_finish_congr {s t : State} (e : s = t) :
    (.next (finish s) : Host.Outcome State Fault Refusal) = .next (finish t) := by rw [e]

/-! ## A write of one field of a pipeline register (R385, R402) -/

/-- Where the registers of a pipeline lie. -/
theorem pipeAddr (n : Fin 4) {k : Nat} (hk : k < 0x8000) : BarAddr n k (k + chBase n) := by
  have hn := n.isLt
  constructor <;> simp only [chanOf, chanOff, chBase] <;> omega

/-- The fields of a pipeline register. -/
theorem fieldsAt_pipe (n : Fin 4) {k : Nat} (hlo : 0x4000 ≤ k) (hk : k < 0x8000) (h4 : k % 4 = 0) :
    fieldsAt (k + chBase n) = fieldsPIPE n (k - 0x4000) := by
  have hb := pipeAddr n hk
  rw [fieldsAt, if_neg (not_not_intro (hb.word.trans h4)), if_neg (Nat.not_lt.2 hb.low), if_pos hb.high, hb.chan, hb.off,
    chFieldsAt, if_neg (Nat.not_lt.2 hlo), if_pos hk]

/-- A write of a pipeline register has no effect but on its word. -/
theorem regPut_pipe (s : State) (n : Fin 4) {k : Nat} (hk : k < 0x8000) (w : Word) :
    regPut s (k + chBase n) w = s.setWord (k + chBase n) w := by
  have hb := pipeAddr n hk
  have hle (j : Nat) (hj : 0x8000 ≤ j) : ¬ j ≤ k := by omega
  have hne (j : Nat) (hj : 0x8000 ≤ j) : ¬ k = j := by omega
  have hd : driveReg (k + chBase n) = false := by
    have hlow : ¬ k + chBase n < 0x34000 := by have := hb.low; omega
    simp [driveReg, hb.chanOff, hle, hlow]
  rw [regPut, if_neg (Nat.not_lt.2 hb.low), chanPut, hb.chanOf, hb.chanOff]
  simp [LMP_CTL_OFF, POS_GEN_LOOP, POS_DIVCFG_SRC, POS_CMPCTL_EN, MOT_VSUP_EN, driveForward, hd, hle, hne]

/-- A write of one open field of a pipeline register. -/
theorem fldWrite_pipe (s : State) (n : Fin 4) {f : Fld} {k : Nat} (hlo : 0x4000 ≤ k) (hk : k < 0x8000) (h4 : k % 4 = 0)
    (ha : f.addr = k + chBase n) (hm : f ∈ fieldsPIPE n (k - 0x4000)) (hacc : f.acc = .rw) (hf : f.Fits)
    (hc : ∀ g ∈ fieldsPIPE n (k - 0x4000), g.acc ≠ .w1c) (v : Nat) : fldWrite s f v = s.wr f v := by
  have hev : isEvTable f.addr = false := by
    have hlow : ¬ k + chBase n < 0xC000 := by have := (pipeAddr n hk).low; omega
    simp [isEvTable, ha, hlow]
  have hfs : fieldsAt f.addr = fieldsPIPE n (k - 0x4000) := ha ▸ fieldsAt_pipe n hlo hk h4
  rw [fldWrite, portPut, portWord_put hev (hfs ▸ hm) hacc hf (hfs ▸ hc), State.wr, ha]
  exact regPut_pipe s n hk _

/-- SWVALID, as a request for a swap writes it. -/
theorem fldWrite_swvalid (s : State) (n : Fin 4) (v : Nat) :
    fldWrite s (PIPE_CTL_SWVALID n) v = s.wr (PIPE_CTL_SWVALID n) v := by
  have hfs : fieldsPIPE n 0x4 = [PIPE_CTL_SWAP n, PIPE_CTL_SWVALID n, PIPE_CTL_CLRCNT n, PIPE_CTL_RDSH n] := rfl
  have hc : ∀ g ∈ fieldsPIPE n 0x4, g.acc ≠ .w1c := by
    simp [hfs, PIPE_CTL_SWAP, PIPE_CTL_SWVALID, PIPE_CTL_CLRCNT, PIPE_CTL_RDSH]
  exact fldWrite_pipe s n (k := 0x4004) (by decide) (by decide) rfl rfl (by simp [hfs]) rfl (by simp [Fld.Fits, PIPE_CTL_SWVALID]) hc v

/-- The slice that a forced spare is to serve, as the command writes it. -/
theorem fldWrite_spareSlice (s : State) (n : Fin 4) (m : Nat) :
    fldWrite s (PIPE_SPARE_SLICE n) m = s.wr (PIPE_SPARE_SLICE n) m := by
  have hfs : fieldsPIPE n 0xC =
      [PIPE_SPARE_FORCE n, PIPE_SPARE_SLICE n, PIPE_SPARE_V n, PIPE_SPARE_FOR n, PIPE_SPARE_KATOK n, PIPE_SPARE_SPFLT n] := rfl
  have hc : ∀ g ∈ fieldsPIPE n 0xC, g.acc ≠ .w1c := by
    simp [hfs, PIPE_SPARE_FORCE, PIPE_SPARE_SLICE, PIPE_SPARE_V, PIPE_SPARE_FOR, PIPE_SPARE_KATOK, PIPE_SPARE_SPFLT]
  exact fldWrite_pipe s n (k := 0x400C) (by decide) (by decide) rfl rfl (by simp [hfs]) rfl (by simp [Fld.Fits, PIPE_SPARE_SLICE]) hc m

/-! ## Verdicts and recomputed tiles (R105 to R109) -/

/-- The tile of a line as it has been computed, with its phase. -/
def computedTile (p : PipeSt) (l : LineRec) (m t : Nat) (us : List Upset) : TileSt :=
  { slice := m, tile := t, vals := (tileCompute p l m t us).1, phase := .done, shdFail := false }

section
variable {s : State} {n m t : Nat} {us : List Upset} {l : LineRec}

/-- A tile with sound entries that passes is kept as it was computed, and nothing is raised. -/
theorem tileVerdict_passed (hl : verdictLine (s.ch n).pipe m t = some l)
    (hb : ((s.ch n).pipe.badShd.contains (m, t, l.gains.bank) && l.gains.pvalid) = false)
    (hp : (tileCompute (s.ch n).pipe l m t us).2 = true) :
    tileVerdict s n m t us false 0 =
      modLine (setLag s n (physSlice l m) (lagNow (s.ch n).pipe (physSlice l m) s.now 192) 0) n l.trig fun x =>
        setTile x (computedTile (s.ch n).pipe l m t us) := by
  simp only [tileVerdict, hl, hb, hp, Bool.false_eq_true, if_false, if_true, OfNat.zero_ne_ofNat]
  rfl

/-- One that fails is raised, and is recomputed if the lag allows it. -/
theorem tileVerdict_failed (hl : verdictLine (s.ch n).pipe m t = some l)
    (hb : ((s.ch n).pipe.badShd.contains (m, t, l.gains.bank) && l.gains.pvalid) = false)
    (hp : (tileCompute (s.ch n).pipe l m t us).2 = false) :
    tileVerdict s n m t us false 0 = recomputeOrSkip (residueEvent s n l m t) n l (computedTile (s.ch n).pipe l m t us)
      (physSlice l m) (lagNow (s.ch n).pipe (physSlice l m) s.now 192) := by
  simp only [tileVerdict, hl, hb, hp, Bool.false_eq_true, if_false, OfNat.zero_ne_ofNat]
  rfl

/-- A recomputed tile that passes is kept; its line counts it and carries RECOMP. -/
theorem tileRecomputeDone_passed (hl : recomputeLine (s.ch n).pipe m t = some l)
    (hp : (tileCompute (s.ch n).pipe l m t us).2 = true) :
    tileRecomputeDone s n m t us false 0 =
      modLine (modLine s n l.trig fun x =>
        { setTile x (computedTile (s.ch n).pipe l m t us) with recN := x.recN + 1 }) n l.trig fun x => { x with recomp := true } := by
  simp only [tileRecomputeDone, hl, hp, Bool.false_eq_true, if_false, if_true, OfNat.zero_ne_ofNat]
  rfl

/-- A failed tile waits for its recomputation while the lag of its slice allows it. -/
theorem recomputeOrSkip_within {tile : TileSt} {ph lag : Nat} (h : lag + 192 ≤ 3072) :
    recomputeOrSkip s n l tile ph lag =
      modLine ((setLag s n ph (lag + 192) 64).bump (PIPE_RECOMP_TILES n)) n l.trig fun x =>
        setTile x { tile with phase := .recomputing } := if_pos h

/-- The lag of a slice shows in one register. -/
theorem setLag_rd_far {ph v ns : Nat} {f : Fld} (hf : f.addr ≠ (PIPE_LAG_MAX n).addr) : (setLag s n ph v ns).rd f = s.rd f :=
  (State.rd_wr_far _ hf _).trans (State.modPipe_rd ..)

/-- The failure of a tile is counted in one register. -/
theorem residueEvent_rd_far {f : Fld} (hf : f.addr ≠ (PIPE_RESERR_COUNT n (physSlice l m)).addr) :
    (residueEvent s n l m t).rd f = s.rd f :=
  (State.raise_rd ..).trans (State.rd_wr_far _ hf _)

theorem setLag_lines {ph v ns : Nat} : ((setLag s n ph v ns).ch n).pipe.lines = (s.ch n).pipe.lines := by
  rw [setLag, State.peak_ch, State.modPipe_ch_same]

theorem modLine_lines {trig : Nat} {f : LineRec → LineRec} :
    ((modLine s n trig f).ch n).pipe.lines = (s.ch n).pipe.lines.map fun x => if x.trig = trig then f x else x := by
  rw [modLine, State.modPipe_ch_same]

/-- A failed tile within the lag is counted for its slice and as recomputed, is raised, and waits. -/
theorem tileVerdict_recomputed (h : RegsWf s) (hl : verdictLine (s.ch n).pipe m t = some l)
    (hb : ((s.ch n).pipe.badShd.contains (m, t, l.gains.bank) && l.gains.pvalid) = false)
    (hp : (tileCompute (s.ch n).pipe l m t us).2 = false)
    (hlag : lagNow (s.ch n).pipe (physSlice l m) s.now 192 + 192 ≤ 3072) :
    let t' := tileVerdict s n m t us false 0
    let count := PIPE_RESERR_COUNT n (physSlice l m)
    t'.rd count = min (s.rd count + 1) (2 ^ count.width - 1) ∧
    t'.rd (PIPE_RECOMP_TILES n) = min (s.rd (PIPE_RECOMP_TILES n) + 1) (2 ^ (PIPE_RECOMP_TILES n).width - 1) ∧
    t'.evq = s.evq ++ [(((ev (EV_PIPE_RESIDUE n)).at_ 2 (physSlice l m)).line_ l.info.line).detail_ (t * 256 + m)] ∧
    (t'.ch n).pipe.lines = (s.ch n).pipe.lines.map fun x =>
      if x.trig = l.trig then setTile x { computedTile (s.ch n).pipe l m t us with phase := .recomputing } else x := by
  intro t' count
  have ht : t' = _ := (tileVerdict_failed hl hb hp).trans (recomputeOrSkip_within hlag)
  have hres : (residueEvent s n l m t).rd count = min (s.rd count + 1) (2 ^ count.width - 1) :=
    (State.raise_rd ..).trans (State.rd_bump_same h (by simp [Fld.Fits, PIPE_RESERR_COUNT]))
  have hwf : RegsWf (setLag (residueEvent s n l m t) n (physSlice l m) (lagNow (s.ch n).pipe (physSlice l m) s.now 192 + 192) 64) :=
    (((h.bump _).raise _).modPipe _ _).peak _ _
  refine ⟨?_, ?_, ?_, ?_⟩
  · rw [ht, modLine, State.modPipe_rd]
    exact (State.rd_wr_far _ (by simp only [count, PIPE_RESERR_COUNT, PIPE_RECOMP_TILES]; omega) _).trans
      ((setLag_rd_far (by simp only [count, PIPE_RESERR_COUNT, PIPE_LAG_MAX]; omega)).trans hres)
  · rw [ht, modLine, State.modPipe_rd, State.rd_bump_same hwf (by simp [Fld.Fits, PIPE_RECOMP_TILES]),
      setLag_rd_far (by simp [PIPE_RECOMP_TILES, PIPE_LAG_MAX]),
      residueEvent_rd_far (by simp only [PIPE_RESERR_COUNT, PIPE_RECOMP_TILES]; omega)]
  · rw [ht]
    rfl
  · rw [ht, modLine_lines, State.bump_ch, setLag_lines]
    rfl

end

/-- Settles O16, from what a verdict and a recomputation make of a tile. -/
theorem tilesPassOrAreRecomputed : Obligations.TilesPassOrAreRecomputed := by
  unfold Obligations.TilesPassOrAreRecomputed
  intro s n m t us l hwf
  refine ⟨fun hl hb => ⟨fun hq hp => ?_, fun hp hlag => ?_⟩, fun hq hl hp => ?_, fun hq => ?_⟩
  · exact next_finish hq (tileVerdict_passed hl hb hp) rfl rfl
  · exact ⟨_, rfl, tileVerdict_recomputed hwf hl hb hp hlag⟩
  · exact next_finish hq (tileRecomputeDone_passed hl hp) rfl rfl
  · exact next_finish hq (u := shadingReload s n m t) rfl rfl rfl

/-! ## The shadow profile (R102, R103, R238) -/

section
variable {s : State} {n : Nat}

/-- A shut shadow profile takes no word. -/
theorem profileWrite_busy (h : shadowBusy s n (profStage s n) = true) (off : Nat) (w : Word) :
    profileWrite s n off w = s.raise (ev (EV_PIPE_SHD_BUSY n)) := if_pos h

theorem profileWrite_free (h : shadowBusy s n (profStage s n) = false) (off : Nat) (w : Word) :
    profileWrite s n off w = shadowWrite s n off (leBytes 4 w.toNat) := if_neg (by simp [h])

/-- A shut shadow profile is not swapped either. -/
theorem swapRequest_busy (h : shadowBusy s n (profStage s n) = true) :
    swapRequest s n = s.raise (ev (EV_PIPE_SHD_BUSY n)) := if_pos h

/-- A swap waits, with the SWVALID of its request. -/
theorem swapRequest_waits (h : shadowBusy s n (profStage s n) = false) (hp : s.rb (PIPE_STAT_SWPEND n) = false) :
    swapRequest s n =
      (s.modPipe n fun p => { p with swapPend := some (s.rb (PIPE_CTL_SWVALID n), s.now) }).wr (PIPE_STAT_SWPEND n) 1 := by
  rw [swapRequest, if_neg (by simp [h]), if_neg (by simp [hp])]

/-- A waiting swap takes effect on a channel that does not run. -/
theorem swapIdle_applies (hr : s.running n = false) {v : Bool} {at_ : Nat} (hp : (s.ch n).pipe.swapPend = some (v, at_)) :
    swapIdle s n = ((profileSwap s n v).modPipe n fun p => { p with swapPend := none }).wr (PIPE_STAT_SWPEND n) 0 := by
  simp [swapIdle, hp, hr]

end

/-- SWVALID reads as it was written. -/
theorem rb_wr_swvalid {s : State} (h : RegsWf s) (n : Nat) (v : Bool) :
    (s.wr (PIPE_CTL_SWVALID n) (b2n v)).rb (PIPE_CTL_SWVALID n) = v := by
  rw [State.rb, State.rd_wr_same h (by simp [Fld.Fits, PIPE_CTL_SWVALID])]
  cases v <;> rfl

/-- Settles O18, from what writes, requests and swaps make of a shadow profile that is free or shut. -/
theorem profileWindowAndSwaps : Obligations.ProfileWindowAndSwaps := by
  unfold Obligations.ProfileWindowAndSwaps
  intro s n hwf
  refine ⟨fun off w => ⟨fun hq hfree => ?_, fun hbusy => ?_⟩, fun v => ?_, fun v at_ hq hrun hpend => ?_⟩
  · exact next_finish hq (profileWrite_free hfree off w) rfl rfl
  · exact next_finish_congr (profileWrite_busy hbusy off w)
  · intro t
    have hfld : fldWrite s (PIPE_CTL_SWVALID n) (b2n v) = t := fldWrite_swvalid ..
    refine ⟨fun hq hfree hpend => ?_, fun hbusy => ?_⟩
    · have hpend' : t.rb (PIPE_STAT_SWPEND n) = false := by
        rw [State.rb, State.rd_wr_far _ (by simp [PIPE_STAT_SWPEND, PIPE_CTL_SWVALID])]
        exact hpend
      have hwaits := swapRequest_waits hfree hpend'
      rw [rb_wr_swvalid hwf] at hwaits
      exact next_finish hq ((congrArg (swapRequest · n) hfld).trans hwaits) rfl rfl
    · exact next_finish_congr ((congrArg (swapRequest · n) hfld).trans (swapRequest_busy hbusy))
  · exact next_finish hq (swapIdle_applies hrun hpend) rfl rfl

/-! ## Tests of the spare slice (R114) -/

section
variable {s : State} {n : Nat}

/-- The timer begins a test of a spare that waits untested. -/
theorem katTimer_begins (hb : spareBusy s n = false) (hk : (s.ch n).pipe.kat = none) :
    katTimer s n = s.modPipe n fun p => { p with kat := some (.waiting, false) } := by
  simp [katTimer, hb, hk]

/-- The waiting spare passes its test. -/
theorem katDone_passed_waiting {again : Bool} (hk : (s.ch n).pipe.kat = some (.waiting, again)) :
    katDone s n true = (s.wr (PIPE_SPARE_KATOK n) 1).modPipe n fun p => { p with kat := none } := by
  rw [katDone, hk]
  rfl

/-- A spare that passes its test for a slice is to serve it. -/
theorem katDone_passed_slice {u : KatUse} {m : Nat} {again : Bool} (hu : u = .force m ∨ u = .lasting m)
    (hk : (s.ch n).pipe.kat = some (u, again)) :
    katDone s n true = ((s.wr (PIPE_SPARE_KATOK n) 1).modPipe n fun p => { p with kat := none }).modPipe n fun p =>
      { p with spareIn := some { slice := m, at_ := s.now, eff := none } } := by
  rw [katDone, hk]
  rcases hu with rfl | rfl <;> rfl

/-- A first failure repeats the test. -/
theorem katDone_failed_first {u : KatUse} (hk : (s.ch n).pipe.kat = some (u, false)) :
    katDone s n false = s.modPipe n fun p => { p with kat := some (u, true) } := by
  rw [katDone, hk]
  rfl

end

/-- The spare is out of order: KATOK and SPFLT tell it, and no test runs. -/
def spareFailed (s : State) (n : Nat) : State :=
  ((s.wr (PIPE_SPARE_KATOK n) 0).wr (PIPE_SPARE_SPFLT n) 1).modPipe n fun p => { p with kat := none }

/-- A second failure of the waiting spare puts it out of order, and is raised. -/
theorem katDone_failed_again {s : State} {n : Nat} (hk : (s.ch n).pipe.kat = some (.waiting, true)) :
    katDone s n false = ((spareFailed s n).wr (PIPE_STAT_SLFLT n)
      (withBit ((spareFailed s n).rd (PIPE_STAT_SLFLT n)) 8 true)).raise ((ev (EV_PIPE_SPARE_KAT n)).at_ 2 8) := by
  rw [katDone, hk]
  rfl

theorem spareFailed_rd {s : State} (h : RegsWf s) (n : Nat) :
    (spareFailed s n).rd (PIPE_SPARE_KATOK n) = 0 ∧ (spareFailed s n).rd (PIPE_SPARE_SPFLT n) = 1 := by
  have hk : (PIPE_SPARE_KATOK n).Fits := by simp [Fld.Fits, PIPE_SPARE_KATOK]
  have hf : (PIPE_SPARE_SPFLT n).Fits := by simp [Fld.Fits, PIPE_SPARE_SPFLT]
  rw [spareFailed, State.modPipe_rd, State.modPipe_rd, State.rd_wr_same (h.wr ..) hf,
    State.rd_wr_apart (h.wr ..) hf hk (.inr (by simp [PIPE_SPARE_KATOK, PIPE_SPARE_SPFLT])), State.rd_wr_same h hk]
  exact ⟨Nat.zero_mod _, rfl⟩

/-- A field of several bits holds a bit that has been set in it. -/
theorem State.bit_wr_withBit {s : State} (h : RegsWf s) {f : Fld} (hf : f.Fits) (v : Nat) {i : Nat} (hi : i < f.width) :
    bit ((s.wr f (withBit v i true)).rd f) i = true := by
  rw [State.rd_wr_same h hf, bit_eq_testBit, Nat.testBit_mod_two_pow, decide_eq_true hi, Bool.true_and, ← bit_eq_testBit,
    bit_withBit, if_pos rfl]

/-- Settles O19, from what the timer, the host and the end of a test make of the spare. -/
theorem spareSliceIsTestedAndForced : Obligations.SpareSliceIsTestedAndForced := by
  unfold Obligations.SpareSliceIsTestedAndForced
  intro s n hwf
  refine ⟨fun hq hb hk => ?_, fun m hq => ?_, fun again hq hk => ?_, fun m u again hq hu hk => ?_, fun u hq hk => ?_, fun hk => ?_⟩
  · exact next_finish hq (katTimer_begins hb hk) rfl rfl
  · intro t
    have hforce : sliceForce (fldWrite s (PIPE_SPARE_SLICE n) m) n m = sliceForce t n m :=
      congrArg (sliceForce · n m) (fldWrite_spareSlice ..)
    unfold sliceForce at hforce
    exact next_finish hq hforce (by split <;> rfl) (by split <;> rfl)
  · exact next_finish hq (katDone_passed_waiting hk) rfl rfl
  · exact next_finish hq (katDone_passed_slice hu hk) rfl rfl
  · exact next_finish hq (katDone_failed_first hk) rfl rfl
  · obtain ⟨hkatok, hspflt⟩ := spareFailed_rd hwf n
    have hwf' : RegsWf (spareFailed s n) := ((hwf.wr _ _).wr _ _).modPipe _ _
    refine ⟨_, next_finish_congr (katDone_failed_again hk), ?_, ?_, ?_, ?_, rfl⟩
    · rw [State.raise_rd, State.rd_wr_far _ (by simp [PIPE_SPARE_KATOK, PIPE_STAT_SLFLT]), hkatok]
    · rw [State.raise_rd, State.rd_wr_far _ (by simp [PIPE_SPARE_SPFLT, PIPE_STAT_SLFLT]), hspflt]
    · rw [State.raise_rd]
      exact State.bit_wr_withBit hwf' (by simp [Fld.Fits, PIPE_STAT_SLFLT]) _ (by simp [Fld.width, PIPE_STAT_SLFLT])
    · rw [State.raise_ch, State.wr_ch, spareFailed, State.modPipe_ch_same]

end Sys2Proof.Machine
end

section
/-! PROOFS. Lamps: what the lamp controller's operations change, and what each of them leaves as it is. -/

namespace Sys2Proof.Machine

/-! ## What shows and what goes to the drive die -/

/-- LMP_n_STAT shows in one register. -/
theorem Wrote.showLamp {s t : State} {may : Nat → Prop} {n : Nat} (h : Wrote s t may) (ha : may (LMP_STAT_MODE n).addr) :
    Wrote s (showLamp t n) may :=
  Wrote.wr (f := LMP_STAT_ON n) (.wr (f := LMP_STAT_INTMARK n) (.wr (f := LMP_STAT_PEND n) (.wr (f := LMP_STAT_DERATING n)
    (.wr (f := LMP_STAT_FADING n) (.wr (f := LMP_STAT_MODE n) h _ ha) _ ha) _ ha) _ ha) _ ha) _ ha

@[simp] theorem showLamp_ch (s : State) (n m : Nat) : (showLamp s n).ch m = s.ch m := State.ch_congr rfl m

/-- Fields of every other register read as before. -/
theorem showLamp_rd_far {s : State} (h : RegsWf s) {n : Nat} {f : Fld} (hf : f.addr ≠ (LMP_STAT_MODE n).addr) :
    (showLamp s n).rd f = s.rd f :=
  State.rd_congr f (Wrote.words (Wrote.showLamp (may := (· = (LMP_STAT_MODE n).addr)) (.refl h) rfl) _ hf)

/-- What goes to the drive die changes nothing else. -/
theorem driveForward_rest (s : State) (a : Nat) : driveForward s a = { s with drv := (driveForward s a).drv } := by
  unfold driveForward
  split <;> rfl

theorem driveSet_rest (s : State) (a : Nat) : driveSet s a = { s with drv := (driveSet s a).drv } := by
  unfold driveSet
  split <;> rfl

/-! ## Sinks -/

section
variable {s : State} {n i : Nat} {f : SinkSt → SinkSt}

/-- A sink that is not as at reset has an entry in its channel's list. -/
theorem lt_sinks_of_sinkOf_ne (h : sinkOf s n i ≠ SinkSt.init) : i < (s.ch n).lmp.sinks.length := by
  by_contra hi
  exact h (List.getD_eq_default _ _ (Nat.not_lt.1 hi))

theorem modSink_sinks (s : State) (n i : Nat) (f : SinkSt → SinkSt) :
    ((modSink s n i f).ch n).lmp.sinks = (s.ch n).lmp.sinks.modify i f := by rw [modSink, State.modLmp_ch_same]

theorem sinkOf_modSink_same (h : i < (s.ch n).lmp.sinks.length) : sinkOf (modSink s n i f) n i = f (sinkOf s n i) := by
  simp [sinkOf, modSink_sinks, h]

theorem sinkOf_modSink_other {j : Nat} (h : j ≠ i) : sinkOf (modSink s n i f) n j = sinkOf s n j := by
  simp [sinkOf, modSink_sinks, h.symm]

/-- What an update keeps of a sink, it keeps of every sink of the channel. -/
theorem sinkOf_modSink_keep {α : Type} (g : SinkSt → α) (h : ∀ k, g (f k) = g k) (j : Nat) :
    g (sinkOf (modSink s n i f) n j) = g (sinkOf s n j) := by
  by_cases hj : j = i
  · subst hj
    by_cases hl : j < (s.ch n).lmp.sinks.length
    · rw [sinkOf_modSink_same hl, h]
    · simp [sinkOf, modSink_sinks, hl]
  · rw [sinkOf_modSink_other hj]

end

/-! ## The frame of a channel's lamp operations -/

/-- A register of the lamp controller lies among those of its channel's block. -/
theorem inLamp (n k : Nat) (hlo : 0x10000 ≤ k) (hk : k < 0x14000) : inChan n 0x10000 0x14000 (k + chBase n) := by
  unfold inChan
  omega

theorem lvNow_inLamp (n g : Nat) : inChan n 0x10000 0x14000 (lvNow n g).addr := by
  unfold lvNow
  split <;> exact inLamp n _ (by decide) (by decide)

theorem holdReg_inLamp (n g : Nat) : inChan n 0x10000 0x14000 (holdReg n g).addr := by
  unfold holdReg
  split <;> exact inLamp n _ (by decide) (by decide)

/-- What the lamp controller of a channel does: it writes its own block, changes no other channel, sends nothing, and keeps the count
of its diagnosis marks. -/
structure LampWork (n : Fin 4) (s t : State) : Prop where
  words : SameWords s t (inChan n 0x10000 0x14000)
  now : t.now = s.now
  outbox : t.outbox = s.outbox
  ldLow : t.ldLow = s.ldLow
  others : ∀ m : Fin 4, m ≠ n → t.ch m = s.ch m
  marks : (t.ch n).lmp.diagCount = (s.ch n).lmp.diagCount

namespace LampWork

section
variable {n : Fin 4} {s t u : State} {i g v c a need t0 k : Nat}

theorem refl (n : Fin 4) (s : State) : LampWork n s s := ⟨SameWords.refl s _, rfl, rfl, rfl, fun _ _ => rfl, rfl⟩

theorem congr (h : LampWork n s t) (hr : u.regs = t.regs) (hn : u.now = t.now) (ho : u.outbox = t.outbox)
    (hl : u.ldLow = t.ldLow) (hc : u.chans = t.chans) : LampWork n s u where
  words := fun b hb => (State.word_congr hr b).trans (h.words b hb)
  now := hn.trans h.now
  outbox := ho.trans h.outbox
  ldLow := hl.trans h.ldLow
  others := fun m hm => (State.ch_congr hc m).trans (h.others m hm)
  marks := by rw [State.ch_congr hc, h.marks]

theorem ite {p : Prop} [Decidable p] (ht : LampWork n s t) (hu : LampWork n s u) : LampWork n s (if p then t else u) := by
  split <;> assumption

theorem iterate {f : State → Nat → State} (h : LampWork n s t) (hf : ∀ u i, LampWork n s u → LampWork n s (f u i)) :
    LampWork n s (iterate k t f) :=
  List.foldlRecOn _ f h fun _ hu i _ => hf _ i hu

theorem wr (h : LampWork n s t) {f : Fld} (ha : inChan n 0x10000 0x14000 f.addr) : LampWork n s (t.wr f v) where
  words := h.words.trans (SameWords.wr t f v ha)
  now := h.now
  outbox := h.outbox
  ldLow := h.ldLow
  others := h.others
  marks := h.marks

theorem raise {r : Raise} (h : LampWork n s t) : LampWork n s (t.raise r) := h.congr rfl rfl rfl rfl rfl

theorem raiseIf {b : Bool} {r : Raise} (h : LampWork n s t) : LampWork n s (t.raiseIf b r) := h.raise.ite h

theorem modDrv {f : DrvSt → DrvSt} (h : LampWork n s t) : LampWork n s (t.modDrv f) := h.congr rfl rfl rfl rfl rfl

theorem modLmp {f : LmpSt → LmpSt} (h : LampWork n s t) (hf : ∀ u, (f u).diagCount = u.diagCount := by intro; rfl) :
    LampWork n s (t.modLmp n f) where
  words := h.words
  now := h.now
  outbox := h.outbox
  ldLow := h.ldLow
  others := fun m hm => (State.modLmp_ch_other t n m f hm).trans (h.others m hm)
  marks := by rw [State.modLmp_ch_same, hf, h.marks]

/-! ### Sinks and what is shown of them (R152, R153, R168) -/

protected theorem modSink {f : SinkSt → SinkSt} (h : LampWork n s t) : LampWork n s (modSink t n i f) := h.modLmp

protected theorem showLamp (h : LampWork n s t) : LampWork n s (showLamp t n) := by
  have ha : inChan n 0x10000 0x14000 (LMP_STAT_MODE n).addr := inLamp n _ (by decide) (by decide)
  exact (((((h.wr (f := LMP_STAT_MODE n) ha).wr (f := LMP_STAT_FADING n) ha).wr (f := LMP_STAT_DERATING n) ha).wr
    (f := LMP_STAT_PEND n) ha).wr (f := LMP_STAT_INTMARK n) ha).wr (f := LMP_STAT_ON n) ha

protected theorem sinkUpdate (h : LampWork n s t) : LampWork n s (sinkUpdate t n) :=
  h.iterate fun _ _ h => (h.modSink.wr (f := LMP_SINKFLT_ISAT n) (inLamp n _ (by decide) (by decide))).raiseIf.wr
    (f := LMP_DIAGMODE_MODE n) (inLamp n _ (by decide) (by decide))

/-! ### Checks (R162, R163) -/

protected theorem lampReport {r : Fin 4 → Fin 12 → DriveReport} (h : LampWork n s t) : LampWork n s (lampReport t n i r) := by
  unfold lampReport
  split
  exacts [h.modDrv, h]

protected theorem declareShort (h : LampWork n s t) : LampWork n s (declareShort t n i) := h.modSink.lampReport

protected theorem selfTest (h : LampWork n s t) : LampWork n s (selfTest t n i) := h.modSink

protected theorem recordCheck {b d : Bool} (h : LampWork n s t) : LampWork n s (recordCheck t n i v c b d) :=
  .ite h.modSink.modLmp h.modSink

protected theorem pulseCheck {b : Bool} (h : LampWork n s t) : LampWork n s (pulseCheck t n i a need b) :=
  h.ite (h.recordCheck.modSink.declareShort.ite (h.recordCheck.modSink.selfTest.ite h.recordCheck.modSink))

protected theorem lineChecks (h : LampWork n s t) : LampWork n s (lineChecks t n) :=
  h.iterate fun _ _ h => h.ite (.ite (h.iterate fun _ _ h => h.pulseCheck) (h.pulseCheck.ite h))

/-! ### Line starts (R156, R158, R161, R163) -/

protected theorem applyStage {x : LvStage} (h : LampWork n s t) : LampWork n s (applyStage t n g x) :=
  .ite (h.modLmp.wr (lvNow_inLamp n g)) h.modLmp

protected theorem fadeStep (h : LampWork n s t) : LampWork n s (fadeStep t n g) := by
  have hw {v : Nat} : LampWork n s (t.wr (lvNow n g) v) := h.wr (lvNow_inLamp n g)
  unfold fadeStep
  dsimp only
  repeat' split
  exacts [h, h, hw.modLmp.raise, hw.modLmp]

protected theorem derStep (h : LampWork n s t) : LampWork n s (derStep t n) :=
  h.ite (h.wr (f := LMP_DER_DER n) (inLamp n _ (by decide) (by decide))).raiseIf

protected theorem holdStep (h : LampWork n s t) : LampWork n s (holdStep t n t0) :=
  h.ite (h.iterate fun _ g h => by
    split
    exacts [h, (h.wr (holdReg_inLamp n g)).modLmp.ite h])

protected theorem relightStep (h : LampWork n s t) : LampWork n s (relightStep t n t0) :=
  h.iterate fun _ _ h => by
    split
    exacts [h.modSink.ite h, h]

end

end LampWork

/-- A line start counts one diagnosis mark (R162). -/
theorem lmpLineStart_marks (s : State) (n : Fin 4) (t0 : Nat) (line : Option Nat) (trig : Bool) :
    ((lmpLineStart s n t0 line trig).ch n).lmp.diagCount = ((s.ch n).lmp.diagCount + 1) % 2 ^ 48 := by
  unfold lmpLineStart
  extract_lets staged faded stepped updated checked
  have hs : LampWork n s staged := (LampWork.refl n s).iterate fun u g h => by
    split
    · exact h
    · exact .ite (.applyStage (.ite (h.wr (f := LMP_CNT2_LATE n) (inLamp n _ (by decide) (by decide))) h)) h
  have hf : LampWork n s faded := hs.iterate fun _ _ h => h.fadeStep
  have hu : LampWork n s updated := hf.relightStep.holdStep.derStep.sinkUpdate
  have hc : LampWork n (lampsPulse updated n t0) checked := (LampWork.refl n _).lineChecks
  rw [showLamp_ch, State.modLmp_ch_same, hc.marks]
  exact congrArg (fun k => (k + 1) % 2 ^ 48) hu.marks

end Sys2Proof.Machine
end

section
/-! PROOFS. Lamp settings: level writes, the end of fades, OFF, and fault bits that are cleared. -/

namespace Sys2Proof.Machine

/-! ## Levels and fades (R156, R159, R164) -/

/-- The change that a level write stages: with the WHEN and the line of the registers, at the present time. -/
def stagedLevel (s : State) (n level fade : Nat) : LvStage :=
  { level := level, fade := fade, when_ := s.rd (LMP_CTL_WHEN n), line := s.rd64 (LMP_STLINE_LO_LINE n) (LMP_STLINE_HI_LINE n),
    at_ := s.now, edge := none }

section
variable {s : State} {n g level fade : Nat}

theorem levelWrite_refused (h : levelRefused s n g level = true) : levelWrite s n g level fade = lampRefuse s n := if_pos h

theorem levelWrite_staged (h : levelRefused s n g level = false) : levelWrite s n g level fade =
    showLamp (((s.wr (LMP_LV_LEVEL n g) level).wr (LMP_LV_FADE n g) fade).modLmp n fun u =>
      { u with staged := u.staged.set g (some (stagedLevel s n level fade)) }) n := if_neg (by simp [h])

end

/-- A level and its fade read as they were staged, and no register beside theirs and the lamps' status is written. -/
theorem levelWrite_regs {s : State} (h : RegsWf s) {n : Nat} {g : Fin 4} {level fade : Nat}
    (hr : levelRefused s n g level = false) :
    let t := levelWrite s n g level fade
    t.rd (LMP_LV_LEVEL n g) = level % 2 ^ 16 ∧ t.rd (LMP_LV_FADE n g) = fade % 2 ^ 16 ∧
      SameWords s t fun a => a = (LMP_LV_LEVEL n g).addr ∨ a = (LMP_STAT_MODE n).addr := by
  intro t
  have ht : t = _ := levelWrite_staged hr
  have hl : (LMP_LV_LEVEL n g).Fits := by simp [Fld.Fits, LMP_LV_LEVEL]
  have hf : (LMP_LV_FADE n g).Fits := by simp [Fld.Fits, LMP_LV_FADE]
  have hfl : (LMP_LV_FADE n g).Apart (LMP_LV_LEVEL n g) := .inr (by simp [LMP_LV_FADE, LMP_LV_LEVEL])
  have hstat : (LMP_LV_LEVEL n g).addr ≠ (LMP_STAT_MODE n).addr := by
    simp only [LMP_LV_LEVEL, LMP_STAT_MODE]
    omega
  have hw : Wrote s (((s.wr (LMP_LV_LEVEL n g) level).wr (LMP_LV_FADE n g) fade).modLmp n fun u =>
      { u with staged := u.staged.set g (some (stagedLevel s n level fade)) })
      fun a => a = (LMP_LV_LEVEL n g).addr ∨ a = (LMP_STAT_MODE n).addr :=
    .congr (.wr (f := LMP_LV_FADE n g) (.wr (.refl h) _ (.inl rfl)) _ (.inl rfl)) (State.modLmp_regs ..)
  rw [ht]
  refine ⟨?_, ?_, (hw.showLamp (.inr rfl)).words⟩
  · rw [showLamp_rd_far hw.wf hstat, State.modLmp_rd, State.rd_wr_apart (h.wr ..) hf hl hfl, State.rd_wr_same h hl]
    rfl
  · rw [showLamp_rd_far (f := LMP_LV_FADE n g) hw.wf hstat, State.modLmp_rd, State.rd_wr_same (h.wr ..) hf]
    rfl

/-! ## OFF (R158, R166) -/

/-- A register that takes the word it has does not change. -/
theorem sput_sget_self {β : Type} [DecidableEq β] {d : Nat → β} {m : List (Nat × β)} (h : SparseWf d m) (a : Nat) :
    sput d m a (sget d m a) = m := by
  induction m with
  | nil => simp [sput, sget]
  | cons p m ih =>
    obtain ⟨hp, hv⟩ := h
    rw [List.pairwise_cons] at hp
    have ih := ih ⟨hp.2, fun q hq => hv q (by simp [hq])⟩
    rcases Nat.lt_trichotomy a p.1 with ha | rfl | ha
    · have hd : sget d (p :: m) a = d a := sget_unlisted _ _ fun q hq => by
        rcases List.mem_cons.1 hq with rfl | hq
        · omega
        · have := hp.1 q hq
          omega
      rw [hd]
      simp [sput, ha]
    · simp [sput, sget, hv p (by simp)]
    · simp [sput, sget, Nat.not_lt.2 (Nat.le_of_lt ha), Nat.ne_of_gt ha, ih]

theorem State.setWord_word {s : State} (h : RegsWf s) (a : Nat) : s.setWord a (s.word a) = s := by
  rw [State.setWord, State.word, sput_sget_self h]

/-- A field that takes the value it has leaves its word as it is. -/
theorem Fld.put_of {f : Fld} (hf : f.Fits) (w : Word) : f.put w (f.of w) = w := by
  refine BitVec.eq_of_getLsbD_eq fun i hi => ?_
  rw [f.put_bit hf, f.of_testBit]
  split
  · next h =>
    have hw : i - f.lo < f.width := by unfold Fld.width; omega
    simp [hw, Nat.add_sub_cancel' h.1]
  · rfl

/-- The last of two values that a field takes counts. -/
theorem Fld.put_put {f : Fld} (hf : f.Fits) (w : Word) (u v : Nat) : f.put (f.put w u) v = f.put w v := by
  refine BitVec.eq_of_getLsbD_eq fun i hi => ?_
  rw [f.put_bit hf, f.put_bit hf, f.put_bit hf]
  split <;> rfl

theorem b2n_inj {a b : Bool} : b2n a = b2n b ↔ a = b := by cases a <;> cases b <;> decide

/-- A field of one bit holds nothing but whether it is set. -/
theorem Fld.of_eq_b2n {f : Fld} (h1 : f.width = 1) (w : Word) : f.of w = b2n (f.of w != 0) := by
  have h := f.of_lt w
  rw [h1] at h
  generalize f.of w = v at *
  interval_cases v <;> rfl

/-- Where the registers of a lamp controller lie. -/
theorem lampAddr (n : Fin 4) {k : Nat} (hk : k < 0x14000) : BarAddr n k (k + chBase n) := by
  have hn := n.isLt
  constructor <;> simp only [chanOf, chanOff, chBase] <;> omega

/-- The register of OFF. -/
theorem fieldsAt_lampCtl (n : Fin 4) : fieldsAt (LMP_CTL_OFF n).addr =
    [LMP_CTL_OFF n, LMP_CTL_CLRCNT n, LMP_CTL_FADESTOP n, LMP_CTL_WHEN n] := by
  have hb := lampAddr n (k := 0x10000) (by decide)
  rw [show (LMP_CTL_OFF n).addr = 0x10000 + chBase n from rfl, fieldsAt, if_neg (not_not_intro hb.word),
    if_neg (Nat.not_lt.2 hb.low), if_pos hb.high, hb.chan, hb.off]
  rfl

/-- OFF as the command writes it: the write of another value takes effect, and the register goes on to the drive die. -/
theorem fldWrite_lampOff {s : State} (h : RegsWf s) (n : Fin 4) (off : Bool) : fldWrite s (LMP_CTL_OFF n) (b2n off) =
    driveForward (if s.rb (LMP_CTL_OFF n) = off then s else offWrite s n off) (LMP_CTL_OFF n).addr := by
  have hf : (LMP_CTL_OFF n).Fits := by simp [Fld.Fits, LMP_CTL_OFF]
  have hb := lampAddr n (k := 0x10000) (by decide)
  have hev : isEvTable (LMP_CTL_OFF n).addr = false := by
    have hlow : ¬ (LMP_CTL_OFF n).addr < 0xC000 := Nat.not_lt.2 (Nat.le_trans (by decide) hb.low)
    simp [isEvTable, hlow]
  have hc : ∀ g ∈ fieldsAt (LMP_CTL_OFF n).addr, g.acc ≠ .w1c := by
    rw [fieldsAt_lampCtl]
    simp [LMP_CTL_OFF, LMP_CTL_CLRCNT, LMP_CTL_FADESTOP, LMP_CTL_WHEN]
  have hnew := Fld.of_put_b2n hf rfl (s.word (LMP_CTL_OFF n).addr) off
  have hsame : ((LMP_CTL_OFF n).of (s.word (LMP_CTL_OFF n).addr) =
      (LMP_CTL_OFF n).of ((LMP_CTL_OFF n).put (s.word (LMP_CTL_OFF n).addr) (b2n off))) ↔ s.rb (LMP_CTL_OFF n) = off := by
    rw [Fld.of_eq_b2n rfl, Fld.of_eq_b2n rfl ((LMP_CTL_OFF n).put ..), hnew, b2n_inj]
    rfl
  rw [fldWrite, portPut, portWord_put hev (by simp [fieldsAt_lampCtl]) rfl hf hc, regPut,
    if_neg (c := (LMP_CTL_OFF n).addr < 0x80000) (Nat.not_lt.2 hb.low), chanPut]
  dsimp only
  rw [show chanOf (LMP_CTL_OFF n).addr = n from hb.chanOf, if_pos rfl, keepFld, Fld.put_put hf, Fld.put_of hf, State.setWord_word h,
    hnew]
  simp only [hsame]

section
variable {s : State} {n : Nat} {off : Bool}

/-- The bar is above TOFF less 5 degrees. -/
def lampHot (s : State) (n : Nat) : Bool := decide (sext 16 (s.rd (LMP_DERLIM_TOFF n)) - 80 < (s.ch n).lmp.theta.toInt)

theorem offWrite_held (h : (!off && s.rb (LMP_CTL_OFF n) && lampHot s n) = true) : offWrite s n off = s.bump (LMP_CNT_REFUSED n) :=
  if_pos h

theorem offWrite_taken (h : (!off && s.rb (LMP_CTL_OFF n) && lampHot s n) = false) :
    offWrite s n off = showLamp (s.wb (LMP_CTL_OFF n) off) n := if_neg (Bool.eq_false_iff.1 h)

end

/-- What a write of OFF leaves (R158): OFF as written or held, a held one counted, and nothing else but the lamps' status. -/
structure OffWritten (s : State) (n : Nat) (off held : Bool) (t : State) : Prop where
  off : t.rb (LMP_CTL_OFF n) = (off || held)
  counted : held = true → t.rd (LMP_CNT_REFUSED n) = min (s.rd (LMP_CNT_REFUSED n) + 1) (2 ^ (LMP_CNT_REFUSED n).width - 1)
  words : SameWords s t fun a => a = (LMP_CTL_OFF n).addr ∨ a = (LMP_STAT_MODE n).addr ∨ a = (LMP_CNT_REFUSED n).addr
  chans : t.chans = s.chans
  evq : t.evq = s.evq
  umd : t.umd = s.umd

theorem OffWritten.driveForward {s t : State} {n : Nat} {off held : Bool} (h : OffWritten s n off held t) (a : Nat) :
    OffWritten s n off held (driveForward t a) := by
  rw [driveForward_rest]
  exact ⟨h.off, h.counted, h.words, h.chans, h.evq, h.umd⟩

/-- OFF that has the value written stays; else the write takes effect, or is held. -/
theorem offWritten {s : State} (h : RegsWf s) (n : Fin 4) (off : Bool) :
    OffWritten s n off (!off && s.rb (LMP_CTL_OFF n) && lampHot s n) (fldWrite s (LMP_CTL_OFF n) (b2n off)) := by
  rw [fldWrite_lampOff h]
  refine OffWritten.driveForward ?_ _
  split
  · next hsame =>
    have hheld : (!off && s.rb (LMP_CTL_OFF n) && lampHot s n) = false := by simp [hsame]
    rw [hheld]
    exact ⟨hsame.trans (Bool.or_false off).symm, fun hf => absurd hf (by decide), SameWords.refl s _, rfl, rfl, rfl⟩
  · cases hheld : !off && s.rb (LMP_CTL_OFF n) && lampHot s n with
    | true =>
      have hrb : s.rb (LMP_CTL_OFF n) = true := (Bool.and_eq_true_iff.1 (Bool.and_eq_true_iff.1 hheld).1).2
      rw [offWrite_held hheld]
      refine ⟨?_, fun _ => State.rd_bump_same h (by simp [Fld.Fits, LMP_CNT_REFUSED]), SameWords.wr s _ _ (.inr (.inr rfl)),
        rfl, rfl, rfl⟩
      rw [State.rb, State.bump, State.addSat, State.rd_wr_far _ (by simp [LMP_CTL_OFF, LMP_CNT_REFUSED]), Bool.or_true]
      exact hrb
    | false =>
      have hf : (LMP_CTL_OFF n).Fits := by simp [Fld.Fits, LMP_CTL_OFF]
      have hw : Wrote s (s.wb (LMP_CTL_OFF n) off)
          fun a => a = (LMP_CTL_OFF n).addr ∨ a = (LMP_STAT_MODE n).addr ∨ a = (LMP_CNT_REFUSED n).addr :=
        (Wrote.refl h).wr _ (.inl rfl)
      rw [offWrite_taken hheld]
      refine ⟨?_, fun hf => absurd hf (by decide), (hw.showLamp (.inr (.inl rfl))).words, rfl, rfl, rfl⟩
      rw [State.rb, showLamp_rd_far hw.wf (by simp [LMP_CTL_OFF, LMP_STAT_MODE]), State.rd, State.wb, State.word_wr_same h,
        Fld.of_put_b2n hf rfl, Bool.or_false]

/-! ## Fault bits (R9, R163) -/

/-- A bit of a W1C field after a write of ones: it stays where no 1 was written, and where the device has just set it. -/
theorem State.bit_clearW1c {s : State} (h : RegsWf s) {f : Fld} (hf : f.Fits) (m : Nat) {i : Nat} (hi : i < f.width) :
    bit ((s.clearW1c f m).rd f) i = (bit (s.rd f) i && (!bit m i || bit (f.of (s.justBits f.addr)) i)) := by
  have hin : f.lo ≤ f.lo + i ∧ f.lo + i ≤ f.hi := by unfold Fld.width at hi; have := hf.1; omega
  have h32 : f.lo + i < 32 := Nat.lt_of_le_of_lt hin.2 hf.2
  simp only [State.clearW1c, State.rd_wr_same h hf, Nat.mod_eq_of_lt (f.of_lt _), bit_eq_testBit, f.of_testBit, hi, decide_true,
    Bool.true_and, BitVec.getLsbD_and, BitVec.getLsbD_not, f.put_bit hf, hin, and_self, if_true, h32, Nat.add_sub_cancel_left]
  simp [Bool.not_and]

/-- The open and the short bits of a channel after a write of ones, each on its own. -/
theorem bit_clearFaults {s : State} (h : RegsWf s) (n sh op : Nat) {i : Nat} (hi : i < 12) :
    let t := (s.clearW1c (LMP_FAULT_SHORT n) sh).clearW1c (LMP_FAULT_OPEN n) op
    bit (t.rd (LMP_FAULT_OPEN n)) i = (bit (s.rd (LMP_FAULT_OPEN n)) i && (!bit op i ||
      bit ((LMP_FAULT_OPEN n).of (s.justBits (LMP_FAULT_OPEN n).addr)) i)) ∧
    bit (t.rd (LMP_FAULT_SHORT n)) i = (bit (s.rd (LMP_FAULT_SHORT n)) i && (!bit sh i ||
      bit ((LMP_FAULT_SHORT n).of (s.justBits (LMP_FAULT_SHORT n).addr)) i)) := by
  have hs : (LMP_FAULT_SHORT n).Fits := by simp [Fld.Fits, LMP_FAULT_SHORT]
  have ho : (LMP_FAULT_OPEN n).Fits := by simp [Fld.Fits, LMP_FAULT_OPEN]
  have hso : (LMP_FAULT_SHORT n).Apart (LMP_FAULT_OPEN n) := .inr (by simp [LMP_FAULT_SHORT, LMP_FAULT_OPEN])
  have hos : (LMP_FAULT_OPEN n).Apart (LMP_FAULT_SHORT n) := .inr (by simp [LMP_FAULT_SHORT, LMP_FAULT_OPEN])
  have hw : RegsWf (s.clearW1c (LMP_FAULT_SHORT n) sh) := h.wr _ _
  refine ⟨?_, ?_⟩
  · rw [State.bit_clearW1c hw ho op hi]
    conv_lhs => rw [State.clearW1c, State.rd_wr_apart h hs ho hso]
    rfl
  · rw [State.clearW1c, State.rd_wr_apart hw ho hs hos, State.bit_clearW1c h hs sh hi]

/-- The sinks whose short bit is cleared while they are off for it may light again (R163). -/
def relightCleared (s : State) (n sh : Nat) : State :=
  iterate 12 s fun s i =>
    if bit sh i ∧ bit (s.rd (LMP_FAULT_SHORT n)) i ∧ (sinkOf s n i).shortOff then
      modSink s n i fun k => { k with relight := some s.now } else s

theorem lampFaultClear_eq (s : State) (n : Nat) (w : Word) : lampFaultClear s n w =
    ((relightCleared s n ((LMP_FAULT_SHORT n).of w)).clearW1c (LMP_FAULT_SHORT n) ((LMP_FAULT_SHORT n).of w)).clearW1c
      (LMP_FAULT_OPEN n) ((LMP_FAULT_OPEN n).of w) := rfl

/-- What becomes of a sink when short bits are cleared. -/
def clearedSink (s : State) (n sh i : Nat) : SinkSt :=
  if bit sh i ∧ bit (s.rd (LMP_FAULT_SHORT n)) i ∧ (sinkOf s n i).shortOff then { sinkOf s n i with relight := some s.now }
  else sinkOf s n i

/-- Nothing but channels differs, and every sink off for a short that is cleared may light again from now on. -/
theorem relightCleared_sinks (s : State) (n sh : Nat) :
    relightCleared s n sh = { s with chans := (relightCleared s n sh).chans } ∧
    ∀ i : Fin 12, sinkOf (relightCleared s n sh) n i = clearedSink s n sh i := by
  refine iterate_parts (k := 12) (s := s) (fun t i => sinkOf t n i) (clearedSink s n sh) (fun t => t = { s with chans := t.chans })
    rfl fun i t ht hi => ?_
  have hrd : t.rd (LMP_FAULT_SHORT n) = s.rd (LMP_FAULT_SHORT n) := by rw [ht]; rfl
  have hnow : t.now = s.now := by rw [ht]
  simp only [clearedSink, hrd, hi, hnow]
  split
  · next h =>
    have hl : i.val < (t.ch n).lmp.sinks.length := lt_sinks_of_sinkOf_ne fun e => by
      rw [hi] at e
      simp [e, SinkSt.init] at h
    refine ⟨by rw [ht]; rfl, ?_, fun m hm => sinkOf_modSink_other fun e => hm (Fin.ext e)⟩
    rw [sinkOf_modSink_same hl, hi]
  · exact ⟨ht, hi, fun _ _ => rfl⟩

/-! ## The obligation -/

/-- Settles O20, from what level writes, writes of OFF and writes of fault bits make of the registers and of the channel. -/
theorem lampSettingsAreStaged : Obligations.LampSettingsAreStaged := by
  unfold Obligations.LampSettingsAreStaged
  intro s n hwf
  refine ⟨fun g level fade => ⟨fun href => ?_, fun hq href => ?_⟩, fun hq => ?_, fun off hq => ?_, fun w hq => ?_⟩
  · exact next_finish_congr (levelWrite_refused href)
  · have ht := levelWrite_staged (fade := fade.toNat) href
    obtain ⟨hlevel, hfade, hwords⟩ := levelWrite_regs (fade := fade.toNat) hwf href
    refine ⟨_, next_finish hq rfl (by rw [ht]; rfl) (by rw [ht]; rfl), ?_, ?_, ?_, hwords⟩
    · exact hlevel.trans (Nat.mod_eq_of_lt level.isLt)
    · exact hfade.trans (Nat.mod_eq_of_lt fade.isLt)
    · rw [ht, showLamp_ch, State.modLmp_ch_same]
      rfl
  · have hw : Wrote s (fadeStop s n) (· = (LMP_STAT_MODE n).addr) := (Wrote.refl hwf).congr (State.modLmp_regs ..)
    refine ⟨_, next_finish hq (u := showLamp (fadeStop s n) n) rfl rfl rfl, ?_, (hw.showLamp rfl).words⟩
    rw [showLamp_ch, fadeStop, State.modLmp_ch_same]
  · have ho := offWritten hwf n off
    exact ⟨_, next_finish hq rfl ho.evq ho.umd, ho.off, ho.counted, ho.words, ho.chans⟩
  · obtain ⟨hrest, hsinks⟩ := relightCleared_sinks s n ((LMP_FAULT_SHORT n).of w)
    have hw : Wrote s (relightCleared s n ((LMP_FAULT_SHORT n).of w)) (· = (LMP_FAULT_OPEN n).addr) :=
      (Wrote.refl hwf).congr (by rw [hrest])
    have hbits {i : Nat} := bit_clearFaults hw.wf n ((LMP_FAULT_SHORT n).of w) ((LMP_FAULT_OPEN n).of w) (i := i)
    refine ⟨_, next_finish hq (lampFaultClear_eq s n w) (by rw [hrest]; rfl) (by rw [hrest]; rfl),
      fun i hi => ⟨?_, ?_, fun hone hbit hoff => ?_⟩, ((hw.wr (f := LMP_FAULT_SHORT n) _ rfl).wr (f := LMP_FAULT_OPEN n) _ rfl).words⟩
    · rw [(hbits hi).1, hrest]
      rfl
    · rw [(hbits hi).2, hrest]
      rfl
    · exact congrArg SinkSt.relight ((hsinks ⟨i, hi⟩).trans (if_pos ⟨hone, hbit, hoff⟩))

end Sys2Proof.Machine
end

section
/-! PROOFS. Lamp measurements: the temperature of the bar, the headroom, colour hold, and internal marks. -/

namespace Sys2Proof.Machine

/-! ## The temperature of the bar (R158) -/

theorem State.raiseIf_ch (s : State) (b : Bool) (r : Raise) (n : Nat) : (s.raiseIf b r).ch n = s.ch n := by
  unfold State.raiseIf
  split <;> rfl

theorem State.raiseIf_regs (s : State) (b : Bool) (r : Raise) : (s.raiseIf b r).regs = s.regs := by
  unfold State.raiseIf
  split <;> rfl

/-- The bar at a temperature is above TOFF. -/
def aboveToff (s : State) (n : Nat) (θ : BitVec 16) : Bool := decide (sext 16 (s.rd (LMP_DERLIM_TOFF n)) < θ.toInt)

/-- A reading in range is kept, with whether the bar is above TOFF, which is raised once. -/
def tempKept (s : State) (n : Nat) (θ : BitVec 16) : State :=
  ((s.modLmp n fun u => { u with theta := θ, tempBad := false }).raiseIf (aboveToff s n θ && !(s.ch n).lmp.overTemp)
    (ev (EV_LMP_OVERTEMP n))).modLmp n fun u => { u with overTemp := aboveToff s n θ }

/-- A reading above TOFF turns the lamps off. -/
theorem lampTemp_inRange (s : State) (n : Nat) (θ : BitVec 16) : lampTemp s n (some θ) =
    if aboveToff s n θ then showLamp (driveSet ((tempKept s n θ).wr (LMP_CTL_OFF n) 1) (LMP_CTL_OFF n).addr) n
    else tempKept s n θ := by
  have hrd : (s.modLmp n fun u => { u with theta := θ, tempBad := false }).rd (LMP_DERLIM_TOFF n) = s.rd (LMP_DERLIM_TOFF n) :=
    State.modLmp_rd ..
  have hov : ((s.modLmp n fun u => { u with theta := θ, tempBad := false }).ch n).lmp.overTemp = (s.ch n).lmp.overTemp := by
    rw [State.modLmp_ch_same]
  simp only [lampTemp, hrd, hov, tempKept, aboveToff, decide_eq_true_eq]

theorem tempKept_lmp (s : State) (n : Nat) (θ : BitVec 16) : ((tempKept s n θ).ch n).lmp =
    { (s.ch n).lmp with theta := θ, tempBad := false, overTemp := aboveToff s n θ } := by
  rw [tempKept, State.modLmp_ch_same, State.raiseIf_ch, State.modLmp_ch_same]

theorem tempKept_wrote {s : State} (h : RegsWf s) (n : Nat) (θ : BitVec 16) (may : Nat → Prop) : Wrote s (tempKept s n θ) may :=
  (Wrote.refl h).congr (by rw [tempKept, State.modLmp_regs, State.raiseIf_regs, State.modLmp_regs])

/-- What a reading in range leaves (R158). -/
structure TempTaken (s : State) (n : Nat) (θ : BitVec 16) (t : State) : Prop where
  lmp : (t.ch n).lmp = { (s.ch n).lmp with theta := θ, tempBad := false, overTemp := aboveToff s n θ }
  off : aboveToff s n θ = true → t.rb (LMP_CTL_OFF n) = true
  words : SameWords s t (inChan n 0x10000 0x14000)

theorem lampTemp_taken {s : State} (h : RegsWf s) (n : Nat) (θ : BitVec 16) : TempTaken s n θ (lampTemp s n (some θ)) := by
  have hk := tempKept_wrote h n θ (inChan n 0x10000 0x14000)
  rw [lampTemp_inRange]
  split
  · have hf : (LMP_CTL_OFF n).Fits := by simp [Fld.Fits, LMP_CTL_OFF]
    have hd : Wrote s (driveSet ((tempKept s n θ).wr (LMP_CTL_OFF n) 1) (LMP_CTL_OFF n).addr) (inChan n 0x10000 0x14000) :=
      (hk.wr (f := LMP_CTL_OFF n) 1 (inLamp n _ (by decide) (by decide))).congr (by rw [driveSet_rest])
    refine ⟨?_, fun _ => ?_, (hd.showLamp (inLamp n _ (by decide) (by decide))).words⟩
    · rw [showLamp_ch, driveSet_rest]
      exact tempKept_lmp s n θ
    · rw [State.rb, showLamp_rd_far hd.wf (by simp [LMP_CTL_OFF, LMP_STAT_MODE]), driveSet_rest]
      exact congrArg (· != 0) (State.rd_wr_same hk.wf hf 1)
  · next hcool => exact ⟨tempKept_lmp s n θ, fun hhot => absurd hhot hcool, hk.words⟩

/-! ## Headroom (R165) -/

/-- The headroom demand after an update with a lowest voltage. -/
def headroomNext (s : State) (n v : Nat) : Int :=
  clampI (s.rd (LMP_HDRM_HD n) +
    clampI ((s.rd (LMP_HDRMCFG_KH n) * ((s.rd (LMP_HDRMCFG_TGT n) * 100 : Nat) - (v : Int))) / 160) (-32) 32) 0 1023

theorem clampI_bounds {v lo hi : Int} (h : lo ≤ hi) : lo ≤ clampI v lo hi ∧ clampI v lo hi ≤ hi := by
  unfold clampI
  split
  · omega
  · split <;> omega

/-- The consecutive updates at the limit with the voltage below its target. -/
def headroomTop (s : State) (n v : Nat) : Nat :=
  if (headroomNext s n v).toNat = 1023 ∧ v < s.rd (LMP_HDRMCFG_TGT n) * 100 then (s.ch n).lmp.hdTop + 1 else 0

theorem headroom_measured {s : State} {n v : Nat} (h : (s.ch n).lmp.vmin = some v) : headroom s n =
    (((s.wr (LMP_HDRM_VMIN n) (min v 65535)).wr (LMP_HDRM_HD n) (headroomNext s n v).toNat).modLmp n fun u =>
      { u with vmin := none, hdTop := headroomTop s n v }).raiseIf (headroomTop s n v == 10) (ev (EV_LMP_HDRM n)) := by
  rw [headroom, h]
  rfl

/-- The voltage is shown and the demand moves. -/
theorem headroom_regs {s : State} (h : RegsWf s) {n v : Nat} (hv : (s.ch n).lmp.vmin = some v) :
    (headroom s n).rd (LMP_HDRM_VMIN n) = min v 65535 ∧ ((headroom s n).rd (LMP_HDRM_HD n) : Int) = headroomNext s n v ∧
      SameWords s (headroom s n) (· = (LMP_HDRM_HD n).addr) := by
  have hvf : (LMP_HDRM_VMIN n).Fits := by simp [Fld.Fits, LMP_HDRM_VMIN]
  have hdf : (LMP_HDRM_HD n).Fits := by simp [Fld.Fits, LMP_HDRM_HD]
  have hdv : (LMP_HDRM_HD n).Apart (LMP_HDRM_VMIN n) := .inr (by simp [LMP_HDRM_HD, LMP_HDRM_VMIN])
  have hvw : (LMP_HDRM_VMIN n).width = 16 := rfl
  have hdw : (LMP_HDRM_HD n).width = 10 := rfl
  have hb : 0 ≤ headroomNext s n v ∧ headroomNext s n v ≤ 1023 := clampI_bounds (by decide)
  have hr : (headroom s n).regs = ((s.wr (LMP_HDRM_VMIN n) (min v 65535)).wr (LMP_HDRM_HD n) (headroomNext s n v).toNat).regs := by
    rw [headroom_measured hv, State.raiseIf_regs, State.modLmp_regs]
  have hw : Wrote s (headroom s n) (· = (LMP_HDRM_HD n).addr) :=
    (((Wrote.refl (may := (· = (LMP_HDRM_HD n).addr)) h).wr (f := LMP_HDRM_VMIN n) _ rfl).wr (f := LMP_HDRM_HD n) _ rfl).congr hr
  refine ⟨?_, ?_, hw.words⟩
  · rw [State.rd_congr _ (State.word_congr hr _), State.rd_wr_apart (h.wr ..) hdf hvf hdv, State.rd_wr_same h hvf, hvw]
    omega
  · rw [State.rd_congr _ (State.word_congr hr _), State.rd_wr_same (h.wr ..) hdf, hdw]
    omega

/-! ## Colour hold (R161) -/

/-- The measurement of a group that starts afresh. -/
def HoldSt.afresh (h : HoldSt) : HoldSt := { h with sum := 0, cnt := 0, good := 0, lines := 0 }

/-- The measurement of a group has started afresh. -/
def HoldAfresh (s : State) (n g : Nat) : Prop :=
  ∃ k, (s.ch n).lmp.hold[g]? = some k ∧ k.sum = 0 ∧ k.cnt = 0 ∧ k.good = 0 ∧ k.lines = 0

section
variable {s t : State} {n g : Nat}

theorem HoldAfresh.congr (h : HoldAfresh s n g) (hc : t.chans = s.chans) : HoldAfresh t n g := by
  unfold HoldAfresh
  rwa [State.ch_congr hc]

/-- A group measures from the start. -/
theorem holdAfresh_modLmp {h : HoldSt} (hg : (s.ch n).lmp.hold[g]? = some h) :
    HoldAfresh (s.modLmp n fun u => { u with hold := u.hold.modify g HoldSt.afresh }) n g :=
  ⟨h.afresh, by rw [State.modLmp_ch_same, List.getElem?_modify_eq, hg]; rfl, rfl, rfl, rfl, rfl⟩

/-- A new trim does not count as a measurement. -/
theorem HoldAfresh.trim (h : HoldAfresh s n g) (v : Option (Nat × Nat)) :
    HoldAfresh (s.modLmp n fun u => { u with hold := u.hold.modify g fun h => { h with new := v } }) n g := by
  obtain ⟨k, hk, hsum, hcnt, hgood, hlines⟩ := h
  exact ⟨{ k with new := v }, by rw [State.modLmp_ch_same, List.getElem?_modify_eq, hk]; rfl, hsum, hcnt, hgood, hlines⟩

theorem holdUpdate_same {h : HoldSt} (hg : (s.ch n).lmp.hold[g]? = some h)
    (hn : holdSrc s n g = 0 ∨ h.lines < max 1 (s.rd (LMP_HOLDCFG_HPER n))) : holdUpdate s n g = s := by
  simp only [holdUpdate, hg, Option.getD_some]
  exact if_pos hn

/-- The end of a period starts the next one, whatever trim it brings. -/
theorem holdUpdate_afresh {h : HoldSt} (hg : (s.ch n).lmp.hold[g]? = some h) (hs : holdSrc s n g ≠ 0)
    (hl : max 1 (s.rd (LMP_HOLDCFG_HPER n)) ≤ h.lines) : HoldAfresh (holdUpdate s n g) n g := by
  unfold holdUpdate
  extract_lets src was fresh tgt en st fr d drawn v trimmed
  have hf : HoldAfresh fresh n g := holdAfresh_modLmp hg
  have hwas : was = h := by simp [was, hg]
  rw [if_neg (by rw [hwas]; exact not_or.2 ⟨hs, Nat.not_lt.2 hl⟩)]
  have hd : HoldAfresh drawn n g := by
    unfold drawn
    split
    exacts [hf.congr rfl, hf]
  split
  · exact hf
  · split
    · exact hf.congr rfl
    · unfold State.raiseIf
      split
      exacts [(hd.trim _).congr rfl, hd.trim _]

end

/-! ## The obligation -/

/-- Settles O21, from what a reading, a headroom update, the end of a hold period and a line start make of the channel. -/
theorem lampMeasurementsAdjustTheLight : Obligations.LampMeasurementsAdjustTheLight := by
  unfold Obligations.LampMeasurementsAdjustTheLight
  intro s n hwf
  refine ⟨rfl, fun θ => ?_, fun v hv => ?_, fun g h hg => ⟨fun hq hn => ?_, fun hs hl => ?_⟩,
    fun hrun hjig => ?_, fun hq hn => ?_⟩
  · obtain ⟨hlmp, hoff, hwords⟩ := lampTemp_taken hwf n θ
    refine ⟨_, rfl, ?_, ?_, ?_, fun hhot => hoff (decide_eq_true hhot), hwords⟩ <;> rw [hlmp]
    rfl
  · obtain ⟨hvmin, hhd, hwords⟩ := headroom_regs hwf hv
    refine ⟨_, rfl, ?_, hvmin, hhd, hwords⟩
    rw [headroom_measured hv, State.raiseIf_ch, State.modLmp_ch_same]
  · exact next_finish hq (holdUpdate_same hg hn) rfl rfl
  · obtain ⟨k, hk, hz⟩ := holdUpdate_afresh hg hs hl
    exact ⟨_, k, rfl, hk, hz⟩
  · have he : internalMark s n = lmpLineStart s n s.now none false := if_neg (by simp [hrun, hjig])
    exact ⟨_, next_finish_congr he, lmpLineStart_marks s n s.now none false⟩
  · exact next_finish hq (if_pos (by simpa using hn)) rfl rfl

end Sys2Proof.Machine
end

section
/-! PROOFS. Sinks and LD_SYNC: self-tests and continuous checks, and the edges of the pin that staged changes wait for. -/

namespace Sys2Proof.Machine

/-! ## Self-tests and continuous checks (R162, R163) -/

/-- The drive die has a report of a sink. -/
theorem lampReport_eq (s : State) (n : Fin 4) (i : Fin 12) (r : Fin 4 → Fin 12 → DriveReport) :
    lampReport s n i r = s.modDrv fun d => { d with reports := d.reports ++ [r n i] } := dif_pos ⟨n.isLt, i.isLt⟩

/-- The self-test of a sink ends with a report. -/
theorem selfTestDone_reports {s : State} {n : Fin 4} {i : Fin 12} {regulates : Bool} (h : (sinkOf s n i).testing = true) :
    selfTestDone s n i regulates =
      (modSink s n i fun k => { k with testing := false, dead := k.dead || !regulates }).modDrv fun d =>
        { d with reports := d.reports ++ [if regulates then .lampOpen n i else .sinkFault n i] } := by
  rw [selfTestDone, if_neg (by simp [h]), lampReport_eq]
  cases regulates <;> rfl

/-- What a check records of a sink: what the drive die senses, and the voltage and the current for the next status refresh. -/
def SinkSt.measured (k : SinkSt) : SinkSense × Nat × Nat := (k.sense, k.v, k.i)

section
variable {s : State} {n : Nat} {i : Nat}

theorem sinkOf_modDrv (f : DrvSt → DrvSt) : sinkOf (s.modDrv f) n i = sinkOf s n i := by
  rw [sinkOf, State.modDrv_ch, sinkOf]

theorem sinkOf_modSink_measured {f : SinkSt → SinkSt} (h : ∀ k, (f k).measured = k.measured) :
    (sinkOf (modSink s n i f) n i).measured = (sinkOf s n i).measured := sinkOf_modSink_keep SinkSt.measured h i

theorem declareShort_measured : (sinkOf (declareShort s n i) n i).measured = (sinkOf s n i).measured := by
  have hr (t : State) : sinkOf (lampReport t n i .lampShort) n i = sinkOf t n i := by
    unfold lampReport
    split
    exacts [sinkOf_modDrv _, rfl]
  rw [declareShort, hr, sinkOf_modSink_measured]
  exact fun _ => rfl

theorem selfTest_measured : (sinkOf (selfTest s n i) n i).measured = (sinkOf s n i).measured := by
  rw [selfTest, sinkOf_modSink_measured]
  exact fun _ => rfl

/-- A check records its measurement on the sink. -/
theorem recordCheck_measured (h : i < (s.ch n).lmp.sinks.length) (v cur : Nat) (bad conducting : Bool) :
    (sinkOf (recordCheck s n i v cur bad conducting) n i).measured = ((sinkOf s n i).sense, min v 65535, cur) := by
  have hs : (sinkOf (modSink s n i fun k => { k with v := min v 65535, i := cur, fails := k.fails + b2n bad }) n i).measured =
      ((sinkOf s n i).sense, min v 65535, cur) := by rw [sinkOf_modSink_same h]; rfl
  unfold recordCheck
  extract_lets t
  split
  · rw [sinkOf, State.modLmp_ch_same]
    exact hs
  · exact hs

/-- A sink that is lit in mode 3 has its voltage and its current recorded. -/
theorem continuousCheck_measured (sn : SinkSense)
    (hmode : (sinkOf (modSink s n i fun k => { k with sense := sn }) n i).mode = 3)
    (hlit : sinkLit (modSink s n i fun k => { k with sense := sn }) n i = true) :
    (sinkOf (continuousCheck s n i sn) n i).measured = (sn, min sn.v 65535, sn.i.getD (sinkOf s n i).amp) := by
  have hu : i < ((modSink s n i fun k => { k with sense := sn }).ch n).lmp.sinks.length :=
    lt_sinks_of_sinkOf_ne fun e => by simp [e, SinkSt.init] at hmode
  have hs : i < (s.ch n).lmp.sinks.length := by simpa [modSink_sinks] using hu
  have hsink : sinkOf (modSink s n i fun k => { k with sense := sn }) n i = { sinkOf s n i with sense := sn } :=
    sinkOf_modSink_same hs
  unfold continuousCheck
  extract_lets sensed r recorded counted k
  have hr : (sinkOf recorded n i).measured = (sn, min sn.v 65535, sn.i.getD (sinkOf s n i).amp) := by
    refine (recordCheck_measured hu ..).trans ?_
    simp only [r, checkAt, sensed, hsink]
  have hc : (sinkOf counted n i).measured = (sn, min sn.v 65535, sn.i.getD (sinkOf s n i).amp) := by
    unfold counted
    rw [sinkOf_modSink_measured, hr]
    exact fun _ => rfl
  rw [if_neg (by simp [sensed, hmode, hlit])]
  split
  · exact declareShort_measured.trans hc
  · split
    · split
      exacts [selfTest_measured.trans hc, hc]
    · exact hc

/-- A sink that is not lit in mode 3 is not checked. -/
theorem continuousCheck_unlit (sn : SinkSense)
    (h : ¬ ((sinkOf (modSink s n i fun k => { k with sense := sn }) n i).mode = 3 ∧
      sinkLit (modSink s n i fun k => { k with sense := sn }) n i = true)) :
    continuousCheck s n i sn =
      modSink (modSink s n i fun k => { k with sense := sn }) n i fun k => { k with openSince := none } := by
  refine if_pos ?_
  rw [Bool.not_eq_true', ← Bool.not_eq_true]
  exact not_and_or.1 h

end

/-! ## Edges of LD_SYNC (R159) -/

/-- What an edge makes of a staged change that waits for it. -/
def LvStage.edged (now : Nat) (x : LvStage) : LvStage := if x.when_ = 2 ∧ x.edge = none then { x with edge := some now } else x

/-- What its update leaves as it is, a list keeps. -/
theorem modify_of_fixed {α : Type} {l : List α} {i : Nat} {f : α → α} (h : ∀ a, l[i]? = some a → f a = a) :
    l.modify i f = l := by
  rw [List.modify_eq_set_getElem?]
  cases ha : l[i]? with
  | none => rfl
  | some a =>
    obtain ⟨hi, rfl⟩ := List.getElem?_eq_some_iff.1 ha
    simp [h _ ha]

/-- An edge reaches a group of a channel. -/
def edgeGroup (s : State) (n g : Nat) : State :=
  match (s.ch n).lmp.staged.getD g none with
  | some t =>
    if t.when_ = 2 ∧ t.edge = none then
      if s.running n || s.rough n then s.modLmp n fun u => { u with staged := u.staged.set g (some { t with edge := some s.now }) }
      else showLamp (sinkUpdate (applyStage s n g t) n) n
    else s
  | none => s

/-- An edge reaches a channel. -/
def edgeChan (s : State) (n : Nat) : State := iterate 4 s fun s g => edgeGroup s n g

theorem ldSyncEdge_eq (s : State) : ldSyncEdge s = iterate 4 s edgeChan := rfl

section
variable {s t : State} {n : Fin 4}

protected theorem LampWork.edgeGroup {g : Nat} (h : LampWork n s t) : LampWork n s (edgeGroup t n g) := by
  unfold edgeGroup
  split
  · exact .ite (h.modLmp.ite h.applyStage.sinkUpdate.showLamp) h
  · exact h

protected theorem LampWork.edgeChan (h : LampWork n s t) : LampWork n s (edgeChan t n) := h.iterate fun _ _ h => h.edgeGroup

/-- Registers of the device itself are not written. -/
theorem LampWork.rd_device (h : LampWork n s t) {f : Fld} (hf : f.addr < 0x80000) : t.rd f = s.rd f :=
  State.rd_congr f (h.words _ fun ⟨hlo, _⟩ => by unfold chBase at hlo; omega)

theorem LampWork.running (h : LampWork n s t) (m : Nat) : t.running m = s.running m := by
  rw [State.running, h.rd_device (by decide), State.running]

/-- On a running channel a staged change notes the edge that it waits for. -/
theorem edgeGroup_staged (hr : s.running n = true) (g : Nat) :
    ((edgeGroup s n g).ch n).lmp.staged = (s.ch n).lmp.staged.modify g (Option.map (LvStage.edged s.now)) := by
  unfold edgeGroup
  split
  · next x hx =>
    have hg : (s.ch n).lmp.staged[g]? = some (some x) := by
      simpa [List.getD_eq_getElem?_getD, Option.getD_eq_iff] using hx
    split
    · next hw =>
      rw [if_pos (by simp [hr]), State.modLmp_ch_same, List.modify_eq_set_getElem?, hg]
      simp [LvStage.edged, hw]
    · next hw =>
      refine (modify_of_fixed fun a ha => ?_).symm
      rw [hg, Option.some.injEq] at ha
      simp [← ha, LvStage.edged, hw]
  · next hnone =>
    refine (modify_of_fixed fun a ha => ?_).symm
    rw [List.getD_eq_getElem?_getD, ha] at hnone
    rw [show a = none from hnone]
    rfl

/-- On a running channel every staged change that waits for an edge notes it. -/
theorem edgeChan_staged (hr : s.running n = true) (g : Fin 4) :
    ((edgeChan s n).ch n).lmp.staged[g.val]? = ((s.ch n).lmp.staged[g.val]?).map (Option.map (LvStage.edged s.now)) := by
  obtain ⟨-, h⟩ := iterate_parts (k := 4) (s := s) (f := fun s g => edgeGroup s n g) (fun t j => (t.ch n).lmp.staged[j]?)
    (fun j => ((s.ch n).lmp.staged[j]?).map (Option.map (LvStage.edged s.now))) (LampWork n s) (.refl n s) fun i t ht hi => by
      have hl := edgeGroup_staged (s := t) (n := n) ((ht.running n).trans hr) i
      refine ⟨ht.edgeGroup, ?_, fun m hm => ?_⟩
      · rw [hl, List.getElem?_modify_eq, hi, ht.now]
        rfl
      · rw [hl, List.getElem?_modify_ne _ _ fun e => hm (Fin.ext e.symm)]
  exact h g

end

/-- What an edge of LD_SYNC leaves as it is. -/
structure EdgeKept (s t : State) : Prop where
  rd : ∀ f : Fld, f.addr < 0x80000 → t.rd f = s.rd f
  now : t.now = s.now
  outbox : t.outbox = s.outbox
  ldLow : t.ldLow = s.ldLow

theorem EdgeKept.refl (s : State) : EdgeKept s s := ⟨fun _ _ => rfl, rfl, rfl, rfl⟩

theorem EdgeKept.edgeChan {s t : State} (h : EdgeKept s t) (n : Fin 4) : EdgeKept s (edgeChan t n) := by
  have hw := (LampWork.refl n t).edgeChan
  exact ⟨fun f hf => (hw.rd_device hf).trans (h.rd f hf), hw.now.trans h.now, hw.outbox.trans h.outbox, hw.ldLow.trans h.ldLow⟩

theorem ldSyncEdge_edgeKept (s : State) : EdgeKept s (ldSyncEdge s) :=
  iterate_induct (P := fun _ t => EdgeKept s t) (.refl s) fun i hi _ ht => ht.edgeChan ⟨i, hi⟩

/-- An edge is noted by every change of a running channel that waits for it. -/
theorem ldSyncEdge_staged {s : State} {n : Fin 4} (hr : s.running n = true) (g : Fin 4) :
    ((ldSyncEdge s).ch n).lmp.staged[g.val]? = ((s.ch n).lmp.staged[g.val]?).map (Option.map (LvStage.edged s.now)) := by
  have h := iterate_induct (k := 4) (s := s) (f := edgeChan)
    (P := fun k t => EdgeKept s t ∧ (t.ch n).lmp.staged[g.val]? =
      if n.val < k then ((s.ch n).lmp.staged[g.val]?).map (Option.map (LvStage.edged s.now)) else (s.ch n).lmp.staged[g.val]?)
    ⟨.refl s, by simp⟩ fun i hi t ⟨hk, ht⟩ => by
      refine ⟨hk.edgeChan ⟨i, hi⟩, ?_⟩
      by_cases hn : n.val = i
      · have hrun : t.running n = true := by rw [State.running, hk.rd _ (by decide)]; exact hr
        subst hn
        rw [edgeChan_staged hrun, ht, hk.now, if_neg (Nat.lt_irrefl _), if_pos (Nat.lt_succ_self _)]
      · rw [(LampWork.refl ⟨i, hi⟩ t).edgeChan.others n fun e => hn (congrArg Fin.val e), ht]
        simp only [show n.val < i + 1 ↔ n.val < i by omega]
  simpa [ldSyncEdge_eq] using h.2

/-! ## The device's own pulse (R159) -/

theorem fldWrite_ldSyncOut (s : State) (out : Bool) : fldWrite s GLB_LDSYNC_OUT (b2n out) = s.wr GLB_LDSYNC_OUT (b2n out) := by
  have hfs : fieldsAt GLB_LDSYNC_OUT.addr = [GLB_LDSYNC_PULSE, GLB_LDSYNC_OUT] := rfl
  rw [fldWrite, portPut, portWord_put (by decide) (by simp [hfs]) rfl (by simp [Fld.Fits, GLB_LDSYNC_OUT])
    (by rw [hfs]; simp [GLB_LDSYNC_PULSE, GLB_LDSYNC_OUT])]
  rfl

theorem rb_wr_ldSyncOut {s : State} (h : RegsWf s) (out : Bool) : (s.wr GLB_LDSYNC_OUT (b2n out)).rb GLB_LDSYNC_OUT = out := by
  have hf : GLB_LDSYNC_OUT.Fits := by simp [Fld.Fits, GLB_LDSYNC_OUT]
  rw [State.rb, State.rd, State.word_wr_same h, Fld.of_put_b2n hf rfl]

/-! ## The obligation -/

/-- Settles O22, from what the ends of self-tests, the checks and the edges of LD_SYNC make of the sinks and of the staged changes. -/
theorem sinksAreCheckedAndLdSyncPulses : Obligations.SinksAreCheckedAndLdSyncPulses := by
  unfold Obligations.SinksAreCheckedAndLdSyncPulses
  refine ⟨fun s n i hwf => ⟨fun regulates hq ht => ?_, fun sn => ?_⟩, fun s hwf => ⟨fun hlow => ?_, fun hq => ?_, fun hq => ?_,
    fun hq hout => ?_, fun n g x hout hrun hg hwhen hedge => ?_⟩⟩
  · exact next_finish hq (selfTestDone_reports ht) rfl rfl
  · intro u lit
    refine ⟨fun hq hl => next_finish hq (continuousCheck_unlit sn hl) rfl rfl, fun ⟨hmode, hlit⟩ => ⟨_, rfl, ?_⟩⟩
    have h := continuousCheck_measured sn hmode hlit
    simpa only [SinkSt.measured, Prod.mk.injEq] using h
  · have hw := rb_wr_ldSyncOut hwf true
    have he : ldSyncPulse (fldWrite s GLB_LDSYNC_OUT (b2n true)) =
        ldSyncEdge ({ s.wr GLB_LDSYNC_OUT 1 with ldLow := true }.emit (.pin "LD_SYNC" 0 false)) := by
      rw [fldWrite_ldSyncOut, ldSyncPulse, hw, State.wr_ldLow, hlow]
      rfl
    have hk := ldSyncEdge_edgeKept ({ s.wr GLB_LDSYNC_OUT 1 with ldLow := true }.emit (.pin "LD_SYNC" 0 false))
    exact ⟨_, next_finish_congr he, hk.ldLow, (congrArg (· != 0) (hk.rd _ (by decide))).trans hw, hk.outbox⟩
  · have he : ldSyncPulse (fldWrite s GLB_LDSYNC_OUT (b2n false)) = s.wr GLB_LDSYNC_OUT 0 := by
      rw [fldWrite_ldSyncOut, ldSyncPulse, rb_wr_ldSyncOut hwf]
      rfl
    exact next_finish hq he rfl rfl
  · exact next_finish hq (u := ldSyncPulseEnd s) rfl (by split <;> rfl) (by split <;> rfl)
  · exact next_finish hq (if_pos hout) rfl rfl
  · have he : ldSyncPin s = ldSyncEdge s := if_neg (by simp [hout])
    refine ⟨_, next_finish_congr he, ?_⟩
    rw [ldSyncEdge_staged hrun, hg]
    simp [LvStage.edged, hwhen, hedge]

end Sys2Proof.Machine
end

section
/-! PROOFS. Position feedback: what the operations of a channel's position interface write, and what each leaves as it is. -/

namespace Sys2Proof.Machine

/-! ## The position interface of a channel -/

theorem posOf_modPos (s : State) (n : Nat) (f : PosSt → PosSt) : posOf (s.modPos n f) n = f (posOf s n) := by
  rw [posOf, State.modPos_ch_same, posOf]

/-- Where a channel stands: the levels counted last, the count, the high-water mark and the divider's threshold. -/
structure PosPlace where
  a : Bool
  b : Bool
  count : Int
  hwm : Int
  nt : Int

/-- One count up or down. -/
def PosPlace.step (k : PosPlace) (up : Bool) : PosPlace := { k with count := if up then k.count + 1 else k.count - 1 }

def PosSt.place (p : PosSt) : PosPlace := ⟨p.a, p.b, p.count, p.hwm, p.nt⟩

theorem absLatch_place (p : PosSt) (tick : Nat) : (absLatch p tick).place = p.place := by
  unfold absLatch
  split
  · split <;> rfl
  · rfl

/-- An address of a channel among some of its registers. -/
theorem inChan_of (n : Nat) {k lo hi : Nat} (hlo : lo ≤ k) (hk : k < hi) : inChan n lo hi (k + chBase n) := by
  unfold inChan
  omega

/-- An address of a channel outside some of its registers. -/
theorem not_inChan {n k lo hi : Nat} (h : k < lo ∨ hi ≤ k) : ¬ inChan n lo hi (k + chBase n) := by
  unfold inChan
  omega

/-- What a channel's position interface does: it writes its own block, changes no other channel and no memory, sends nothing, and
the channel then stands at a place. -/
structure PosWork (n : Fin 4) (s : State) (k : PosPlace) (t : State) : Prop where
  wrote : Wrote s t (inChan n 0x14000 0x18000)
  others : ∀ m : Fin 4, m ≠ n → t.ch m = s.ch m
  drams : t.drams = s.drams
  outbox : t.outbox = s.outbox
  place : (posOf t n).place = k

namespace PosWork

section
variable {n : Fin 4} {s t u : State} {k : PosPlace} {c v tick : Nat} {x : Int} {f g : Fld}

theorem refl (n : Fin 4) (h : RegsWf s) : PosWork n s (posOf s n).place s := ⟨.refl h, fun _ _ => rfl, rfl, rfl, rfl⟩

theorem ite {p : Prop} [Decidable p] (ht : PosWork n s k t) (hu : PosWork n s k u) : PosWork n s k (if p then t else u) := by
  split <;> assumption

theorem foldl {α : Type} {l : List α} {f : State → α → State} (h : PosWork n s k t)
    (hf : ∀ u x, PosWork n s k u → PosWork n s k (f u x)) : PosWork n s k (l.foldl f t) :=
  List.foldlRecOn l f h fun _ hu x _ => hf _ x hu

theorem iterate {j : Nat} {f : State → Nat → State} (h : PosWork n s k t)
    (hf : ∀ u i, PosWork n s k u → PosWork n s k (f u i)) : PosWork n s k (iterate j t f) := h.foldl hf

theorem wr (h : PosWork n s k t) (ha : inChan n 0x14000 0x18000 f.addr := by exact inChan_of n (by decide) (by decide)) :
    PosWork n s k (t.wr f v) := ⟨h.wrote.wr v ha, h.others, h.drams, h.outbox, h.place⟩

theorem wb {b : Bool} (h : PosWork n s k t) (ha : inChan n 0x14000 0x18000 f.addr := by exact inChan_of n (by decide) (by decide)) :
    PosWork n s k (t.wb f b) := h.wr ha

theorem bump (h : PosWork n s k t) (ha : inChan n 0x14000 0x18000 f.addr := by exact inChan_of n (by decide) (by decide)) :
    PosWork n s k (t.bump f) := h.wr ha

theorem peak (h : PosWork n s k t) (ha : inChan n 0x14000 0x18000 f.addr := by exact inChan_of n (by decide) (by decide)) :
    PosWork n s k (t.peak f v) := h.wr ha

theorem wr64 (h : PosWork n s k t) (ha : inChan n 0x14000 0x18000 f.addr := by exact inChan_of n (by decide) (by decide))
    (hb : inChan n 0x14000 0x18000 g.addr := by exact inChan_of n (by decide) (by decide)) : PosWork n s k (t.wr64 f g v) :=
  (h.wr ha).wr hb

theorem raise {r : Raise} (h : PosWork n s k t) : PosWork n s k (t.raise r) :=
  ⟨h.wrote.congr rfl, h.others, h.drams, h.outbox, h.place⟩

theorem raiseIf {b : Bool} {r : Raise} (h : PosWork n s k t) : PosWork n s k (t.raiseIf b r) := h.raise.ite h

/-- The channel moves to another place. -/
theorem move {f : PosSt → PosSt} (h : PosWork n s k t) (dest : PosPlace → PosPlace) (hf : ∀ p, (f p).place = dest p.place) :
    PosWork n s (dest k) (t.modPos n f) where
  wrote := h.wrote.congr rfl
  others := fun m hm => (State.modPos_ch_other t n m f hm).trans (h.others m hm)
  drams := h.drams
  outbox := h.outbox
  place := by rw [posOf_modPos, hf, h.place]

theorem modPos {f : PosSt → PosSt} (h : PosWork n s k t) (hf : ∀ p, (f p).place = p.place := by intro; rfl) :
    PosWork n s k (t.modPos n f) := h.move id hf

/-! ### What shows (R186) -/

protected theorem showPos (h : PosWork n s k t) : PosWork n s k (showPos t n) := by
  unfold showPos
  dsimp only
  split
  exacts [h.wr64.wr64.wb.wb.wr64.wb, h.wr64.wr64.wb.wb.wb]

/-! ### Speed (R181) -/

protected theorem speedShow (h : PosWork n s k t) : PosWork n s k (speedShow t n tick) :=
  .ite h.wr.wb.modPos.raiseIf (.ite h.wr.wb.modPos h.wr.wb)

protected theorem speedChange {up : Bool} (h : PosWork n s k t) : PosWork n s k (speedChange t n tick up) :=
  (PosWork.ite h.wb.modPos.wr (.ite h.wb.modPos h.wb.modPos.wr)).speedShow

/-! ### Compare outputs and the divided output (R180) -/

protected theorem setCmp {b : Bool} (h : PosWork n s k t) : PosWork n s k (setCmp t n c b) := h.wr

protected theorem cmpFire {e : CmpEntry} (h : PosWork n s k t) : PosWork n s k (cmpFire t n c tick e) :=
  .ite h.setCmp.modPos (.ite h.setCmp (.ite h.setCmp h.setCmp))

protected theorem cmpStep {up : Bool} (h : PosWork n s k t) : PosWork n s k (cmpStep t n tick x up) :=
  h.iterate fun _ _ h => h.ite (h.foldl fun _ _ h => h.cmpFire.ite h)

protected theorem cmpCorrection {y : Int} (h : PosWork n s k t) : PosWork n s k (cmpCorrection t n tick x y) :=
  h.foldl fun _ _ h => h.cmpStep

protected theorem divCount (h : PosWork n s k t) : PosWork n s k (divCount t n) :=
  h.ite (h.modPos fun p => by split <;> rfl)

/-! ### References (R173 to R175) -/

protected theorem driftCheck (h : PosWork n s k t) : PosWork n s k (driftCheck t n x) :=
  .ite h.wr.peak.wr.modPos h.wr.peak.raise.modPos

protected theorem reference (h : PosWork n s k t) : PosWork n s k (reference t n) :=
  .ite h.wr64.modPos (.ite h.wr64.modPos.wr.wr h.wr64.modPos.wr.driftCheck.showPos)

protected theorem toothEdge {up : Bool} (h : PosWork n s k t) : PosWork n s k (toothEdge t n tick up) := by
  unfold toothEdge
  extract_lets p src same tau noted
  have hn : PosWork n s k noted := h.modPos
  split
  exacts [hn.reference.ite hn, hn]

protected theorem refLostCheck (h : PosWork n s k t) : PosWork n s k (refLostCheck t n) := .ite h.modPos.raise h

protected theorem gateCheck (h : PosWork n s k t) : PosWork n s k (gateCheck t n) := .ite h.modPos.bump.raise (.ite h.modPos h)

/-! ### A count of one (R169, R171) -/

theorem runBit (h : PosWork n s k t) : t.runBit n = s.runBit n := by
  have ha : ¬ inChan n 0x14000 0x18000 GLB_CHCTL_RUN.addr := by simp [inChan, chBase, GLB_CHCTL_RUN]
  rw [State.runBit, State.rd_congr _ (h.wrote.words _ ha), State.runBit]

/-- A stopped channel's divider does not follow the count. -/
theorem divStep_stopped (h : PosWork n s k t) (hrun : s.runBit n = false) : divStep t n tick = t :=
  if_pos (by simp [h.runBit, hrun])

/-- The count of a stopped channel changes by one. -/
protected theorem countMove {up rise : Bool} (h : PosWork n s k t) (hrun : s.runBit n = false) :
    PosWork n s (k.step up) (countMove t n tick up rise) := by
  unfold countMove
  extract_lets compared moved sped toothed checked divided
  have hm : PosWork n s (k.step up) moved := (h.cmpStep.move (·.step up) fun _ => rfl).divCount
  have hc : PosWork n s (k.step up) checked := (PosWork.ite hm.speedChange.toothEdge hm.speedChange).refLostCheck
  have hd : divided = checked := by
    unfold divided
    split
    exacts [hc.divStep_stopped hrun, rfl]
  rw [hd]
  exact hc.gateCheck.showPos

end

end PosWork

end Sys2Proof.Machine
end

section
/-! PROOFS. Encoder edges: how a transition moves the count, which source is counted, and what an edge leaves as it is. -/

namespace Sys2Proof.Machine

/-! ## Transitions (R169, R171) -/

/-- What a transition adds to the count. -/
def QuadStep.delta : QuadStep → Int
  | .none => 0
  | .move up => if up then 1 else -1
  | .error => 0

theorem PosPlace.step_eq (k : PosPlace) (up : Bool) : k.step up = { k with count := k.count + (QuadStep.move up).delta } := by
  cases up <;> rfl

/-- The count that each transition adds in each mode. -/
theorem quadStep_delta (mode : Nat) (inv a0 b0 a1 b1 : Bool) :
    let way (up : Bool) : Int := if up != inv then 1 else -1
    (quadStep mode inv a0 b0 a1 b1).delta =
      if mode = 2 then (if a0 = false ∧ a1 = true then way b1 else 0)
      else if a0 ≠ a1 ∧ b0 ≠ b1 then 0
      else if a0 ≠ a1 then (if mode = 1 ∧ a0 = true then 0 else way (a1 != b1))
      else if b0 ≠ b1 then (if mode = 1 then 0 else way (a1 == b1))
      else 0 := by
  have hab : (b1 == a1) = (a1 == b1) := Bool.beq_comm
  simp only [quadStep, apply_ite QuadStep.delta]
  simp [QuadStep.delta, hab]

/-- A change of both levels at once, but in mode 2, is an error. -/
theorem quadStep_error {mode : Nat} {inv a0 b0 a1 b1 : Bool} (hm : mode ≠ 2) (ha : a0 ≠ a1) (hb : b0 ≠ b1) :
    quadStep mode inv a0 b0 a1 b1 = .error := by
  simp [quadStep, hm, ha, hb]

/-! ## Edges of the source that is counted -/

/-- The transition from the levels counted last. -/
def quadAt (s : State) (n : Nat) (a b : Bool) : QuadStep :=
  quadStep (s.rd (POS_CFG_MODE n)) (s.rb (POS_CFG_INV n)) (posOf s n).a (posOf s n).b a b

/-- The levels are taken. -/
def levelsTaken (s : State) (n : Nat) (a b : Bool) (sub : Nat) : State :=
  s.modPos n fun p => { absLatch p (s.tick sub) with a := a, b := b }

section
variable {n : Fin 4} {s t : State} {k : PosPlace} {a b : Bool} {sub : Nat}

protected theorem PosWork.levelsTaken (h : PosWork n s k t) : PosWork n s { k with a := a, b := b } (levelsTaken t n a b sub) :=
  h.move (fun k => { k with a := a, b := b }) fun p => by
    have hp := absLatch_place p (t.tick sub)
    exact congrArg (fun k : PosPlace => { k with a := a, b := b }) hp

/-- In boot step 1 the levels are followed and not counted. -/
theorem sourceEdge_held (h : s.boot.phase = .held) : sourceEdge s n a b sub = levelsTaken s n a b sub := if_pos h

/-- After it they are counted. -/
theorem sourceEdge_counted (h : s.boot.phase ≠ .held) : sourceEdge s n a b sub =
    match quadAt s n a b with
    | .none => levelsTaken s n a b sub
    | .error => (((levelsTaken s n a b sub).bump (POS_CNT_QERR n)).wr (POS_STAT_SUSPECT n) 1).raise (ev (EV_POS_QERR n))
    | .move up => countMove (levelsTaken s n a b sub) n (s.tick sub) up (!(posOf s n).a && a) :=
  if_neg h

/-- A stopped channel's count moves as the transition says, but in boot step 1. -/
protected theorem PosWork.sourceEdge (h : PosWork n s k t) (hrun : s.runBit n = false) :
    PosWork n s { k with a := a, b := b, count := k.count + if t.boot.phase = .held then 0 else (quadAt t n a b).delta }
      (sourceEdge t n a b sub) := by
  have hl : PosWork n s { k with a := a, b := b } (levelsTaken t n a b sub) := h.levelsTaken
  have hz : ({ k with a := a, b := b, count := k.count + 0 } : PosPlace) = { k with a := a, b := b } := by rw [Int.add_zero]
  by_cases hb : t.boot.phase = .held
  · rw [sourceEdge_held hb, if_pos hb]
    exact hz ▸ hl
  · rw [sourceEdge_counted hb, if_neg hb]
    cases quadAt t n a b with
    | none => exact hz ▸ hl
    | error => exact hz ▸ hl.bump.wr.raise
    | move up => exact PosPlace.step_eq { k with a := a, b := b } up ▸ hl.countMove hrun

/-- An error is counted, marks the count as suspect and is raised. -/
theorem sourceEdge_error (h : RegsWf s) (hb : s.boot.phase ≠ .held)
    (he : quadAt s n a b = .error) :
    let t := sourceEdge s n a b sub
    t.rd (POS_CNT_QERR n) = min (s.rd (POS_CNT_QERR n) + 1) 65535 ∧ t.rd (POS_STAT_SUSPECT n) = 1 ∧
      t.evq = s.evq ++ [ev (EV_POS_QERR n)] := by
  have hl : RegsWf (levelsTaken s n a b sub) := h
  have hq : (POS_CNT_QERR n).Fits := by simp [Fld.Fits, POS_CNT_QERR]
  have hs : (POS_STAT_SUSPECT n).Fits := by simp [Fld.Fits, POS_STAT_SUSPECT]
  have hfar : (POS_CNT_QERR n).addr ≠ (POS_STAT_SUSPECT n).addr := by simp [POS_CNT_QERR, POS_STAT_SUSPECT]
  rw [sourceEdge_counted hb, he]
  refine ⟨?_, ?_, rfl⟩
  · rw [State.raise_rd, State.rd_wr_far _ hfar, State.rd_bump_same hl hq, levelsTaken, State.modPos_rd]
    rfl
  · rw [State.raise_rd, State.rd_wr_same (hl.bump _) hs]
    rfl

end

/-! ## Edges of either source -/

/-- The count change that the test generator has due (R181). -/
def genNext (s : State) (n : Nat) : Option PosGen :=
  genStep (posOf s n).gen (s.rb (POS_GEN_DIR n)) (s.rd (POS_GEN_TOOTH n)) (s.rd (POS_GEN_TEETH n))

/-- A source has moved: nothing that is counted or shown has changed. -/
structure SourceMoved (n : Fin 4) (s u : State) : Prop where
  work : PosWork n s (posOf s n).place u
  regs : u.regs = s.regs
  evq : u.evq = s.evq
  boot : u.boot = s.boot

section
variable {n : Fin 4} {s t : State} {a b : Bool} {sub : Nat}

theorem SourceMoved.refl (n : Fin 4) (h : RegsWf s) : SourceMoved n s s := ⟨.refl n h, rfl, rfl, rfl⟩

theorem SourceMoved.modPos {f : PosSt → PosSt} (h : SourceMoved n s t) (hf : ∀ p, (f p).place = p.place := by intro; rfl) :
    SourceMoved n s (t.modPos n f) := ⟨h.work.modPos hf, h.regs, h.evq, h.boot⟩

theorem SourceMoved.rd (h : SourceMoved n s t) (f : Fld) : t.rd f = s.rd f := State.rd_congr f (State.word_congr h.regs _)

theorem SourceMoved.rb (h : SourceMoved n s t) (f : Fld) : t.rb f = s.rb f := congrArg (· != 0) (h.rd f)

theorem SourceMoved.quadAt (h : SourceMoved n s t) : quadAt t n a b = quadAt s n a b := by
  have ha : (posOf t n).a = (posOf s n).a := congrArg PosPlace.a h.work.place
  have hb : (posOf t n).b = (posOf s n).b := congrArg PosPlace.b h.work.place
  rw [Machine.quadAt, h.rd, h.rb, ha, hb, Machine.quadAt]

/-- An edge at the pins is counted unless the generator is the source. -/
theorem encoderEdge_pins (h : RegsWf s) : ∃ u, SourceMoved n s u ∧
    encoderEdge s n a b false sub = if s.rb (POS_GEN_LOOP n) = false then sourceEdge u n a b sub else u := by
  refine ⟨s.modPos n fun p => { p with pinA := a, pinB := b }, (SourceMoved.refl n h).modPos, ?_⟩
  rw [encoderEdge, if_neg (by decide)]
  dsimp only
  rw [State.modPos_rb]
  cases s.rb (POS_GEN_LOOP n) <;> rfl

/-- A generator with no count change due does nothing. -/
theorem encoderEdge_genNone (hg : genNext s n = none) : encoderEdge s n a b true sub = s := by
  rw [genNext] at hg
  rw [encoderEdge, if_pos rfl, genEdge, hg]

/-- A count change of the generator is counted if it is the source. -/
theorem encoderEdge_genSome (h : RegsWf s) {g : PosGen} (hg : genNext s n = some g) : ∃ u, SourceMoved n s u ∧
    encoderEdge s n a b true sub = if s.rb (POS_GEN_LOOP n) = true then sourceEdge u n g.a g.b sub else u := by
  have hm : SourceMoved n s (s.modPos n fun p => { p with gen := g }) := (SourceMoved.refl n h).modPos
  rw [genNext] at hg
  rw [encoderEdge, if_pos rfl, genEdge, hg]
  dsimp only
  split
  · refine ⟨_, ?_, by rw [State.modPos_rb, State.modPos_rb]⟩
    exact hm.modPos
  · exact ⟨_, hm, by rw [State.modPos_rb]⟩

/-- An edge is counted, or the source has moved and nothing else has changed. -/
theorem encoderEdge_source (h : RegsWf s) (pinA pinB gen : Bool) : ∃ u, SourceMoved n s u ∧
    encoderEdge s n pinA pinB gen sub = if s.rb (POS_GEN_LOOP n) = gen ∧ (gen = true → (genNext s n).isSome = true) then
      sourceEdge u n (if gen then ((genNext s n).map PosGen.a).getD (posOf s n).a else pinA)
        (if gen then ((genNext s n).map PosGen.b).getD (posOf s n).b else pinB) sub else u := by
  cases gen with
  | false => simpa using encoderEdge_pins h
  | true =>
    cases hg : genNext s n with
    | none => exact ⟨s, .refl n h, by simp [encoderEdge_genNone hg]⟩
    | some g => simpa using encoderEdge_genSome h hg

end

/-! ## The obligation -/

/-- Settles O7: the count moves as the transition says, and every operation that follows it keeps to the channel's block. -/
theorem encoderLevelsMoveTheCount : Obligations.EncoderLevelsMoveTheCount := by
  intro s n pinA pinB gen sub hwf hrun p next a b taken mode way counted error
  obtain ⟨u, hu, hedge⟩ := encoderEdge_source (n := n) (sub := sub) hwf pinA pinB gen
  refine ⟨_, rfl, ?_⟩
  by_cases ht : taken
  · rw [hedge.trans (if_pos ht)]
    have hw : PosWork n s _ (sourceEdge u n a b sub) := hu.work.sourceEdge hrun
    rw [hu.boot, hu.quadAt] at hw
    refine ⟨(absurd ht ·), fun _ => ⟨congrArg PosPlace.a hw.place, congrArg PosPlace.b hw.place⟩, ?_,
      fun ⟨⟨_, hb⟩, hm, ha, hb'⟩ => ?_, hw.wrote.words, hw.others, hw.drams, hw.outbox⟩
    · refine (congrArg PosPlace.count hw.place).trans (congrArg (p.count + ·) ?_)
      by_cases hb : s.boot.phase = .held
      · rw [if_pos hb, if_pos fun hc : counted => hc.2 hb]
      · rw [if_neg hb, if_neg (not_not_intro (show counted from ⟨ht, hb⟩))]
        exact quadStep_delta ..
    · have he : quadAt u n a b = .error := hu.quadAt.trans (quadStep_error hm ha hb')
      have h := sourceEdge_error (sub := sub) hu.work.wrote.wf (by rwa [hu.boot]) he
      rwa [hu.rd, hu.evq] at h
  · rw [hedge.trans (if_neg ht)]
    have hc : ¬ counted := fun hc => ht hc.1
    have hw := hu.work
    refine ⟨fun _ => ⟨congrArg PosPlace.a hw.place, congrArg PosPlace.b hw.place, hu.regs, hu.evq⟩, (absurd · ht), ?_,
      fun he => absurd he.1 hc, hw.wrote.words, hw.others, hw.drams, hw.outbox⟩
    rw [if_pos hc, Int.add_zero]
    exact congrArg PosPlace.count hw.place

end Sys2Proof.Machine
end

section
/-! PROOFS. Pulses and references: the ends of pulses, corrections of a stopped channel, and counts that a reference latches. -/

namespace Sys2Proof.Machine

/-! ## Fields written one after another -/

/-- Several fields set one after another. -/
def State.puts (s : State) (l : List (Fld × Nat)) : State := l.foldl (fun t p => t.wr p.1 p.2) s

theorem State.puts_rest (s : State) (l : List (Fld × Nat)) : s.puts l = { s with regs := (s.puts l).regs } := by
  induction l generalizing s with
  | nil => rfl
  | cons p l ih => exact ih (s.wr p.1 p.2)

theorem Wrote.puts {s t : State} {may : Nat → Prop} {l : List (Fld × Nat)} (h : Wrote s t may) (ha : ∀ p ∈ l, may p.1.addr) :
    Wrote s (t.puts l) may :=
  List.foldlRecOn (motive := fun u => Wrote s u may) l _ h fun _ hu p hp => hu.wr p.2 (ha p hp)

/-- A field that shares no bit with any of them. -/
theorem State.rd_puts_apart {s : State} (h : RegsWf s) {l : List (Fld × Nat)} {f : Fld} (hf : f.Fits)
    (hl : ∀ p ∈ l, p.1.Fits ∧ p.1.Apart f) : (s.puts l).rd f = s.rd f := by
  have hk : RegsWf (s.puts l) ∧ (s.puts l).rd f = s.rd f :=
    List.foldlRecOn (motive := fun t => RegsWf t ∧ t.rd f = s.rd f) l _ ⟨h, rfl⟩ fun _ ⟨hw, hr⟩ p hp =>
      ⟨hw.wr .., (State.rd_wr_apart hw (hl p hp).1 hf (hl p hp).2 _).trans hr⟩
  exact hk.2

/-- A register pair that has been set to a 64-bit number. -/
theorem State.rd64_wr64_same {s : State} (h : RegsWf s) {f g : Fld} (hf : f.Fits) (hg : g.Fits) (hfw : f.width = 32)
    (hgw : g.width = 32) (ha : f.addr ≠ g.addr) {v : Nat} (hv : v < 2 ^ 64) : (s.wr64 f g v).rd64 f g = v := by
  rw [State.rd64, State.wr64, State.rd_wr_far _ ha, State.rd_wr_same h hf, State.rd_wr_same (h.wr ..) hg, hfw, hgw]
  omega

theorem toBits_lt (w : Nat) (i : Int) : toBits w i < 2 ^ w := by
  have hw : 0 < 2 ^ w := Nat.two_pow_pos w
  have h1 := Int.emod_nonneg i (b := (2 ^ w : Nat)) (by omega)
  have h2 := Int.emod_lt_of_pos i (b := (2 ^ w : Nat)) (by omega)
  rw [toBits]
  omega

/-! ## What shows of a position (R186) -/

/-- The fields that show count, mark and status, and their values. -/
def shown (p : PosSt) (n : Nat) : List (Fld × Nat) :=
  [(POS_COUNT_LO_COUNT n, toBits 64 p.count % 2 ^ 32), (POS_COUNT_HI_COUNT n, toBits 64 p.count / 2 ^ 32),
   (POS_HWM_LO_HWM n, toBits 64 p.hwm % 2 ^ 32), (POS_HWM_HI_HWM n, toBits 64 p.hwm / 2 ^ 32),
   (POS_STAT_GATED n, b2n (p.count < p.hwm)), (POS_STAT_OVLP n, b2n p.ovlArmed)] ++
  (match p.absLat with
    | some l => [(POS_ABSLAT_LO_COUNT n, toBits 64 l % 2 ^ 32), (POS_ABSLAT_HI_COUNT n, toBits 64 l / 2 ^ 32)]
    | none => []) ++
  [(POS_STAT_CORRPEND n, b2n p.corr.isSome)]

theorem showPos_eq (s : State) (n : Nat) : showPos s n = s.puts (shown (posOf s n) n) := by
  unfold showPos shown
  dsimp only
  cases (posOf s n).absLat <;> rfl

/-- The fields among them. -/
def shownFields (n : Nat) : List Fld :=
  [POS_COUNT_LO_COUNT n, POS_COUNT_HI_COUNT n, POS_HWM_LO_HWM n, POS_HWM_HI_HWM n, POS_STAT_GATED n, POS_STAT_OVLP n,
   POS_ABSLAT_LO_COUNT n, POS_ABSLAT_HI_COUNT n, POS_STAT_CORRPEND n]

theorem shown_fields (p : PosSt) (n : Nat) : (shown p n).map Prod.fst ⊆ shownFields n := by
  unfold shown shownFields
  cases p.absLat <;> simp

/-- They lie in the status register's bits 29 to 27, and in the registers of the count, the mark and the latched count. -/
theorem shownFields_place {n : Nat} {f : Fld} (h : f ∈ shownFields n) : f.Fits ∧ ∃ k, f.addr = k + chBase n ∧
    (k = 0x14008 ∧ 27 ≤ f.lo ∧ f.hi ≤ 29 ∨ 0x14010 ≤ k ∧ k < 0x14018 ∨ 0x14038 ≤ k ∧ k < 0x14040 ∨
      0x140A0 ≤ k ∧ k < 0x140A8) := by
  simp only [shownFields, List.mem_cons, List.not_mem_nil, or_false] at h
  rcases h with rfl | rfl | rfl | rfl | rfl | rfl | rfl | rfl | rfl <;>
    simp [Fld.Fits, POS_COUNT_LO_COUNT, POS_COUNT_HI_COUNT, POS_HWM_LO_HWM, POS_HWM_HI_HWM, POS_STAT_GATED, POS_STAT_OVLP,
      POS_ABSLAT_LO_COUNT, POS_ABSLAT_HI_COUNT, POS_STAT_CORRPEND]

theorem showPos_rest (s : State) (n : Nat) : showPos s n = { s with regs := (showPos s n).regs } := by
  rw [showPos_eq, ← State.puts_rest]

theorem posOf_showPos (s : State) (n m : Nat) : posOf (showPos s n) m = posOf s m := by rw [showPos_rest]; rfl

theorem Wrote.showPos {s t : State} {may : Nat → Prop} {n : Nat} (h : Wrote s t may) (ha : ∀ g ∈ shownFields n, may g.addr) :
    Wrote s (showPos t n) may := by
  rw [showPos_eq]
  exact h.puts fun p hp => ha _ (shown_fields _ n (List.mem_map_of_mem hp))

/-- Every other field reads as before. -/
theorem showPos_rd_apart {s : State} (h : RegsWf s) {n : Nat} {f : Fld} (hf : f.Fits) (ha : ∀ g ∈ shownFields n, g.Apart f) :
    (showPos s n).rd f = s.rd f := by
  rw [showPos_eq]
  refine State.rd_puts_apart h hf fun p hp => ?_
  have hm := shown_fields (posOf s n) n (List.mem_map_of_mem hp)
  exact ⟨(shownFields_place hm).1, ha _ hm⟩

/-! ## References (R173, R174) -/

theorem Wrote.modPos {s t : State} {may : Nat → Prop} {n : Nat} {f : PosSt → PosSt} (h : Wrote s t may) : Wrote s (t.modPos n f) may :=
  h.congr (State.modPos_regs ..)

theorem Wrote.raise {s t : State} {may : Nat → Prop} {r : Raise} (h : Wrote s t may) : Wrote s (t.raise r) may :=
  h.congr (State.raise_regs ..)

theorem Wrote.driftCheck {s t : State} {may : Nat → Prop} {n : Nat} {c : Int} (h : Wrote s t may)
    (hd : may (POS_DRIFT_LAST n).addr) (hs : may (POS_STAT_SUSPECT n).addr) : Wrote s (driftCheck t n c) may := by
  unfold Machine.driftCheck
  extract_lets cpr d drifted on far raised
  have hw : Wrote s drifted may := (h.wr (f := POS_DRIFT_LAST n) _ hd).wr (f := POS_DRIFT_MAX n) _ hd
  split
  exacts [(hw.wr 0 hs).modPos, hw.raise.modPos]

/-- A count is latched for a reference. -/
def refLatched (s : State) (n : Nat) : State :=
  s.wr64 (POS_REFLAT_LO_COUNT n) (POS_REFLAT_HI_COUNT n) (toBits 64 (posOf s n).count)

/-- What a reference does after it has latched the count leaves the latched count. -/
theorem reference_wrote {s : State} (h : RegsWf s) (n : Nat) :
    Wrote (refLatched s n) (reference s n) fun a => ¬ inChan n 0x14050 0x14058 a := by
  have hl : RegsWf (refLatched s n) := h.wr64 ..
  have hshown : ∀ g ∈ shownFields n, ¬ inChan n 0x14050 0x14058 g.addr := fun g hg => by
    obtain ⟨_, k, hk, _⟩ := shownFields_place hg
    exact hk ▸ not_inChan (by omega)
  unfold reference
  extract_lets c latched cpr armed started
  have hs : Wrote (refLatched s n) started fun a => ¬ inChan n 0x14050 0x14058 a :=
    (Wrote.refl hl).modPos.wr (f := POS_STAT_ARMED n) 1 (not_inChan (.inl (by decide)))
  split
  · exact (Wrote.refl hl).modPos
  · split
    · exact hs.wr (f := POS_REFEXP_REXP n) _ (not_inChan (.inl (by decide)))
    · exact (hs.driftCheck (not_inChan (.inl (by decide))) (not_inChan (.inl (by decide)))).showPos hshown

/-- A reference latches the count. -/
theorem reference_latches {s : State} (h : RegsWf s) (n : Nat) :
    (reference s n).rd64 (POS_REFLAT_LO_COUNT n) (POS_REFLAT_HI_COUNT n) = toBits 64 (posOf s n).count := by
  have hw {k : Nat} (hlo : 0x14050 ≤ k) (hk : k < 0x14058) : (reference s n).word (k + chBase n) = (refLatched s n).word (k + chBase n) :=
    (reference_wrote h n).words _ (not_not_intro (inChan_of n hlo hk))
  rw [State.rd64, State.rd_congr (POS_REFLAT_LO_COUNT n) (hw (by decide) (by decide)),
    State.rd_congr (POS_REFLAT_HI_COUNT n) (hw (by decide) (by decide)), ← State.rd64]
  exact State.rd64_wr64_same h (by simp [Fld.Fits, POS_REFLAT_LO_COUNT]) (by simp [Fld.Fits, POS_REFLAT_HI_COUNT]) rfl rfl
    (by simp [POS_REFLAT_LO_COUNT, POS_REFLAT_HI_COUNT]) (toBits_lt 64 _)

/-- A reference without a gate follows the index edge. -/
theorem indexPulse_counted {s : State} {n : Nat} {gen : Bool} (hloop : s.rb (POS_GEN_LOOP n) = gen) (hb : s.boot.phase ≠ .held)
    (hdue : gen = true → (posOf s n).gen.index = true) (hsrc : s.rd (POS_CFG_REFSRC n) = 0) (hgate : s.rd (POS_CFG_ZGATE n) = 0) :
    indexPulse s n gen =
      reference (if gen then s.modPos n fun p => { p with gen := { p.gen with index := false } } else s) n := by
  have hd : (!gen || (posOf s n).gen.index) = true := by cases gen <;> simp_all
  unfold indexPulse indexEdge
  rw [hd]
  cases gen <;> simp [hloop, hb, hsrc, hgate]

/-! ## Corrections (R175) -/

theorem cmpFire_evq (s : State) (n c tick : Nat) (e : CmpEntry) : (cmpFire s n c tick e).evq = s.evq := by
  simp only [cmpFire, setCmp, apply_ite State.evq, State.modPos_evq, State.wr_evq, ite_self]

/-- Compare lists raise nothing. -/
theorem cmpStep_evq (s : State) (n tick : Nat) (count : Int) (up : Bool) : (cmpStep s n tick count up).evq = s.evq :=
  iterate_same State.evq fun t c => by
    split
    · rfl
    · refine List.foldlRecOn (motive := fun u : State => u.evq = t.evq) _ _ rfl fun u hu e _ => ?_
      simp only [apply_ite State.evq, cmpFire_evq, ite_self, hu]

theorem cmpCorrection_evq (s : State) (n tick : Nat) (count c : Int) : (cmpCorrection s n tick count c).evq = s.evq :=
  List.foldlRecOn (motive := fun t : State => t.evq = s.evq) _ _ rfl fun _ ht _ _ => (cmpStep_evq ..).trans ht

/-- The position of a channel after a correction. -/
def PosSt.corrected (p : PosSt) (c : Int) : PosSt :=
  { p with corr := none, count := p.count + c, nt := p.nt + c * 4294967296, hwm := p.hwm + c,
           overlap := p.overlap.map fun o => (o.1, o.2 + c * 4294967296), changes := p.changes.map fun x => (x.1, x.2 + c) }

/-- The count has taken a correction that no line's trigger brought. -/
def corrected (s : State) (n tick : Nat) (c : Int) : State :=
  (cmpCorrection (s.modPos n fun p => absLatch p tick) n tick (posOf (s.modPos n fun p => absLatch p tick) n).count c).modPos n
    fun p => p.corrected c

theorem correct_pending {s : State} {n tick : Nat} {c : Int} (hcpr : s.rd (POS_CPR_CPR n) ≠ 0) (hc : (posOf s n).corr = some c) :
    correct s n tick none =
      showPos ((((corrected s n tick c).wr (POS_CORR_C n) (toBits 32 c)).wr (POS_STAT_SUSPECT n) 0).raise (ev (EV_POS_CORR n))) n := by
  rw [correct, if_neg hcpr, hc]
  rfl

section
variable {n : Fin 4} {s : State} {tick : Nat} {c : Int}

theorem corrected_work (h : RegsWf s) (tick : Nat) (c : Int) : PosWork n s
    { (posOf s n).place with count := (posOf s n).count + c, hwm := (posOf s n).hwm + c, nt := (posOf s n).nt + c * 4294967296 }
    (corrected s n tick c) :=
  ((PosWork.refl n h).modPos fun p => absLatch_place p tick).cmpCorrection.move
    (fun k => { k with count := k.count + c, hwm := k.hwm + c, nt := k.nt + c * 4294967296 }) fun _ => rfl

/-- A correction moves count, mark and threshold together, and clears the suspicion. -/
theorem correct_applied (h : RegsWf s) (hcpr : s.rd (POS_CPR_CPR n) ≠ 0) (hc : (posOf s n).corr = some c) :
    let t := correct s n tick none
    PosWork n s
      { (posOf s n).place with count := (posOf s n).count + c, hwm := (posOf s n).hwm + c, nt := (posOf s n).nt + c * 4294967296 } t ∧
    (posOf t n).corr = none ∧ t.rd (POS_CORR_C n) = toBits 32 c ∧ t.rd (POS_STAT_SUSPECT n) = 0 ∧
    t.evq = s.evq ++ [ev (EV_POS_CORR n)] := by
  have hw := corrected_work (n := n) h tick c
  have hwf := hw.wrote.wf
  have hcorr : (posOf (corrected s n tick c) n).corr = none := by rw [corrected, posOf_modPos]; rfl
  have hcf : (POS_CORR_C n).Fits := by simp [Fld.Fits, POS_CORR_C]
  have hsf : (POS_STAT_SUSPECT n).Fits := by simp [Fld.Fits, POS_STAT_SUSPECT]
  have hne : (POS_CORR_C n).addr ≠ (POS_STAT_SUSPECT n).addr := by simp [POS_CORR_C, POS_STAT_SUSPECT]
  have hfar : ∀ g ∈ shownFields n, g.Apart (POS_CORR_C n) := fun g hg => by
    obtain ⟨_, k, hk, _⟩ := shownFields_place hg
    exact .inl (by simp only [hk, POS_CORR_C]; omega)
  have hbits : ∀ g ∈ shownFields n, g.Apart (POS_STAT_SUSPECT n) := fun g hg => by
    obtain ⟨_, k, hk, _⟩ := shownFields_place hg
    simp only [Fld.Apart, hk, POS_STAT_SUSPECT]
    omega
  intro t
  have ht : t = _ := correct_pending hcpr hc
  rw [ht]
  refine ⟨hw.wr.wr.raise.showPos, ?_, ?_, ?_, ?_⟩
  · rw [posOf_showPos]
    exact hcorr
  · rw [showPos_rd_apart (((hwf.wr ..).wr ..).raise _) hcf hfar, State.raise_rd, State.rd_wr_far _ hne, State.rd_wr_same hwf hcf]
    exact Nat.mod_eq_of_lt (toBits_lt 32 c)
  · rw [showPos_rd_apart (((hwf.wr ..).wr ..).raise _) hsf hbits, State.raise_rd, State.rd_wr_same (hwf.wr ..) hsf, Nat.zero_mod]
  · rw [showPos_rest]
    exact congrArg (· ++ [ev (EV_POS_CORR n)]) (cmpCorrection_evq ..)

end

/-! ## The obligation -/

/-- Settles O8: a pulse that is over ends; what a correction or a reference writes, the later parts of its operation leave. -/
theorem pulsesEndAndReferencesLatch : Obligations.PulsesEndAndReferencesLatch := by
  unfold Obligations.PulsesEndAndReferencesLatch
  refine ⟨fun s n c sub u _ hq hp hu => ?_, fun s n sub u _ hq hp hu => ?_, fun s n c hwf hrun hc => ⟨fun hcpr => ?_, fun hcpr => ?_⟩,
    fun s n gen hwf hloop hb hdue hsrc hgate => ?_⟩
  · refine next_finish hq (u := cmpPulseEnd s n c (s.tick sub)) ?_ rfl rfl
    rw [cmpPulseEnd, hp]
    exact if_pos hu
  · refine next_finish hq (u := divPulseEnd s n (s.tick sub)) ?_ rfl rfl
    rw [divPulseEnd, hp]
    exact if_pos hu
  · exact next_finish_congr ((if_neg (by simp [hrun])).trans (if_pos hcpr))
  · obtain ⟨hw, hcorr, hshown, hsuspect, hevq⟩ := correct_applied (tick := s.tick 0) hwf hcpr hc
    exact ⟨_, next_finish_congr (if_neg (by simp [hrun])), congrArg PosPlace.count hw.place, congrArg PosPlace.hwm hw.place,
      congrArg PosPlace.nt hw.place, hcorr, hshown, hsuspect, hevq, hw.wrote.words⟩
  · refine ⟨_, next_finish_congr (indexPulse_counted hloop hb hdue hsrc hgate), ?_⟩
    have hw : PosWork n s (posOf s n).place
        (if gen then s.modPos n fun p => { p with gen := { p.gen with index := false } } else s) :=
      .ite (PosWork.refl n hwf).modPos (.refl n hwf)
    refine ⟨?_, congrArg PosPlace.count hw.reference.place, hw.reference.wrote.words⟩
    rw [reference_latches hw.wrote.wf]
    exact congrArg (fun k => toBits 64 (PosPlace.count k)) hw.place

end Sys2Proof.Machine
end

section
/-! PROOFS. Presets and absolute reads: counts that are loaded, frames that end, and the speed at standstill. -/

namespace Sys2Proof.Machine

/-! ## Presets and absolute loads (R172, R183) -/

/-- The suspicion is cleared, and a read whose latch instant has come has its count. -/
def unsuspected (s : State) (n : Nat) : State :=
  ((s.wr (POS_STAT_SUSPECT n) 0).wr (POS_STAT_ARMED n) 0).modPos n fun p => absLatch p (s.tick 0)

/-- The count of a load, before it shows. -/
def countLoaded (s : State) (n : Nat) (c : Int) : State :=
  (unsuspected s n).modPos n fun p =>
    { p with count := c, corr := none, refBase := c, changes := p.changes.map fun x => (x.1, x.2 + (c - p.count)),
             gateArmed := decide ((p.hwm - c) * 4294967296 ≤ posPitch (unsuspected s n) n) }

theorem loadCount_eq (s : State) (n : Nat) (c : Int) : loadCount s n c = showPos (countLoaded s n c) n := rfl

/-- What a load of the count leaves: the count, no correction, and no suspicion. -/
structure CountLoaded (n : Fin 4) (s : State) (c : Int) (t : State) : Prop where
  work : PosWork n s { (posOf s n).place with count := c } t
  corr : (posOf t n).corr = none
  suspect : t.rd (POS_STAT_SUSPECT n) = 0
  armed : t.rd (POS_STAT_ARMED n) = 0
  evq : t.evq = s.evq
  umd : t.umd = s.umd

theorem loadCount_loaded {s : State} (h : RegsWf s) (n : Fin 4) (c : Int) : CountLoaded n s c (loadCount s n c) := by
  have hsf : (POS_STAT_SUSPECT n).Fits := by simp [Fld.Fits, POS_STAT_SUSPECT]
  have haf : (POS_STAT_ARMED n).Fits := by simp [Fld.Fits, POS_STAT_ARMED]
  have hsa : (POS_STAT_ARMED n).Apart (POS_STAT_SUSPECT n) := .inr (by simp [POS_STAT_ARMED, POS_STAT_SUSPECT])
  have hw : PosWork n s { (posOf s n).place with count := c } (countLoaded s n c) :=
    ((PosWork.refl n h).wr.wr.modPos fun p => absLatch_place p (s.tick 0)).move (fun k => { k with count := c }) fun _ => rfl
  have hbits {f : Fld} (ha : f.addr = (POS_STAT_SUSPECT n).addr) (hf : 29 < f.lo) : ∀ g ∈ shownFields n, g.Apart f := fun g hg => by
    obtain ⟨_, k, hk, _⟩ := shownFields_place hg
    simp only [Fld.Apart, hk, ha, POS_STAT_SUSPECT]
    omega
  rw [loadCount_eq]
  refine ⟨hw.showPos, ?_, ?_, ?_, ?_, ?_⟩
  · rw [posOf_showPos, countLoaded, posOf_modPos]
  · rw [showPos_rd_apart hw.wrote.wf hsf (hbits rfl (by simp [POS_STAT_SUSPECT])), countLoaded, State.modPos_rd,
      unsuspected, State.modPos_rd, State.rd_wr_apart (h.wr ..) haf hsf hsa, State.rd_wr_same h hsf, Nat.zero_mod]
  · rw [showPos_rd_apart hw.wrote.wf haf (hbits rfl (by simp [POS_STAT_ARMED])), countLoaded, State.modPos_rd,
      unsuspected, State.modPos_rd, State.rd_wr_same (h.wr ..) haf, Nat.zero_mod]
  · rw [showPos_rest]; rfl
  · rw [showPos_rest]; rfl

theorem CountLoaded.modPos {n : Fin 4} {s t : State} {c : Int} {f : PosSt → PosSt} (h : CountLoaded n s c t)
    (hf : ∀ p, (f p).place = p.place := by intro; rfl) (hc : ∀ p, (f p).corr = p.corr := by intro; rfl) :
    CountLoaded n s c (t.modPos n f) where
  work := h.work.modPos hf
  corr := by rw [posOf_modPos, hc, h.corr]
  suspect := h.suspect
  armed := h.armed
  evq := h.evq
  umd := h.umd

/-- The count is preset on a stopped channel, with the line number. -/
theorem posPreset_stopped {s : State} {n : Nat} (h : s.runBit n = false) : posPreset s n =
    (loadCount s n (sext 64 (s.rd64 (POS_PRESET_LO_VALUE n) (POS_PRESET_HI_VALUE n)))).modPos n fun p =>
      { p with line := s.rd64 (POS_LINE_LO_LINE n) (POS_LINE_HI_LINE n) } := if_neg (by simp [h])

theorem absLoad_refused {s : State} {n : Nat} (h : (posOf s n).absGood = none ∨ s.running n = true) :
    absLoad s n = s.bump (POS_CNT2_REFUSED n) := by
  unfold absLoad
  split
  · next m hm => exact if_pos (h.resolve_left (by simp [hm]))
  · rfl

theorem absLoad_loads {s : State} {n : Nat} {m : Int} (hm : (posOf s n).absGood = some m) (h : s.running n = false) :
    absLoad s n = loadCount s n ((posOf s n).count - m) := by
  rw [absLoad, hm]
  exact if_neg (by simp [h])

/-! ## Absolute reads (R182, R183) -/

/-- The state in which a read has been requested. -/
theorem absRead_begins {s : State} {n tick : Nat} (hprot : s.rd (POS_ABSCFG_PROT n) ≠ 0) (hbusy : s.rb (POS_STAT_ABSBUSY n) = false) :
    absRead s n tick = (s.wr (POS_STAT_ABSBUSY n) 1).modPos n fun p =>
      { p with absAt := some (max tick p.absFree + 15 * s.rd (POS_ABSCFG_LATDLY n)), absLat := none } :=
  if_neg (by simp [hprot, hbusy])

/-- Whether a frame is good depends on the protocol's registers alone. -/
theorem absGoodFrame_congr {s t : State} {n : Nat} {f : AbsFrame} (h : t.word (POS_ABSCFG_PROT n).addr = s.word (POS_ABSCFG_PROT n).addr)
    (h2 : t.word (POS_ABSCFG2_CRCW n).addr = s.word (POS_ABSCFG2_CRCW n).addr) : absGoodFrame t n f = absGoodFrame s n f := by
  unfold absGoodFrame
  rw [State.rd_congr (POS_ABSCFG_BITS n) h, State.rd_congr (POS_ABSCFG_ERRBITS n) h, State.rd_congr (POS_ABSCFG_PROT n) h,
    State.rd_congr (POS_ABSCFG2_CRCW n) h2, State.rd_congr (POS_ABSCFG2_POLY n) h2]

/-- The count that a read at its end has latched. -/
def latchedCount (s : State) (n tick : Nat) : Int := (absLatch (posOf s n) tick).absLat.getD (absLatch (posOf s n) tick).count

theorem latchedCount_eq (s : State) (n tick : Nat) :
    latchedCount s n tick = (absLatch (posOf s n) tick).absLat.getD (posOf s n).count := by
  have hc : (absLatch (posOf s n) tick).count = (posOf s n).count := congrArg PosPlace.count (absLatch_place ..)
  rw [latchedCount, hc]

/-- A read has ended, before its frame is judged. -/
def absEnded (s : State) (n tick : Nat) : State :=
  ((s.wr (POS_STAT_ABSBUSY n) 0).modPos n fun q =>
    { q with absAt := none, absLat := none,
             absFree := if s.rd (POS_ABSCFG_PROT n) != 3 then tick + 1500 * s.rd (POS_ABSPER_WAIT n) else q.absFree }).wr64
      (POS_ABSLAT_LO_COUNT n) (POS_ABSLAT_HI_COUNT n) (toBits 64 (latchedCount s n tick))

section
variable {n : Fin 4} {s : State} {tick : Nat} {f : AbsFrame}

theorem absEnded_wrote (h : RegsWf s) : Wrote s (absEnded s n tick) fun a => ¬ inChan n 0x14080 0x14088 a :=
  ((Wrote.wr (f := POS_STAT_ABSBUSY n) (.refl h) 0 (not_inChan (.inl (by decide)))).modPos.wr (f := POS_ABSLAT_LO_COUNT n) _
    (not_inChan (.inr (by decide)))).wr (f := POS_ABSLAT_HI_COUNT n) _ (not_inChan (.inr (by decide)))

theorem absGoodFrame_ended (h : RegsWf s) : absGoodFrame (absEnded s n tick) n f = absGoodFrame s n f :=
  have hw := (absEnded_wrote (n := n) (tick := tick) h).words
  absGoodFrame_congr (hw _ (not_not_intro (inChan_of n (by decide) (by decide))))
    (hw _ (not_not_intro (inChan_of n (by decide) (by decide))))

theorem absEnded_rd (h : RegsWf s) : (absEnded s n tick).rd (POS_STAT_ABSBUSY n) = 0 ∧
    (absEnded s n tick).rd64 (POS_ABSLAT_LO_COUNT n) (POS_ABSLAT_HI_COUNT n) = toBits 64 (latchedCount s n tick) := by
  have hbf : (POS_STAT_ABSBUSY n).Fits := by simp [Fld.Fits, POS_STAT_ABSBUSY]
  have hlo : (POS_STAT_ABSBUSY n).addr ≠ (POS_ABSLAT_LO_COUNT n).addr := by simp [POS_STAT_ABSBUSY, POS_ABSLAT_LO_COUNT]
  have hhi : (POS_STAT_ABSBUSY n).addr ≠ (POS_ABSLAT_HI_COUNT n).addr := by simp [POS_STAT_ABSBUSY, POS_ABSLAT_HI_COUNT]
  refine ⟨?_, State.rd64_wr64_same ((h.wr ..).modPos ..) (by simp [Fld.Fits, POS_ABSLAT_LO_COUNT])
    (by simp [Fld.Fits, POS_ABSLAT_HI_COUNT]) rfl rfl (by simp [POS_ABSLAT_LO_COUNT, POS_ABSLAT_HI_COUNT]) (toBits_lt 64 _)⟩
  rw [absEnded, State.wr64, State.rd_wr_far _ hhi, State.rd_wr_far _ hlo, State.modPos_rd, State.rd_wr_same h hbf, Nat.zero_mod]

/-- What the judgement of a frame leaves: its outcome in GOOD, and the end of the read as it was. -/
structure FrameJudged (n : Fin 4) (s : State) (good : Bool) (t : State) : Prop where
  shown : t.rb (POS_ABSSTAT_GOOD n) = good
  busy : t.rd (POS_STAT_ABSBUSY n) = s.rd (POS_STAT_ABSBUSY n)
  latched : t.rd64 (POS_ABSLAT_LO_COUNT n) (POS_ABSLAT_HI_COUNT n) = s.rd64 (POS_ABSLAT_LO_COUNT n) (POS_ABSLAT_HI_COUNT n)

/-- The judgement writes no register of the status or of the latched count. -/
theorem FrameJudged.of_wrote {good : Bool} {t : State} (hs : t.rb (POS_ABSSTAT_GOOD n) = good)
    (hw : Wrote s t fun a => ¬ inChan n 0x14008 0x1400C a ∧ ¬ inChan n 0x140A0 0x140A8 a) : FrameJudged n s good t := by
  have hlat {k : Nat} (hlo : 0x140A0 ≤ k) (hk : k < 0x140A8) : t.word (k + chBase n) = s.word (k + chBase n) :=
    hw.words _ fun ha => ha.2 (inChan_of n hlo hk)
  refine ⟨hs, State.rd_congr _ (hw.words _ fun ha => ha.1 (inChan_of n (by decide) (by decide))), ?_⟩
  rw [State.rd64, State.rd_congr (POS_ABSLAT_LO_COUNT n) (hlat (by decide) (by decide)),
    State.rd_congr (POS_ABSLAT_HI_COUNT n) (hlat (by decide) (by decide)), State.rd64]

/-- A bad frame is counted and raised. -/
theorem absDone_bad (hbusy : s.rb (POS_STAT_ABSBUSY n) = true) (hg : absGoodFrame (absEnded s n tick) n f = false) :
    absDone s n tick f =
      (((absEnded s n tick).wr (POS_ABSSTAT_GOOD n) 0).bump (POS_CNT_ABSERR n)).raise (ev (EV_POS_ABS_ERR n)) :=
  (if_neg (by simp [hbusy])).trans (if_pos (congrArg not hg))

/-- A good frame gives a value and a deviation, which is raised where it is too large. -/
theorem absDone_good (hbusy : s.rb (POS_STAT_ABSBUSY n) = true) (hg : absGoodFrame (absEnded s n tick) n f = true) :
    ∃ v nw m far, absDone s n tick f =
      ((((((absEnded s n tick).wr64 (POS_ABSVAL_LO_VALUE n) (POS_ABSVAL_HI_VALUE n) v).wr (POS_ABSSTAT_GOOD n) 1).wb
        (POS_ABSSTAT_NW n) nw).modPos n fun q => { q with absGood := some m }).raiseIf far (ev (EV_POS_ABS_MISMATCH n))) :=
  ⟨_, _, _, _, (if_neg (by simp [hbusy])).trans (if_neg fun hb => Bool.noConfusion (hb.symm.trans (congrArg not hg)))⟩

theorem absDone_judged (h : RegsWf s) (hbusy : s.rb (POS_STAT_ABSBUSY n) = true) :
    FrameJudged n (absEnded s n tick) (absGoodFrame s n f) (absDone s n tick f) := by
  have hwf : RegsWf (absEnded s n tick) := (absEnded_wrote h).wf
  have hgf : (POS_ABSSTAT_GOOD n).Fits := by simp [Fld.Fits, POS_ABSSTAT_GOOD]
  have hnf : (POS_ABSSTAT_NW n).Fits := by simp [Fld.Fits, POS_ABSSTAT_NW]
  have hng : (POS_ABSSTAT_NW n).Apart (POS_ABSSTAT_GOOD n) := .inr (by simp [POS_ABSSTAT_NW, POS_ABSSTAT_GOOD])
  have hne : (POS_ABSSTAT_GOOD n).addr ≠ (POS_CNT_ABSERR n).addr := by simp [POS_ABSSTAT_GOOD, POS_CNT_ABSERR]
  have hout {k : Nat} (h1 : 0x1400C ≤ k) (h2 : k < 0x140A0 ∨ 0x140A8 ≤ k) :
      ¬ inChan n 0x14008 0x1400C (k + chBase n) ∧ ¬ inChan n 0x140A0 0x140A8 (k + chBase n) := ⟨not_inChan (.inr h1), not_inChan h2⟩
  rw [← absGoodFrame_ended (tick := tick) h]
  cases hg : absGoodFrame (absEnded s n tick) n f with
  | false =>
    rw [absDone_bad hbusy hg]
    refine .of_wrote ?_ (Wrote.raise (Wrote.wr (f := POS_CNT_ABSERR n) (Wrote.wr (f := POS_ABSSTAT_GOOD n) (.refl hwf) 0
      (hout (by decide) (.inr (by decide)))) _ (hout (by decide) (.inr (by decide)))))
    rw [State.rb, State.raise_rd, State.bump, State.addSat, State.rd_wr_far _ hne, State.rd_wr_same hwf hgf]
    rfl
  | true =>
    obtain ⟨v, nw, m, far, hd⟩ := absDone_good hbusy hg
    have hv : RegsWf ((absEnded s n tick).wr64 (POS_ABSVAL_LO_VALUE n) (POS_ABSVAL_HI_VALUE n) v) := hwf.wr64 ..
    rw [hd]
    refine .of_wrote ?_ (.congr (Wrote.wr (f := POS_ABSSTAT_NW n) (Wrote.wr (f := POS_ABSSTAT_GOOD n)
      (Wrote.wr (f := POS_ABSVAL_HI_VALUE n) (Wrote.wr (f := POS_ABSVAL_LO_VALUE n) (.refl hwf) _
        (hout (by decide) (.inl (by decide)))) _ (hout (by decide) (.inl (by decide)))) 1
      (hout (by decide) (.inr (by decide)))) _ (hout (by decide) (.inr (by decide)))) (State.raiseIf_regs ..))
    rw [State.rb, State.rd_congr _ (State.word_congr (State.raiseIf_regs ..) _), State.modPos_rd, State.wb,
      State.rd_wr_apart (hv.wr ..) hnf hgf hng, State.rd_wr_same hv hgf]
    rfl

/-- A read that ends moves no count. -/
protected theorem PosWork.absDone {k : PosPlace} {t : State} (h : PosWork n s k t) : PosWork n s k (absDone t n tick f) :=
  .ite h (.ite h.wr.modPos.wr64.wr.bump.raise h.wr.modPos.wr64.wr64.wr.wb.modPos.raiseIf)

end

/-! ## The obligation -/

/-- Settles O9: a load writes its count and shows it; a read that ends shows what it latched, and its frame's judgement leaves it. -/
theorem presetsAndAbsoluteReadsSetTheCount : Obligations.PresetsAndAbsoluteReadsSetTheCount := by
  unfold Obligations.PresetsAndAbsoluteReadsSetTheCount
  refine ⟨fun s n hwf hq => ⟨fun hrun => ?_, fun hrun => ?_, fun hnone => ?_, fun hrun => ?_, fun m hm hrun => ?_⟩,
    fun s n _ hq hprot hbusy => ⟨?_, fun hper => ?_⟩, fun s n f hwf hbusy => ?_, fun s n u _ hq hlast hstill => ?_⟩
  · exact next_finish hq (u := posPreset s n) (if_pos hrun) rfl rfl
  · have hl := (loadCount_loaded hwf n (sext 64 (s.rd64 (POS_PRESET_LO_VALUE n) (POS_PRESET_HI_VALUE n)))).modPos
      (f := fun p => { p with line := s.rd64 (POS_LINE_LO_LINE n) (POS_LINE_HI_LINE n) })
    refine ⟨_, next_finish hq (posPreset_stopped hrun) hl.evq hl.umd, congrArg PosPlace.count hl.work.place, ?_, hl.corr, hl.suspect,
      hl.armed, hl.work.wrote.words⟩
    rw [posOf_modPos]
  · exact next_finish hq (absLoad_refused (.inl hnone)) rfl rfl
  · exact next_finish hq (absLoad_refused (.inr hrun)) rfl rfl
  · have hl := loadCount_loaded hwf n ((posOf s n).count - m)
    exact ⟨_, next_finish hq (absLoad_loads hm hrun) hl.evq hl.umd, congrArg PosPlace.count hl.work.place, hl.corr, hl.suspect,
      hl.armed, hl.work.wrote.words⟩
  · exact next_finish hq (absRead_begins hprot hbusy) rfl rfl
  · exact next_finish hq ((if_neg hper).trans (absRead_begins hprot hbusy)) rfl rfl
  · obtain ⟨hgood, hended, hlatched⟩ := absDone_judged (n := n) (tick := s.tick 0) (f := f) hwf hbusy
    obtain ⟨hidle, hcount⟩ := absEnded_rd (n := n) (tick := s.tick 0) hwf
    have hw : PosWork n s (posOf s n).place (absDone s n (s.tick 0) f) := (PosWork.refl n hwf).absDone
    refine ⟨_, rfl, ?_, ?_, hgood, congrArg PosPlace.count hw.place, hw.wrote.words⟩
    · rw [State.rb, hended, hidle]
      rfl
    · rw [hlatched, hcount, latchedCount_eq]
  · refine next_finish hq (u := speedUpdate s n (s.tick 0)) ?_ rfl rfl
    rw [speedUpdate, hlast]
    exact if_pos hstill

end Sys2Proof.Machine
end

section
/-! PROOFS. Motion: what an axis and its registers show, and how axes stop and faults clear. -/

namespace Sys2Proof.Machine

/-! ## One axis of a channel -/

theorem axis_congr {s t : State} (h : t.chans = s.chans) (n a : Nat) : axis t n a = axis s n a := by
  rw [axis, State.ch_congr h, axis]

theorem axis_setAxis_same (s : State) (n a : Nat) (x : AxisSt) : axis (setAxis s n a x) n a = x := by
  rw [axis, setAxis, State.modMot_ch_same]
  exact Quad.get_set_same ..

theorem axis_setAxis_other (s : State) (n : Nat) {a b : Fin 4} (h : b ≠ a) (x : AxisSt) :
    axis (setAxis s n a x) n b = axis s n b := by
  rw [axis, setAxis, State.modMot_ch_same]
  exact Quad.get_set_other _ _ _ _ h

theorem axis_modAxis_same (s : State) (n a : Nat) (f : AxisSt → AxisSt) : axis (modAxis s n a f) n a = f (axis s n a) :=
  axis_setAxis_same ..

theorem axis_modAxis_other (s : State) (n : Nat) {a b : Fin 4} (h : b ≠ a) (f : AxisSt → AxisSt) :
    axis (modAxis s n a f) n b = axis s n b := axis_setAxis_other _ _ h _

@[simp] theorem modAxis_rd (s : State) (n a : Nat) (f : AxisSt → AxisSt) (x : Fld) : (modAxis s n a f).rd x = s.rd x :=
  State.modMot_rd ..

theorem RegsWf.modAxis {s : State} (h : RegsWf s) (n a : Nat) (f : AxisSt → AxisSt) : RegsWf (modAxis s n a f) := h

/-! ## What shows of an axis (R210) -/

/-- The fields that show an axis's motion. -/
def axisShown (n a : Nat) : List Fld :=
  [MOTA_POS_POS n a, MOTA_SPEED_V n a, MOTA_SPEED_DIR n a, MOTA_STAT_STATE n a, MOTA_STAT_OVERRIDE n a, MOT_STAT_MOVING n,
   MOT_STAT_FLT n, MOT_STAT_HOMED n]

theorem showAxis_eq (s : State) (n a : Nat) : ∃ l : List (Fld × Nat), showAxis s n a = s.puts l ∧ l.map Prod.fst = axisShown n a :=
  ⟨[(_, _), (_, _), (_, _), (_, _), (_, _), (_, _), (_, _), (_, _)], rfl, rfl⟩

theorem showAxis_chans (s : State) (n a : Nat) : (showAxis s n a).chans = s.chans := rfl

@[simp] theorem axis_showAxis (s : State) (n a m b : Nat) : axis (showAxis s n a) m b = axis s m b :=
  axis_congr (showAxis_chans ..) m b

theorem RegsWf.showAxis {s : State} (h : RegsWf s) (n a : Nat) : RegsWf (showAxis s n a) := by
  obtain ⟨l, e, -⟩ := showAxis_eq s n a
  exact e ▸ (Wrote.puts (.refl h (may := fun _ => True)) fun _ _ => trivial).wf

theorem axisShown_fits (n a : Fin 4) : ∀ g ∈ axisShown n a, g.Fits := by
  unfold Fld.Fits
  revert n a
  decide

/-- The fault, the end code, the homing and the group that an axis's commands leave share no bit with them. -/
theorem axisShown_apart (n a : Fin 4) : ∀ f ∈ [MOTA_STAT_FLT n a, MOTA_STAT_END n a, MOTA_STAT_HOMED n a, MOT_STAT_GROUP n],
    f.Fits ∧ ∀ g ∈ axisShown n a, g.Apart f := by
  unfold Fld.Fits Fld.Apart
  revert n a
  decide

theorem showAxis_rd {s : State} (h : RegsWf s) {n a : Fin 4} {f : Fld}
    (hf : f ∈ [MOTA_STAT_FLT n a, MOTA_STAT_END n a, MOTA_STAT_HOMED n a, MOT_STAT_GROUP n] := by simp) :
    (showAxis s n a).rd f = s.rd f := by
  obtain ⟨hfit, ha⟩ := axisShown_apart n a f hf
  obtain ⟨l, e, hl⟩ := showAxis_eq s n a
  rw [e]
  refine State.rd_puts_apart h hfit fun p hp => ?_
  have hm : p.1 ∈ axisShown n a := hl ▸ List.mem_map_of_mem hp
  exact ⟨axisShown_fits n a _ hm, ha _ hm⟩

/-- One of these fields that has been set shows so. -/
theorem showAxis_rd_set {s : State} (h : RegsWf s) {n a : Fin 4} {f : Fld} (v : Nat) (g : AxisSt → AxisSt)
    (hf : f ∈ [MOTA_STAT_FLT n a, MOTA_STAT_END n a, MOTA_STAT_HOMED n a, MOT_STAT_GROUP n] := by simp) :
    (showAxis (modAxis (s.wr f v) n a g) n a).rd f = v % 2 ^ f.width := by
  rw [showAxis_rd ((h.wr ..).modAxis ..) hf, modAxis_rd, State.rd_wr_same h (axisShown_apart n a f hf).1]

/-! ## Stops (R197, R206) -/

section
variable {s : State} {n a : Nat}

theorem axisHalt_still (h : (axis s n (carrier s n a)).mode = .still) : axisHalt s n a = s := by
  rw [axisHalt, h]

theorem axisEstop_still (h : (axis s n (carrier s n a)).mode = .still) : axisEstop s n a = s := by
  rw [axisEstop, h]

theorem axisHalt_moving (h : (axis s n (carrier s n a)).mode ≠ .still) (he : (axis s n (carrier s n a)).mode ≠ .estop) :
    axisHalt s n a = modAxis s n (carrier s n a) fun x => { x with mode := .halt, first := false } := by
  unfold axisHalt
  dsimp only
  split
  · contradiction
  · contradiction
  · rfl

theorem axisEstop_moving (h : (axis s n (carrier s n a)).mode ≠ .still) :
    axisEstop s n a = modAxis s n (carrier s n a) fun x => { x with mode := .estop, first := false } := by
  unfold axisEstop
  dsimp only
  split
  · contradiction
  · rfl

end

/-- What a cleared fault leaves. -/
theorem axisClrFlt_cleared {s : State} (h : RegsWf s) (n a : Fin 4) : RegsWf (axisClrFlt s n a) ∧
    (axisClrFlt s n a).rd (MOTA_STAT_FLT n a) = 0 ∧ axis (axisClrFlt s n a) n a = { axis s n a with jumpOff := false } := by
  refine ⟨((h.wr ..).modAxis ..).showAxis .., showAxis_rd_set h 0 _, ?_⟩
  rw [axisClrFlt, axis_showAxis, axis_modAxis_same]
  rfl

/-! ## The obligation -/

/-- Settles O23: the stop of the carrier's mode, and a cleared fault through what then shows of the axis. -/
theorem axisStopsAndFaultClears : Obligations.AxisStopsAndFaultClears := by
  unfold Obligations.AxisStopsAndFaultClears
  intro s n a hwf
  refine ⟨⟨fun hstill => ⟨?_, ?_⟩, fun hmoves => ⟨fun hstop => ?_, ?_⟩⟩, rfl, rfl, ?_⟩
  · exact next_finish_congr (congrArg (axisShow · n a) (axisHalt_still hstill))
  · exact next_finish_congr (congrArg (axisShow · n a) (axisEstop_still hstill))
  · exact next_finish_congr (congrArg (axisShow · n a) (axisHalt_moving hmoves hstop))
  · exact next_finish_congr (congrArg (axisShow · n a) (axisEstop_moving hmoves))
  · obtain ⟨hw, hflt, hax⟩ := axisClrFlt_cleared hwf n a
    exact ⟨showAxis (axisClrFlt s n a) n a, rfl, (showAxis_rd hw).trans hflt, (axis_showAxis ..).trans hax⟩

end Sys2Proof.Machine
end

section
/-! PROOFS. Motion: a tick of axes that move on their own, the comparison of step sums, and a PWM period. -/

namespace Sys2Proof.Machine

/-! ## Steps over a range of indices -/

/-- Where every index changes its own part alone, and keeps what the others need, each part ends as its index makes it. -/
theorem iterate_each {α : Type} {k : Nat} {s : State} {f : State → Nat → State} (part : State → Nat → α) (Q : Nat → α → Prop)
    (R : State → Prop)
    (h0 : R s) (hs : ∀ (i : Fin k) (t : State), R t → part t i = part s i →
      R (f t i) ∧ Q i (part (f t i) i) ∧ ∀ m : Fin k, m ≠ i → part (f t i) m = part t m) :
    R (iterate k s f) ∧ ∀ n : Fin k, Q n (part (iterate k s f) n) := by
  have h := iterate_induct (k := k) (s := s) (f := f)
    (P := fun i t => R t ∧ ∀ n : Fin k, (n.val < i → Q n (part t n)) ∧ (i ≤ n.val → part t n = part s n))
    ⟨h0, fun n => ⟨fun hn => absurd hn (Nat.not_lt_zero _), fun _ => rfl⟩⟩ fun i hi t ⟨hr, ht⟩ => by
      obtain ⟨hr', hown, hothers⟩ := hs ⟨i, hi⟩ t hr ((ht ⟨i, hi⟩).2 (Nat.le_refl i))
      refine ⟨hr', fun n => ?_⟩
      by_cases hn : n = ⟨i, hi⟩
      · subst hn
        exact ⟨fun _ => hown, fun h => absurd h (by simp)⟩
      · have hne : n.val ≠ i := fun e => hn (Fin.ext e)
        rw [hothers n hn]
        exact ⟨fun h => (ht n).1 (by omega), fun h => (ht n).2 (by omega)⟩
  exact ⟨h.1, fun n => (h.2 n).1 n.isLt⟩

/-! ## Axes that move on their own -/

/-- No coordinated move is under way on a channel, and no encoder check. -/
structure Uncoupled (n : Fin 4) (s : State) : Prop where
  wf : RegsWf s
  group : s.rd (MOT_STAT_GROUP n) = 0
  unchecked : ∀ b : Fin 4, s.rb (MOTA_CFG_ENCCHK n b) = false

/-- What a tick of axis a does to the state: channel n stays uncoupled, and its other axes stay as they are. -/
structure AxisWork (n a : Fin 4) (s t : State) : Prop where
  uncoupled : Uncoupled n t
  others : ∀ b : Fin 4, b ≠ a → axis t n b = axis s n b

/-- The fields that a tick of axis a writes. -/
def tickFlds (n a : Nat) : List Fld :=
  axisShown n a ++ [MOTA_STAT_END n a, MOTA_STAT_HOMED n a, MOTA_OVERSHOOT_DIST n a, MOTA_CNT_OVERRIDE n a]

theorem tickFlds_apart (n a : Fin 4) : ∀ f ∈ tickFlds n a, f.Fits ∧ f.Apart (MOT_STAT_GROUP n) ∧
    ∀ b : Fin 4, (MOTA_CFG_ENCCHK n b).addr ≠ f.addr := by
  unfold Fld.Fits Fld.Apart
  revert n a
  decide

theorem groupFld_fits (n : Nat) : (MOT_STAT_GROUP n).Fits := by
  simp [Fld.Fits, MOT_STAT_GROUP]

namespace AxisWork

section
variable {n a : Fin 4} {s t u : State} {f : Fld} {v c : Nat}

theorem refl (h : Uncoupled n s) (a : Fin 4) : AxisWork n a s s := ⟨h, fun _ _ => rfl⟩

theorem ite {p : Prop} [Decidable p] (ht : AxisWork n a s t) (hu : AxisWork n a s u) : AxisWork n a s (if p then t else u) := by
  split <;> assumption

theorem congr (h : AxisWork n a s t) (hr : u.regs = t.regs) (hx : ∀ b : Fin 4, b ≠ a → axis u n b = axis t n b) :
    AxisWork n a s u where
  uncoupled :=
    { wf := h.uncoupled.wf.congr hr
      group := (State.rd_congr _ (State.word_congr hr _)).trans h.uncoupled.group
      unchecked := fun b => (congrArg (· != 0) (State.rd_congr _ (State.word_congr hr _))).trans (h.uncoupled.unchecked b) }
  others := fun b hb => (hx b hb).trans (h.others b hb)

theorem wr (h : AxisWork n a s t) (hf : f ∈ tickFlds n a := by simp [tickFlds, axisShown]) : AxisWork n a s (t.wr f v) := by
  obtain ⟨hfit, hgroup, henc⟩ := tickFlds_apart n a f hf
  obtain ⟨⟨hwf, hg, he⟩, ho⟩ := h
  refine ⟨⟨hwf.wr .., ?_, fun b => ?_⟩, fun b hb => (axis_congr (State.wr_chans ..) n b).trans (ho b hb)⟩
  · exact (State.rd_wr_apart hwf hfit (groupFld_fits n) hgroup v).trans hg
  · exact (congrArg (· != 0) (State.rd_wr_far t (henc b) v)).trans (he b)

theorem wb {b : Bool} (h : AxisWork n a s t) (hf : f ∈ tickFlds n a := by simp [tickFlds, axisShown]) :
    AxisWork n a s (t.wb f b) := h.wr hf

theorem bump (h : AxisWork n a s t) (hf : f ∈ tickFlds n a := by simp [tickFlds, axisShown]) : AxisWork n a s (t.bump f) := h.wr hf

theorem raise {r : Raise} (h : AxisWork n a s t) : AxisWork n a s (t.raise r) := h.congr rfl fun _ _ => axis_congr rfl ..

theorem setAxis {x : AxisSt} (h : AxisWork n a s t) : AxisWork n a s (setAxis t n a x) :=
  h.congr rfl fun _ hb => axis_setAxis_other t n hb x

theorem modAxis {g : AxisSt → AxisSt} (h : AxisWork n a s t) : AxisWork n a s (modAxis t n a g) := h.setAxis

protected theorem showAxis (h : AxisWork n a s t) : AxisWork n a s (showAxis t n a) := h.wr.wr.wb.wr.wb.wr.wr.wr

/-! ### Ends of moves (R192, R196, R198) -/

protected theorem endMove (h : AxisWork n a s t) : AxisWork n a s (endMove t n a c) := h.modAxis.wr.raise.showAxis

protected theorem endAxis (h : AxisWork n a s t) : AxisWork n a s (endAxis t n a c) :=
  .ite h.endMove (.ite h.endMove h.wr.raise.endMove)

theorem inGroup (h : AxisWork n a s t) : inGroup t n a = false := by
  rw [Machine.inGroup, h.uncoupled.group, bit, Nat.zero_div]
  rfl

protected theorem endGroup (h : AxisWork n a s t) : AxisWork n a s (endGroup t n a c) := by
  rw [Machine.endGroup, h.inGroup]
  exact h.endAxis

theorem followMaster_eq (h : AxisWork n a s t) : followMaster t n a = t := by
  rw [followMaster, h.inGroup]
  rfl

/-! ### Ticks (R191, R196, R197, R199) -/

protected theorem decTest (h : AxisWork n a s t) : AxisWork n a s (decTest t n a) :=
  .ite h.modAxis (.ite h.modAxis (.ite h.bump.raise.modAxis h.bump.raise.modAxis))

protected theorem moveTick (h : AxisWork n a s t) : AxisWork n a s (moveTick t n a) := by
  unfold moveTick
  extract_lets u x y r w z code
  have hu : AxisWork n a s u := h.decTest
  have hw : AxisWork n a s w := hu.setAxis
  have hz : z = w := hw.followMaster_eq
  refine .ite ?_ (.ite ?_ ?_)
  · rw [hu.modAxis.showAxis.followMaster_eq]
    exact hu.modAxis.showAxis
  · rw [hz]
    exact hw.endGroup
  · rw [hz]
    exact hw.showAxis

protected theorem homeTick (h : AxisWork n a s t) : AxisWork n a s (homeTick t n a c) := by
  unfold homeTick
  extract_lets t₁ x ref hv toward fwd v want run lat t₂ t₃ lim far
  have h₂ : AxisWork n a s t₂ := h.modAxis.modAxis
  have h₃ : AxisWork n a s t₃ := h₂.modAxis
  exact .ite (.ite h₂.modAxis.modAxis.wr.raise.showAxis h₂.modAxis.showAxis) (.ite h₃.modAxis.raise.showAxis h₃.showAxis)

theorem slipTick_eq (h : AxisWork n a s t) : slipTick t n a = t := by
  rw [slipTick, h.uncoupled.unchecked]
  rfl

protected theorem axisTick (h : AxisWork n a s t) : AxisWork n a s (axisTick t n a) := by
  unfold Machine.axisTick
  dsimp only
  split
  · rwa [h.slipTick_eq]
  · rwa [h.slipTick_eq]
  · rw [h.homeTick.slipTick_eq]
    exact h.homeTick
  · rw [h.moveTick.slipTick_eq]
    exact h.moveTick

theorem axisTick_still (h : AxisWork n a s t) (hm : (axis t n a).mode = .still) : axisTick t n a = t := by
  unfold Machine.axisTick
  rw [hm]
  exact h.slipTick_eq

theorem axisTick_ramp (h : AxisWork n a s t) (hm : (axis t n a).mode = .ramp) : axisTick t n a = moveTick t n a := by
  unfold Machine.axisTick
  rw [hm]
  exact h.moveTick.slipTick_eq

end

end AxisWork

/-! ## The axis of a tick (R191) -/

section
variable {n a : Fin 4} {s t : State} {x : AxisSt}

/-- With no deceleration test due the axis stays as it is. -/
theorem axis_decTest_untested (h : (axis t n a).testDec = false) : axis (decTest t n a) n a = axis t n a := by
  have e : decTest t n a = modAxis t n a fun x => { x with testDec := false } := if_pos (by rw [h]; rfl)
  rw [e, axis_modAxis_same, ← h]

/-- What a tick makes of a standing axis, of one on its first tick, and of one that ramps within its distance. -/
structure Ticked (x y : AxisSt) : Prop where
  still : x.mode = .still → y = x
  first : x.mode = .ramp → x.testDec = false → x.first = true →
    y.p = x.p ∧ y.v = cvSpeed x.set.vstart ∧ y.first = false ∧ y.mode = .ramp
  ramps : x.mode = .ramp → x.testDec = false → x.first = false → x.beyond = false →
    (rampStep { x with vPrev := x.v }).2 = false → y = (rampStep { x with vPrev := x.v }).1

theorem moveTick_first (h : AxisWork n a s t) (hd : axis (decTest t n a) n a = x) (hf : x.first = true) :
    axis (moveTick t n a) n a =
      { x with first := false, vPrev := 0, v := cvSpeed x.set.vstart, c0 := ((decTest t n a).ch n).pos.count, p0 := x.p } := by
  have hw := h.decTest.modAxis (g := fun x =>
    { x with first := false, vPrev := 0, v := cvSpeed x.set.vstart, c0 := ((decTest t n a).ch n).pos.count, p0 := x.p })
  unfold moveTick
  dsimp only
  rw [hd, if_pos hf, hw.showAxis.followMaster_eq, axis_showAxis, axis_modAxis_same, hd]

theorem moveTick_ramps (h : AxisWork n a s t) (hd : axis (decTest t n a) n a = x) (hm : x.mode = .ramp) (hf : x.first = false)
    (hb : x.beyond = false) (hr : (rampStep { x with vPrev := x.v }).2 = false) :
    axis (moveTick t n a) n a = (rampStep { x with vPrev := x.v }).1 := by
  unfold moveTick
  dsimp only
  rw [hd]
  generalize rampStep { x with vPrev := x.v } = r at hr ⊢
  simp only [hf, hm, hb, hr, h.decTest.setAxis.followMaster_eq, Bool.false_eq_true, if_false, axis_showAxis, axis_setAxis_same]

theorem AxisWork.ticked (h : AxisWork n a s t) : Ticked (axis t n a) (axis (axisTick t n a) n a) where
  still := fun hm => by rw [h.axisTick_still hm]
  first := fun hm htest hf => by
    rw [h.axisTick_ramp hm, moveTick_first h (axis_decTest_untested htest) hf]
    exact ⟨rfl, rfl, rfl, hm⟩
  ramps := fun hm htest hf hb hr => by
    rw [h.axisTick_ramp hm, moveTick_ramps h (axis_decTest_untested htest) hm hf hb hr]

/-- A tick of a channel is one of each of its axes. -/
theorem rampTick_ticked (h : Uncoupled n s) (a : Fin 4) : Ticked (axis s n a) (axis (rampTick s n) n a) :=
  (iterate_each (fun t a => axis t n a) (fun a y => Ticked (axis s n a) y) (Uncoupled n) h fun i t ht he =>
    have hw : AxisWork n i t (axisTick t n i) := (AxisWork.refl ht i).axisTick
    ⟨hw.uncoupled, he ▸ (AxisWork.refl ht i).ticked, hw.others⟩).2 a

end

/-! ## Step sums (R204) -/

/-- Sums that agree, on a device whose motion has nothing to follow up. -/
theorem stepSums_agree {s : State} (h : ∀ n a : Fin 4, toBits 32 (axis s n a).dSum = toBits 32 (axis s n a).sumOwn)
    (hw : ∀ n : Fin 4, motWatch s n = s) : stepSums s [] = s := by
  unfold stepSums
  refine ite_eq_left_iff.2 fun _ => ?_
  refine iterate_induct (P := fun _ t => t = s) rfl fun i hi t ht => ?_
  subst ht
  refine .trans (congrArg (motWatch · i) ?_) (hw ⟨i, hi⟩)
  refine iterate_induct (P := fun _ u => u = t) rfl fun a ha u hu => ?_
  subst hu
  exact if_pos (by simpa using h ⟨i, hi⟩ ⟨a, ha⟩)

/-! ## A PWM period (R202, R203) -/

section
variable {s : State} {n a : Nat}

/-- The bridges follow an axis's mode and what has turned them off. -/
theorem bridgesOn_modAxis {f : AxisSt → AxisSt} (hoff : ∀ x, (f x).bridgesOff = x.bridgesOff := by intro; rfl)
    (hjump : ∀ x, (f x).jumpOff = x.jumpOff := by intro; rfl) (hmode : ∀ x, (f x).mode = x.mode := by intro; rfl) :
    bridgesOn (modAxis s n a f) n a = bridgesOn s n a := by
  have hsafe : (modAxis s n a f).safe = s.safe := State.modMot_rb ..
  unfold bridgesOn
  dsimp only
  rw [axis_modAxis_same, hsafe, hoff, hjump, AxisSt.moving, hmode]
  rfl

/-- The duties of an axis with its bridges on (R202). -/
def axisDuties (s : State) (n a : Nat) : Int × Int × Bool :=
  let x := axis s n a
  duties (driveAmp s n a) (driveRd s (MOT_VMEAS_CSUP n)) (sineEntry (sineTabs s n a) a (tableIndex x.moving x.dDir x.dPos x.dLead))
    (driveRd s (MOTA_CFG_DIRINV n a) != 0)

/-- An axis with new duties, which counts a limited one. -/
def AxisSt.driven (x : AxisSt) (d : Int × Int × Bool) : AxisSt :=
  { x with dA := d.1, dB := d.2.1, dSat := d.2.2, satNew := x.satNew + b2n d.2.2 }

/-- An axis takes its duties, and the drive die has more reports. -/
def dutiesTaken (s : State) (n a : Nat) (l : List DriveReport) : State :=
  (modAxis s n a (·.driven (axisDuties s n a))).modDrv fun v => { v with reports := v.reports ++ l }

theorem dutiesTaken_nil : dutiesTaken s n a [] = modAxis s n a (·.driven (axisDuties s n a)) := by
  rw [dutiesTaken, State.modDrv, List.append_nil]

theorem axis_dutiesTaken (l : List DriveReport) : axis (dutiesTaken s n a l) n a = (axis s n a).driven (axisDuties s n a) :=
  axis_modAxis_same s n a (·.driven _)

theorem bridgesOn_dutiesTaken (l : List DriveReport) : bridgesOn (dutiesTaken s n a l) n a = bridgesOn s n a :=
  bridgesOn_modAxis (f := (·.driven _))

theorem pwmDuties_off (h : bridgesOn s n a = false) :
    pwmDuties s n a = modAxis s n a fun x => { x with dA := 0, dB := 0, dSat := false } :=
  if_pos (by rw [h]; rfl)

theorem pwmDuties_on (h : bridgesOn s n a = true) : ∃ l, pwmDuties s n a = dutiesTaken s n a l := by
  unfold pwmDuties
  rw [h, Bool.not_true, if_neg Bool.false_ne_true]
  dsimp only
  split
  · split
    · exact ⟨[_], rfl⟩
    · exact ⟨[], dutiesTaken_nil.symm⟩
  · exact ⟨[], dutiesTaken_nil.symm⟩

end

/-- A period with the bridges off: the duties are 0 and the pins keep the off code. -/
theorem pwmPeriod_off {s : State} {n a : Nat} (h : bridgesOn s n a = false) : pwmPeriod s n a =
    (modAxis s n a fun x => { x with dA := 0, dB := 0, dSat := false }).emit (.bridge n a [(0, 0)] [(0, 0)]) := by
  have hoff := (bridgesOn_modAxis (f := fun x => { x with dA := 0, dB := 0, dSat := false })).trans h
  unfold pwmPeriod axisPlan
  dsimp only
  rw [pwmDuties_off h, hoff]
  rfl

/-- A period with the bridges on: both codes follow the period's duties. -/
theorem pwmPeriod_on {s : State} {n a : Nat} (h : bridgesOn s n a = true) :
    let d := axisDuties s n a
    let p := max (driveRd s (MOT_PWMCFG_PWMP n)) 1000
    let dead := driveRd s (MOT_PWMCFG_DEADT n)
    let brake := driveRd s (MOTA_CFG_DECAY n a) != 0
    ∃ l, pwmPeriod s n a =
      (dutiesTaken s n a l).emit (.bridge n a (bridgePlan 0 p dead d.1 brake) (bridgePlan (p / 2) p dead d.2.1 brake)) := by
  obtain ⟨l, e⟩ := pwmDuties_on h
  refine ⟨l, ?_⟩
  unfold pwmPeriod axisPlan
  dsimp only
  rw [e, bridgesOn_dutiesTaken, h, axis_dutiesTaken]
  rfl

/-! ## The obligation -/

/-- Settles O25: each axis of an uncoupled channel ticks for itself, sums that agree have nothing to follow up, and the codes of a
PWM period come from its duties. -/
theorem motionTicksAndDutiesFollow : Obligations.MotionTicksAndDutiesFollow := by
  unfold Obligations.MotionTicksAndDutiesFollow
  refine ⟨fun s n hwf hgroup henc => ⟨rampTick s n, rfl, fun a => ?_⟩,
    fun s _ => ⟨fun hq hdown errs => ?_, fun _ hsums hw hq => ?_⟩, fun s n a _ => ⟨fun hoff => ?_, fun hon => ?_⟩⟩
  · obtain ⟨hstill, hfirst, hramps⟩ := rampTick_ticked ⟨hwf, hgroup, henc⟩ a
    exact ⟨hstill, hfirst, hramps⟩
  · exact next_finish hq (u := stepSums s errs) (if_pos (by rw [hdown]; rfl)) rfl rfl
  · exact next_finish hq (stepSums_agree hsums hw) rfl rfl
  · exact next_finish_congr (congrArg (monTriggerSrc · 3 n a) (pwmPeriod_off hoff))
  · obtain ⟨l, e⟩ := pwmPeriod_on hon
    have hx := axis_dutiesTaken (s := s) (n := n) (a := a) l
    refine ⟨pwmPeriod s n a, rfl, ?_⟩
    rw [e]
    exact ⟨congrArg AxisSt.dA hx, congrArg AxisSt.dB hx, congrArg AxisSt.dSat hx, rfl, rfl⟩

end Sys2Proof.Machine
end

section
/-! PROOFS. Motion: starts of single moves, of homing and of coordinated moves, and writes of an axis's parameters. -/

namespace Sys2Proof.Machine

theorem RegsWf.fldWrite {s : State} (h : RegsWf s) (f : Fld) (v : Nat) : RegsWf (fldWrite s f v) :=
  (portPut_kept (.refl s)).regs h

/-! ## Single moves (R191 to R193) -/

section
variable {s : State} {n a : Nat} {tgt : Int} {by_ : MoveBy}

theorem axisMove_refused {c : Nat} (h : moveCause s n a tgt true = some c) : axisMove s n a tgt by_ = (axisRefuse s n a c, false) := by
  rw [axisMove, h]

theorem axisGoNow_refused {c : Nat} (h : moveCause s n a (regTarget s n a) true = some c) :
    axisGoNow s n a = motWatch (showAxis (axisRefuse s n a c) n a) n := by
  rw [axisGoNow, axisMove_refused h, axisShow]

/-- What a move makes of the axis that it starts: x before it, y after it. -/
structure MoveBegun (x y : AxisSt) (goal : Int) (how : MoveMode) : Prop where
  tgt : y.tgt = goal
  mode : y.mode = how
  first : y.first = true
  fwd : y.fwd = decide (x.p ≤ goal * uStep)
  delta : y.delta = goal * uStep - x.p

theorem beginMove_begun (s : State) (n a : Nat) (tgt : Int) (set : RampSet) (by_ : MoveBy) (mode : MoveMode) :
    MoveBegun (axis s n a) (axis (beginMove s n a tgt set by_ mode) n a) tgt mode := by
  unfold beginMove
  dsimp only
  rw [axis_showAxis, axis_modAxis_same]
  exact ⟨rfl, rfl, rfl, decide_eq_decide.2 Int.sub_nonneg, rfl⟩

theorem beginMove_other (s : State) (n : Nat) {a b : Fin 4} (h : b ≠ a) (tgt : Int) (set : RampSet) (by_ : MoveBy) (mode : MoveMode) :
    axis (beginMove s n a tgt set by_ mode) n b = axis s n b := by
  unfold beginMove
  dsimp only
  rw [axis_showAxis, axis_modAxis_other _ _ h]

theorem RegsWf.beginMove {s : State} (h : RegsWf s) (n a : Nat) (tgt : Int) (set : RampSet) (by_ : MoveBy) (mode : MoveMode) :
    RegsWf (beginMove s n a tgt set by_ mode) := (h.modAxis ..).showAxis ..

theorem axisMove_taken (h : moveCause s n a tgt true = none) : (axisMove s n a tgt by_).1 =
    if tgt * uStep = (axis s n a).p then endMove (beginMove s n a tgt (rampRegs s n a) by_ .ramp) n a 1
    else beginMove s n a tgt (rampRegs s n a) by_ .ramp := by
  rw [axisMove, h]
  dsimp only
  rw [(beginMove_begun ..).delta]
  exact if_congr Int.sub_eq_zero rfl rfl

end

/-- A move that ends leaves its axis standing at its target, with its code shown. -/
theorem endMove_ended {s : State} (h : RegsWf s) (n a : Fin 4) (code : Nat) : RegsWf (endMove s n a code) ∧
    (axis (endMove s n a code) n a).mode = .still ∧ (axis (endMove s n a code) n a).tgt = (axis s n a).tgt ∧
    (endMove s n a code).rd (MOTA_STAT_END n a) = code % 8 := by
  unfold endMove
  extract_lets t
  have ht : RegsWf t := h.modAxis ..
  have hx : axis (showAxis ((t.wr (MOTA_STAT_END n a) code).raise ((axisEv (EV_MOT_END n) a).code_ code)) n a) n a = axis t n a :=
    axis_congr rfl ..
  have hr : RegsWf ((t.wr (MOTA_STAT_END n a) code).raise ((axisEv (EV_MOT_END n) a).code_ code)) := (ht.wr ..).raise _
  rw [hx, axis_modAxis_same, showAxis_rd hr, State.raise_rd, State.rd_wr_same ht (axisShown_apart n a _ (by simp)).1]
  exact ⟨hr.showAxis .., rfl, rfl, rfl⟩

/-! ## Homing (R199) -/

theorem axisHome_begun {s : State} {n a : Nat} (hc : startCause s n a false = none) (h0 : s.rd (MOTA_HOMEV_HOMEV n a) ≠ 0)
    (hmin : s.rd (MOTA_HOMEV_HOMEV n a) ≤ min (s.rd (MOTA_VSTART_V n a)) (s.rd (MOTA_VSTOP_V n a))) :
    ∃ g : AxisSt → AxisSt, axisHome s n a .host = showAxis (modAxis (s.wr (MOTA_STAT_HOMED n a) 0) n a g) n a ∧
      ∀ x, (g x).mode = .home (if s.rb (MOTA_STAT_REF n a) then 2 else 1) ∧ (g x).by_ = .host := by
  unfold axisHome
  dsimp only
  rw [if_neg (by decide), hc]
  dsimp only [Option.filter]
  rw [if_neg (not_or.2 ⟨h0, Nat.not_lt.2 hmin⟩)]
  exact ⟨_, rfl, fun _ => ⟨rfl, rfl⟩⟩

/-! ## Parameters (R194) -/

/-- The register field of the parameter at an offset of an axis. -/
def paramFld (n a off : Nat) : Fld := ⟨0x18100 + chBase n + 0x100 * a + off, if off < 0x28 then 22 else 31, 0, .rw, 0⟩

theorem paramFld_eq (n a : Nat) (param : Fin 8) : paramFld n a (0x18 + 4 * param) =
    ⟨chBase n + 0x18118 + 0x100 * a + 4 * param, if param.val < 4 then 22 else 31, 0, .rw, 0⟩ := by
  have haddr : 0x18100 + chBase n + 0x100 * a + (0x18 + 4 * param.val) = chBase n + 0x18118 + 0x100 * a + 4 * param.val := by omega
  have hhi : 0x18 + 4 * param.val < 0x28 ↔ param.val < 4 := by omega
  simp only [paramFld, haddr, hhi]

section
variable {s : State} {n a off : Nat} {v : Word}

theorem axisParamPut_still (h : (axis s n a).moving = false) : axisParamPut s n a off v =
    driveForward (s.wr (paramFld n a off) v.toNat) (paramFld n a off).addr := by
  have haddr : (paramFld n a off).addr = chBase n + 0x18100 + 0x100 * a + off := by rw [paramFld, Nat.add_comm 0x18100]
  unfold axisParamPut paramWrite
  dsimp only
  rw [h, haddr]
  rfl

theorem axisParamPut_refused (h : (axis s n a).moving = true)
    (hok : ((axis s n a).own.put off (v.toNat % 2 ^ (paramFld n a off).width)).ok = false) :
    axisParamPut s n a off v = axisRefuse s n a 5 := by
  have hput : paramWrite s n a off v.toNat = (axisRefuse s n a 5, false) :=
    (if_neg (by rw [h]; decide)).trans (if_pos ((congrArg (!·) hok).trans rfl))
  rw [axisParamPut, hput]
  rfl

end

/-! ## Coordinated moves (R198) -/

/-- The master is Mathlib's first axis of the largest distance. -/
theorem groupMaster_eq (ds : List (Nat × Nat)) : groupMaster ds = (ds.argmax Prod.snd).map Prod.fst := by
  unfold groupMaster List.argmax
  congr 2
  funext b p
  cases b <;> rfl

/-- The distance of an axis to its register's target. -/
def goDist (s : State) (n a : Nat) : Nat := (regTarget s n a * uStep - (axis s n a).p).natAbs

/-- Where some axis of a group has a way to go, the group's master has. -/
theorem groupMaster_far {s : State} {n : Nat} {as : List Nat} (h : ∃ b ∈ as, regTarget s n b * uStep ≠ (axis s n b).p) :
    ∃ m ∈ as, groupMaster (as.map fun a => (a, goDist s n a)) = some m ∧ goDist s n m ≠ 0 := by
  obtain ⟨b, hb, hfar⟩ := h
  have hbd : goDist s n b ≠ 0 := fun e => hfar (Int.sub_eq_zero.1 (Int.natAbs_eq_zero.1 e))
  have hmem : (b, goDist s n b) ∈ as.map fun a => (a, goDist s n a) := List.mem_map_of_mem hb
  obtain ⟨p, hp⟩ : ∃ p, (as.map fun a => (a, goDist s n a)).argmax Prod.snd = some p :=
    Option.ne_none_iff_exists'.1 fun e => List.not_mem_nil (List.argmax_eq_none.1 e ▸ hmem)
  obtain ⟨m, hm, rfl⟩ := List.mem_map.1 (List.argmax_mem hp)
  refine ⟨m, hm, by rw [groupMaster_eq, hp]; rfl, fun e => hbd ?_⟩
  exact Nat.le_zero.1 (e ▸ List.le_of_mem_argmax (f := Prod.snd) hmem hp)

/-- The axes of a list begin their moves, each with a parameter set: the master ramps, and the others follow it. -/
def groupBegun (s : State) (n m : Nat) (sets : Nat → RampSet) (as : List Nat) (t : State) : State :=
  as.foldl (fun t a => beginMove t n a (regTarget s n a) (sets a) .host (if a = m then .ramp else .follow)) t

/-- The state after the start of a coordinated move whose master has a way to go. -/
def groupStarted (s : State) (n m : Nat) (sets : Nat → RampSet) : State :=
  ((groupBegun s n m sets (maskAxes (s.rd (MOT_CTL_GMASK n))) s).wr (MOT_STAT_GROUP n) (s.rd (MOT_CTL_GMASK n))).modMot n fun x =>
    { x with master := some m }

theorem groupGo_started {s : State} {n : Nat}
    (hc : ∀ b ∈ maskAxes (s.rd (MOT_CTL_GMASK n)), moveCause s n b (regTarget s n b) false = none)
    (hfar : ∃ b ∈ maskAxes (s.rd (MOT_CTL_GMASK n)), regTarget s n b * uStep ≠ (axis s n b).p) :
    ∃ m ∈ maskAxes (s.rd (MOT_CTL_GMASK n)), ∃ sets, groupGo s n = groupStarted s n m sets := by
  obtain ⟨m, hm, hmaster, hd⟩ := groupMaster_far hfar
  have hbad : ((maskAxes (s.rd (MOT_CTL_GMASK n))).filterMap fun a =>
      (moveCause s n a (regTarget s n a) false).map fun c => (a, c)) = [] :=
    List.filterMap_eq_nil_iff.2 fun b hb => by rw [hc b hb]; rfl
  refine ⟨m, hm, ?_⟩
  unfold groupGo
  extract_lets as bad dist
  rw [show bad = [] from hbad, show groupMaster (as.map fun a => (a, dist a)) = some m from hmaster]
  exact ⟨_, if_neg hd⟩

/-- What begins leaves every axis of the list on its way to its target, and the others as they are. -/
theorem groupBegun_axes (s : State) (n m : Nat) (sets : Nat → RampSet) {as : List Nat} (h4 : ∀ a ∈ as, a < 4) {t : State}
    (hwf : RegsWf t) : RegsWf (groupBegun s n m sets as t) ∧ ∀ b : Fin 4,
      (b.val ∈ as → (axis (groupBegun s n m sets as t) n b).tgt = regTarget s n b ∧
        (axis (groupBegun s n m sets as t) n b).mode = if b.val = m then .ramp else .follow) ∧
      (b.val ∉ as → axis (groupBegun s n m sets as t) n b = axis t n b) := by
  induction as generalizing t with
  | nil => exact ⟨hwf, fun b => ⟨fun h => absurd h List.not_mem_nil, fun _ => rfl⟩⟩
  | cons a as ih =>
    lift a to Fin 4 using h4 a List.mem_cons_self
    obtain ⟨hwf', hax⟩ := ih (fun c hc => h4 c (List.mem_cons_of_mem _ hc))
      (hwf.beginMove n a (regTarget s n a) (sets a) .host (if a.val = m then .ramp else .follow))
    refine ⟨hwf', fun b => ⟨fun hb => ?_, fun hb => ?_⟩⟩
    · by_cases hin : b.val ∈ as
      · exact (hax b).1 hin
      · obtain rfl : b = a := Fin.ext ((List.mem_cons.1 hb).resolve_right hin)
        have hbegun := beginMove_begun t n b (regTarget s n b) (sets b) .host (if b.val = m then .ramp else .follow)
        have hkeep := (hax b).2 hin
        exact ⟨(congrArg AxisSt.tgt hkeep).trans hbegun.tgt, (congrArg AxisSt.mode hkeep).trans hbegun.mode⟩
    · have hne : b ≠ a := fun e => hb (e ▸ List.mem_cons_self)
      exact ((hax b).2 fun h => hb (List.mem_cons_of_mem _ h)).trans (beginMove_other t n hne ..)

/-- What a channel's axes show changes neither the channels nor the group. -/
theorem axesShown_rest {s : State} (h : RegsWf s) (n : Fin 4) :
    (iterate 4 s fun t a => showAxis t n a).chans = s.chans ∧
    (iterate 4 s fun t a => showAxis t n a).rd (MOT_STAT_GROUP n) = s.rd (MOT_STAT_GROUP n) := by
  refine ⟨iterate_same State.chans fun t a => showAxis_chans t n a, ?_⟩
  refine (iterate_induct (P := fun _ t => RegsWf t ∧ t.rd (MOT_STAT_GROUP n) = s.rd (MOT_STAT_GROUP n)) ⟨h, rfl⟩ ?_).2
  intro i hi t ⟨hw, hg⟩
  lift i to Fin 4 using hi
  exact ⟨hw.showAxis n i, (showAxis_rd hw).trans hg⟩

/-- A group that has started and shows: its master, its mask, and its axes on their way. -/
structure GroupGoes (s : State) (n m : Nat) (t : State) : Prop where
  master : (t.ch n).mot.master = some m
  group : t.rd (MOT_STAT_GROUP n) = s.rd (MOT_CTL_GMASK n)
  axes : ∀ b ∈ maskAxes (s.rd (MOT_CTL_GMASK n)), (axis t n b).tgt = regTarget s n b ∧
    (axis t n b).mode = if b = m then .ramp else .follow

theorem lt_four_of_mem_maskAxes {m a : Nat} (h : a ∈ maskAxes m) : a < 4 := List.mem_range.1 (List.mem_filter.1 h).1

theorem groupStarted_goes {s : State} (h : RegsWf s) (n : Fin 4) (m : Nat) (sets : Nat → RampSet) :
    GroupGoes s n m (iterate 4 (groupStarted s n m sets) fun t a => showAxis t n a) := by
  obtain ⟨hw, hax⟩ := groupBegun_axes s n m sets (fun _ => lt_four_of_mem_maskAxes) (as := maskAxes (s.rd (MOT_CTL_GMASK n))) h
  have hmot : ((groupStarted s n m sets).ch n).mot =
      { ((groupBegun s n m sets (maskAxes (s.rd (MOT_CTL_GMASK n))) s).ch n).mot with master := some m } := by
    rw [groupStarted, State.modMot_ch_same, State.wr_ch]
  obtain ⟨hchans, hgroup⟩ := axesShown_rest (s := groupStarted s n m sets) ((hw.wr ..).modMot ..) n
  refine ⟨by rw [State.ch_congr hchans, hmot], ?_, fun b hb => ?_⟩
  · rw [hgroup, groupStarted, State.modMot_rd, State.rd_wr_same hw (groupFld_fits n)]
    exact Nat.mod_eq_of_lt (s.rd_lt _)
  · lift b to Fin 4 using lt_four_of_mem_maskAxes hb
    rw [axis_congr hchans, axis, hmot]
    exact (hax b).1 hb

/-! ## The obligation -/

/-- Settles O24: a move, a homing and a coordinated move begin where nothing stands against them, a single move is refused with its
cause, and a parameter is written or refused by its conditions. -/
theorem axisStartsAreTakenOrRefused : Obligations.AxisStartsAreTakenOrRefused := by
  unfold Obligations.AxisStartsAreTakenOrRefused
  refine fun s n a hwf => ⟨fun rel => ⟨fun c hc => ?_, fun hc => ?_⟩, fun hc h0 hmin => ?_, fun mask => ?_,
    fun param v => ⟨fun hq hstill => ?_, fun hmoves hbad => ?_⟩⟩
  · exact next_finish_congr (axisGoNow_refused hc)
  · have hu := hwf.fldWrite (MOTA_CTL_REL n a) (b2n rel)
    set u := fldWrite s (MOTA_CTL_REL n a) (b2n rel)
    set tgt := regTarget u n a
    refine ⟨showAxis (axisMove u n a tgt .host).1 n a, rfl, ?_⟩
    have hb := beginMove_begun u n a tgt (rampRegs u n a) .host .ramp
    rw [axisMove_taken hc, axis_showAxis]
    by_cases hat : tgt * uStep = (axis u n a).p
    · obtain ⟨hw, hm, ht, hend⟩ := endMove_ended (hu.beginMove n a tgt (rampRegs u n a) .host .ramp) n a 1
      rw [if_pos hat]
      exact ⟨ht.trans hb.tgt, fun h => absurd hat h, fun _ => ⟨hm, (showAxis_rd hw).trans hend⟩⟩
    · rw [if_neg hat]
      exact ⟨hb.tgt, fun _ => ⟨hb.mode, hb.first, hb.fwd⟩, fun h => absurd h hat⟩
  · obtain ⟨g, e, hg⟩ := axisHome_begun hc h0 hmin
    refine ⟨showAxis (axisHome s n a .host) n a, rfl, ?_⟩
    have hw : RegsWf (axisHome s n a .host) := e ▸ ((hwf.wr ..).modAxis ..).showAxis ..
    rw [showAxis_rd hw, axis_showAxis, e, showAxis_rd_set hwf, axis_showAxis, axis_modAxis_same]
    exact ⟨rfl, hg _⟩
  · intro u as _ hmask hcause hfar
    obtain ⟨m, hm, sets, e⟩ := groupGo_started (s := u) (n := n) (hmask ▸ hcause) (hmask ▸ hfar)
    obtain ⟨hmaster, hgroup, hax⟩ := groupStarted_goes (hwf.fldWrite (MOT_CTL_GMASK n) mask.toNat) n m sets
    have has : maskAxes (u.rd (MOT_CTL_GMASK n)) = as := congrArg maskAxes hmask
    exact ⟨_, m, next_finish_congr (congrArg (motShow · n) e), has ▸ hm, hmaster, hgroup.trans hmask, has ▸ hax⟩
  · rw [← paramFld_eq]
    refine next_finish hq (axisParamPut_still hstill) ?_ ?_
    · rw [driveForward_rest]; rfl
    · rw [driveForward_rest]; rfl
  · rw [← paramFld_eq] at hbad
    exact next_finish_congr (axisParamPut_refused hmoves hbad)

end Sys2Proof.Machine
end

section
/-! PROOFS. The output FIFO: what an update of one channel's FIFO leaves, and what following the fill leaves of packets and error counts. -/

namespace Sys2Proof.Machine

/-! ## Updates of one channel's FIFO -/

@[simp] theorem fifoOf_modFifo (s : State) (n : Nat) (f : FifoSt → FifoSt) : fifoOf (s.modFifo n f) n = f (fifoOf s n) := by
  rw [fifoOf, State.modFifo_ch_same, fifoOf]

theorem State.modFifo_modFifo (s : State) (n : Nat) (f g : FifoSt → FifoSt) :
    (s.modFifo n f).modFifo n g = s.modFifo n fun x => g (f x) := by
  rw [State.modFifo, State.modCh, State.modFifo_ch_same, State.modFifo, State.modCh, State.setCh, State.setCh, State.modFifo,
    State.modCh, State.setCh, Quad.set_set]

/-- Two updates that make the same of the FIFO they find. -/
theorem State.modFifo_congr {s : State} {n : Nat} {f g : FifoSt → FifoSt} (h : f (fifoOf s n) = g (fifoOf s n)) :
    s.modFifo n f = s.modFifo n g := by
  rw [State.modFifo, State.modCh, State.modFifo, State.modCh]
  exact congrArg (fun x => s.setCh n { s.ch n with fifo := x }) h

theorem fifoOf_congr {s t : State} (h : t.chans = s.chans) (n : Nat) : fifoOf t n = fifoOf s n := by
  rw [fifoOf, State.ch_congr h, fifoOf]

@[simp] theorem fifoOf_showFifo (s : State) (n m : Nat) : fifoOf (showFifo s n) m = fifoOf s m := fifoOf_congr rfl m

/-! ## Following the fill (R222, R226, R227) -/

/-- An address of a channel's axes lies outside the registers of its FIFO. -/
theorem axisAddr_not_inChan {n k j lo hi : Nat} (h : hi ≤ k) : ¬ inChan n lo hi (k + chBase n + j) := by
  unfold inChan
  omega

/-- The packets of a channel's FIFO, the request offered, and the registers that count its errors (FIFO_n_ERR, FIFO_n_ERR2) are as
they were. -/
structure PacketsHeld (n : Nat) (s t : State) : Prop where
  pkts : (fifoOf t n).pkts = (fifoOf s n).pkts
  offer : (fifoOf t n).offer = (fifoOf s n).offer
  errs : SameWords s t fun b => ¬ inChan n 0xC040 0xC048 b

namespace PacketsHeld

section
variable {s t u : State} {n a c k v : Nat} {f g : Fld}

theorem refl (n : Nat) (s : State) : PacketsHeld n s s := ⟨rfl, rfl, .refl s _⟩

theorem congr (h : PacketsHeld n s t) (hf : fifoOf u n = fifoOf t n) (hr : u.regs = t.regs) : PacketsHeld n s u :=
  ⟨hf ▸ h.pkts, hf ▸ h.offer, fun b hb => (State.word_congr hr b).trans (h.errs b hb)⟩

theorem ite {p : Prop} [Decidable p] (ht : PacketsHeld n s t) (hu : PacketsHeld n s u) : PacketsHeld n s (if p then t else u) := by
  split <;> assumption

theorem wr (h : PacketsHeld n s t) (hf : ¬ inChan n 0xC040 0xC048 f.addr := by exact not_inChan (by decide)) :
    PacketsHeld n s (t.wr f v) :=
  ⟨h.pkts, h.offer, h.errs.trans (.wr t f v hf)⟩

theorem wb {x : Bool} (h : PacketsHeld n s t) (hf : ¬ inChan n 0xC040 0xC048 f.addr := by exact not_inChan (by decide)) :
    PacketsHeld n s (t.wb f x) := h.wr hf

theorem bump (h : PacketsHeld n s t) (hf : ¬ inChan n 0xC040 0xC048 f.addr := by exact not_inChan (by decide)) :
    PacketsHeld n s (t.bump f) := h.wr hf

theorem peak (h : PacketsHeld n s t) (hf : ¬ inChan n 0xC040 0xC048 f.addr := by exact not_inChan (by decide)) :
    PacketsHeld n s (t.peak f v) := h.wr hf

theorem addWrap (h : PacketsHeld n s t) (hf : ¬ inChan n 0xC040 0xC048 f.addr := by exact not_inChan (by decide)) :
    PacketsHeld n s (t.addWrap f v).1 := h.wr hf

theorem setW1c (h : PacketsHeld n s t) (hf : ¬ inChan n 0xC040 0xC048 f.addr := by exact not_inChan (by decide)) :
    PacketsHeld n s (t.setW1c f v) := (h.wr hf).congr rfl rfl

theorem raise {r : Raise} (h : PacketsHeld n s t) : PacketsHeld n s (t.raise r) := h.congr rfl rfl

theorem raiseIf {x : Bool} {r : Raise} (h : PacketsHeld n s t) : PacketsHeld n s (t.raiseIf x r) := h.raise.ite h

theorem modFifo {f : FifoSt → FifoSt} (h : PacketsHeld n s t)
    (hf : ∀ x, ((f x).pkts, (f x).offer) = (x.pkts, x.offer) := by intro; rfl) : PacketsHeld n s (t.modFifo n f) := by
  obtain ⟨hp, ho⟩ := Prod.mk.inj (hf (fifoOf t n))
  exact ⟨by rw [fifoOf_modFifo, hp, h.pkts], by rw [fifoOf_modFifo, ho, h.offer], h.errs⟩

theorem modMot {f : MotSt → MotSt} (h : PacketsHeld n s t) : PacketsHeld n s (t.modMot n f) :=
  h.congr (by rw [fifoOf, State.modMot_ch_same, fifoOf]) rfl

/-! ### Axes (Machine/MotOps.lean) -/

protected theorem modAxis {f : AxisSt → AxisSt} (h : PacketsHeld n s t) : PacketsHeld n s (modAxis t n a f) := by
  unfold Machine.modAxis setAxis
  exact h.modMot

protected theorem showAxis (h : PacketsHeld n s t) : PacketsHeld n s (showAxis t n a) := by
  have hx {k : Nat} (hk : 0xC048 ≤ k) : ¬ inChan n 0xC040 0xC048 (k + chBase n + 0x100 * a) := axisAddr_not_inChan hk
  unfold Machine.showAxis
  exact (((((((h.wr (hx (by decide))).wr (hx (by decide))).wb (hx (by decide))).wr (hx (by decide))).wb (hx (by decide))).wr).wr).wr

protected theorem axisRefuse (h : PacketsHeld n s t) : PacketsHeld n s (axisRefuse t n a c) :=
  ((h.wr (axisAddr_not_inChan (by decide))).bump (axisAddr_not_inChan (by decide))).raise

protected theorem endMove (h : PacketsHeld n s t) : PacketsHeld n s (endMove t n a c) :=
  (h.modAxis.wr (axisAddr_not_inChan (by decide))).raise.showAxis

protected theorem beginMove {x : Int} {r : RampSet} {y : MoveBy} {m : MoveMode} (h : PacketsHeld n s t) :
    PacketsHeld n s (beginMove t n a x r y m) := h.modAxis.showAxis

protected theorem axisMove {x : Int} {y : MoveBy} (h : PacketsHeld n s t) : PacketsHeld n s (axisMove t n a x y).1 := by
  unfold Machine.axisMove
  split
  · exact h.axisRefuse
  · exact h.beginMove.endMove.ite h.beginMove

protected theorem axisHalt (h : PacketsHeld n s t) : PacketsHeld n s (axisHalt t n a) := by
  unfold Machine.axisHalt
  dsimp only
  split
  exacts [h, h, h.modAxis]

protected theorem paramWrite (h : PacketsHeld n s t) : PacketsHeld n s (paramWrite t n a k v).1 := by
  have ha : ¬ inChan n 0xC040 0xC048 (paramFld n a k).addr := by
    rw [paramFld, Nat.add_assoc (0x18100 + chBase n)]
    exact axisAddr_not_inChan (by decide)
  have hw : PacketsHeld n s (t.wr (paramFld n a k) v) := h.wr ha
  unfold Machine.paramWrite
  extract_lets
  split
  · exact hw
  · split
    · exact h.axisRefuse
    · split
      · dsimp only
        exact hw.modAxis.modAxis
      · exact hw

/-! ### The FIFO, pacing and the dovetail (Machine/FifoOps.lean) -/

protected theorem showFifo (h : PacketsHeld n s t) : PacketsHeld n s (showFifo t n) := by
  unfold Machine.showFifo
  exact h.wr.peak.wr.wb.wb.wb.wb

protected theorem paceApply (h : PacketsHeld n s t) : PacketsHeld n s (paceApply t n k) := by
  unfold Machine.paceApply
  dsimp only
  repeat' split
  exacts [h, h, h.paramWrite.wr, h.paramWrite.bump]

protected theorem dtMove {x : Int} (h : PacketsHeld n s t) : PacketsHeld n s (dtMove t n x).1 := by
  unfold Machine.dtMove
  split
  exacts [h, h.paceApply.axisMove]

protected theorem dtStop (h : PacketsHeld n s t) : PacketsHeld n s (dtStop t n) := by
  unfold Machine.dtStop
  dsimp only
  repeat' split
  exacts [h, h, h.modFifo.axisHalt.wr.raise]

protected theorem dtBackoff (h : PacketsHeld n s t) : PacketsHeld n s (dtBackoff t n) := by
  unfold Machine.dtBackoff
  dsimp only
  repeat' split
  exacts [h, h.modFifo.dtMove.wr.modFifo, h.modFifo.dtMove]

protected theorem dtTryResume (h : PacketsHeld n s t) : PacketsHeld n s (dtTryResume t n) := h.dtBackoff.ite h

protected theorem fifoWatch (h : PacketsHeld n s t) : PacketsHeld n s (fifoWatch t n) := by
  unfold Machine.fifoWatch
  extract_lets _ _ _ _ _ _ _ _ shown stopped
  have hs : PacketsHeld n s shown := h.showFifo.modFifo.raiseIf.raiseIf.showFifo
  have ht : PacketsHeld n s stopped := hs.dtStop.ite hs
  exact .ite (.ite ht.modFifo (.ite ht.modFifo.dtTryResume ht)) ht.dtTryResume

protected theorem countMarker {bs : List Byte} (h : PacketsHeld n s t) : PacketsHeld n s (countMarker t n bs) := by
  have hl : PacketsHeld n s (t.addWrap (FIFO_KERFLINES_COUNT n) (fieldAt bs (64 + 0x30) 4)).1 := h.addWrap
  unfold Machine.countMarker
  extract_lets r1 u r2 w
  have hu : PacketsHeld n s u := hl.setW1c.ite hl
  have hr : PacketsHeld n s r2.1 := hu.addWrap
  have hw : PacketsHeld n s w := hr.setW1c.ite hr
  exact hw.raise

protected theorem nextMarker (h : PacketsHeld n s t) : PacketsHeld n s (nextMarker t n).2 := by
  unfold Machine.nextMarker
  dsimp only
  exact h.modFifo

/-- The count of words that failed their parity shows as before. -/
theorem errPar (h : PacketsHeld n s t) : t.rd (FIFO_ERR_PAR n) = s.rd (FIFO_ERR_PAR n) :=
  State.rd_congr _ (h.errs _ (not_not.2 (inChan_of n (by decide) (by decide))))

end

end PacketsHeld

end Sys2Proof.Machine
end

section
/-! PROOFS. The pace, the dovetail control and the join: when an entry of the pace table is taken, what a stop of the feed and a
restart do, and the result of a join. -/

namespace Sys2Proof.Machine

section
variable {s : State} {n a e : Nat}

/-! ## The pace (R223, R224, R234) -/

/-- The threshold of a pace entry in bytes. -/
def paceLevel (s : State) (n e : Nat) : Nat := levelBytes (paceEntry (s.ch n).tabs e).1

/-- An entry that the fill has reached comes into force: it is higher than the one in force, or it is lower and the fill has fallen
below the threshold of the one in force by the hysteresis. -/
def PaceTakes (s : State) (n e : Nat) : Prop :=
  let F := fillOf (fifoOf s n)
  let cur := paceLevel s n (s.rd (FIFO_PACESTAT_ENTRY n))
  cur < paceLevel s n e ∨ (paceLevel s n e < cur ∧ F < cur ∧ F + levelBytes (s.rd (FIFO_PACECFG_HYS n)) ≤ cur)

theorem levelBytes_lt {k l : Nat} : levelBytes k < levelBytes l ↔ k < l := by
  unfold levelBytes
  omega

theorem paceUpdate_off (h : driven s n = false ∨ s.rough n = true) : paceUpdate s n = s :=
  if_pos (by simpa using h)

theorem paceUpdate_unreached (h : paceReached (s.ch n).tabs (fillOf (fifoOf s n)) = none) : paceUpdate s n = s := by
  unfold paceUpdate
  dsimp only
  rw [h, ite_self]

theorem paceUpdate_reached (hd : driven s n = true) (hr : s.rough n = false)
    (he : paceReached (s.ch n).tabs (fillOf (fifoOf s n)) = some e) :
    (PaceTakes s n e → paceUpdate s n = paceApply (s.wr (FIFO_PACESTAT_ENTRY n) e) n e) ∧
    (¬ PaceTakes s n e → paceUpdate s n = s) := by
  unfold paceUpdate
  dsimp only
  rw [if_neg (by simp [hd, hr]), he]
  simp only [PaceTakes, paceLevel, levelBytes_lt, Bool.and_eq_true, decide_eq_true_eq, and_comm (a := _ + _ ≤ _)]
  exact ⟨fun h => if_pos h, fun h => if_neg h⟩

/-! ## The dovetail stop (R226) -/

theorem dtFld_fits (n : Nat) : (FIFO_DTSTAT_STATE n).Fits := by
  simp [Fld.Fits, FIFO_DTSTAT_STATE]

theorem dtStop_idle (h : driven s n = false ∨ s.rough n = true ∨ dtState s n ≠ 0 ∨ feedRunning s n = false) : dtStop s n = s :=
  if_pos (by simpa [or_assoc] using h)

/-- The state in which the feed brakes for a dovetail stop. -/
def dtStopping (s : State) (n a : Nat) : State :=
  axisHalt (s.modFifo n fun f => { f with target := BitVec.ofInt 32 (axis s n a).tgt, resumeHeld := false, lowDue := false }) n a

theorem dtStop_taken (hd : driven s n = true) (hr : s.rough n = false) (h0 : dtState s n = 0) (hrun : feedRunning s n = true)
    (ha : feedAxis s n = some a) :
    dtStop s n = ((dtStopping s n a).wr (FIFO_DTSTAT_STATE n) 1).raise (ev (EV_FIFO_DT_STOP n)) := by
  unfold dtStop
  dsimp only
  rw [if_neg (by simp [hd, hr, h0, hrun]), ha]
  rfl

theorem axis_modFifo (s : State) (n a : Nat) (f : FifoSt → FifoSt) : axis (s.modFifo n f) n a = axis s n a := by
  rw [axis, State.modFifo_ch_same, axis]

theorem carrier_modFifo (s : State) (n a : Nat) (f : FifoSt → FifoSt) : carrier (s.modFifo n f) n a = carrier s n a := by
  rw [carrier, inGroup, State.modFifo_rd, State.modFifo_ch_same, carrier, inGroup]

/-- The feed that runs is the axis that carries its move, on its ramp. -/
theorem feedRunning_ramp (hrun : feedRunning s n = true) (ha : feedAxis s n = some a) : (axis s n (carrier s n a)).mode = .ramp := by
  unfold feedRunning at hrun
  rw [ha] at hrun
  exact beq_iff_eq.1 (Bool.and_eq_true _ _ ▸ hrun).1

theorem dtStopping_eq (hm : (axis s n (carrier s n a)).mode = .ramp) : dtStopping s n a =
    modAxis (s.modFifo n fun f => { f with target := BitVec.ofInt 32 (axis s n a).tgt, resumeHeld := false, lowDue := false }) n
      (carrier s n a) fun x => { x with mode := .halt, first := false } := by
  have hm' : ∀ g, (axis (s.modFifo n g) n (carrier (s.modFifo n g) n a)).mode = .ramp := fun g => by
    rw [carrier_modFifo, axis_modFifo, hm]
  rw [dtStopping, axisHalt_moving (by rw [hm']; decide) (by rw [hm']; decide), carrier_modFifo]

/-- What a stop of the feed leaves: the control in state 1, the target kept, the event raised, and the feed braking. -/
theorem dtStop_stopping (h : RegsWf s) (hd : driven s n = true) (hr : s.rough n = false) (h0 : dtState s n = 0)
    (hrun : feedRunning s n = true) (ha : feedAxis s n = some a) :
    dtState (dtStop s n) n = 1 ∧ (dtStop s n).evq = s.evq ++ [ev (EV_FIFO_DT_STOP n)] ∧
    (fifoOf (dtStop s n) n).target = BitVec.ofInt 32 (axis s n a).tgt ∧
    (axis (dtStop s n) n (carrier s n a)).mode = .halt := by
  rw [dtStop_taken hd hr h0 hrun ha, dtStopping_eq (feedRunning_ramp hrun ha)]
  refine ⟨?_, rfl, ?_, ?_⟩
  · rw [dtState, State.raise_rd, State.rd_wr_same ((h.modFifo ..).modAxis ..) (dtFld_fits n)]
    rfl
  · rw [fifoOf_congr (State.raise_chans ..), fifoOf_congr (State.wr_chans ..), modAxis, setAxis, fifoOf, State.modMot_ch_same,
      State.modFifo_ch_same]
  · rw [axis_congr (State.raise_chans ..), axis_congr (State.wr_chans ..), axis_modAxis_same]

/-! ## The dovetail restart (R227, R231, R232) -/

/-- A restart is asked for and held. -/
def resumeAsked (s : State) (n : Nat) : State := s.modFifo n fun f => { f with resumeHeld := true }

theorem dtResume_off (h : driven s n = false ∨ s.rough n = true ∨ (dtState s n ≠ 1 ∧ dtState s n ≠ 2)) : dtResume s n = s := by
  unfold dtResume
  by_cases hoff : (!driven s n || s.rough n) = true
  · exact if_pos hoff
  · rw [if_neg hoff]
    obtain ⟨hd, hr⟩ : driven s n = true ∧ s.rough n = false := by simpa using hoff
    exact if_neg (not_or.2 (by simpa [hd, hr] using h))

theorem dtResume_asked (hd : driven s n = true) (hr : s.rough n = false) (h : dtState s n = 1 ∨ dtState s n = 2) :
    dtResume s n = dtTryResume (resumeAsked s n) n := by
  unfold dtResume
  rw [if_neg (by simp [hd, hr])]
  exact if_pos h

/-- In HOLDING at LOW a restart that is asked for begins; it is held otherwise. -/
theorem dtTryResume_asked : dtTryResume (resumeAsked s n) n =
    if dtState s n = 2 ∧ fillOf (fifoOf s n) ≤ levelBytes (s.rd (FIFO_LOW_LEVEL n)) then dtBackoff (resumeAsked s n) n
    else resumeAsked s n := by
  unfold dtTryResume resumeAsked
  simp only [dtState, State.modFifo_rd, fifoOf_modFifo, true_and]
  rfl

/-! ## The join (R228, R229) -/

theorem joinDone_waits (h : (fifoOf s n).joinDue = false ∨ (fifoOf s n).joinRes ≠ none ∨
    ∃ l ∈ (s.ch n).pipe.lines, l.kind = .overlap) : joinDone s n = s :=
  if_pos (by simpa [Option.isSome_iff_ne_none, or_assoc] using h)

/-- The result of a join. -/
def joinGot (s : State) (n : Nat) : JoinRes := joinResult (fifoOf s n) (s.rb (RSMP_VCFG_VMODE n)) (s.rd (FIFO_JOINLIM_LIM n))

/-- The result is kept, and moves the vertical position where the vertical unit can be corrected. -/
def joinKept (s : State) (n : Nat) : State :=
  let t := s.modFifo n fun f => { f with joinRes := some (joinGot s n) }
  if s.rb (RSMP_VCFG_VMODE n) && (joinGot s n).ran then t.modRsmp n fun x => { x with y := x.y - 4096 * (joinGot s n).off } else t

theorem joinDone_got (hdue : (fifoOf s n).joinDue = true) (hres : (fifoOf s n).joinRes = none)
    (hl : ∀ l ∈ (s.ch n).pipe.lines, l.kind ≠ .overlap) :
    joinDone s n = if (fifoOf s n).joinWait then dtJoined (joinKept s n) n else joinKept s n :=
  if_neg (by simpa [hdue, hres] using hl)

/-- What a result that is kept changes. -/
theorem joinKept_changes (s : State) (n : Nat) :
    (fifoOf (joinKept s n) n).joinRes = some (joinGot s n) ∧
    ((joinKept s n).ch n).rsmp.y = (s.ch n).rsmp.y -
      (if s.rb (RSMP_VCFG_VMODE n) && (joinGot s n).ran then 4096 * (joinGot s n).off else 0) ∧
    (joinKept s n).regs = s.regs ∧ (joinKept s n).evq = s.evq ∧ (joinKept s n).umd = s.umd := by
  unfold joinKept
  dsimp only
  split
  · rw [fifoOf, State.modRsmp_ch_same, State.modFifo_ch_same]
    exact ⟨rfl, rfl, rfl, rfl, rfl⟩
  · rw [fifoOf, State.modFifo_ch_same]
    exact ⟨rfl, (Int.sub_zero _).symm, rfl, rfl, rfl⟩

end

/-! ## The obligation -/

/-- Settles O47: an entry of the pace table by its threshold and the hysteresis, the stop and the restart of the feed by the state of
the control, and the result of a join. -/
theorem paceDovetailAndJoinFollowTheFill : Obligations.PaceDovetailAndJoinFollowTheFill := by
  unfold Obligations.PaceDovetailAndJoinFollowTheFill
  refine fun s n hwf => ⟨fun hq h => ?_, fun e hd hr he => ⟨fun ht => ?_, fun hq hle hk => ?_⟩, fun h => ?_,
    fun a hd hr h0 hrun ha => ⟨dtStop s n, rfl, dtStop_stopping hwf hd hr h0 hrun ha⟩, fun h => ?_, fun hd hr h => ?_,
    fun hd hr h2 hlow => ?_, fun hq h => ?_, fun hq hdue hres hl => ?_⟩
  · refine next_finish hq ?_ rfl rfl
    rcases h with h | h | h
    · exact paceUpdate_off (.inl h)
    · exact paceUpdate_off (.inr h)
    · exact paceUpdate_unreached h
  · exact next_finish_congr ((paceUpdate_reached hd hr he).1 ht)
  · refine next_finish hq ((paceUpdate_reached hd hr he).2 fun ht => ?_) rfl rfl
    rcases ht with hup | ⟨hdown, hbelow, hfallen⟩
    · exact absurd hle (Nat.not_le.2 hup)
    · rcases hk with hsame | habove | hnear
      · exact absurd hsame (Nat.ne_of_lt hdown)
      · exact absurd habove (Nat.not_le.2 hbelow)
      · exact absurd hfallen (Nat.not_le.2 hnear)
  · exact next_finish_congr (congrArg (motWatch · n) (dtStop_idle h))
  · exact next_finish_congr (congrArg (motWatch · n) (dtResume_off h))
  · refine next_finish_congr (congrArg (motWatch · n) ((dtResume_asked hd hr (h.imp_right And.left)).trans ?_))
    refine dtTryResume_asked.trans (if_neg fun ⟨h2, hlow⟩ => ?_)
    rcases h with h1 | ⟨-, habove⟩
    · exact absurd (h1.symm.trans h2) (by decide)
    · exact absurd hlow (Nat.not_le.2 habove)
  · refine next_finish_congr (congrArg (motWatch · n) ((dtResume_asked hd hr (.inr h2)).trans ?_))
    exact dtTryResume_asked.trans (if_pos ⟨h2, hlow⟩)
  · exact next_finish hq (joinDone_waits h) rfl rfl
  · obtain ⟨hkept, hy, hregs, hevq, humd⟩ := joinKept_changes s n
    refine ⟨joinKept s n, fun hw => ?_, fun hw => ?_, hkept, hy, hregs⟩
    · exact next_finish hq ((joinDone_got hdue hres hl).trans (if_neg (by simp [hw]))) hevq humd
    · exact next_finish_congr ((joinDone_got hdue hres hl).trans (if_pos hw))

end Sys2Proof.Machine
end

section
/-! PROOFS. Packets move through the FIFO: from the tail to the head, through the spill region of the DRAM, and padding. -/

namespace Sys2Proof.Machine

/-! ## Byte memories and rings (R213) -/

theorem readBytes_writeBytes_same {m : List (Nat × Byte)} (w : SparseWf zeroByte m) (a : Nat) (bs : List Byte) :
    readBytes (writeBytes m a bs) a bs.length = bs := by
  refine List.ext_getElem (by simp [readBytes]) fun i hi hi' => ?_
  simp only [readBytes, List.getElem_map, List.getElem_range]
  exact sget_writeBytes_same w a i bs hi'

/-- Bytes written outside a range leave it as it was. -/
theorem readBytes_writeBytes_other (m : List (Nat × Byte)) {a b k : Nat} {bs : List Byte} (h : a + k ≤ b ∨ b + bs.length ≤ a) :
    readBytes (writeBytes m b bs) a k = readBytes m a k := by
  refine List.map_congr_left fun i hi => sget_writeBytes_other m b (a + i) bs ?_
  have := List.mem_range.1 hi
  omega

/-- What does not reach the end of a ring is written in one piece. -/
theorem ringWrite_within (m : List (Nat × Byte)) (base : Nat) {size off : Nat} {bs : List Byte} (h : off + bs.length ≤ size) :
    ringWrite m base size off bs = writeBytes m (base + off) bs := by
  unfold ringWrite
  rw [Nat.min_eq_left (by omega)]
  simp [writeBytes]

theorem length_ringRead (m : List (Nat × Byte)) (base size off len : Nat) : (ringRead m base size off len).length = len := by
  simp [ringRead, readBytes]

/-- A list is its first bytes, those in its middle, and its last ones. -/
theorem take_middle_drop (bs : List Byte) {k l : Nat} (h : k + l ≤ bs.length) :
    bs.take k ++ (bs.drop k).take (bs.length - (k + l)) ++ bs.drop (bs.length - l) = bs := by
  rw [← List.take_add, show k + (bs.length - (k + l)) = bs.length - l by omega, List.take_append_drop]

theorem State.raiseIf_dram (s : State) (b : Bool) (r : Raise) (k : Nat) : (s.raiseIf b r).dram k = s.dram k := by
  unfold State.raiseIf
  split <;> rfl

section
variable {s : State} {n : Nat} {p : Pkt}

/-! ## From the tail to the head (R212) -/

theorem tailToHead_none (h : oldestTail (fifoOf s n) = none) : tailToHead s n = s := by
  rw [tailToHead, h]

theorem tailToHead_blocked (h : oldestTail (fifoOf s n) = some p)
    (hm : (middleEmpty (fifoOf s n) && headRoom (fifoOf s n) p.len) = false) : tailToHead s n = s := by
  rw [tailToHead, h]
  exact if_neg (by simp [hm])

theorem tailToHead_moves (h : oldestTail (fifoOf s n) = some p) (hm : middleEmpty (fifoOf s n) = true)
    (hr : headRoom (fifoOf s n) p.len = true) : tailToHead s n = fifoWatch (s.modFifo n fun f =>
      { f with pkts := modFirst f.pkts inTail fun p => { p with place := .head } }) n := by
  rw [tailToHead, h]
  exact if_pos (by simp [hm, hr])

/-! ## Into the spill region (R212, R213) -/

theorem spillWrite_none (h : oldestTail (fifoOf s n) = none) : spillWrite s n = s := by
  rw [spillWrite, h]

theorem spillWrite_blocked (h : oldestTail (fifoOf s n) = some p)
    (hb : (middleEmpty (fifoOf s n) && headRoom (fifoOf s n) p.len) = true ∨ dataFree s n < p.len ∨ indexFree s n < 1) :
    spillWrite s n = s := by
  rw [spillWrite, h]
  exact if_pos (by simpa [or_assoc] using hb)

/-- A packet spilled at the rings' write positions. -/
def spillPkt (s : State) (n : Nat) (p : Pkt) : Pkt :=
  { p with place := .spilled, dataOff := (fifoOf s n).dataWr, idxOff := (fifoOf s n).idxWr }

/-- The DRAM with a packet's bytes and its index entry in the rings. -/
def spillBytes (s : State) (n : Nat) (p : Pkt) (m : List (Nat × Byte)) : List (Nat × Byte) :=
  ringWrite (ringWrite m spillBase (dataRing s n) (fifoOf s n).dataWr p.bytes) (spillBase + dataRing s n) (indexRing s n)
    (fifoOf s n).idxWr (indexEntry (spillPkt s n p))

/-- A packet's bytes and index entry are in the DRAM, and the first spilled packet is reported. -/
def spillStored (s : State) (n : Nat) (p : Pkt) : State :=
  (s.modDram n (spillBytes s n p)).raiseIf (middleEmpty (fifoOf s n)) (ev (EV_FIFO_SPILL n))

/-- The state with a packet of the tail spilled. -/
def spilled (s : State) (n : Nat) (p : Pkt) : State :=
  (spillStored s n p).modFifo n fun f =>
    { f with pkts := modFirst f.pkts inTail fun _ => spillPkt s n p
             dataWr := (f.dataWr + p.len) % max 1 (dataRing (spillStored s n p) n)
             idxWr := (f.idxWr + 128) % max 1 (indexRing (spillStored s n p) n) }

theorem spillWrite_spills (h : oldestTail (fifoOf s n) = some p)
    (hm : (middleEmpty (fifoOf s n) && headRoom (fifoOf s n) p.len) = false) (hd : p.len ≤ dataFree s n) (hi : 1 ≤ indexFree s n) :
    spillWrite s n = fifoWatch (spilled s n p) n := by
  rw [spillWrite, h]
  exact if_neg (by simp [hm]; omega)

theorem spillSize_congr {t : State} (h : t.regs = s.regs) : spillSize t n = spillSize s n := by
  rw [spillSize, State.rd_congr _ (State.word_congr h _), spillSize]

theorem spilled_fifo : fifoOf (spilled s n p) n = { fifoOf s n with
    pkts := modFirst (fifoOf s n).pkts inTail fun _ => spillPkt s n p
    dataWr := ((fifoOf s n).dataWr + p.len) % max 1 (dataRing s n)
    idxWr := ((fifoOf s n).idxWr + 128) % max 1 (indexRing s n) } := by
  have hfifo : fifoOf (spillStored s n p) n = fifoOf s n := by rw [fifoOf, spillStored, State.raiseIf_ch, State.modDram_ch, fifoOf]
  have hsize : spillSize (spillStored s n p) n = spillSize s n := spillSize_congr (State.raiseIf_regs ..)
  rw [spilled, fifoOf_modFifo, hfifo, dataRing, indexRing, hsize, dataRing, indexRing]

theorem spilled_evq : (spilled s n p).evq = s.evq ++ if middleEmpty (fifoOf s n) then [ev (EV_FIFO_SPILL n)] else [] := by
  rw [spilled, State.modFifo_evq, spillStored, State.raiseIf]
  split
  · rfl
  · exact (List.append_nil _).symm

end

/-- A spilled packet's bytes and index entry read back from the rings. -/
theorem spilled_dram {s : State} {n : Fin 4} {p : Pkt} (h : MemWf s) (hd : (fifoOf s n).dataWr + p.bytes.length ≤ dataRing s n)
    (hi : (fifoOf s n).idxWr + (indexEntry (spillPkt s n p)).length ≤ indexRing s n) :
    readBytes ((spilled s n p).dram n) (spillBase + (fifoOf s n).dataWr) p.bytes.length = p.bytes ∧
    readBytes ((spilled s n p).dram n) (spillBase + dataRing s n + (fifoOf s n).idxWr) (indexEntry (spillPkt s n p)).length =
      indexEntry (spillPkt s n p) := by
  have hw : SparseWf zeroByte (s.dram n) := h.1 n
  have hdram : (spilled s n p).dram n = spillBytes s n p (s.dram n) := by
    rw [spilled, State.modFifo_dram, spillStored, State.raiseIf_dram]
    exact Quad.get_set_same ..
  rw [hdram, spillBytes, ringWrite_within _ _ hd, ringWrite_within _ _ hi]
  refine ⟨?_, readBytes_writeBytes_same (writeBytes_wf hw ..) ..⟩
  rw [readBytes_writeBytes_other _ (.inl (by omega)), readBytes_writeBytes_same hw]

section
variable {s : State} {n : Nat} {p : Pkt} {rest : List Pkt}

/-! ## Out of the spill region (R212, R217) -/

theorem spillRead_none (h : (fifoOf s n).pkts.find? (fun p => p.place == .spilled) = none) (bad : SpillBad) :
    spillRead s n bad = s := by
  rw [spillRead, h]

theorem spillRead_full (h : (fifoOf s n).pkts.find? (fun p => p.place == .spilled) = some p)
    (hr : headRoom (fifoOf s n) p.len = false) (bad : SpillBad) : spillRead s n bad = s := by
  rw [spillRead, h]
  exact if_pos (by simp [hr])

/-- The bytes of a spilled packet as the data ring holds them. -/
def spillRaw (s : State) (n : Nat) (p : Pkt) : List Byte := ringRead (s.dram n) spillBase (dataRing s n) p.dataOff p.len

/-- The oldest spilled packet gives its place to a packet. -/
def readBack (s : State) (n : Nat) (q : Pkt) : State :=
  s.modFifo n fun f => { f with pkts := modFirst f.pkts (fun p => p.place == .spilled) fun _ => q }

/-- A bad payload is counted and reported. -/
def payloadReported (s : State) (n : Nat) (p : Pkt) : State :=
  (s.bump (FIFO_ERR_DPOISON n)).raise ((ev (EV_FIFO_SPILL_ERR n)).line_ p.info.line)

/-- A packet whose header and trailer are good is in the head, with the bytes read back. -/
theorem spillRead_back (h : (fifoOf s n).pkts.find? (fun p => p.place == .spilled) = some p) (hlen : 96 ≤ p.len)
    (hr : headRoom (fifoOf s n) p.len = true) (payload : Bool) : spillRead s n ⟨payload, false, false, false⟩ =
      if payload then
        fifoWatch (readBack (payloadReported s n p) n { p with place := .head, bytes := recrc (setLate (spillRaw s n p) 4) }) n
      else fifoWatch (readBack s n { p with place := .head, bytes := spillRaw s n p }) n := by
  have hl : (spillRaw s n p).length = p.len := length_ringRead ..
  have hraw : (spillRaw s n p).take 64 ++ ((spillRaw s n p).drop 64).take (p.len - 96) ++ (spillRaw s n p).drop (p.len - 32) =
      spillRaw s n p := by
    rw [← hl]
    exact take_middle_drop (k := 64) (l := 32) _ (by omega)
  rw [spillRead, h]
  dsimp only
  rw [if_neg (by simp [hr])]
  exact hraw ▸ rfl

/-! ## Padding (R215) -/

theorem padFront_empty (h : (fifoOf s n).pkts = []) : padFront s n = s := by
  rw [padFront, h]

theorem padFront_packet (h : (fifoOf s n).pkts = p :: rest) (hp : ¬ (p.kind = 15 ∧ p.len = 0)) : padFront s n = s := by
  rw [padFront, h]
  exact if_neg hp

/-- Padding that is settled changes nothing but the packets. -/
theorem padFront_rest (s : State) (n : Nat) : (fifoOf (padFront s n) n).offer = (fifoOf s n).offer ∧
    (padFront s n).evq = s.evq ∧ (padFront s n).umd = s.umd := by
  unfold padFront
  dsimp only
  repeat' split
  all_goals simp

theorem stopPadding_none (h : (fifoOf s n).stopPad = false ∨ (fifoOf s n).pkts ≠ [] ∨ s.runBit n = true) : stopPadding s n = s := by
  refine if_neg fun ⟨hdue, hempty, hstopped⟩ => ?_
  rcases h with hnone | hsome | hrun
  · exact Bool.false_ne_true (hnone.symm.trans hdue)
  · exact hsome hempty
  · rw [hrun] at hstopped
    exact Bool.false_ne_true hstopped

/-- The padding of a stop is settled at once. -/
theorem stopPadding_padded (hdue : (fifoOf s n).stopPad = true) (hempty : (fifoOf s n).pkts = []) (hrun : s.runBit n = false) :
    stopPadding s n = s.modFifo n fun f => { f with
      stopPad := false
      pkts := if padLen s n = 0 then [] else [{ padPkt with bytes := padBytes s n (padLen s n), len := padLen s n }] } := by
  let u := s.modFifo n fun f => { f with pkts := [padPkt], stopPad := false }
  have hu : fifoOf u n = { fifoOf s n with pkts := [padPkt], stopPad := false } := fifoOf_modFifo ..
  have hlen : padLen u n = padLen s n := rfl
  have hbytes (k : Nat) : padBytes u n k = padBytes s n k := by
    unfold padBytes
    rw [hu]
    rfl
  have hpad : stopPadding s n = padFront u n := if_pos ⟨hdue, hempty, by rw [hrun]; rfl⟩
  rw [hpad, padFront, hu]
  dsimp only
  rw [if_pos ⟨rfl, rfl⟩, hlen]
  split
  · rw [State.modFifo_modFifo]
  · rw [State.modFifo_modFifo, hbytes]

end

end Sys2Proof.Machine
end

section
/-! PROOFS. The read side of the FIFO: which packet a request begins, what it offers, and the marker of a packet that is lost. -/

namespace Sys2Proof.Machine

section
variable {s : State} {n : Nat} {p : Pkt} {rest : List Pkt}

/-! ## Requests (R214 to R216) -/

theorem readRequest_empty (h : (fifoOf s n).pkts = []) (bad : SramBad) (cut : List Byte) : readRequest s n bad cut = s := by
  rw [readRequest, padFront_empty h]
  dsimp only
  split
  · next hp => exact absurd (h.symm.trans hp) (List.cons_ne_nil _ _).symm
  · rfl

/-- With a request open, padding alone is settled. -/
theorem readRequest_open (h : (fifoOf s n).offer ≠ none) (bad : SramBad) (cut : List Byte) :
    readRequest s n bad cut = padFront s n := by
  unfold readRequest
  dsimp only
  split
  · next ho _ => exact absurd ((padFront_rest s n).1.symm.trans ho) h
  · rfl

/-- A packet still being written may start as cut-through (R214). -/
def cutStarts (s : State) (n : Nat) (p : Pkt) (cut : List Byte) : Bool :=
  !p.complete && p.place == .tail && s.rd (FIFO_CFG_CUT n) != 0 && middleEmpty (fifoOf s n) &&
    decide (256 * s.rd (FIFO_CFG_CUT n) ≤ cut.length)

/-- A packet that the read side begins, as cut-through or not, with the length that it then has. -/
def Pkt.begun (p : Pkt) (cut : Bool) (len : Nat) : Pkt :=
  if p.offered then p
  else { p with offered := true, cut := cut, place := .head, len := len, extra := if cut then p.len - len else 0 }

/-- The packet in front as the read side begins it. -/
def frontBegun (s : State) (n : Nat) (p : Pkt) (cut : List Byte) : Pkt :=
  p.begun (cutStarts s n p cut) (if cutStarts s n p cut then s.rd (PACK_PKTLEN_LEN n) else p.len)

/-- The packet in front waits: it neither is in the head nor starts as cut-through, or what is written of it is discarded. -/
def frontWaits (s : State) (n : Nat) (p : Pkt) (cut : List Byte) : Bool :=
  !(p.place == .head || cutStarts s n p cut) || p.discard

theorem readRequest_waits {cut : List Byte} (hp : (fifoOf s n).pkts = p :: rest) (hpad : ¬ (p.kind = 15 ∧ p.len = 0))
    (hw : frontWaits s n p cut = true) (bad : SramBad) : readRequest s n bad cut = s := by
  unfold readRequest
  rw [padFront_packet hp hpad]
  dsimp only
  split
  · next hq =>
    obtain ⟨rfl, rfl⟩ := List.cons.inj (hp.symm.trans hq)
    exact if_pos hw
  · rfl

theorem cutStarts_complete {cut : List Byte} (h : p.complete = true) : cutStarts s n p cut = false := by
  simp [cutStarts, h]

/-- A complete packet of the head that is no cut-through packet and is not discarded. -/
structure Pkt.Whole (p : Pkt) : Prop where
  place : p.place = .head
  complete : p.complete = true
  discard : p.discard = false
  cut : p.cut = false

theorem Pkt.Whole.not_waits {cut : List Byte} (h : p.Whole) : frontWaits s n p cut = false := by
  simp [frontWaits, h.place, h.discard]

theorem Pkt.Whole.begun_eq {cut : List Byte} (h : p.Whole) :
    frontBegun s n p cut = { p with offered := true, extra := if p.offered then p.extra else 0 } := by
  obtain ⟨hhead, hc, -, hcut⟩ := h
  rw [frontBegun, cutStarts_complete hc, Pkt.begun]
  cases p
  split <;> simp_all

theorem frontBegun_cut {cut : List Byte} (hs : cutStarts s n p cut = true) (ho : p.offered = false) :
    frontBegun s n p cut = { p with
      offered := true
      cut := true
      place := .head
      len := s.rd (PACK_PKTLEN_LEN n)
      extra := p.len - s.rd (PACK_PKTLEN_LEN n) } := by
  rw [frontBegun, hs, Pkt.begun, ho]
  rfl

theorem nextChunk_whole (hcut : p.cut = false) (h : p.handed < p.len) (avail : Nat) :
    nextChunk p avail = some (p.handed, min 4096 (p.len - p.handed)) := by
  simp [nextChunk, hcut, h]

/-- The first request of a cut-through packet lies behind the header, which follows later. -/
theorem nextChunk_cut {avail : Nat} (hcut : p.cut = true) (h0 : p.handed = 0) (hlen : 96 < p.len) (ha : 0 < avail) :
    nextChunk p avail = some (64, min 4096 (min (p.len - 96) avail)) := by
  have hbody : 0 < p.len - 96 := by omega
  have hk : min 4096 (min (p.len - 96) avail - 0) ≠ 0 := by omega
  rw [nextChunk, if_neg (by simp [hcut]), h0]
  exact (if_pos hbody).trans (if_neg hk)

/-! ### What a request offers -/

/-- A request without errors: the packet in front is begun, and its next bytes are offered. -/
theorem readRequest_offers {cut : List Byte} {q : Pkt} {off k : Nat} (hp : (fifoOf s n).pkts = p :: rest)
    (hoff : (fifoOf s n).offer = none) (hpad : ¬ (p.kind = 15 ∧ p.len = 0)) (hw : frontWaits s n p cut = false)
    (hq : frontBegun s n p cut = q) (hk : nextChunk q (if q.complete then q.len - 96 else cut.length) = some (off, k)) :
    readRequest s n ⟨[], []⟩ cut = showFifo (s.modFifo n fun f => { f with
      pkts := q :: rest
      offer := some
        { off := off
          bytes := ((if q.complete then q.bytes else flipBytes q.flips (List.replicate 64 0 ++ cut)).drop off).take k
          last := decide (q.handed + k = q.len) } }) n := by
  have hchunk : chunkRead q ⟨[], []⟩ off k = ([], 0, false) := by
    have hfails : ((wordsOf off k).filter (wordFails [])).length = 0 := by simp [wordFails]
    simp [chunkRead, hfails]
  have hread : q.read [] false = q := by
    unfold Pkt.read
    split
    · rw [List.append_nil, Bool.or_false]
    · rfl
  have hgood (j : Nat) : wordFails [] j = false := rfl
  unfold readRequest
  rw [padFront_packet hp hpad]
  extract_lets t f
  rw [show f.offer = none from hoff, show f.pkts = p :: rest from hp]
  dsimp -zeta only
  extract_lets cutOk len front whole hdr trl
  refine (if_neg (ne_true_of_eq_false hw)).trans ?_
  rw [if_neg (by simp [hdr, trl, hgood]), show front = q from hq, hk]
  dsimp only
  rw [hchunk]
  dsimp only
  rw [hread]
  rfl

/-- A whole packet of the head with no request open: its next bytes are offered. -/
theorem readRequest_whole (hp : (fifoOf s n).pkts = p :: rest) (hoff : (fifoOf s n).offer = none) (hw : p.Whole)
    (hh : p.handed < p.len) (cut : List Byte) :
    readRequest s n ⟨[], []⟩ cut = showFifo (s.modFifo n fun f => { f with
      pkts := { p with offered := true, extra := if p.offered then p.extra else 0 } :: rest
      offer := some
        { off := p.handed
          bytes := (p.bytes.drop p.handed).take (min 4096 (p.len - p.handed))
          last := decide (p.handed + min 4096 (p.len - p.handed) = p.len) } }) n := by
  have hpad : ¬ (p.kind = 15 ∧ p.len = 0) := fun h => Nat.not_lt_zero _ (h.2 ▸ hh)
  refine (readRequest_offers hp hoff hpad hw.not_waits hw.begun_eq (nextChunk_whole hw.cut hh _)).trans ?_
  simp only [hw.complete, if_true]

/-- A packet that starts as cut-through: its payload is offered first, as far as it is there. -/
theorem readRequest_cut {cut : List Byte} (hp : (fifoOf s n).pkts = p :: rest) (hoff : (fifoOf s n).offer = none) (hk : p.kind = 1)
    (hs : cutStarts s n p cut = true) (hc : p.complete = false) (ho : p.offered = false) (hd : p.discard = false)
    (hh : p.handed = 0) (hf : p.flips = []) (hlen : 96 < s.rd (PACK_PKTLEN_LEN n)) (hcut : 0 < cut.length) :
    readRequest s n ⟨[], []⟩ cut = showFifo (s.modFifo n fun f => { f with
      pkts := { p with
        offered := true
        cut := true
        place := .head
        len := s.rd (PACK_PKTLEN_LEN n)
        extra := p.len - s.rd (PACK_PKTLEN_LEN n) } :: rest
      offer := some
        { off := 64
          bytes := cut.take (min 4096 (min (s.rd (PACK_PKTLEN_LEN n) - 96) cut.length))
          last := false } }) n := by
  have hlast : ¬ p.handed + min 4096 (min (s.rd (PACK_PKTLEN_LEN n) - 96) cut.length) = s.rd (PACK_PKTLEN_LEN n) := by omega
  have hsrc : (flipBytes p.flips (List.replicate 64 0 ++ cut)).drop 64 = cut := by
    rw [hf]
    exact List.drop_left' List.length_replicate
  refine (readRequest_offers hp hoff (fun h => by simp [hk] at h) (by simp [frontWaits, hs, hd]) (frontBegun_cut hs ho)
    (nextChunk_cut rfl hh hlen ?_)).trans ?_
  · simpa [hc] using hcut
  · simp only [hc, Bool.false_eq_true, if_false, hsrc, hlast, decide_false]

/-! ### Words that fail (R211, R216, R217) -/

/-- The two words that are read before the first request of a packet. -/
def edgeFails (bad : SramBad) (p : Pkt) : Nat := b2n (wordFails bad.flips 0) + b2n (wordFails bad.flips (p.len / 64 - 1))

/-- Words that fail are counted. -/
theorem parFails_counts (h : RegsWf s) (line k : Nat) :
    (parFails s n line k).rd (FIFO_ERR_PAR n) = min (s.rd (FIFO_ERR_PAR n) + k) (2 ^ (FIFO_ERR_PAR n).width - 1) ∧
    (parFails s n line k).chans = s.chans := by
  have hlt := s.rd_lt (FIFO_ERR_PAR n)
  have hfits : (FIFO_ERR_PAR n).Fits := by simp [Fld.Fits, FIFO_ERR_PAR]
  refine ⟨?_, iterate_same State.chans fun _ _ => rfl⟩
  refine (iterate_induct (P := fun i t => RegsWf t ∧
    t.rd (FIFO_ERR_PAR n) = min (s.rd (FIFO_ERR_PAR n) + i) (2 ^ (FIFO_ERR_PAR n).width - 1)) ⟨h, by omega⟩ ?_).2
  intro i _ t ⟨hwf, hrd⟩
  refine ⟨(hwf.bump _).raise _, ?_⟩
  rw [State.raise_rd, State.rd_bump_same hwf hfits, hrd]
  omega

/-- The marker of a packet that is lost. -/
theorem lostMarker_marks (s : State) (n cause : Nat) (hdr trl : Option (List Byte)) (ahead : List Pkt) (next : Option Nat)
    (granted : Bool) :
    let r := lostMarker s n cause hdr trl ahead next granted
    r.1.kind = 2 ∧ r.1.complete = true ∧ r.1.granted = granted ∧ PacketsHeld n s r.2 :=
  ⟨rfl, rfl, rfl, (PacketsHeld.refl n s).nextMarker.countMarker⟩

/-- Where the first request of a whole packet finds its header or trailer bad, a marker takes the packet's place. -/
theorem readRequest_marks {cut : List Byte} {bad : SramBad} (hp : (fifoOf s n).pkts = p :: rest)
    (hoff : (fifoOf s n).offer = none) (hw : p.Whole) (hh : p.handed = 0) (h0 : p.len ≠ 0)
    (hbad : wordFails bad.flips 0 = true ∨ wordFails bad.flips (p.len / 64 - 1) = true) :
    ∃ m t, readRequest s n bad cut = fifoWatch (t.modFifo n fun f => { f with pkts := m :: rest }) n ∧
      m.kind = 2 ∧ m.complete = true ∧ m.granted = p.granted ∧ PacketsHeld n (parFails s n p.info.line (edgeFails bad p)) t := by
  unfold readRequest
  rw [padFront_packet hp fun h => h0 h.2]
  extract_lets t f
  rw [show f.offer = none from hoff, show f.pkts = p :: rest from hp]
  dsimp -zeta only
  extract_lets cutOk len front whole hdr trl bs u r
  have hfront : front = { p with offered := true, extra := if p.offered then p.extra else 0 } := hw.begun_eq
  have hwhole : whole = true := by simp [whole, hfront, hh, hw.cut]
  have hhdr : hdr = wordFails bad.flips 0 := by simp [hdr, hwhole]
  have htrl : trl = wordFails bad.flips (p.len / 64 - 1) := by simp [trl, hwhole, hfront]
  have hlost : (hdr || trl) = true := by simpa [hhdr, htrl] using hbad
  have hinfo : p.info = front.info := by rw [hfront]
  have hu : u = parFails s n p.info.line (edgeFails bad p) := by rw [edgeFails, ← hhdr, ← htrl, hinfo]
  obtain ⟨hkind, hcomplete, hgranted, hheld⟩ := lostMarker_marks u n 6 (if hdr = true then none else some (bs.take 64))
    (if trl = true then none else some (bs.drop (front.len - 32))) [] (nextLine rest) front.granted
  refine ⟨r.1, r.2, (if_neg (ne_true_of_eq_false hw.not_waits)).trans (if_pos hlost), hkind, hcomplete, ?_, hu ▸ hheld⟩
  exact hgranted.trans (by rw [hfront])

/-- What a request leaves that lost its packet. -/
theorem readRequest_loses {cut : List Byte} {bad : SramBad} (hwf : RegsWf s) (hp : (fifoOf s n).pkts = p :: rest)
    (hoff : (fifoOf s n).offer = none) (hw : p.Whole) (hh : p.handed = 0) (h0 : p.len ≠ 0)
    (hbad : wordFails bad.flips 0 = true ∨ wordFails bad.flips (p.len / 64 - 1) = true) :
    ∃ m, (fifoOf (readRequest s n bad cut) n).pkts = m :: rest ∧ m.kind = 2 ∧ m.complete = true ∧ m.granted = p.granted ∧
      (fifoOf (readRequest s n bad cut) n).offer = none ∧ (readRequest s n bad cut).rd (FIFO_ERR_PAR n) =
        min (s.rd (FIFO_ERR_PAR n) + edgeFails bad p) (2 ^ (FIFO_ERR_PAR n).width - 1) := by
  obtain ⟨m, t, e, hkind, hcomplete, hgranted, hheld⟩ := readRequest_marks (cut := cut) hp hoff hw hh h0 hbad
  obtain ⟨hcount, hchans⟩ := parFails_counts (n := n) hwf p.info.line (edgeFails bad p)
  have hwatch := (PacketsHeld.refl n (t.modFifo n fun f => { f with pkts := m :: rest })).fifoWatch
  refine ⟨m, ?_, hkind, hcomplete, hgranted, ?_, ?_⟩
  · rw [e, hwatch.pkts, fifoOf_modFifo]
  · rw [e, hwatch.offer, fifoOf_modFifo, hheld.offer, fifoOf_congr hchans, hoff]
  · rw [e, hwatch.errPar, State.modFifo_rd, hheld.errPar, hcount]

end

/-! ## The obligation -/

/-- Settles O46: a packet of the tail moves or is spilled by the room there is, a spilled one comes back as it was read, a request
takes what the packet in front offers, and padding is settled by the boundary. -/
theorem packetsMoveThroughTheFifo : Obligations.PacketsMoveThroughTheFifo := by
  unfold Obligations.PacketsMoveThroughTheFifo
  intro s n hwf hmem f
  refine ⟨fun hq h => ⟨?_, ?_⟩, fun p hp => ⟨fun hm hr => ⟨fun hq => ?_, ?_⟩, fun hm => ⟨fun hq => ?_, fun hq hfull => ?_,
      fun hd hi => ?_⟩⟩, fun hq h bad => ?_, fun p hp hlen => ⟨fun hq hr bad => ?_, fun hr => ⟨?_, ?_⟩⟩, fun hq h bad => ?_,
    fun hq h bad => ?_, ?_, ?_, ?_, fun hq => ?_, fun hq h => ?_, fun hq hdue hempty hrun => ?_⟩
  · exact next_finish hq (tailToHead_none h) rfl rfl
  · exact next_finish hq (spillWrite_none h) rfl rfl
  · exact next_finish hq (spillWrite_blocked hp (.inl (Bool.and_eq_true_iff.2 ⟨hm, hr⟩))) rfl rfl
  · exact next_finish_congr (tailToHead_moves hp hm hr)
  · exact next_finish hq (tailToHead_blocked hp hm) rfl rfl
  · exact next_finish hq (spillWrite_blocked hp (.inr hfull)) rfl rfl
  · refine ⟨spilled s n p, next_finish_congr (spillWrite_spills hp hm hd hi), ?_, ?_, ?_, spilled_evq, spilled_dram hmem⟩
    · rw [spilled_fifo]
      rfl
    · rw [spilled_fifo]
    · rw [spilled_fifo]
  · exact next_finish hq (spillRead_none h bad) rfl rfl
  · exact next_finish hq (spillRead_full hp hr bad) rfl rfl
  · exact next_finish_congr (spillRead_back hp hlen hr false)
  · exact next_finish_congr (spillRead_back hp hlen hr true)
  · exact next_finish hq (readRequest_empty h bad _) rfl rfl
  · obtain ⟨-, hevq, humd⟩ := padFront_rest s n
    exact next_finish hq (readRequest_open h bad _) hevq humd
  · intro p rest hq hoff hp hhead hc hd hcut hh _ k
    refine ⟨_, next_finish hq (readRequest_whole hp hoff ⟨hhead, hc, hd, hcut⟩ hh _) rfl rfl, ?_, ?_⟩
    · rw [fifoOf_showFifo, fifoOf_modFifo]
    · rw [fifoOf_showFifo, fifoOf_modFifo]
  · intro p rest bad hoff hp hhead hc hd hcut hh h0 hbad
    obtain ⟨m, hpkts, hkind, hcomplete, hgranted, hopen, hpar⟩ :=
      readRequest_loses (cut := cutBytes s n) hwf hp hoff ⟨hhead, hc, hd, hcut⟩ hh h0 hbad
    exact ⟨_, m, rfl, hpkts, hkind, hcomplete, hgranted, hopen, Nat.add_assoc .. ▸ hpar⟩
  · intro p rest hq hoff hp hk htail hc ho hd hh hf start
    have hstart : cutStarts s n p (cutBytes s n) = true ↔ start := by simp [cutStarts, start, hc, htail, and_assoc, f]
    refine ⟨fun hno bad => ?_, fun hs hlen => ?_⟩
    · have hw : frontWaits s n p (cutBytes s n) = true := by simp [frontWaits, htail, mt hstart.1 hno]
      exact next_finish hq (readRequest_waits hp (fun h => by simp [hk] at h) hw bad) rfl rfl
    · have hthere : 0 < (cutBytes s n).length := by
        obtain ⟨hcfg, -, hcut⟩ := hs
        omega
      refine ⟨_, next_finish hq (readRequest_cut hp hoff hk (hstart.2 hs) hc ho hd hh hf hlen hthere) rfl rfl, ?_, ?_⟩
      · rw [fifoOf_showFifo, fifoOf_modFifo]
      · exact ⟨_, by rw [fifoOf_showFifo, fifoOf_modFifo], rfl, rfl, rfl⟩
  · exact next_finish hq rfl rfl rfl
  · exact next_finish hq (stopPadding_none h) rfl rfl
  · exact next_finish hq (stopPadding_padded hdue hempty hrun) rfl rfl

end Sys2Proof.Machine
end

section
/-! PROOFS. Calibration lists: what the calibration controller writes beside the fields asked for, and how a list starts and is aborted. -/

namespace Sys2Proof.Machine

/-! ## Fields set one after another -/

/-- Of fields that share no bit, each reads as it was set. -/
theorem State.rd_puts_mem {s : State} (h : RegsWf s) {l : List (Fld × Nat)} (hfit : ∀ p ∈ l, p.1.Fits)
    (hap : l.Pairwise fun p q => q.1.Apart p.1) {p : Fld × Nat} (hp : p ∈ l) : (s.puts l).rd p.1 = p.2 % 2 ^ p.1.width := by
  induction l generalizing s with
  | nil => exact absurd hp List.not_mem_nil
  | cons q l ih =>
    obtain ⟨hq, hl⟩ := List.pairwise_cons.1 hap
    have hfl : ∀ p ∈ l, p.1.Fits := fun p hp => hfit p (.tail _ hp)
    rcases List.mem_cons.1 hp with rfl | hp
    · exact (State.rd_puts_apart (h.wr ..) (hfit p (.head _)) fun q hm => ⟨hfl q hm, hq q hm⟩).trans
        (State.rd_wr_same h (hfit p (.head _)) _)
    · exact ih (h.wr ..) hfl hl hp

/-! ## Registers of the channel blocks (R384) -/

/-- An address of the channel blocks, or beyond them. -/
def chanAddr (a : Nat) : Prop := 0x80000 ≤ a

theorem chanAddr_reg (n k : Nat) : chanAddr (k + chBase n) := by
  unfold chanAddr chBase
  omega

theorem chanAddr_entry (n k j : Nat) : chanAddr (k + chBase n + j) := Nat.le_trans (chanAddr_reg n k) (Nat.le_add_right ..)

/-- A channel's list status lies below them. -/
theorem seqAddr_not_chanAddr (n : Fin 4) : ¬ chanAddr (SEQ_STAT_STATE n).addr := by
  have hn := n.isLt
  simp only [SEQ_STAT_STATE, chanAddr]
  omega

theorem Wrote.modCal {s t : State} {may : Nat → Prop} {n : Nat} {f : CalSt → CalSt} (h : Wrote s t may) :
    Wrote s (t.modCal n f) may := h.congr rfl

theorem Wrote.bump {s t : State} {may : Nat → Prop} (h : Wrote s t may) {f : Fld} (ha : may f.addr) : Wrote s (t.bump f) may :=
  h.wr _ ha

theorem Wrote.ite {s t u : State} {may : Nat → Prop} {p : Prop} [Decidable p] (ht : Wrote s t may) (hu : Wrote s u may) :
    Wrote s (if p then t else u) may := by
  split <;> assumption

/-- Every field of a word that was not written reads as before. -/
theorem Wrote.rd {s t : State} {may : Nat → Prop} (h : Wrote s t may) {f : Fld} (hf : ¬ may f.addr) : t.rd f = s.rd f :=
  State.rd_congr f (h.words _ hf)

/-! ## Activation (R254) -/

/-- What goes on beside the status of channel n's calibration: registers of the channel blocks are written, of CAL_n_STAT none but
fields below GAP, and nothing is raised. -/
structure CalAside (n : Nat) (s t : State) : Prop where
  wrote : Wrote s t chanAddr
  gap : t.rd (CAL_STAT_GAP n) = s.rd (CAL_STAT_GAP n)
  state : t.rd (CAL_STAT_STATE n) = s.rd (CAL_STAT_STATE n)
  evq : t.evq = s.evq

namespace CalAside

section
variable {n : Nat} {s t u : State}

theorem refl (h : RegsWf s) : CalAside n s s := ⟨.refl h, rfl, rfl, rfl⟩

theorem congr (h : CalAside n s t) (hr : u.regs = t.regs) (he : u.evq = t.evq) : CalAside n s u where
  wrote := h.wrote.congr hr
  gap := (State.rd_congr _ (State.word_congr hr _)).trans h.gap
  state := (State.rd_congr _ (State.word_congr hr _)).trans h.state
  evq := he.trans h.evq

theorem ite {p : Prop} [Decidable p] (ht : CalAside n s t) (hu : CalAside n s u) : CalAside n s (if p then t else u) := by
  split <;> assumption

theorem wr (h : CalAside n s t) {f : Fld} (v : Nat) (ha : chanAddr f.addr)
    (hs : f.addr ≠ (CAL_STAT_STATE n).addr ∨ f.Fits ∧ f.hi < 19) : CalAside n s (t.wr f v) := by
  have hrd {g : Fld} (hg : g.Fits) (haddr : g.addr = (CAL_STAT_STATE n).addr) (hlo : 19 ≤ g.lo) : (t.wr f v).rd g = t.rd g := by
    rcases hs with hne | ⟨hf, hhi⟩
    · exact State.rd_wr_far _ (haddr ▸ hne.symm) _
    · exact State.rd_wr_apart h.wrote.wf hf hg (.inr (.inl (Nat.lt_of_lt_of_le hhi hlo))) _
  exact ⟨h.wrote.wr v ha, (hrd (g := CAL_STAT_GAP n) (by simp [Fld.Fits, CAL_STAT_GAP]) rfl (Nat.le_refl 19)).trans h.gap,
    (hrd (g := CAL_STAT_STATE n) (by simp [Fld.Fits, CAL_STAT_STATE]) rfl (by simp [CAL_STAT_STATE])).trans h.state, h.evq⟩

/-- A write of another register of the channel. -/
theorem reg (h : CalAside n s t) {k hi lo : Nat} {acc : Acc} {rst : Nat} (v : Nat) (hk : k ≠ 0x1C008 := by decide) :
    CalAside n s (t.wr ⟨k + chBase n, hi, lo, acc, rst⟩ v) :=
  h.wr v (chanAddr_reg n k) (.inl fun e => hk (Nat.add_right_cancel e))

/-- A write of a status field below GAP. -/
theorem low (h : CalAside n s t) {hi lo : Nat} {acc : Acc} {rst : Nat} (v : Nat) (hf : lo ≤ hi ∧ hi < 19 := by decide) :
    CalAside n s (t.wr ⟨0x1C008 + chBase n, hi, lo, acc, rst⟩ v) :=
  h.wr v (chanAddr_reg n _) (.inr ⟨⟨hf.1, Nat.lt_trans hf.2 (by decide)⟩, hf.2⟩)

theorem modCal {f : CalSt → CalSt} (h : CalAside n s t) : CalAside n s (t.modCal n f) := h.congr rfl rfl

protected theorem profileSwap {v : Bool} (h : CalAside n s t) : CalAside n s (profileSwap t n v) :=
  (h.congr (u := t.modPipe n _) rfl rfl).reg _

protected theorem storeSlot {slot : Nat} {v : Bool} (h : CalAside n s t) : CalAside n s (storeSlot t n slot v) :=
  (h.congr (u := t.modDram n _) rfl rfl).low _

protected theorem calActivate {line ts : Nat} (h : CalAside n s t) : CalAside n s (calActivate t n line ts) := by
  unfold Machine.calActivate
  extract_lets _ swapped stored tref counted dated srefs
  have ht : CalAside n s tref := by
    unfold tref
    split
    exacts [(h.profileSwap.storeSlot.reg _).low _, h.profileSwap.storeSlot]
  have hd : CalAside n s dated := ((((ht.reg _).reg _).reg _).reg _).reg _
  have hr : CalAside n s srefs := List.foldlRecOn _ _ hd fun _ hu p _ => hu.wr p.2 (chanAddr_entry n _ _) (.inl (by
    simp only [CAL_SREF_SREF, CAL_STAT_STATE]
    omega))
  exact hr.modCal

protected theorem calActivateIdle {ts : BitVec 64} (h : CalAside n s t) : CalAside n s (calActivateIdle t n ts) := by
  unfold Machine.calActivateIdle
  split
  exacts [h.calActivate, h]

end

end CalAside

/-! ## A calibration list starts (R241, R252, R428) -/

/-- A started list: its gap is open, CAL_n_STAT.STATE is 1, and its start has been raised. -/
structure ListStarted (n : Nat) (s t : State) : Prop where
  wrote : Wrote s t chanAddr
  gap : t.rb (CAL_STAT_GAP n) = true
  state : t.rd (CAL_STAT_STATE n) = 1
  on : (calOf t n).listOn = true
  evq : t.evq = s.evq ++ [ev (EV_CAL_START n)]

/-- The status fields that a start sets. -/
def startShown (n : Nat) : List (Fld × Nat) := [(CAL_STAT_GAP n, 1), (CAL_STAT_STATE n, 1), (CAL_STAT_TREQ n, 0)]

theorem rd_startShown {s : State} (h : RegsWf s) {n : Nat} {p : Fld × Nat} (hp : p ∈ startShown n) :
    (s.puts (startShown n)).rd p.1 = p.2 % 2 ^ p.1.width :=
  State.rd_puts_mem h (by simp [startShown, Fld.Fits, CAL_STAT_GAP, CAL_STAT_STATE, CAL_STAT_TREQ])
    (by simp [startShown, Fld.Apart, CAL_STAT_GAP, CAL_STAT_STATE, CAL_STAT_TREQ]) hp

theorem calListStart_started {s : State} (h : RegsWf s) (n : Nat) : ListStarted n s (calListStart s n) := by
  unfold calListStart
  extract_lets wait activated going begun opened stores shown
  have ha : CalAside n s activated := (CalAside.refl h).calActivateIdle.ite (.refl h)
  have ho : CalAside n s opened := ha.modCal.ite ha.modCal.modCal
  have hon : (calOf opened n).listOn = true := by
    simp only [opened, begun]
    split <;> simp [calOf, State.modCal_ch_same]
  have hw : Wrote s stores chanAddr := ho.wrote.iterate fun _ hu j _ => hu.wr 0 (chanAddr_entry n _ _)
  have hch : stores.ch n = opened.ch n := iterate_same (State.ch · n) fun _ _ => State.wr_ch ..
  have hevq : stores.evq = opened.evq := iterate_same State.evq fun _ _ => State.wr_evq ..
  have hshown : shown = stores.puts (startShown n) := rfl
  have hgap := rd_startShown (n := n) hw.wf (p := (CAL_STAT_GAP n, 1)) (by simp [startShown])
  have hstate := rd_startShown (n := n) hw.wf (p := (CAL_STAT_STATE n, 1)) (by simp [startShown])
  clear_value stores
  refine ⟨?_, ?_, ?_, ?_, ?_⟩
  · exact (((hw.wr _ (chanAddr_reg n _)).wr _ (chanAddr_reg n _)).wr _ (chanAddr_reg n _)).raise
  · rw [State.raise_rb, State.rb, hshown, hgap]
    rfl
  · rw [State.raise_rd, hshown, hstate]
    rfl
  · rw [calOf, State.raise_ch, State.wr_ch, State.wr_ch, State.wr_ch, hch]
    exact hon
  · rw [State.raise_evq, State.wr_evq, State.wr_evq, State.wr_evq, hevq, ho.evq]

/-! ## Runners (R50, R53) -/

/-- The status that a list begins with. -/
def begunShown (n ty jig : Nat) : List (Fld × Nat) :=
  [(SEQ_STAT_STATE n, 1), (SEQ_STAT_TYPE n, ty), (SEQ_STAT_CAUSE n, 0), (SEQ_STAT_JIG n, jig), (SEQ_STAT_PC n, 0)]

theorem modRunner_regs (s : State) (r : Nat) (f : Runner → Runner) : (modRunner s r f).regs = s.regs := rfl

theorem seqBegin_shown (s : State) (n ty jig : Nat) (words : List (BitVec 64)) (boot : Bool) :
    ∃ u : State, u.regs = s.regs ∧ seqBegin s (n + 1) ty jig words boot =
      modRunner (u.puts (begunShown n ty jig)) (n + 1) fun _ => { Runner.idle with words := words, boot := boot } :=
  ⟨{ s with port := s.port.map fun (q : PortReq) => if q.src = n + 1 + 1 then { q with words := 0 } else q }, rfl, rfl⟩

theorem rd_seqBegin {s : State} (h : RegsWf s) {n ty jig : Nat} {words : List (BitVec 64)} {boot : Bool} {p : Fld × Nat}
    (hp : p ∈ begunShown n ty jig) : (seqBegin s (n + 1) ty jig words boot).rd p.1 = p.2 % 2 ^ p.1.width := by
  obtain ⟨u, hu, he⟩ := seqBegin_shown s n ty jig words boot
  rw [he, State.rd_congr _ (State.word_congr (modRunner_regs ..) _)]
  exact State.rd_puts_mem (h.congr hu)
    (by simp [begunShown, Fld.Fits, SEQ_STAT_STATE, SEQ_STAT_TYPE, SEQ_STAT_CAUSE, SEQ_STAT_JIG, SEQ_STAT_PC])
    (by simp [begunShown, Fld.Apart, SEQ_STAT_STATE, SEQ_STAT_TYPE, SEQ_STAT_CAUSE, SEQ_STAT_JIG, SEQ_STAT_PC]) hp

theorem RegsWf.seqBegin {s : State} (h : RegsWf s) (n ty jig : Nat) (words : List (BitVec 64)) (boot : Bool) :
    RegsWf (seqBegin s (n + 1) ty jig words boot) := by
  obtain ⟨u, hu, he⟩ := seqBegin_shown s n ty jig words boot
  rw [he]
  exact (Wrote.puts (.refl (h.congr hu) (may := fun _ => True)) fun _ _ => trivial).wf.congr (modRunner_regs ..)

/-- A channel's busy runner takes no start. -/
theorem seqStart_busy {s : State} {n ty : Nat} (h : s.listRuns (n + 1) = true) :
    seqStart s n ty = s.raise (seqFailEv (n + 1) ty (jigOf s n) 0 7) := if_pos h

/-- Where nothing refuses it, a start of the calibration list begins it. -/
theorem seqStart_calibration {s : State} {n : Nat} {ws : List (BitVec 64)} (hr : s.listRuns (n + 1) = false)
    (hsw : s.switching n = false) (hj : s.rb (GLB_SW_STAT_NOJIG n) = false) (hrough : s.rough n = false) (hsafe : s.safe = false)
    (hl : jigList (jigFor s (some n) (jigOf s n)) n 2 = some ws) :
    seqStart s n 2 = calListStart (seqBegin s (n + 1) 2 (jigOf s n) ws false) n := by
  simp [seqStart, hr, hsw, hj, hrough, hsafe, hl]

/-! ## A calibration list ends (R252, R254) -/

theorem Wrote.showAxis {s t : State} {n a : Nat} (h : Wrote s t chanAddr) : Wrote s (showAxis t n a) chanAddr := by
  have hx {k : Nat} : chanAddr (k + chBase n + 0x100 * a) := chanAddr_entry n k _
  have hr {k : Nat} : chanAddr (k + chBase n) := chanAddr_reg n k
  unfold Machine.showAxis
  exact (((((((h.wr _ hx).wr _ hx).wr _ hx).wr _ hx).wr _ hx).wr _ hr).wr _ hr).wr _ hr

theorem Wrote.endMove {s t : State} {n a code : Nat} (h : Wrote s t chanAddr) : Wrote s (endMove t n a code) chanAddr :=
  .showAxis (.raise (.wr (f := MOTA_STAT_END n a) (h.congr (u := modAxis t n a _) rfl) code (chanAddr_entry n _ _)))

theorem Wrote.axisMove {s t : State} {n a : Nat} {tgt : Int} {how : MoveBy} (h : Wrote s t chanAddr) :
    Wrote s (axisMove t n a tgt how).1 chanAddr := by
  unfold Machine.axisMove
  split
  · exact ((h.wr _ (chanAddr_entry n _ _)).bump (chanAddr_entry n _ _)).raise
  · have hb : Wrote s (beginMove t n a tgt (rampRegs t n a) how .ramp) chanAddr := .showAxis (h.congr rfl)
    exact hb.endMove.ite hb

theorem Wrote.calAbandon {s t : State} {n : Nat} (h : Wrote s t chanAddr) : Wrote s (calAbandon t n) chanAddr :=
  h.ite ((h.modCal.wr _ (chanAddr_reg n _)).bump (chanAddr_reg n _)).raise

/-- The end of a calibration list shows in the channel's own registers. -/
theorem Wrote.calListEnd {s t : State} {n : Nat} {failed : Bool} (h : Wrote s t chanAddr) :
    Wrote s (calListEnd t n failed) chanAddr := by
  unfold Machine.calListEnd
  extract_lets none_ ended left shown
  have hc : Wrote s (if failed then ended.wr (CAL_STAT_CAUSE n) 11 else ended) chanAddr :=
    .ite (h.modCal.wr _ (chanAddr_reg n _)) h.modCal
  have hs : Wrote s shown chanAddr := .wr (f := CAL_STAT_STATE n) (hc.calAbandon.ite h.modCal) _ (chanAddr_reg n _)
  split
  · exact h
  · split
    · exact hs
    · exact hs.ite (hs.axisMove.modCal.ite hs.axisMove.raise)

/-- A calibration list that fails shows so on its runner, whatever its end makes of the channel (R52, R256). -/
theorem seqFail_calibration {s : State} (hwf : RegsWf s) (n : Fin 4) {cause : Nat} (hty : s.rd (SEQ_STAT_TYPE n) = 2)
    (hc : cause < 16) :
    (seqFail s (n + 1) cause).rd (SEQ_STAT_STATE n) = 6 ∧ (seqFail s (n + 1) cause).rd (SEQ_STAT_CAUSE n) = cause := by
  have hs : (SEQ_STAT_STATE n).Fits := by simp [Fld.Fits, SEQ_STAT_STATE]
  have hcf : (SEQ_STAT_CAUSE n).Fits := by simp [Fld.Fits, SEQ_STAT_CAUSE]
  have ha : (SEQ_STAT_CAUSE n).Apart (SEQ_STAT_STATE n) := .inr (.inl (by simp [SEQ_STAT_CAUSE, SEQ_STAT_STATE]))
  have he : seqFail s (n + 1) cause = calListEnd (((s.wr (SEQ_STAT_STATE n) 6).wr (SEQ_STAT_CAUSE n) cause).raise
      (seqFailEv (n + 1) 2 (s.rd (SEQ_STAT_JIG n)) (s.rd (SEQ_STAT_PC n)) cause)) n true := by
    simp [seqFail, seqType, seqState, seqCause, seqJig, seqPc, hty]
  have hw := (Wrote.refl (may := chanAddr) (((hwf.wr (SEQ_STAT_STATE n) 6).wr (SEQ_STAT_CAUSE n) cause).raise
    (seqFailEv (n + 1) 2 (s.rd (SEQ_STAT_JIG n)) (s.rd (SEQ_STAT_PC n)) cause))).calListEnd (n := n) (failed := true)
  rw [he, hw.rd (f := SEQ_STAT_STATE n) (seqAddr_not_chanAddr n), hw.rd (f := SEQ_STAT_CAUSE n) (seqAddr_not_chanAddr n),
    State.raise_rd, State.raise_rd, State.rd_wr_apart (hwf.wr ..) hcf hs ha, State.rd_wr_same hwf hs,
    State.rd_wr_same (hwf.wr ..) hcf]
  exact ⟨rfl, Nat.mod_eq_of_lt hc⟩

/-- Settles O29: a start begins the list on its runner and opens the gap, and an abort fails the list whatever the slide then does. -/
theorem calibrationStartsAndAborts : Obligations.CalibrationStartsAndAborts := by
  intro s n hwf
  have hcal : s.calList n = (s.listRuns (n + 1) && s.rd (SEQ_STAT_TYPE n) == 2) := by rw [State.calList, Nat.add_comm]
  refine ⟨fun hr => next_finish_congr (seqStart_busy hr), fun ws hr hsw hj hrough hsafe hl => ?_, fun hq hm => ?_, fun hc => ?_,
    fun hq hc => ?_⟩
  · have hs := seqStart_calibration hr hsw hj hrough hsafe hl
    have hb := hwf.seqBegin n 2 (jigOf s n) ws false
    obtain ⟨hw, hgap, hstate, hon, hevq⟩ := calListStart_started hb n
    have hrd {p : Fld × Nat} (hp : p ∈ begunShown n 2 (jigOf s n)) (ha : p.1.addr = (SEQ_STAT_STATE n).addr) :=
      (hw.rd (f := p.1) (ha ▸ seqAddr_not_chanAddr n)).trans (rd_seqBegin hwf hp)
    refine ⟨_, next_finish_congr hs, fun hm => next_finish_congr ((if_pos hm).trans hs), ?_, ?_, ?_, hgap, hstate, hon, hevq⟩
    · exact hrd (p := (SEQ_STAT_STATE n, 1)) (by simp [begunShown]) rfl
    · exact hrd (p := (SEQ_STAT_TYPE n, 2)) (by simp [begunShown]) rfl
    · exact hrd (p := (SEQ_STAT_PC n, 0)) (by simp [begunShown]) rfl
  · exact (next_finish_congr (if_neg (by simp [hm]))).trans (congrArg _ (finish_quiet hq))
  · obtain ⟨hr, hty⟩ := Bool.and_eq_true_iff.1 (hcal ▸ hc)
    obtain ⟨hstate, hcause⟩ := seqFail_calibration hwf n (cause := 8) (by simpa using hty) (by decide)
    refine ⟨_, next_finish_congr ?_, hstate, hcause⟩
    rw [calAbortNow, if_pos hc, seqAbortWatch, seqAbort, if_pos hr]
  · exact (next_finish_congr (if_neg (by simp [hc]))).trans (congrArg _ (finish_quiet hq))

end Sys2Proof.Machine
end

section
/-! PROOFS. Evaluations of a calibration list, and copies of profile slots. -/

namespace Sys2Proof.Machine

/-! ## What an evaluation reads (R242 to R245) -/

/-- The DRAM and the calibration state of channel n are as they were, and so is every register but the count of repeated pixels. -/
structure Evaluates (n : Nat) (s t : State) : Prop where
  words : SameWords s t (· = (CAL_CHKERR_COUNT n).addr)
  dram : t.dram n = s.dram n
  cal : calOf t n = calOf s n

namespace Evaluates

section
variable {n : Nat} {s t : State}

/-- A register below the count. -/
theorem rd (h : Evaluates n s t) {k hi lo : Nat} {acc : Acc} {rst : Nat} (hk : k ≠ 0x1C068 := by decide) :
    t.rd ⟨k + chBase n, hi, lo, acc, rst⟩ = s.rd ⟨k + chBase n, hi, lo, acc, rst⟩ :=
  State.rd_congr _ (h.words _ fun e => hk (Nat.add_right_cancel e))

/-- A register of a list of them that ends below the count, or begins above it. -/
theorem rd_entry (h : Evaluates n s t) {k j hi lo : Nat} {acc : Acc} {rst : Nat} (hk : k + 4 * j < 0x1C068 ∨ 0x1C068 < k) :
    t.rd ⟨k + chBase n + 0x4 * j, hi, lo, acc, rst⟩ = s.rd ⟨k + chBase n + 0x4 * j, hi, lo, acc, rst⟩ :=
  State.rd_congr _ (h.words _ (by
    simp only [CAL_CHKERR_COUNT]
    omega))

theorem rb_entry (h : Evaluates n s t) {k j hi lo : Nat} {acc : Acc} {rst : Nat} (hk : k + 4 * j < 0x1C068 ∨ 0x1C068 < k) :
    t.rb ⟨k + chBase n + 0x4 * j, hi, lo, acc, rst⟩ = s.rb ⟨k + chBase n + 0x4 * j, hi, lo, acc, rst⟩ :=
  congrArg (· != 0) (h.rd_entry hk)

theorem calMean (h : Evaluates n s t) (j p c : Nat) : calMean t n j p c = calMean s n j p c := by
  have hl : t.rd (CAL_STORE_LINES n j) = s.rd (CAL_STORE_LINES n j) := h.rd_entry (.inr (by decide))
  rw [Machine.calMean, capSum, capLines, hl, h.dram, Machine.calMean, capSum, capLines]

theorem calDelta (h : Evaluates n s t) (p c : Nat) : calDelta t n p c = calDelta s n p c := by
  simp only [Machine.calDelta, h.calMean]

theorem lcal (h : Evaluates n s t) (c : Nat) : lcal t n c = lcal s n c := by
  unfold Machine.lcal
  split
  exacts [h.rd, h.rd, h.rd]

theorem calEntry (h : Evaluates n s t) (p : Nat) {c : Nat} (hc : c < 3) : calEntry t n p c = calEntry s n p c := by
  have hmin : t.rd (CAL_GRANGE_WMIN n) = s.rd (CAL_GRANGE_WMIN n) := h.rd
  have hmax : t.rd (CAL_GRANGE_WMAX n) = s.rd (CAL_GRANGE_WMAX n) := h.rd
  have htgt : t.rd (CAL_TGT_TGT n) = s.rd (CAL_TGT_TGT n) := h.rd
  have hrefl : t.rd (CAL_REFL_REFL n c) = s.rd (CAL_REFL_REFL n c) := h.rd_entry (.inl (by omega))
  simp only [Machine.calEntry, calWraw, h.calMean, h.calDelta, h.lcal, hmin, hmax, htgt, hrefl]
  split <;> rfl

theorem calStats (h : Evaluates n s t) (P : Nat) : calStats t n P = calStats s n P := by
  have htol : t.rd (CAL_AGREE_TOL n) = s.rd (CAL_AGREE_TOL n) := h.rd
  have hpred (c : Nat) (hc : c ∈ List.range 3) : t.rd (CAL_WREF_WREF n c) = s.rd (CAL_WREF_WREF n c) ∧
      t.rd (CAL_REFL_REFL n c) = s.rd (CAL_REFL_REFL n c) := by
    have := List.mem_range.1 hc
    exact ⟨h.rd_entry (.inl (by omega)), h.rd_entry (.inl (by omega))⟩
  have hout (p : Nat) : ((List.range 3).any fun c => (Machine.calEntry t n p c).2.2) =
      (List.range 3).any fun c => (Machine.calEntry s n p c).2.2 := by
    simp [show List.range 3 = [0, 1, 2] from rfl, h.calEntry]
  have hp : ((List.range 3).map fun c => (t.rd (CAL_WREF_WREF n c) * t.rd (CAL_REFL_REFL n c) * Machine.lcal t n c + 2 ^ 29) / 2 ^ 30) =
      (List.range 3).map fun c => (s.rd (CAL_WREF_WREF n c) * s.rd (CAL_REFL_REFL n c) * Machine.lcal s n c + 2 ^ 29) / 2 ^ 30 :=
    List.map_congr_left fun c hc => by rw [(hpred c hc).1, (hpred c hc).2, h.lcal]
  simp only [Machine.calStats, h.calMean, h.calDelta, htol, hout, hp]

theorem calCause (h : Evaluates n s t) (P : Nat) (x : CalStats) (stopped : Bool) :
    calCause t n P x stopped = calCause s n P x stopped := by
  have hvalid (j : Nat) : t.rb (CAL_STORE_VALID n j) = s.rb (CAL_STORE_VALID n j) := h.rb_entry (.inr (by decide))
  have hkind (j : Nat) : t.rd (CAL_STORE_KIND n j) = s.rd (CAL_STORE_KIND n j) := h.rd_entry (.inr (by decide))
  have hwref : ((List.range 3).all fun c => t.rd (CAL_WREF_WREF n c) != 0) = (List.range 3).all fun c => s.rd (CAL_WREF_WREF n c) != 0 := by
    have hc (c : Nat) (hc : c < 3) : t.rd (CAL_WREF_WREF n c) = s.rd (CAL_WREF_WREF n c) := h.rd_entry (.inl (by omega))
    simp [show List.range 3 = [0, 1, 2] from rfl, hc]
  have hallow : t.rd (CAL_AGREE_ALLOW n) = s.rd (CAL_AGREE_ALLOW n) := h.rd
  have hband : t.rd (CAL_BAND_BAND n) = s.rd (CAL_BAND_BAND n) := h.rd
  have hmean : t.rd (CAL_DARKLIM_DMEAN n) = s.rd (CAL_DARKLIM_DMEAN n) := h.rd
  have hspread : t.rd (CAL_DARKLIM_DSPREAD n) = s.rd (CAL_DARKLIM_DSPREAD n) := h.rd
  simp only [Machine.calCause, hvalid, hkind, hwref, hallow, hband, hmean, hspread, h.cal]

end

end Evaluates

/-- The codes of R245 end at 10. -/
theorem calCause_lt (s : State) (n P : Nat) (x : CalStats) (stopped : Bool) : calCause s n P x stopped < 16 := by
  unfold calCause
  dsimp only
  repeat' split
  all_goals decide

/-! ## What an evaluation shows (R243, R247, R260) -/

/-- The registers that an evaluation writes beside the status: the counts and the statistics. -/
def evalAddr (n a : Nat) : Prop := inChan n 0x1C054 0x1C090 a

theorem evalAddr_reg {n k : Nat} (hlo : 0x1C054 ≤ k := by decide) (hk : k < 0x1C090 := by decide) : evalAddr n (k + chBase n) :=
  inChan_of n hlo hk

theorem Wrote.showStats {s t : State} {n P : Nat} {x : CalStats} (h : Wrote s t (evalAddr n)) :
    Wrote s (showStats t n P x) (evalAddr n) := by
  unfold Machine.showStats
  exact ((((((((((h.wr _ evalAddr_reg).wr _ evalAddr_reg).wr _ evalAddr_reg).wr _ evalAddr_reg).wr _ evalAddr_reg).wr _
    evalAddr_reg).wr _ evalAddr_reg).wr _ evalAddr_reg).wr _ evalAddr_reg).wr _ evalAddr_reg).wr _ evalAddr_reg

theorem showStats_chans (s : State) (n P : Nat) (x : CalStats) : (showStats s n P x).chans = s.chans := rfl

/-- Statistics of an evaluation that stopped are free values. -/
theorem freeStats_shown {s t : State} {n : Nat} (h : Wrote s t (evalAddr n)) :
    Wrote s (freeStats t n) (evalAddr n) ∧ (freeStats t n).chans = t.chans := by
  refine List.foldlRecOn (motive := fun u => Wrote s u (evalAddr n) ∧ u.chans = t.chans) _ _ ⟨h, rfl⟩ fun u ⟨hw, hc⟩ f hf =>
    ⟨(hw.congr (u := (u.free 3 65536).2) rfl).wr _ ?_, hc⟩
  simp only [List.mem_cons, List.not_mem_nil, or_false] at hf
  rcases hf with rfl | rfl | rfl | rfl | rfl | rfl | rfl | rfl | rfl | rfl | rfl <;> exact evalAddr_reg

/-- The strip references use free values alone. -/
theorem calSrefs_rest (s : State) (n : Nat) : (calSrefs s n).2.regs = s.regs ∧ (calSrefs s n).2.chans = s.chans := by
  unfold calSrefs
  refine List.foldlRecOn (motive := fun a : List (Nat × Nat) × State => a.2.regs = s.regs ∧ a.2.chans = s.chans) _ _ ⟨rfl, rfl⟩
    fun a ha i _ => ?_
  dsimp only
  split
  · exact ha
  · split <;> exact ha

/-! ## The verdict (R245, R246) -/

/-- The status fields that a verdict sets. -/
def verdictShown (n next result cause : Nat) : List (Fld × Nat) :=
  [(CAL_STAT_NEXT n, next), (CAL_STAT_RESULT n, result), (CAL_STAT_CAUSE n, cause), (CAL_STAT_STATE n, 1)]

theorem rd_verdictShown {s : State} (h : RegsWf s) (n : Nat) {next result cause : Nat} (hn : next < 4) (hr : result < 4)
    (hc : cause < 16) :
    let t := s.puts (verdictShown n next result cause)
    t.rd (CAL_STAT_NEXT n) = next ∧ t.rd (CAL_STAT_RESULT n) = result ∧ t.rd (CAL_STAT_CAUSE n) = cause ∧
      t.rd (CAL_STAT_STATE n) = 1 := by
  have hrd {p : Fld × Nat} (hp : p ∈ verdictShown n next result cause) :=
    State.rd_puts_mem h (l := verdictShown n next result cause)
      (by simp [verdictShown, Fld.Fits, CAL_STAT_NEXT, CAL_STAT_RESULT, CAL_STAT_CAUSE, CAL_STAT_STATE])
      (by simp [verdictShown, Fld.Apart, CAL_STAT_NEXT, CAL_STAT_RESULT, CAL_STAT_CAUSE, CAL_STAT_STATE]) hp
  exact ⟨(hrd (p := (CAL_STAT_NEXT n, next)) (by simp [verdictShown])).trans (Nat.mod_eq_of_lt hn),
    (hrd (p := (CAL_STAT_RESULT n, result)) (by simp [verdictShown])).trans (Nat.mod_eq_of_lt hr),
    (hrd (p := (CAL_STAT_CAUSE n, cause)) (by simp [verdictShown])).trans (Nat.mod_eq_of_lt hc),
    hrd (p := (CAL_STAT_STATE n, 1)) (by simp [verdictShown])⟩

/-- An evaluation that is over with a cause code, 0 for none. -/
structure Evaluated (s : State) (n code : Nat) (t : State) : Prop where
  ended : (calOf t n).evalBusy = false
  state : t.rd (CAL_STAT_STATE n) = 1
  cause : t.rd (CAL_STAT_CAUSE n) = code
  result : t.rd (CAL_STAT_RESULT n) = if code = 0 then 1 else 2
  next : t.rd (CAL_STAT_NEXT n) = if code = 0 then 0 else if s.rb (CAL_CFG_RETRY n) && !(calOf s n).retried then 1 else 2
  last : t.evq.getLast? = some (ev (EV_CAL_EVAL n))

/-- The verdict on an evaluation whose statistics are shown. -/
def judged (s : State) (n code : Nat) (srefs : List (Nat × Nat)) : State :=
  let acc := code == 0
  let retry := !acc && s.rb (CAL_CFG_RETRY n) && !(calOf s n).retried
  let done := s.modCal n fun c =>
    { c with evalBusy := false, eval := some { accepted := acc, srefs := srefs }, retried := c.retried || retry, anyInvalid := false,
             lambdas := [], whiteTemp := if acc then c.whiteTemp else none }
  let shown := done.puts (verdictShown n (if acc then 0 else if retry then 1 else 2) (if acc then 1 else 2) code)
  let told := if acc then shown.raise (ev (EV_CAL_ACCEPT n))
    else (shown.bump (CAL_REJCNT_REJECT n)).raise ((ev (EV_CAL_REJECT n)).code_ code)
  told.raise (ev (EV_CAL_EVAL n))

theorem judged_evaluated {s : State} (h : RegsWf s) {n code : Nat} (hcode : code < 16) (srefs : List (Nat × Nat)) :
    Evaluated s n code (judged s n code srefs) := by
  unfold judged
  extract_lets acc retry done shown told
  obtain ⟨hnext, hresult, hcause, hstate⟩ := rd_verdictShown (s := done) (h.modCal ..) n
    (next := if acc then 0 else if retry then 1 else 2) (result := if acc then 1 else 2) (by cases acc <;> cases retry <;> decide)
    (by cases acc <;> decide) hcode
  have hrd {f : Fld} (hf : f.addr = (CAL_STAT_STATE n).addr) : (told.raise (ev (EV_CAL_EVAL n))).rd f = shown.rd f := by
    have hne : f.addr ≠ (CAL_REJCNT_REJECT n).addr := by simp [hf, CAL_STAT_STATE, CAL_REJCNT_REJECT]
    rw [State.raise_rd]
    simp only [told]
    split
    · exact State.raise_rd ..
    · exact (State.raise_rd ..).trans (State.rd_wr_far _ hne _)
  have hch : told.ch n = done.ch n := by
    have hs : shown.ch n = done.ch n := State.ch_congr (congrArg State.chans (State.puts_rest ..)) n
    simp only [told]
    split <;> simp [hs]
  refine ⟨?_, (hrd (f := CAL_STAT_STATE n) rfl).trans hstate, (hrd (f := CAL_STAT_CAUSE n) rfl).trans hcause,
    (hrd (f := CAL_STAT_RESULT n) rfl).trans (hresult.trans ?_), (hrd (f := CAL_STAT_NEXT n) rfl).trans (hnext.trans ?_),
    List.getLast?_concat⟩
  · rw [calOf, State.raise_ch, hch, State.modCal_ch_same]
  · simp [acc]
  · by_cases h0 : code = 0 <;> simp [acc, retry, h0]

theorem calOf_shadowWrite (s : State) (n off : Nat) (bs : List Byte) : calOf (shadowWrite s n off bs) n = calOf s n := by
  rw [calOf, shadowWrite, State.modDram_ch, State.modPipe_ch_same, calOf]

/-- What was counted and raised of an evaluation's repeats. -/
theorem evalChecked {s : State} (h : RegsWf s) (n bad : Nat) :
    let t := iterate bad (s.addSat (CAL_CHKERR_COUNT n) bad) fun u _ => u.raise (ev (EV_CAL_CHK n))
    Evaluates n s t ∧ Wrote s t (evalAddr n) := by
  intro t
  have hr : t.regs = (s.addSat (CAL_CHKERR_COUNT n) bad).regs := iterate_same State.regs fun _ _ => rfl
  have hc : t.chans = s.chans := iterate_same State.chans fun _ _ => rfl
  have hd : t.drams = s.drams := iterate_same State.drams fun _ _ => rfl
  exact ⟨⟨(Wrote.congr (may := (· = _)) (.wr (.refl h) _ rfl) hr).words, State.dram_congr hd n,
    congrArg Chan.cal (State.ch_congr hc n)⟩, .congr (.wr (f := CAL_CHKERR_COUNT n) (.refl h) _ evalAddr_reg) hr⟩

/-- An evaluation that ends counts its repeats, shows its statistics, and is judged by its first failing test. -/
theorem calEvalDone_judged {s : State} (h : RegsWf s) {n again : Nat} {stop : Option Nat} (hb : (calOf s n).evalBusy = true) :
    let P := (s.ch n).sns.sched.pixels
    ∃ u srefs, Wrote s u (evalAddr n) ∧ calOf u n = calOf s n ∧
      calEvalDone s n again stop = judged u n (calCause s n P (calStats s n P) stop.isSome) srefs := by
  intro P
  obtain ⟨hsame, hchecked⟩ := evalChecked h n (again + b2n stop.isSome)
  unfold calEvalDone
  rw [if_neg (by simp [hb])]
  extract_lets bad counted checked lines stats cause loaded shown acc refs referred
  have hcause : cause = calCause s n P (calStats s n P) stop.isSome := by
    rw [← hsame.calStats, ← hsame.calCause]
  rw [← hcause]
  have hloaded : Wrote s loaded (evalAddr n) ∧ calOf loaded n = calOf s n := by
    simp only [loaded]
    split
    · exact ⟨hchecked.congr rfl, by rw [calOf_shadowWrite, hsame.cal]⟩
    · exact ⟨hchecked, hsame.cal⟩
  have hshown : Wrote s shown (evalAddr n) ∧ calOf shown n = calOf s n := by
    obtain ⟨hw, hc⟩ := hloaded
    obtain ⟨hf, hfc⟩ := freeStats_shown hw
    simp only [shown]
    split
    · exact ⟨hw.showStats, (congrArg Chan.cal (State.ch_congr (showStats_chans ..) n)).trans hc⟩
    · exact ⟨hf, (congrArg Chan.cal (State.ch_congr hfc n)).trans hc⟩
  refine ⟨referred, refs.1, ?_, ?_, rfl⟩
  all_goals
    clear_value shown acc
    cases acc
  · exact hshown.1
  · exact hshown.1.congr (calSrefs_rest shown n).1
  · exact hshown.2
  · exact (congrArg Chan.cal (State.ch_congr (calSrefs_rest shown n).2 n)).trans hshown.2

/-- An evaluation that is over shows its verdict. -/
theorem calEvalDone_evaluated {s : State} (h : RegsWf s) {n again : Nat} {stop : Option Nat} (hb : (calOf s n).evalBusy = true) :
    let P := (s.ch n).sns.sched.pixels
    Evaluated s n (calCause s n P (calStats s n P) stop.isSome) (calEvalDone s n again stop) := by
  intro P
  obtain ⟨u, srefs, hw, hcal, he⟩ := calEvalDone_judged h (again := again) (stop := stop) hb
  have hj := judged_evaluated hw.wf (n := n) (calCause_lt s n P (calStats s n P) stop.isSome) srefs
  have hretry : u.rb (CAL_CFG_RETRY n) = s.rb (CAL_CFG_RETRY n) :=
    congrArg (· != 0) (hw.rd (f := CAL_CFG_RETRY n) (not_inChan (.inl (by decide))))
  rw [he]
  exact ⟨hj.ended, hj.state, hj.cause, hj.result, by rw [hj.next, hretry, hcal], hj.last⟩

/-! ## Profile slots (R239) -/

/-- Where the registers of a calibration controller lie. -/
theorem calAddr (n : Fin 4) {k : Nat} (hk : k < 0x20000) : BarAddr n k (k + chBase n) := by
  have hn := n.isLt
  constructor <;> simp only [chanOf, chanOff, chBase] <;> omega

/-- The fields of CAL_n_CTL. -/
theorem fieldsAt_calCtl (n : Fin 4) : fieldsAt (CAL_CTL_SLOT n).addr =
    [CAL_CTL_START n, CAL_CTL_ABORT n, CAL_CTL_EVAL n, CAL_CTL_STORE n, CAL_CTL_LOAD n, CAL_CTL_CLRCNT n, CAL_CTL_SLOT n] := by
  have hb := calAddr n (k := 0x1C004) (by decide)
  rw [show (CAL_CTL_SLOT n).addr = 0x1C004 + chBase n from rfl, fieldsAt, if_neg (not_not_intro hb.word),
    if_neg (Nat.not_lt.2 hb.low), if_pos hb.high, hb.chan, hb.off]
  rfl

/-- A write of CAL_n_CTL has no effect but on its word. -/
theorem regPut_calCtl (s : State) (n : Fin 4) (w : Word) :
    regPut s (0x1C004 + chBase n) w = s.setWord (0x1C004 + chBase n) w := by
  have hb := calAddr n (k := 0x1C004) (by decide)
  have hd : driveReg (0x1C004 + chBase n) = false := by
    have hlow : ¬ 0x1C004 + chBase n < 0x34000 := by have := hb.low; omega
    simp [driveReg, hb.chanOff, hlow]
  rw [regPut, if_neg (Nat.not_lt.2 hb.low), chanPut, hb.chanOf, hb.chanOff]
  simp [LMP_CTL_OFF, POS_GEN_LOOP, POS_DIVCFG_SRC, POS_CMPCTL_EN, MOT_VSUP_EN, driveForward, hd]

/-- SLOT, as a LOAD writes it. -/
theorem fldWrite_calSlot (s : State) (n : Fin 4) (v : Nat) : fldWrite s (CAL_CTL_SLOT n) v = s.wr (CAL_CTL_SLOT n) v := by
  have hev : isEvTable (CAL_CTL_SLOT n).addr = false := by
    have hlow : ¬ (CAL_CTL_SLOT n).addr < 0xC000 := Nat.not_lt.2 (Nat.le_trans (by decide) (chanAddr_reg n 0x1C004))
    simp [isEvTable, hlow]
  have hc : ∀ g ∈ fieldsAt (CAL_CTL_SLOT n).addr, g.acc ≠ .w1c := by
    rw [fieldsAt_calCtl]
    simp [CAL_CTL_START, CAL_CTL_ABORT, CAL_CTL_EVAL, CAL_CTL_STORE, CAL_CTL_LOAD, CAL_CTL_CLRCNT, CAL_CTL_SLOT]
  rw [fldWrite, portPut, portWord_put hev (by simp [fieldsAt_calCtl]) rfl (by simp [Fld.Fits, CAL_CTL_SLOT]) hc, State.wr]
  exact regPut_calCtl ..

section
variable {s : State} {n slot : Nat}

/-- The copy of a slot is over, and BUSY clears. -/
def copyEnded (s : State) (n : Nat) : State := (s.modCal n fun c => { c with copying := none }).wr (CAL_STAT_BUSY n) 0

theorem profileCopyDone_stored (h : RegsWf s) (hc : (calOf s n).copying = some (true, slot)) :
    profileCopyDone s n =
      ((copyEnded s n).modDram n fun m => copyRegion (profBank (s.ch n).pipe (s.ch n).pipe.bank) m 0 (profSlotAddr slot) 0x60000).wr
        (CAL_STAT_PSLOTV n) (withBit (s.rd (CAL_STAT_PSLOTV n)) slot (s.rb (PIPE_STAT_PVALID n))) := by
  have hp : ((copyEnded s n).ch n).pipe = (s.ch n).pipe := by rw [copyEnded, State.wr_ch, State.modCal_ch_same]
  have hv : (copyEnded s n).rd (CAL_STAT_PSLOTV n) = s.rd (CAL_STAT_PSLOTV n) := by
    rw [copyEnded, State.rd_wr_apart (h.modCal ..) (by simp [Fld.Fits, CAL_STAT_BUSY]) (by simp [Fld.Fits, CAL_STAT_PSLOTV])
      (.inr (by simp [CAL_STAT_BUSY, CAL_STAT_PSLOTV])), State.modCal_rd]
  have hpv : (copyEnded s n).rb (PIPE_STAT_PVALID n) = s.rb (PIPE_STAT_PVALID n) := by
    rw [State.rb, copyEnded, State.rd_wr_far _ (by simp [CAL_STAT_BUSY, PIPE_STAT_PVALID]), State.modCal_rd, State.rb]
  have he : profileCopyDone s n = storeSlot (copyEnded s n) n slot ((copyEnded s n).rb (PIPE_STAT_PVALID n)) := by
    rw [profileCopyDone, hc]
    rfl
  rw [he, storeSlot, hp, hv, hpv]

theorem profileCopyDone_loaded (hc : (calOf s n).copying = some (false, slot)) :
    let prof := copyRegion (s.dram n) [] (profSlotAddr slot) 0 0x60000
    profileCopyDone s n = ((copyEnded s n).modPipe n fun p => setBank p p.shadow prof).modDram n fun m =>
      copyRegion prof m 0 (profCopyAddr (s.ch n).pipe.shadow) 0x60000 := by
  intro prof
  have hp : ((copyEnded s n).ch n).pipe = (s.ch n).pipe := by rw [copyEnded, State.wr_ch, State.modCal_ch_same]
  have hd : (copyEnded s n).dram n = s.dram n := by rw [copyEnded, State.wr_dram, State.modCal_dram]
  have he : profileCopyDone s n = shadowLoad (copyEnded s n) n (slotProfile (copyEnded s n) n slot) := by
    rw [profileCopyDone, hc]
    rfl
  rw [he, shadowLoad, slotProfile, hd, hp]
  simp only [State.modPipe, State.modCh, hp, prof]

end

/-! ## The obligation -/

/-- Settles O30: an evaluation ends with the verdict on what it found, and a copy that nothing shuts out runs to its end. -/
theorem evaluationsAndProfileCopies : Obligations.EvaluationsAndProfileCopies := by
  intro s n hwf
  refine ⟨fun hq => ?_, ?_, fun hr => next_finish_congr (if_pos hr), fun hq hr => ?_, ?_, ?_⟩
  · refine next_finish hq rfl ?_ ?_ <;> split <;> rfl
  · intro again stop hb P k
    obtain ⟨hended, hstate, hcause, hresult, hnext, hlast⟩ := calEvalDone_evaluated hwf (again := again) (stop := stop) hb
    exact ⟨_, rfl, hended, hstate, hcause, hresult, hnext, hlast⟩
  · exact next_finish hq (if_neg (by simp [hr])) rfl rfl
  · intro slot u
    have he : exec (.calLoad n slot) s = .next (finish (calLoad u n slot)) := next_finish_congr (by rw [fldWrite_calSlot])
    exact ⟨fun hr => he.trans (next_finish_congr (if_pos hr)), fun hq hr => he.trans (next_finish hq (if_neg (by simp [hr])) rfl rfl)⟩
  · intro slot hq u p
    exact ⟨fun hc => next_finish hq (profileCopyDone_stored hwf hc) rfl rfl,
      fun hc => next_finish hq (profileCopyDone_loaded hc) rfl rfl⟩

end Sys2Proof.Machine
end

section
/-! PROOFS. Captures, the temperature of the bar, and the end of the gap. -/

namespace Sys2Proof.Machine

/-! ## Triggers counted and lines started -/

/-- The triggers and alignment slots that a channel has counted, and its lines in flight. -/
def PipeSt.issued (p : PipeSt) : Nat × Nat × List LineRec := (p.trigCtr, p.slotCtr, p.lines)

/-- No channel counts a trigger or a slot, and none starts or ends a line. -/
def Unissued (s t : State) : Prop := ∀ m, (t.ch m).pipe.issued = (s.ch m).pipe.issued

namespace Unissued

section
variable {s t u : State} {n i a v k : Nat}

theorem refl (s : State) : Unissued s s := fun _ => rfl

theorem congr (h : Unissued s t) (hc : u.chans = t.chans) : Unissued s u := fun m => (State.ch_congr hc m) ▸ h m

theorem ite {p : Prop} [Decidable p] (ht : Unissued s t) (hu : Unissued s u) : Unissued s (if p then t else u) := by
  split <;> assumption

theorem foldl {α : Type} {l : List α} {f : State → α → State} (h : Unissued s t)
    (hf : ∀ u x, Unissued s u → Unissued s (f u x)) : Unissued s (l.foldl f t) :=
  List.foldlRecOn l f h fun _ hu _ _ => hf _ _ hu

theorem iterate {f : State → Nat → State} (h : Unissued s t) (hf : ∀ u i, Unissued s u → Unissued s (f u i)) :
    Unissued s (iterate k t f) := h.foldl hf

theorem modCh {f : Chan → Chan} (h : Unissued s t) (hf : ∀ c, (f c).pipe.issued = c.pipe.issued) : Unissued s (t.modCh n f) :=
  fun m => (State.modCh_keep (fun c => c.pipe.issued) (hf _) m).trans (h m)

theorem modSns {f : SnsSt → SnsSt} (h : Unissued s t) : Unissued s (t.modSns n f) := h.modCh fun _ => rfl

theorem modLmp {f : LmpSt → LmpSt} (h : Unissued s t) : Unissued s (t.modLmp n f) := h.modCh fun _ => rfl

theorem modPipe {f : PipeSt → PipeSt} (h : Unissued s t) (hf : ∀ p, (f p).issued = p.issued := by intro; rfl) :
    Unissued s (t.modPipe n f) := h.modCh fun c => hf c.pipe

theorem wr {f : Fld} (h : Unissued s t) : Unissued s (t.wr f v) := h.congr rfl

theorem wb {f : Fld} {b : Bool} (h : Unissued s t) : Unissued s (t.wb f b) := h.congr rfl

theorem bump {f : Fld} (h : Unissued s t) : Unissued s (t.bump f) := h.congr rfl

theorem emit {o : Out} (h : Unissued s t) : Unissued s (t.emit o) := h.congr rfl

theorem raise {r : Raise} (h : Unissued s t) : Unissued s (t.raise r) := h.congr rfl

theorem raiseIf {b : Bool} {r : Raise} (h : Unissued s t) : Unissued s (t.raiseIf b r) := h.raise.ite h

/-! ### The bar's pins (Machine/SnsOps.lean) -/

protected theorem ctlDrive {b : Bool} (h : Unissued s t) : Unissued s (ctlDrive t n a b) := h.modSns.emit

protected theorem ctlEdges (h : Unissued s t) : Unissued s (ctlEdges t n) :=
  h.ite (.ite (.iterate (h.foldl fun _ _ h => h.ctlDrive) fun _ _ h => h.ite h.ctlDrive) (h.foldl fun _ _ h => h.ctlDrive))

/-! ### Lamps (Machine/LmpOps.lean) -/

protected theorem modSink {f : SinkSt → SinkSt} (h : Unissued s t) : Unissued s (modSink t n i f) := h.modLmp

protected theorem showLamp (h : Unissued s t) : Unissued s (showLamp t n) := h.congr rfl

protected theorem sinkUpdate (h : Unissued s t) : Unissued s (sinkUpdate t n) := h.iterate fun _ _ h => h.modSink.wr.raiseIf.wr

protected theorem declareShort (h : Unissued s t) : Unissued s (declareShort t n i) := by
  unfold Machine.declareShort lampReport
  split
  exacts [h.modSink.congr rfl, h.modSink]

protected theorem recordCheck {c : Nat} {b d : Bool} (h : Unissued s t) : Unissued s (recordCheck t n i v c b d) :=
  .ite h.modSink.modLmp h.modSink

protected theorem pulseCheck {b : Bool} (h : Unissued s t) : Unissued s (pulseCheck t n i a k b) :=
  h.ite (h.recordCheck.modSink.declareShort.ite (h.recordCheck.modSink.modSink.ite h.recordCheck.modSink))

protected theorem lineChecks (h : Unissued s t) : Unissued s (lineChecks t n) :=
  h.iterate fun _ _ h => h.ite (.ite (h.iterate fun _ _ h => h.pulseCheck) (h.pulseCheck.ite h))

protected theorem applyStage {x : LvStage} (h : Unissued s t) : Unissued s (applyStage t n i x) := .ite h.modLmp.wr h.modLmp

protected theorem fadeStep (h : Unissued s t) : Unissued s (fadeStep t n i) := by
  unfold Machine.fadeStep
  dsimp only
  repeat' split
  exacts [h, h, h.wr.modLmp.raise, h.wr.modLmp]

protected theorem derStep (h : Unissued s t) : Unissued s (derStep t n) := h.ite h.wr.raiseIf

protected theorem holdStep (h : Unissued s t) : Unissued s (holdStep t n a) :=
  h.ite (h.iterate fun _ _ h => by
    split
    exacts [h, h.wr.modLmp.ite h])

protected theorem relightStep (h : Unissued s t) : Unissued s (relightStep t n a) :=
  h.iterate fun _ _ h => by
    split
    exacts [h.modSink.ite h, h]

protected theorem lmpLineStart {l : Option Nat} {b : Bool} (h : Unissued s t) : Unissued s (lmpLineStart t n a l b) := by
  unfold Machine.lmpLineStart
  extract_lets staged faded stepped updated checked
  have hs : Unissued s staged := h.iterate fun _ _ h => by
    split
    exacts [h, .ite (.applyStage (.ite (h.congr rfl) h)) h]
  have hf : Unissued s faded := hs.iterate fun _ _ h => h.fadeStep
  have hu : Unissued s updated := hf.relightStep.holdStep.derStep.sinkUpdate
  have hc : Unissued s checked := .lineChecks (hu.congr (u := lampsPulse updated n a) rfl)
  exact hc.modLmp.showLamp

protected theorem follow (h : Unissued s t) : Unissued s (follow t n).2 := h.iterate fun _ _ h => h.wr

/-! ### The pipeline at a trigger (Machine/PipeOps.lean, Machine/TrigOps.lean) -/

protected theorem gainsShow (h : Unissued s t) : Unissued s (gainsShow t n) := h.foldl fun _ _ h => h.congr rfl

protected theorem spareAtTrigger (h : Unissued s t) : Unissued s (spareAtTrigger t n a) := by
  unfold Machine.spareAtTrigger
  split
  exacts [h.ite h.modPipe.wr.wr.wr.raise, h]

protected theorem profileSwap {b : Bool} (h : Unissued s t) : Unissued s (profileSwap t n b) := h.modPipe.wb

protected theorem swapAtTrigger (h : Unissued s t) : Unissued s (swapAtTrigger t n a) := by
  unfold Machine.swapAtTrigger
  split
  exacts [h.profileSwap.modPipe.wr.ite h, h]

end

end Unissued

/-! ## A capture line starts (R241) -/

/-- The FIFO grants none but normal lines. -/
theorem lineGrant_other {s : State} {n : Nat} {w : WaitTrig} (hk : w.kind ≠ .normal) : lineGrant s n w = (false, none, false, s) :=
  if_pos (.inl hk)

/-- The line of a trigger that is no normal one joins the lines in flight, and nothing else is counted. -/
theorem lineStart_issued (s : State) (n : Nat) {w : WaitTrig} (start : Nat) (hk : w.kind ≠ .normal) :
    ∃ l : LineRec, l.kind = w.kind ∧ l.trig = w.trig ∧ ((lineStart s n w start).ch n).pipe.issued =
      ((s.ch n).pipe.trigCtr, (s.ch n).pipe.slotCtr, (s.ch n).pipe.lines ++ [l]) := by
  unfold lineStart
  extract_lets normal L gains switched shown spared swapped lit fl gs limited geff u spoil cap rough g granted l added counted
  have hs : switched = gains := if_neg (by simp [normal, hk])
  have hgains : Unissued s gains := (Unissued.refl s).modPipe
  have hl : Unissued s lit := (hs ▸ hgains).modPipe.gainsShow.spareAtTrigger.swapAtTrigger.lmpLineStart
  have hf : Unissued s limited := hl.follow.bump.raise.ite hl.follow
  have hg : Unissued s geff := hf.congr rfl
  have hgrant : g = (false, none, false, geff) := lineGrant_other hk
  have hgranted : granted = geff := by rw [show granted = g.2.2.2 from rfl, hgrant]
  have hcounted : counted = added := if_neg (by simp [normal, hk])
  have hi : (geff.ch n).pipe.issued = (s.ch n).pipe.issued := hg n
  have ha : (added.ch n).pipe = { (geff.ch n).pipe with lines := (geff.ch n).pipe.lines ++ [l] } := by
    rw [show added = granted.modPipe n fun p => { p with lines := p.lines ++ [l] } from rfl, State.modPipe_ch_same, hgranted]
  simp only [PipeSt.issued, Prod.mk.injEq] at hi
  obtain ⟨htrig, hslot, hlines⟩ := hi
  refine ⟨l, rfl, rfl, ((Unissued.refl counted).modSns.ctlEdges n).trans ?_⟩
  rw [hcounted, ha, PipeSt.issued, htrig, hslot, hlines]

/-- A line's spacing does not depend on what its channel's pipeline holds. -/
theorem spacing_modPipe (s : State) (n : Nat) (f : PipeSt → PipeSt) (line t0 : Nat) :
    spacing (s.modPipe n f) n line t0 = spacing s n line t0 := by
  have hat : swImageAt (s.modPipe n f) n line = swImageAt s n line := rfl
  have hpmin : swPmin (s.modPipe n f) n line = swPmin s n line := by rw [swPmin, hat, State.modPipe_ch_same, swPmin]
  have hrough : (s.modPipe n f).rough n = s.rough n := State.modPipe_rb ..
  rw [spacing, roughAtT0, hpmin, hrough, State.modPipe_ch_same, spacing, roughAtT0]

/-- The trigger of a capture line at the present instant. -/
def captureTrig (s : State) (n : Nat) : WaitTrig :=
  { info := { line := 0, pos := 0, ts := s.timeBase, t0 := s.now }, kind := .capture, trig := (s.ch n).pipe.trigCtr, slot := 0,
    gap := false, lineA := false }

/-- The channel at its trigger: it is counted, and is the effect line of what waited for one. -/
def captureCounted (s : State) (n : Nat) : State :=
  (countTrig s n false).2.2.modPipe n fun p => effectLines p (s.ch n).pipe.trigCtr 0 s.now

/-- Only the trigger has been counted. -/
theorem captureCounted_issued (s : State) (n : Nat) : ((captureCounted s n).ch n).pipe.trigCtr = (s.ch n).pipe.trigCtr + 1 ∧
    ((captureCounted s n).ch n).pipe.slotCtr = (s.ch n).pipe.slotCtr ∧
    ((captureCounted s n).ch n).pipe.lines = (s.ch n).pipe.lines := by
  simp [captureCounted, countTrig, State.modPipe_ch_same, effectLines, b2n]

/-- With every spacing over, the line starts at its trigger and is not put off. -/
theorem captureTrigger_starts {s : State} {n : Nat} (hw : captureWants s n = true) (hr : s.rd (SNS_STAT_STATE n) = 5)
    (hsafe : s.safe = false) (hwait : (s.ch n).sns.waiting = none)
    (hlast : ∀ u, (s.ch n).sns.lastStart = some u →
      u + max (s.rd (CAL_CAPPER_PER n)) (s.ch n).sns.sched.pmin ≤ s.now ∧ u + spacing s n 0 s.now ≤ s.now) :
    captureTrigger s n = lineStart (captureCounted s n) n (captureTrig s n) s.now := by
  have hsns : ((captureCounted s n).ch n).sns = (s.ch n).sns := by
    simp [captureCounted, countTrig, State.modPipe_ch_same]
  have hspace : spacing (captureCounted s n) n 0 s.now = spacing s n 0 s.now := by
    simp only [captureCounted, countTrig, spacing_modPipe]
  have haccept : captureTrigger s n = lineAccept (countTrig s n false).2.2 n (captureTrig s n) := by
    unfold captureTrigger
    extract_lets u per due c
    have hdue : due = true := by
      simp only [due]
      split
      · next t ht => exact decide_eq_true (hlast t ht).1
      · rfl
    exact if_neg (by simp [hw, hdue, u, hwait, snsReady, snsState, hr, hsafe])
  rw [haccept]
  unfold lineAccept
  extract_lets marked u
  have hmarked : marked = captureCounted s n := rfl
  have hu : u = (s.ch n).sns := hsns
  rw [hu, hwait, if_neg (by decide), hmarked]
  split
  · rfl
  · next t ht => exact if_neg (Nat.not_lt.2 (hspace ▸ (hlast t ht).2))

/-! ## A capture is over (R241) -/

/-- What a finished capture leaves: registers of the channel blocks are written, its store shows whether it is valid, and no capture
is in progress. -/
structure CaptureOver (n : Nat) (k : CaptureSt) (s t : State) : Prop where
  wrote : Wrote s t chanAddr
  none : (calOf t n).capture = none
  valid : t.rd (CAL_STORE_VALID n k.store) = b2n (!k.invalid)
  runners : t.runners = s.runners

/-- The light of the white lines is shown beside the stores. -/
theorem CaptureOver.lcal {n : Nat} {k : CaptureSt} {s t : State} (h : CaptureOver n k s t) {a hi lo : Nat} {acc : Acc} {rst : Nat}
    (v : Nat) (ha : a < 0x1C0A0 := by decide) : CaptureOver n k s (t.wr ⟨a + chBase n, hi, lo, acc, rst⟩ v) where
  wrote := h.wrote.wr v (chanAddr_reg n a)
  none := h.none
  valid := (State.rd_wr_far _ (by simp only [CAL_STORE_VALID]; omega) _).trans h.valid
  runners := h.runners

theorem CaptureOver.of_valid {s t : State} (h : RegsWf s) {n : Nat} {k : CaptureSt} (hr : t.regs = s.regs)
    (hn : (calOf t n).capture = Option.none) (hrun : t.runners = s.runners) :
    CaptureOver n k s (t.wr (CAL_STORE_VALID n k.store) (b2n (!k.invalid))) where
  wrote := ((Wrote.refl h).congr hr).wr _ (chanAddr_entry n _ _)
  none := hn
  valid := by
    rw [State.rd_wr_same (h.congr hr) (by simp [Fld.Fits, CAL_STORE_VALID])]
    cases k.invalid <;> rfl
  runners := hrun

theorem captureFinish_over {s : State} (h : RegsWf s) {n : Nat} {k : CaptureSt} (hk : (calOf s n).capture = some k) :
    CaptureOver n k s (captureFinish s n) := by
  unfold captureFinish
  split
  · next hn => exact absurd (hn.symm.trans hk) (by simp)
  next k' hk' =>
  obtain rfl : k' = k := Option.some.inj (hk'.symm.trans hk)
  extract_lets left stored valid
  have hn : (calOf left n).capture = none := by rw [calOf, State.modCal_ch_same]
  split
  · next hi =>
    have hv : b2n (!k'.invalid) = 0 := by simp [hi, b2n]
    exact hv ▸ CaptureOver.of_valid (t := left) h rfl hn rfl
  · next hi =>
    have hv : b2n (!k'.invalid) = 1 := by simp [hi, b2n]
    have hs : CaptureOver n k' s valid := by
      rw [show valid = stored.wr (CAL_STORE_VALID n k'.store) (b2n (!k'.invalid)) by rw [hv]]
      exact .of_valid h rfl (by rwa [calOf, State.modDram_ch]) rfl
    split
    · exact ((hs.lcal _).lcal _).lcal _
    · exact hs

/-- A channel's runner goes on past a command of k words. -/
theorem seqNext_eq (s : State) (n k : Nat) :
    seqNext s (n + 1) k = (s.wr (SEQ_STAT_PC n) (min (s.rd (SEQ_STAT_PC n) + k) 8191)).wr (SEQ_STAT_STATE n) 1 := by
  simp [seqNext, seqGoto, seqPc, seqState]

theorem rd_seqNext {s : State} (h : RegsWf s) (n k : Nat) :
    (seqNext s (n + 1) k).rd (SEQ_STAT_PC n) = min (s.rd (SEQ_STAT_PC n) + k) 8191 ∧
      (seqNext s (n + 1) k).rd (SEQ_STAT_STATE n) = 1 := by
  have hs : (SEQ_STAT_STATE n).Fits := by simp [Fld.Fits, SEQ_STAT_STATE]
  have hp : (SEQ_STAT_PC n).Fits := by simp [Fld.Fits, SEQ_STAT_PC]
  have ha : (SEQ_STAT_STATE n).Apart (SEQ_STAT_PC n) := .inr (.inr (by simp [SEQ_STAT_STATE, SEQ_STAT_PC]))
  rw [seqNext_eq, State.rd_wr_apart (h.wr ..) hs hp ha, State.rd_wr_same h hp, State.rd_wr_same (h.wr ..) hs]
  exact ⟨Nat.mod_eq_of_lt (Nat.lt_of_le_of_lt (Nat.min_le_right ..) (by simp [Fld.width, SEQ_STAT_PC])), rfl⟩

/-- It shows in no register of the channel blocks. -/
theorem rd_seqNext_chan {s : State} (n : Fin 4) (k : Nat) {f : Fld} (hf : chanAddr f.addr) :
    (seqNext s (n + 1) k).rd f = s.rd f := by
  have hne : f.addr ≠ (SEQ_STAT_STATE n).addr := fun e => seqAddr_not_chanAddr n (e ▸ hf)
  rw [seqNext_eq, State.rd_wr_far _ hne, State.rd_wr_far _ (g := f) (f := SEQ_STAT_PC n) hne]

theorem modRunner_ch (s : State) (r : Nat) (f : Runner → Runner) (m : Nat) : (modRunner s r f).ch m = s.ch m := State.ch_congr rfl m

theorem runnerOf_congr {s t : State} (h : t.runners = s.runners) (r : Nat) : runnerOf t r = runnerOf s r := by
  rw [runnerOf, h, runnerOf]

theorem showLamp_runners (s : State) (n : Nat) : (showLamp s n).runners = s.runners := rfl

/-- The list of a finished capture moves on if it waited. -/
theorem captureDone_over {s : State} (h : RegsWf s) (n : Fin 4) {k : CaptureSt} (hk : (calOf s n).capture = some k)
    (hover : k.invalid = true ∨ k.writing = true) :
    (calOf (captureDone s n) n).capture = none ∧ (captureDone s n).rd (CAL_STORE_VALID n k.store) = b2n (!k.invalid) ∧
      ((runnerOf s (n + 1)).capturing = true →
        (captureDone s n).rd (SEQ_STAT_PC n) = min (s.rd (SEQ_STAT_PC n) + 1) 8191 ∧
          (captureDone s n).rd (SEQ_STAT_STATE n) = 1) := by
  obtain ⟨hw, hnone, hvalid, hrunners⟩ := captureFinish_over h hk
  have ho : captureOver s n = true := by simpa [captureOver, hk] using hover
  unfold captureDone
  rw [if_neg (by simp [ho])]
  extract_lets shown
  have hsw : Wrote s shown chanAddr := hw.showLamp (chanAddr_reg n _)
  have hsn : (shown.ch n).cal.capture = none := (congrArg (·.cal.capture) (showLamp_ch ..)).trans hnone
  have hsv : shown.rd (CAL_STORE_VALID n k.store) = b2n (!k.invalid) :=
    (showLamp_rd_far hw.wf (by simp only [CAL_STORE_VALID, LMP_STAT_MODE]; omega)).trans hvalid
  have hsr : runnerOf shown (n + 1) = runnerOf s (n + 1) := runnerOf_congr ((showLamp_runners ..).trans hrunners) _
  rw [hsr]
  split
  · next hc =>
    have hm (f : Fld) := State.rd_congr f (State.word_congr (modRunner_regs shown (n + 1) fun x => { x with capturing := false }) _)
    have hwf := hsw.wf.congr (modRunner_regs shown (n + 1) fun x => { x with capturing := false })
    obtain ⟨hpc, hstate⟩ := rd_seqNext hwf n 1
    refine ⟨?_, ?_, fun _ => ⟨?_, hstate⟩⟩
    · rw [calOf, seqNext_eq, State.wr_ch, State.wr_ch, modRunner_ch, hsn]
    · rw [rd_seqNext_chan n 1 (chanAddr_entry n _ _), hm, hsv]
    · rw [hpc, hm, hsw.rd (f := SEQ_STAT_PC n) (seqAddr_not_chanAddr n)]
  · next hc => exact ⟨hsn, hsv, fun h => absurd h hc⟩

/-! ## The temperature of the bar (R248) -/

/-- A request shows in its own word, whatever the channel notes of it. -/
theorem tempRequest_shown (s : State) (n : Nat) (f : CalSt → CalSt) (r : Raise) {may : Nat → Prop} (h : may (CAL_STAT_TREQ n).addr) :
    SameWords s (((s.wr (CAL_STAT_TREQ n) 1).modCal n f).raise r) may := .wr s (CAL_STAT_TREQ n) 1 h

/-- A reading is shown, and beside it only a request may be. -/
theorem calTemp_shown {s : State} (h : RegsWf s) (n : Nat) (v : Int) :
    (calTemp s n (some v)).rd (CAL_TEMP_TNOW n) = toBits 16 v ∧
      SameWords s (calTemp s n (some v)) fun a => a = (CAL_TEMP_TNOW n).addr ∨ a = (CAL_STAT_TREQ n).addr := by
  have hnow : (s.wr (CAL_TEMP_TNOW n) (toBits 16 v)).rd (CAL_TEMP_TNOW n) = toBits 16 v :=
    (State.rd_wr_same h (by simp [Fld.Fits, CAL_TEMP_TNOW]) _).trans (Nat.mod_eq_of_lt (toBits_lt 16 v))
  unfold calTemp
  split
  · next hv => exact absurd hv (by simp)
  next v' hv =>
  obtain rfl : v = v' := Option.some.inj hv
  extract_lets shown far run counted
  clear_value run
  have hc : counted.rd (CAL_TEMP_TNOW n) = toBits 16 v := (State.modCal_rd ..).trans hnow
  have hw : SameWords s counted fun a => a = (CAL_TEMP_TNOW n).addr ∨ a = (CAL_STAT_TREQ n).addr :=
    .wr s (CAL_TEMP_TNOW n) _ (.inl rfl)
  clear_value counted
  split
  · refine ⟨?_, hw.trans (tempRequest_shown counted n _ _ (.inr rfl))⟩
    rw [State.raise_rd, State.modCal_rd, State.rd_wr_far _ (by simp [CAL_TEMP_TNOW, CAL_STAT_TREQ]), hc]
  · exact ⟨hc, hw⟩

/-! ## The gap closes (R252) -/

/-- The gap of a running channel waits for line A; another channel's calibration is over. -/
theorem gapClose_closed {s : State} (h : RegsWf s) (n : Nat) :
    (gapClose s n).rb (CAL_STAT_GAP n) = false ∧ (gapClose s n).rd (CAL_STAT_STATE n) = (if s.running n then 4 else 0) ∧
      (s.running n = true → (calOf (gapClose s n) n).closedAt = some s.now) := by
  have hg : (CAL_STAT_GAP n).Fits := by simp [Fld.Fits, CAL_STAT_GAP]
  have hs : (CAL_STAT_STATE n).Fits := by simp [Fld.Fits, CAL_STAT_STATE]
  have ha : (CAL_STAT_STATE n).Apart (CAL_STAT_GAP n) := .inr (.inr (by simp [CAL_STAT_STATE, CAL_STAT_GAP]))
  unfold gapClose
  extract_lets c acc res closed
  have hwf : RegsWf closed := (h.wr (CAL_STAT_GAP n) 0).modCal ..
  have hgap (v : Nat) : (closed.wr (CAL_STAT_STATE n) v).rd (CAL_STAT_GAP n) = 0 := by
    rw [State.rd_wr_apart hwf hs hg ha, State.modCal_rd, State.rd_wr_same h hg, Nat.zero_mod]
  have hstate (v : Nat) : (closed.wr (CAL_STAT_STATE n) v).rd (CAL_STAT_STATE n) = v % 8 := State.rd_wr_same hwf hs v
  have hrun : closed.running n = s.running n := by
    have hne : GLB_CHSTAT_RUNNING.addr ≠ (CAL_STAT_GAP n).addr := by simp [GLB_CHSTAT_RUNNING, CAL_STAT_GAP, chBase]; omega
    rw [State.running, State.modCal_rd, State.rd_wr_far _ hne, State.running]
  rw [hrun]
  split
  · next hr =>
    refine ⟨?_, ?_, fun _ => ?_⟩
    · rw [State.modCal_rb, State.rb, hgap]
      rfl
    · rw [State.modCal_rd, hstate]
    · rw [calOf, State.modCal_ch_same]
      rfl
  · next hr =>
    have hi : CalAside n (closed.wr (CAL_STAT_STATE n) 0) _ := (CalAside.refl (hwf.wr ..)).calActivateIdle (ts := closed.timeBase)
    exact ⟨by rw [State.rb, hi.gap, hgap]; rfl, by rw [hi.state, hstate], fun hr' => absurd hr' hr⟩

/-! ## The obligation -/

/-- Settles O31: the trigger of a capture starts its line at once, and captures and gaps end with what they show. -/
theorem capturesAndTheGap : Obligations.CapturesAndTheGap := by
  intro s n hwf
  refine ⟨fun hq hw => next_finish hq (if_pos (by simp [hw])) rfl rfl, fun hw hr hsafe hwait hlast => ?_, fun k hk _ => ⟨?_, ?_⟩,
    fun hq hm => next_finish hq (by rw [hm]; rfl) rfl rfl, fun v hv => ?_, ?_, ?_⟩
  · obtain ⟨l, hkind, htrig, hissued⟩ := lineStart_issued (captureCounted s n) n (w := captureTrig s n) s.now nofun
    obtain ⟨-, hstart, -⟩ := lineStart_started (captureCounted s n) n (captureTrig s n) s.now
    obtain ⟨ctr, slot, lines⟩ := captureCounted_issued s n
    rw [ctr, slot, lines, PipeSt.issued, Prod.mk.injEq, Prod.mk.injEq] at hissued
    obtain ⟨hctr, hslot, hlines⟩ := hissued
    exact ⟨_, l, next_finish_congr (captureTrigger_starts hw hr hsafe hwait hlast), hstart, hctr, hslot, hlines, hkind, htrig⟩
  · intro hq hi hwr
    exact next_finish hq (if_pos (by simp [captureOver, hk, hi, hwr])) rfl rfl
  · intro hover
    exact ⟨_, rfl, captureDone_over hwf n hk hover⟩
  · exact ⟨_, next_finish_congr (by rw [hv]), calTemp_shown hwf n v⟩
  · intro hq ho
    exact next_finish hq (if_neg (by simp [ho])) rfl rfl
  · intro ho
    exact ⟨_, next_finish_congr (if_pos ho), gapClose_closed hwf n⟩

end Sys2Proof.Machine
end
